-- ==== Sys2Proof/Word.lean ====
section
/-!
DEFINITION. The plain word types of the TSU-3272 model and nothing else.

Register values, descriptor fields and payload bytes are what the manual treats as bits (R7, R8), so they are
bit vectors; counts, stamps inside the model and addresses used as keys are natural numbers.
-/
namespace Sys2Proof

/-- One byte of a payload, of host memory or of a log entry. -/
abbrev Byte := BitVec 8

/-- A 32-bit set-up register (R100). -/
abbrev Reg := BitVec 32

/-- A run of bytes, lowest address first (R8). -/
abbrev Bytes := List Byte

/-- Ticks in one millisecond (R33). -/
abbrev ticksPerMs : Nat := 24576

/-- Ticks in one second of CK_MET. -/
abbrev ticksPerS : Nat := 24576000

end Sys2Proof
end

