-- ==== Sys2Proof/Syntax.lean ====
section
/-!
DEFINITION. The commands of the TSU-3272: one constructor per row of the operations-and-events table, with the
measured inputs, the frame or the request that the row acts on. Row names are the table's, in lowerCamelCase.
-/
namespace Sys2Proof

/-- The five keys of R29. A smaller key is taken first. -/
structure EventKey where
  stamp : Nat
  cls : Nat
  lane : Nat
  index : Nat
  order : Nat
  deriving DecidableEq, Repr

/-- A fetched request (Table 4-4): the descriptors of its command in index order, byte k of each in bits 8k to 8k + 7; whether its payload
read or write fails (R110); the payload bytes that its DMA returned. -/
structure Desc where
  words : List (BitVec 256)
  dmaErr : Bool
  payload : Bytes
  deriving DecidableEq, Repr

/-- A descriptor with the fields of Table 4-4: OPCODE, FLAGS, TAG, SCOPE, UNIT, ADDR, LEN, PARAM0, PARAM1. -/
def descWord (opcode flags tag scope unit addr len param0 param1 : Nat) : BitVec 256 :=
  BitVec.ofNat 256 (opcode + 2 ^ 8 * flags + 2 ^ 16 * tag + 2 ^ 32 * scope + 2 ^ 48 * unit + 2 ^ 64 * addr + 2 ^ 128 * len + 2 ^ 160 * param0 +
    2 ^ 192 * param1)

/-- The first descriptor, whose fields are the command's. -/
def Desc.head (d : Desc) : BitVec 256 := d.words.headD 0

/-- The descriptors of a command (R106). -/
def Desc.count (d : Desc) : Nat := d.words.length

/-- The fields of Table 4-4. -/
def Desc.opcode (d : Desc) : Byte := d.head.extractLsb' 0 8
def Desc.irq (d : Desc) : Bool := d.head.getLsbD 8
def Desc.fence (d : Desc) : Bool := d.head.getLsbD 10
def Desc.tag (d : Desc) : BitVec 16 := d.head.extractLsb' 16 16
def Desc.scope (d : Desc) : Byte := d.head.extractLsb' 32 8
def Desc.unit (d : Desc) : BitVec 16 := d.head.extractLsb' 48 16
def Desc.addr (d : Desc) : BitVec 64 := d.head.extractLsb' 64 64
def Desc.len (d : Desc) : BitVec 32 := d.head.extractLsb' 128 32
def Desc.param0 (d : Desc) : BitVec 32 := d.head.extractLsb' 160 32
def Desc.param1 (d : Desc) : BitVec 64 := d.head.extractLsb' 192 64

/-- FLAGS.CHAIN of a descriptor. -/
def descChain (w : BitVec 256) : Bool := w.getLsbD 9

/-- Whether a reserved field of Table 4-4 is not zero: FLAGS bits 7:3 or byte 5, in any descriptor of the command. -/
def Desc.resv (d : Desc) : Bool := d.words.any fun w => w.extractLsb' 11 5 != 0 || w.extractLsb' 40 8 != 0

/-- Modulator bits of one channel, in MCLK order, with the index (R548) of the first of them. -/
structure BitWindow where
  first : Nat
  bits : List Bool
  deriving DecidableEq, Repr

/-- A write that a transfer carries (R514): where its first byte goes and its bytes; dram: an address of DRAM data space (Table 19-3), else of the shared
SRAM. -/
structure ArbWrite where
  dram : Bool
  addr : Nat
  data : List (BitVec 8)
  deriving DecidableEq, Repr

/-- What the memory controllers have found since the last sensor sample (Table 16-10): a corrected DRAM error, an uncorrectable one outside the
ledger, an MRAM write that failed its read-back. -/
structure MemorySigns where
  corrected : Bool
  uncorrectable : Bool
  mram : Bool
  deriving DecidableEq, Repr

/-- A level over time, as runs of equal level: length in ticks and level. -/
abbrev Wave := List (Nat × Int)

/-- What a lane's sense inputs show: Lnn_CPS over the PWM period that ends, in 0.01 V (R134), and the coding resistance in Ω where a 10 ms sample
falls on this period start (R136). -/
structure LaneSense where
  lane : Fin 32
  cps : Wave
  rc : Option Nat
  deriving DecidableEq, Repr

/-- A pilot-line frame at a lane's receiver (R160, R161): the samples its preamble takes, the ADC samples of 512 LSB and more as (sample, magnitude)
in order, and for each PB whether its CRC holds once the decoder has left out the erased samples. -/
structure PlcRx where
  preamble : Nat
  high : List (Nat × Nat)
  pbs : List Bool
  deriving DecidableEq, Repr

/-- One pass of the mutual authentication at a token (R199): its answer E(K, RndB) to AUTH_1, its answer to AUTH_2, and the status byte. -/
structure TokAuth where
  challenge : Bytes
  proof : Bytes
  status : Byte
  deriving DecidableEq, Repr

/-- A token's answer to one protected purse command (R198, R199): data under the session key, status byte, CMAC of 8 bytes. -/
structure TokAns where
  cipher : Bytes
  status : Byte
  mac : Nat
  deriving DecidableEq, Repr

/-- A received V2GTP message: whether the EXI codec failed on it (VLK_ERR.CODEC), whether its header is right, its payload length, whether its EXI is schema-valid and its
response type can be inferred, its message type, the SessionID it carries and its bytes. -/
structure V2g where
  codecErr : Bool
  headerOk : Bool
  length : Nat
  schemaOk : Bool
  typeKnown : Bool
  msg : BitVec 16
  session : Nat
  raw : Bytes
  deriving DecidableEq, Repr

/-- A reception of the site line: its logical frame as decided, CRC included, and how it was received: in band mode; for a
tone-mode frame the symbol errors left per codeword; its samples from the preamble on with a magnitude of 1,024 LSB and more as (sample, magnitude)
in order; its mean tone SNR in 0.25 dB; the stamps at which its preamble began and its last symbol ended. -/
structure LineRx where
  bytes : Bytes
  band : Bool
  errors : List Nat
  high : List (Nat × Nat)
  snr : Nat
  start : Nat
  fin : Nat
  deriving DecidableEq, Repr

/-- What a zeroisation detector has found (Table 15-1): the last two comparisons of a mesh loop, mismatch or not; the qualified opening of the case;
the last two samples of the battery-island sensor in °C; a supply outside its window, for so many ns, VBAT at a level in mV or the island's
internal supply (none), whose window the manual does not give. -/
inductive TamperSign where
  | mesh (loop : Fin 2) (previous last : Bool)
  | caseSwitch
  | temperature (previous last : Int)
  | glitch (vbatMv : Option Nat) (ns : Nat)
  deriving DecidableEq, Repr

/-- What the site-line receiver finds on the medium (R405): so many ticks ago, the largest energy in a tone of the set in 0.25 dB above the
measured noise floor, and whether a band-mode preamble was detected. -/
structure CarrierReading where
  ago : Nat
  excess : Nat
  preamble : Bool
  deriving DecidableEq, Repr

/-- The commands: the requests and expiries of the table first, then its other rows, each in the table's order. -/
inductive Instr where
  /-- R31: The event sequencer releases all events stamped with tick t together, in key order, at tick t + 8. -/
  | eventRelease (tick : Nat)
  /-- R113: Opcode 0x00 completes with OK at its stamp and serves as a barrier with FENCE. -/
  | commandNop (d : Desc)
  /-- R113: A command with a reserved or undefined opcode on its ring completes with BAD_OPCODE. -/
  | undefinedOpcode (ring : Fin 16) (d : Desc)
  /-- R106: A chain whose 16th descriptor still has CHAIN = 1 completes with CHAIN_ERR and its remaining descriptors are consumed unused. -/
  | chainErr (ring : Fin 16) (d : Desc) (rest : Nat)
  /-- R120: The oldest pending result of a vector has waited TIME µs and the MSI-X vector fires. -/
  | vectorModerationTimeout (vec : Fin 32)
  /-- R148: T_CLOSE expires in CLOSING and the lane goes through OPENING to ENDED. -/
  | tCloseExpiry (lane : Fin 32)
  /-- R148: T_FB expires while awaiting closed or open feedback and the lane goes to FAULT or DISABLED with FB_CLOSE or FB_OPEN. -/
  | tFbExpiry (lane : Fin 32)
  /-- R148: T_STOP expires in STOPPING and the lane is forced through OPENING to ENDED. -/
  | tStopExpiry (lane : Fin 32)
  /-- R143: T_FAULT_HOLD expires and a FAULT lane with only recoverable causes and AUTO_RECOVER returns to IDLE. -/
  | tFaultHoldExpiry (lane : Fin 32)
  /-- R152: T_MOD expires without a STATUS frame and the DC lane takes module lost. -/
  | tModExpiry (lane : Fin 32)
  /-- R153: Opens or holds admission on the named lanes. -/
  | laneAdmit (d : Desc)
  /-- R153: Sets the current limit i of an AC lane, changing the offered duty. -/
  | laneLimit (d : Desc)
  /-- R153: Requests a stop of the lane's session, completing when the lane reaches ENDED, IDLE, FAULT or DISABLED. -/
  | laneStop (d : Desc)
  /-- R153: Takes a quiet lane out of service or returns an UNAVAILABLE lane to IDLE. -/
  | laneService (d : Desc)
  /-- R153: Moves a FAULT lane to IDLE. -/
  | laneClear (d : Desc)
  /-- R185: T_SLAC_INIT expires and the association attempt fails. -/
  | tSlacInitExpiry (lane : Fin 32)
  /-- R170: T_MNBC expires and the run's sounding completes with the sounds counted so far. -/
  | tMnbcExpiry (run : Nat)
  /-- R185: T_MATCH_RESP expires; the IND is resent, or the attempt fails after two resends. -/
  | tMatchRespExpiry (lane : Fin 32)
  /-- R185: T_MATCH_SESSION expires and the attempt fails. -/
  | tMatchSessionExpiry (lane : Fin 32)
  /-- R185: T_SETUP expires and the attempt fails. -/
  | tSetupExpiry (lane : Fin 32)
  /-- R185: T_SEQ expires awaiting the next request and the lane gets a vehicle-link stop. -/
  | tSeqExpiry (lane : Fin 32)
  /-- R185: T_AUTH expires before a ledger decision; AuthorizationRes FAILED and a vehicle-link stop. -/
  | tAuthExpiry (lane : Fin 32)
  /-- R184: T_HOST expires before the relay answer and the vehicle receives FAILED. -/
  | tHostExpiry (lane : Fin 32)
  /-- R185: T_CPSTATE expires without pilot C and the lane gets a vehicle-link stop. -/
  | tCpstateExpiry (lane : Fin 32)
  /-- R185: T_CABLE expires without an insulation result; CableCheckRes FAILED and a vehicle-link stop. -/
  | tCableExpiry (lane : Fin 32)
  /-- R175: Starts the harness survey of coupling between enabled lanes. -/
  | vlkXtalkSurvey (d : Desc)
  /-- R188: Submits an EIM identity for a lane to the Abacus after the command's release. -/
  | vlkEimId (d : Desc)
  /-- R183: Replaces the trust store of roots and SECC chains. -/
  | vlkTrustLoad (d : Desc)
  /-- R184: Forwards the host's answer to a pending relay to the vehicle, or completes RELAY_STALE. -/
  | vlkRelayAnswer (d : Desc)
  /-- R211: T_PROV expires without a reservation answer; the session is abandoned with NO_ANSWER. -/
  | tProvExpiry (reader : Fin 4)
  /-- R211: T_FSESS expires and the field session collapses at its current step. -/
  | tFsessExpiry (reader : Fin 4)
  /-- R206: T_RETAP expires and the held reservation is abandoned with the orphan flag. -/
  | tRetapExpiry (reader : Fin 4)
  /-- R210: T_REPEAT expires and the same purse is accepted again on the antenna. -/
  | tRepeatExpiry (lane : Fin 32) (purse : Nat)
  /-- R213: Replaces the kill list in MRAM. -/
  | tokKillList (d : Desc)
  /-- R213: Measures the driver current of a lane's antenna and reports normal, open or overloaded. -/
  | tokAntTest (d : Desc) (currentMa : Nat)
  /-- R235: Applies a batch of head-end delta entries with per-entry status on RING09. -/
  | abcDelta (d : Desc) (uncorrectable : List (Nat × Nat))
  /-- R245: Returns the record of a key. -/
  | abcQuery (d : Desc) (uncorrectable : List Nat)
  /-- R245: Issues TALLY results for every record with UNACK > 0 and ORPHAN results for the orphan list. -/
  | abcResync (d : Desc) (uncorrectable : List Nat)
  /-- R245: Starts a snapshot and completes when the copy is complete. -/
  | abcSnapshot (d : Desc)
  /-- R245: Revokes every grant-table entry on the record of a key. -/
  | abcRevoke (d : Desc) (uncorrectable : List Nat)
  /-- R262: T_DISC expires while a DUAL pair disagrees and both inputs take a DISC fault. -/
  | tDiscExpiry (pair : Fin 36)
  /-- R260: T_AUTORST expires and an ACTION 2 latch 0 clears itself. -/
  | tAutorstExpiry (lane : Fin 32)
  /-- R267: T_WELD expires after COIL fell and the voltage check may judge a weld. -/
  | tWeldExpiry (lane : Fin 32)
  /-- R273: Clears trip latches, weld and off-path latches, or SIN and TPS faults whose clearing conditions hold. -/
  | safReset (d : Desc) (coilHigh : BitVec 32) (windows : List (Fin 32 × List Int))
  /-- R273: Starts a residual self-test on an AC lane. -/
  | safResTest (d : Desc)
  /-- R273: Reports the next complete insulation cycle of a DC lane. -/
  | safIsoMeasure (d : Desc)
  /-- R273: Sets latch 8 on every lane in the mask. -/
  | safTrip (d : Desc)
  /-- R285: T_RETRY expires; RETRY_LEFT decreases and the channel restarts with a fresh inrush window. -/
  | tRetryExpiry (m : Fin 16)
  /-- R296: Sets the commanded state of auxiliary channels on or off. -/
  | lswSet (d : Desc)
  /-- R296: Moves a LATCHED channel to OFF and resets TRIPS and RETRY_LEFT. -/
  | lswClear (d : Desc)
  /-- R323: T_TRIG expires before the trigger and the capture completes with NO_TRIGGER. -/
  | tTrigExpiry (slot : Fin 4)
  /-- R323: Starts an immediate or event-triggered capture of cycles to RING06. -/
  | metCapture (d : Desc)
  /-- R323: Cancels a running capture. -/
  | metCaptureCancel (d : Desc)
  /-- R325: Returns the lane's metrology values after the last cycle end. -/
  | metRead (d : Desc)
  /-- R323: Returns the filter and resampler coefficients. -/
  | metCoefRead (d : Desc)
  /-- R352: Returns the lane's accumulators, residues and scaled values. -/
  | nrgRead (d : Desc)
  /-- R353: Returns the lane's scales, ISTART and correction tables. -/
  | nrgCalRead (d : Desc)
  /-- R386: Issues a READ result for a lane or the hub, or re-issues a kept BILLING result. -/
  | bookRead (d : Desc)
  /-- R370: Requests an authenticated clock step, subject to MAX_STEP for OPERATOR. -/
  | bookClockSet (d : Desc)
  /-- R362: Loads a tariff table as pending. -/
  | bookTariffLoad (d : Desc)
  /-- R378: Writes sealed calibration entries while the seal is open. -/
  | bookCalWrite (d : Desc)
  /-- R367: Closes the billing period at its own stamp. -/
  | bookBillClose (d : Desc)
  /-- R406: T_ACK expires; the frame contends again, changes parent, or is dropped with NO_ACK. -/
  | tAckExpiry
  /-- R404: T_BEACON expires and the member enters RECOVERING. -/
  | tBeaconExpiry
  /-- R407: In an open network the node sends an ADVERT every T_ADV. -/
  | tAdvExpiry
  /-- R415: Sends a DATA or SCHEDULE frame on the site line. -/
  | lineSend (d : Desc)
  /-- R415: Sends a SOUND and gathers reports. -/
  | lineSound (d : Desc)
  /-- R415: 2,000 ms after the SOUND, LINE_SOUND completes with the reports received. -/
  | lineSoundWindowEnd
  /-- R415: Starts a test tone, band sequence or noise measurement. -/
  | lineTest (d : Desc)
  /-- R415: Returns the neighbour table. -/
  | lineNeighRead (d : Desc)
  /-- R430: Programs owner slot 0 with the hash of the given key. -/
  | keyOwnerEnrol (d : Desc)
  /-- R432: Checks a key update message and applies it at its switch stamp. -/
  | keyUpdate (d : Desc)
  /-- R434: Returns a signed attestation statement for a key. -/
  | keyAttest (d : Desc)
  /-- R456: Stores a bundle chunk on RING14 and, with LAST, verifies it for start-up or staging. -/
  | mgtBundle (d : Desc)
  /-- R460: Takes an activation schedule for the staged version. -/
  | mgtUpdSchedule (d : Desc)
  /-- R461: Cancels a scheduled activation and releases the hold. -/
  | mgtUpdCancel (d : Desc)
  /-- R454: Re-reads a range of legal-log entries to RING13. -/
  | mgtLogRead (d : Desc)
  /-- R454: Advances the acknowledged LSEQ under UTILITY authentication. -/
  | mgtLogAck (d : Desc)
  /-- R467: Stores a profile image in a slot. -/
  | mgtProfWrite (d : Desc)
  /-- R461: No quiescent point comes within the window; the hold is released and SCHED_MISS set. -/
  | scheduleWindowExpiry
  /-- R463: T_CONFIRM expires; the trial fails and the activation hold is taken again. -/
  | tConfirmExpiry
  /-- R474: Queues a display update of rows Y0 … Y1 in a mode. -/
  | epdUpdate (d : Desc)
  /-- R475: Stores a waveform table for a band and mode. -/
  | epdWaveLoad (d : Desc)
  /-- R473: Loads the uniformity map of a port. -/
  | epdUnifLoad (d : Desc)
  /-- R481: Sets the front-light duty, deferred until CLEARED. -/
  | epdFl (d : Desc)
  /-- R486: Sends bytes over the port's UART. -/
  | epdUartSend (d : Desc)
  /-- R480: PWRGOOD is not high within T_PG; the rails are dropped and the update completes RAIL. -/
  | epdTPgExpiry (port : Fin 4)
  /-- R480: T_IDLE after the last update expires and VCOM_EN falls. -/
  | epdTIdleExpiry (port : Fin 4)
  /-- R483: 60 s after a refused recovery clear, it is attempted again. -/
  | epdClearRetry (port : Fin 4)
  /-- R493: The line has read high for T_FREE and a healthy part begins to drive it. -/
  | tFreeExpiry
  /-- R498: T_SWITCH runs after HOLD rises and the lane enables take effect. -/
  | tSwitchExpiry
  /-- R499: No good frame within T_LINK; the link is lost. -/
  | tLinkExpiry
  /-- R503: The primary has stayed healthy for T_SETTLE and requests a takeback. -/
  | tSettleExpiry
  /-- R504: T_TBWIN expires before a quiescent point; the pair hold is released with TB_MISS. -/
  | tTbwinExpiry
  /-- R504: No part claims within 1 s of a release and the former holder claims again. -/
  | reclaimTimeout
  /-- R507: Requests an orderly handover of the outlets to the partner. -/
  | pairHandover (d : Desc)
  /-- R507: Releases the pair hold set by PAIR_HANDOVER. -/
  | pairHandoverCancel (d : Desc)
  /-- R522: Checks a stored profile against R90 and the claim rules without changing anything. -/
  | arbClaimCheck (d : Desc)
  /-- R10: A host write to a BAR0 register that has no row of its own stores, clears (W1C) or is ignored according to the access codes; malformed accesses set HIF_ERR.ACCESS. -/
  | registerWrite (off : BitVec 17) (be : BitVec 4) (val : BitVec 32) (crosses : Bool)
  /-- R126: A read of GLB_HTC0, BOOK_CLK_LO or any _LO register latches its higher part for the following reads. -/
  | latchedPairRead (off : BitVec 17) (be : BitVec 4) (crosses : Bool)
  /-- R10: A read of VLK_LVIOL returns COUNT and then clears it (RC). -/
  | vlkLviolRead (lane : Fin 32) (be : BitVec 4) (crosses : Bool)
  /-- R61: VSYS rises above 8.5 V with the rails down; A-die bias and the regulator start sequence begin. -/
  | powerOn
  /-- R61: A rail reaches 92 % of nominal and is qualified for 0.2 ms, and the next controller in order starts. -/
  | railPowerGood (rail : Fin 5)
  /-- R62: A rail misses power-good within 3.0 ms; all controllers stop in reverse order. -/
  | railStartTimeout (rail : Fin 5)
  /-- R62: The 100 ms wait after a failed rail attempt ends and the sequence repeats, or stays off after three failures. -/
  | railRetryWaitEnd
  /-- R64: VSYS falls below V_SYS_MIN and all controllers stop together. -/
  | vsysBelowMin
  /-- R82: The straps PROF1:PROF0, PAIR_PRI and JTAG_TRST_N are sampled 0.5 ms after the later of power-on-reset release and RST_N rising. -/
  | strapSample (prof : BitVec 2) (pairPri trstHigh : Bool)
  /-- R81: ROM digest, SRAM self-test, bridge training and die-ID check complete; MRAM is read, the commit record chosen and the HTC loaded. -/
  | bootSelfTestDone (failCode : Byte) (modems : Bool)
  /-- R81: The legal path is restored in hardware; intake, energy engine and register book run and MCLK0–MCLK7 start. -/
  | legalPathRestored
  /-- R90: The strap-selected profile is loaded at start-up or fails with GLB_PROF_STAT.ERR set. -/
  | startupProfileLoad
  /-- R83: The PCIe endpoint begins accepting configuration requests. -/
  | endpointReady (width speed : BitVec 2)
  /-- R81: DRAM training and ECC initialisation complete and PHASE becomes 5. -/
  | dramReady (trained : Bool)
  /-- R58: A feed's ideal-diode FET turns on or off as VIN crosses VSYS by the forward or reverse threshold. -/
  | idealDiodeChange (feed : Fin 2) (vinMv vsysMv : Nat)
  /-- R60: A VIN feed becomes present or absent, raising a class 1 event and, in pair MODE 2 or 3, a feed result. -/
  | feedPresenceChange (feed : Fin 2) (vinMv : Nat)
  /-- R65: VBAT crosses 2.6 V and VBAT_LOW changes. -/
  | vbatLowChange (vbatMv : Nat)
  /-- R65: The battery island moves between VDD_IO33 and VBAT as VDD_IO33 crosses 3.0 V. -/
  | batteryIslandSwitchover (vddIo33Mv : Nat)
  /-- R67: VSYS_SNS stays below V_HU for 50 µs; a class 1 event at stamp F withdraws all coil enables and starts a hold-up commit. -/
  | holdupDetect (vsysMv heldUs : Nat)
  /-- R69: The body write of a commit record to MRAM completes and the trailer write begins. -/
  | commitBodyWritten
  /-- R69: The trailer write completes, making the record valid and updating GLB_COMMIT_STAT. -/
  | commitTrailerWritten
  /-- R76: At each HTC multiple of INTERVAL seconds a checkpoint commit starts. -/
  | checkpointStart
  /-- R77: After a hold-up commit VSYS stays above V_HU + 1.0 V for 100 ms and the part chip-resets with cause HOLDUP_RECOVER. -/
  | holdupRecover (vsysMv heldMs : Nat)
  /-- R79: CK_REF is lost; PLLs move to the backup oscillator, DRAM self-refreshes, a clock-failure commit and chip reset follow. -/
  | ckRefLoss
  /-- R79: CK_MET is lost; the HTC stops, the HSS withdraws all coil enables, and a clock-failure commit and chip reset follow. -/
  | ckMetLoss
  /-- R79: CK_RFID is lost; the token readers stop and TOK_ERR.RFCLK is set. -/
  | ckRfidLoss
  /-- R79: CK_RFID returns and the token readers resume. -/
  | ckRfidReturn
  /-- R79: CK_RTC is lost and the wall clock is marked invalid. -/
  | ckRtcLoss
  /-- R79: The SC, PLC or DDR PLL loses lock and its fault source is set. -/
  | pllLockLoss (pll : Fin 4)
  /-- R79: The PCIe reference is lost and the link goes down. -/
  | pcieRefclkLoss
  /-- R80: RST_N is low for at least 1 µs; a reset commit is made if past start-up step 9, then a chip reset. -/
  | rstNAssert (lowUs : Nat)
  /-- R109: PCIE_PERST_N resets the endpoint and clears the HIF page while spill areas and accepted commands are kept. -/
  | pciePerst
  /-- R98: Bus Master Enable or D3hot changes, stopping or resuming ring processing. -/
  | pcieEndpointStateChange (bme d3 msixEn funcMask : Bool)
  /-- R80: A keyed write of GLB_RST_CTL.CHIP requests a chip reset after a reset commit. -/
  | chipResetRequest (val : BitVec 32)
  /-- R80: A keyed write of GLB_RST_CTL.BLOCK resets the named session core, token readers, site line or display ports. -/
  | blockResetRequest (val : BitVec 32)
  /-- R91: GLB_PROF_REQ with GO = 1 makes a profile pending, or discards the pending request when it names the active profile. -/
  | profileRequest (index : BitVec 2)
  /-- R91: GLB_PROF_REQ with CANCEL = 1 discards the pending profile request. -/
  | profileCancel
  /-- R92: At the first quiescent point after a request, the pending profile is loaded, claims resolved and every subsystem takes its new settings together. -/
  | profileSwitch (cut : List (Fin 32 × List BitWindow × List BitWindow))
  /-- R102: Setting HIF_RING_CTL.EN from 0 to 1 zeroes both indices, sets the expected phase to 1 and frees all slots. -/
  | ringEnable (ring : Fin 16)
  /-- R102: Clearing HIF_RING_CTL.EN stops the ring and forgets unaccepted descriptors. -/
  | ringDisable (ring : Fin 16)
  /-- R127: A write of HIF_CTL.RUN lets enabled rings be processed or stops every ring. -/
  | hifCtlRun (run : Bool)
  /-- R104: A write to HIF_DBn sets the host index of the ring, or is refused with HIF_ERR.DB_RANGE. -/
  | ringDoorbell (ring : Fin 16) (index : BitVec 16)
  /-- R110: A descriptor fetch fails with a PCIe error and the ring stops with ERR and ERR_CODE set. -/
  | ringFetchError (ring : Fin 16) (code : Fin 4)
  /-- R108: Freed from-device slots receive held spill results in order, preceded by a gap result if results were dropped. -/
  | spillDrain (ring : Fin 16)
  /-- R34: A time limit named by an opcode expires and the command completes as its chapter states. -/
  | commandTimeLimitExpiry (opcode : Byte) (unit : Nat)
  /-- R122: A producer writes a word to an internal queue, raising a notice on an end mark, or stalls when full. -/
  | queueWordWrite (queue : Fin 16) (word : BitVec 64) (endMark : Bool)
  /-- R123: A consumer reads a word from an internal queue, stalling while it is empty. -/
  | queueWordRead (queue : Fin 16)
  /-- R124: A drop-remainder command discards the rest of the current or next packet. -/
  | queueDropRemainder (queue : Fin 16)
  /-- R130: At each HTC multiple of 24,576 a pilot PWM period starts and any pending start or duty change takes effect. -/
  | pwmPeriodStart (sense : List LaneSense) (loads : List (Fin 48 × Nat))
  /-- R135: Three equal consecutive pilot samples qualify a new pilot state, moving the lane by Table 5-6. -/
  | pilotStateChange (lane : Fin 32) (cps : Wave)
  /-- R136: Three equal proximity samples qualify a new cable rating. -/
  | proximityRatingChange (lane : Fin 32) (ohms : Nat)
  /-- R144: A change in what FBA or FBB reports makes the lane feedback read closed, open or neither, moving the lane by Table 5-6. -/
  | contactorFeedbackChange (lane : Fin 32) (mirror : Bool) (high : Bool)
  /-- R151: Every 10 ms at the lane's offset a clamped SETPOINT frame is sent to the DC power module. -/
  | setpointSend (lane : Fin 32) (txErrors : Nat)
  /-- R152: A module STATUS frame restarts T_MOD and updates MOD_OFF and the DC status, or reports module fault on 0x0F. -/
  | pmcanStatusFrame (ctl : Fin 4) (modAddr : BitVec 6) (bytes : List (BitVec 8)) (rxErrors : Nat)
  /-- R152: A PMCAN controller reaches bus-off, which is module lost for its DC lanes. -/
  | pmcanBusOff (ctl : Fin 4) (txErrors : Nat)
  /-- R164: A CM_SLAC_PARM.REQ opens or joins a run; every candidate lane answers CNF and enters A_SOUNDING. -/
  | cmSlacParmReq (lane : Fin 32) (runId : BitVec 64) (mac : BitVec 48) (rx : PlcRx)
  /-- R185: The first CM_START_ATTEN_CHAR.IND of a run starts T_MNBC. -/
  | cmStartAttenCharInd (lane : Fin 32) (runId : BitVec 64) (mac : BitVec 48) (rx : PlcRx)
  /-- R169: An M-SOUND is measured on a lane and sent to the hub matcher; countdown 0 completes the sounding. -/
  | cmMnbcSound (lane : Fin 32) (runId : BitVec 64) (mac : BitVec 48) (countdown : Nat) (rx : PlcRx) (groups : List Nat)
  /-- R172: The matcher's decision for a run returns as a class 11 event, naming a lane or rejecting the run. -/
  | matchDecision (run : Nat)
  /-- R165: CM_ATTEN_CHAR.RSP of the run moves the lane to A_WAIT_MATCH and starts T_MATCH_SESSION. -/
  | cmAttenCharRsp (lane : Fin 32) (runId : BitVec 64) (mac : BitVec 48) (rx : PlcRx)
  /-- R165: CM_SLAC_MATCH.REQ forms the AVLN with a fresh NMK, sends CNF and starts T_SETUP. -/
  | cmSlacMatchReq (lane : Fin 32) (runId : BitVec 64) (mac : BitVec 48) (rx : PlcRx)
  /-- R168: CM_VALIDATE.REQ is answered not required, success or failure from the counted B-to-C toggles. -/
  | cmValidateReq (lane : Fin 32) (windowFrom stated : Nat) (rx : PlcRx)
  /-- R165: The AVLN is lost before SessionSetupReq, counting as a failed attempt. -/
  | avlnLost (lane : Fin 32)
  /-- R159: A vehicle opens a TCP connection to the lane, refused if one is already open. -/
  | tcpConnect (lane : Fin 32)
  /-- R165: The vehicle closes TCP; before SessionSetupReq this is a failed attempt. -/
  | tcpClosedByVehicle (lane : Fin 32)
  /-- R183: A TLS handshake runs with the hardware engines, or fails and is treated as violation class 9. -/
  | tlsHandshake (lane : Fin 32) (suite : Fin 4) (group : Fin 3) (began : Nat) (client : Option (List (BitVec 8))) (engineErr ok : Bool)
  /-- R177: An SDP request on UDP 15118 is answered with the SECC address and security. -/
  | sdpRequest (lane : Fin 32) (security : BitVec 8)
  /-- R178: SupportedAppProtocolReq selects the protocol or answers Failed_NoNegotiation with a vehicle-link stop. -/
  | supportedAppProtocolReq (lane : Fin 32) (m : V2g) (entries : List (Fin 4 × Nat))
  /-- R181: SessionSetupReq cancels T_SETUP and sets up or renews the session. -/
  | sessionSetupReq (lane : Fin 32) (m : V2g)
  /-- R179: A service request is answered with services under R178 and the offered current. -/
  | serviceDiscoveryReq (lane : Fin 32) (m : V2g) (bpt dynamic : Bool)
  /-- R180: An identity is submitted to the Abacus as a class 11 event and T_AUTH starts. -/
  | authorizationReq (lane : Fin 32) (m : V2g) (pnc : Bool) (emaid chain sig : List (BitVec 8))
  /-- R179: Charge parameters are exchanged with DC limits from LANE_DC_CFG. -/
  | chargeParameterReq (lane : Fin 32) (m : V2g) (inRange : Bool) (vMax iMax iRev : Nat)
  /-- R179: CableCheck requests MODE = ISOLATION_TEST and starts T_CABLE. -/
  | cableCheckReq (lane : Fin 32) (m : V2g)
  /-- R179: PreCharge commands MODE = PRECHARGE with the vehicle's target voltage. -/
  | prechargeReq (lane : Fin 32) (m : V2g) (vTgt iLim : Nat)
  /-- R179: PowerDelivery start awaits pilot C (AC) or sets MODE = ON (DC); stop gives a vehicle-link stop. -/
  | powerDeliveryReq (lane : Fin 32) (m : V2g) (progress : Fin 3) (tuple : Nat)
  /-- R179: A transfer-phase request updates the setpoints passed to the lane. -/
  | currentDemandReq (lane : Fin 32) (m : V2g) (inRange : Bool) (vTgt iLim iRev pLim : Nat) (receipt : Option (List (BitVec 8)))
  /-- R181: SessionStopReq ends the session, treating Pause as Terminate. -/
  | sessionStopReq (lane : Fin 32) (m : V2g) (pause : Bool)
  /-- R184: A CertificateInstallation or CertificateUpdate request is relayed to the host and T_HOST starts. -/
  | certificateReq (lane : Fin 32) (m : V2g) (update : Bool) (body : List (BitVec 8))
  /-- R186: AC draw above the offer by more than 10 % plus 0.5 A for 5,000 ms gives a class 12 violation and a vehicle-link stop. -/
  | acOverdrawViolation (lane : Fin 32)
  /-- R175: The survey finishes and replaces the harness table in MRAM, or ends disturbed. -/
  | xtalkSurveyComplete (table : List Nat)
  /-- R192: A reader selects its next eligible antenna, switches the field on and sends REQA, starting a field session on an ATQA. -/
  | antennaPoll (reader : Fin 4) (atqa : Bool)
  /-- R194: S0 ends: one PICC is reselected, or several give MULTI and the field goes off. -/
  | inventoryComplete (reader : Fin 4) (uids : List (List (BitVec 8)))
  /-- R199: S1 ends after both authentication passes and the read of block 0. -/
  | authenticationComplete (reader : Fin 4) (first second : TokAuth) (block0 : TokAns)
  /-- R201: S2 ends: the kill list is checked, the slots resolved, and a reservation request sent to the Abacus. -/
  | slotsResolved (reader : Fin 4) (block1 block2 block3 : TokAns)
  /-- R208: The token answers KILL, or answers KILLED, and is reported as KILLED. -/
  | killResponse (reader : Fin 4) (answer : TokAns)
  /-- R203: The Abacus answer reaches the token engine: a ceiling G continues the session, a denial refuses it. -/
  | reservationAnswer (reader : Fin 4)
  /-- R201: S4 ends after the primary slot is repaired and read back. -/
  | repairComplete (reader : Fin 4) (written readBack : TokAns)
  /-- R202: S5 ends after the backup slot is written with SEQ n + 1 and TALLY T + G. -/
  | backupWritten (reader : Fin 4) (answer : TokAns)
  /-- R202: S6 ends when the backup read equals what was written. -/
  | backupVerified (reader : Fin 4) (answer : TokAns)
  /-- R202: S7 commits the reservation to the Abacus, which then announces the grant to the lane. -/
  | purseCommit (reader : Fin 4)
  /-- R202: S8 ends after the primary slot is written with the backup's contents. -/
  | primaryWritten (reader : Fin 4) (answer : TokAns)
  /-- R202: S9 ends with the primary read back, deselect and field off. -/
  | primaryVerified (reader : Fin 4) (answer : TokAns)
  /-- R205: The token is lost during a field session and the collapse is resolved by the step under way. -/
  | fieldCollapse (reader : Fin 4) (frameError : Bool)
  /-- R224: The Abacus decides an identity submission or reservation request against the record and fills the grant entry. -/
  | ledgerAuthorise (entry : Fin 36) (ident : List (BitVec 8)) (method : Fin 4) (purseT purseId purseSeq : Nat) (uncorrectable : List Nat)
  /-- R225: At the request stamp plus LOOKUP, or S7 plus TABLE, the decision is announced as a class 9 event. -/
  | ledgerDecisionAnnounce (entry : Fin 36)
  /-- R228: A revocation is announced to each lane at its stamp plus TABLE. -/
  | ledgerRevokeAnnounce (lane : Fin 32)
  /-- R229: A ceiling STOP is announced to the lane at the quantum's stamp plus TABLE. -/
  | ledgerStopAnnounce (lane : Fin 32)
  /-- R226: DDR_ALERT_N reports an uncorrected CRC or parity error, making DRAM unavailable. -/
  | ddrAlert (recovered : Bool)
  /-- R237: At each HTC multiple of RPT seconds a TALLY result is issued for every account debited since its last report. -/
  | tallyReport
  /-- R238: At each HTC multiple of FLUSH the changed pending-table entries are written into journal blocks. -/
  | pendingFlush
  /-- R239: A 512-byte journal block finishes writing to MRAM and its unpinned entries leave the pending table. -/
  | journalBlockComplete
  /-- R240: A snapshot of the ledger image to NAND starts by interval or journal fill. -/
  | snapshotStart
  /-- R240: The seal page of a copy is written, completing it and freeing deleted slots. -/
  | snapshotComplete (ok : Bool) (bad uncorrectable : List Nat)
  /-- R244: At start-up step 14 the ledger restore loads the newest copy and begins applying the journal. -/
  | ledgerRestoreStart (badA badB : Bool) (badJournal : List Nat)
  /-- R244: The restore completes; LEDGER_READY is issued and waiting requests are served. -/
  | ledgerReady
  /-- R260: A safety input changes state after its filter count and acts on its scope's latches by ACTION. -/
  | sinStateChange (sin : Fin 72) (level : Bool) (equalSamples : Nat)
  /-- R261: A CONTACT or DUAL input fails its STUCK or CROSS pulse check and reads open as faulted. -/
  | sinPulseFault (sin : Fin 72) (tps : Fin 4) (before sample after : Bool)
  /-- R259: An enabled TPS starts its 400 µs low pulse, and its readback checks may switch it off. -/
  | tpsPulseStart (k : Fin 4) (lowMv highMv limitTicks : Nat)
  /-- R263: The half-cycle residual RMS reaches AC_THR, raising the trip line and latch 1. -/
  | residualAcTrip (lane : Fin 32) (window : List Int)
  /-- R263: A DC curve point's timer expires and the lane takes a DC trip with latch 2. -/
  | dcPointTimerExpiry (lane : Fin 32) (point : Fin 4) (start least : Nat)
  /-- R264: The 40 ms drive of the residual test winding ends and the first comparison is made. -/
  | selfTestDriveEnd (lane : Fin 32) (window : List Int)
  /-- R264: The residual self-test result is issued, setting or clearing latch 4. -/
  | selfTestResult (lane : Fin 32) (window : List Int)
  /-- R265: An insulation half-cycle of SETTLE plus AVG ends and the bridge switch changes. -/
  | isolationSwitchToggle (lane : Fin 32) (v2Mv v3Mv v1MinMv : Int)
  /-- R266: A complete insulation cycle gives PASS, WARN or FAIL, setting latch 3 on FAIL. -/
  | insulationResult (lane : Fin 32)
  /-- R268: A weld is judged one tick after its cause, setting latch 6 and driving the shunt channel. -/
  | weldJudgement (lane : Fin 32)
  /-- R268: The 500 ms shunt pulse ends and the shunt channel turns off. -/
  | shuntPulseEnd
  /-- R254: At each 1 ms cycle start the safety core outputs take effect and a new input snapshot is taken. -/
  | safetyCoreCycle (completed : Bool) (samples : List (BitVec 72)) (coilHigh : BitVec 32) (coreCrc : BitVec 32)
  /-- R255: The two safety cores disagree; every SC_PERMIT falls and the island disarms until chip reset. -/
  | lockstepMismatch
  /-- R269: A coil channel's output is read back at the end of an economiser off-phase; three failures make an off-path failure. -/
  | offpathReadback (lane : Fin 32) (onTicks : Nat) (high : Bool)
  /-- R269: In forerunner mode a coil channel is pulsed off for OFFP_W and read back; two failures make an off-path failure. -/
  | forerunnerOffPulse (lane : Fin 32) (high : Bool)
  /-- R278: The stage-4 coil enable rises and the channel enters START with its pull-in window. -/
  | coilEnableRise (ch : Fin 32)
  /-- R278: The coil enable falls and the driver switches off within the coil turn-off time. -/
  | coilEnableFall (ch : Fin 32)
  /-- R278: The pull-in window ends and the coil channel enters ON under the economiser. -/
  | pullInEnd (ch : Fin 32)
  /-- R281: A coil channel trips on a START short or the hold cycle limit, enters OFF and counts TRIPS, latching at 3. -/
  | coilTrip (ch : Fin 32) (held : Nat)
  /-- R282: A coil channel stays in ON for 10 s and TRIPS resets to 0. -/
  | coilTripsReset (ch : Fin 32)
  /-- R283: An auxiliary channel's inrush window ends and it enters ON at I_RUN. -/
  | inrushEnd (m : Fin 16)
  /-- R284: An auxiliary channel trips on SHORT_START, SHORT or OVERLOAD and enters RETRY_WAIT or LATCHED. -/
  | auxTrip (m : Fin 16) (cause : Fin 3) (currentMa held : Nat)
  /-- R285: An auxiliary channel stays in ON for 10 s and RETRY_LEFT is reset to RETRIES. -/
  | auxRetriesReset (m : Fin 16)
  /-- R287: LSnn_OUT stays above or below V_OL for 10 ms and OPEN_LOAD is set or cleared. -/
  | openLoadChange (ch : Fin 48) (above : Bool) (held : Nat)
  /-- R288: An auxiliary channel carries under 50 mA for 100 ms in ON and UNDERLOAD is set. -/
  | underloadSet (m : Fin 16) (currentMa held : Nat)
  /-- R289: A quad sensor crosses T_WARN and WARN changes. -/
  | thermalWarnChange (q : Fin 12) (temp : Int)
  /-- R289: A quad sensor exceeds T_SD and all four channels enter THERMAL. -/
  | thermalLatchSet (q : Fin 12) (temp : Int)
  /-- R290: The quad latch clears below T_SD − T_HYS and each channel restarts or enters OFF. -/
  | thermalLatchClear (q : Fin 12) (temp : Int)
  /-- R292: VLS stays below 7.5 V for 20 µs and every unlatched channel enters SUPPLY. -/
  | vlsUndervoltage (vlsMv heldUs : Nat)
  /-- R292: VLS stays above 8.5 V for 10 ms and the staggered quad restart begins. -/
  | vlsRestart (vlsMv held : Nat)
  /-- R292: At the restart stamp plus q ms quad q's channels follow the restart rule. -/
  | quadRestart (q : Fin 12)
  /-- R60: VLS stays below 80 % of nominal for 10 ms and LSW_ERR.VLS_LOW is set. -/
  | vlsLowSet (vlsMv held : Nat)
  /-- R293: No heartbeat edge for 5 ms; every unlatched channel enters SUPPLY and auxiliary commands become off. -/
  | heartbeatLost (silentUs : Nat)
  /-- R293: The D-die heartbeat returns and the channels enter OFF. -/
  | heartbeatReturn
  /-- R299: A modulator clock group starts or is held low at the first even tick after a profile switch's release. -/
  | mclkStartStop (group : Fin 8)
  /-- R310: A lane's chain completes its 32,768-tick discard and MET_LSTAT.RUN rises. -/
  | chainRun (lane : Fin 32)
  /-- R302: A processed stream becomes stuck after 2,048 equal bits, or clears, and a STREAM event is issued. -/
  | streamStuckChange (lane : Fin 32) (ch : Fin 8) (stuck level : Bool) (equalBits : Nat)
  /-- R318: A metrology cycle ends; detectors, the energy engine, the register book and the debit feed take its samples. -/
  | cycleEnd (lane : Fin 32) (wins refWins : List BitWindow) (ue : Bool)
  /-- R316: At a cycle boundary the frequency tracker changes state and reports TRACK. -/
  | trackingChange (lane : Fin 32) (refWins : List BitWindow)
  /-- R321: A channel envelope crosses an OVER or UNDER threshold. -/
  | envelopeEvent (lane : Fin 32) (ch : Fin 8) (samples : List Int)
  /-- R319: A calibration write takes effect at the next cycle start or 20 ms boundary, ending cycles as partial where it applies. -/
  | calChangeEffect (lane : Fin 32) (wins refWins : List BitWindow)
  /-- R345: A scheduled energy pulse starts at its due instant or after 2 × WIDTH spacing. -/
  | pulseStart (k : Fin 8)
  /-- R345: A pulse's WIDTH ends and the output is released. -/
  | pulseEnd (k : Fin 8)
  /-- R346: PULSE6 or PULSE7 starts its timebase marker or RTC test pulse. -/
  | altPulseStart (k : Fin 8)
  /-- R361: The RTC second rolls over and the scheduled points of the new second are taken. -/
  | rtcRollover
  /-- R371: While the clock is invalid a demand interval measured on the HTC ends, flagged NOCLOCK. -/
  | noclockIntervalEnd
  /-- R369: A clock step from the host or the site line sets the RTC, ending the interval and taking spanned points. -/
  | clockStep
  /-- R377: SEAL_N holds a new level for 10 ms and the seal opens or closes, writing SEAL on a close. -/
  | sealChange (sealOpen : Bool) (heldMs : Nat)
  /-- R381: A magnetic field on MAGXk begins or ends after 100 samples. -/
  | magneticFieldChange (sensor : Fin 4) (levels : List Nat)
  /-- R382: The case opens or closes and a CASE entry is written. -/
  | caseChange (caseOpen : Bool)
  /-- R406: The part's own site-line transmission ends and T_ACK starts where an ACK is requested. -/
  | lineFrameTransmitEnd
  /-- R405: After 20 ms without carrier and its priority window and backoff, a queued frame starts transmission. -/
  | mediumAccess (span : Nat) (readings : List CarrierReading) (storeOk : Bool)
  /-- R406: 12 ms after a frame with ACKREQ ends, the part sends its ACK. -/
  | ackTransmit (storeOk : Bool)
  /-- R404: A beacon restarts T_BEACON, gives slots and tone sets, or makes a coordinator step down. -/
  | beaconReceived (f : LineRx)
  /-- R407: An ADVERT updates the neighbour table, level and parent. -/
  | advertReceived (f : LineRx)
  /-- R406: An ACK cancels T_ACK for the acknowledged frame. -/
  | lineAckReceived (f : LineRx)
  /-- R416: A DATA frame is delivered as an RX result, or forwarded. -/
  | dataReceived (f : LineRx)
  /-- R409: A DELTA frame's entries are applied as a class 12 event and a DSTAT is sent. -/
  | deltaReceived (f : LineRx) (uncorrectable : List (Nat × Nat))
  /-- R411: A TIME frame from TSRC may issue a clock step. -/
  | timeReceived (f : LineRx)
  /-- R412: A SCHEDULE frame passes its body to management as a class 14 event. -/
  | scheduleReceived (f : LineRx)
  /-- R395: A SOUND frame builds a tone map for the sender and a SOUND_RPT is returned. -/
  | soundReceived (src : Nat) (snrs : List Nat) (high : List (Nat × Nat))
  /-- R396: A SOUND_RPT is taken by the coordinator to choose the tone set. -/
  | soundRptReceived (f : LineRx)
  /-- R403: A JOIN makes the coordinator add the node to the next beacon's list. -/
  | joinReceived (f : LineRx)
  /-- R402: The coordinator sends a BEACON at each beacon period, removing silent members. -/
  | beaconPeriod (storeOk : Bool)
  /-- R402: A member's slot opens and it transmits its queued frame, SOUND or ADVERT. -/
  | memberSlot (storeOk : Bool)
  /-- R404: A recovering candidate becomes coordinator after (MISS + r + 1) beacon periods without a beacon. -/
  | coordinatorTakeover
  /-- R415: The LINE_TEST duration elapses and the command completes. -/
  | lineTestEnd (noise : List Nat)
  /-- R422: A mesh, case, temperature or glitch trigger clears the root and records its cause. -/
  | tamperTrigger (sign : TamperSign)
  /-- R420: A new root is drawn after blowing the next epoch fuse and the root becomes READY. -/
  | rootGenerationComplete
  /-- R425: An entropy health test fails; key generation and NMK requests are refused. -/
  | rngHealthFail
  /-- R425: A fresh block of 4,096 samples passes both tests and the generator reseeds. -/
  | rngRecover (samples : Nat)
  /-- R429: A new MRAM key copy's trailer is written. -/
  | keyCopyWritten (ok : Bool)
  /-- R433: At acceptance plus 50 ms the new key set takes effect, the TALLY takes the counter and the command completes. -/
  | keySwitch
  /-- R441: The 100 ms MC watchdog expires; the MC restarts and its commands complete ABORTED. -/
  | mcWatchdogExpiry
  /-- R442: The MC queue fill crosses a level and work is shed or resumed. -/
  | shedLevelChange (fill : Nat)
  /-- R443: Every 10 ms the sensors are sampled and limit bits set after two samples. -/
  | sensorSample (values : List Int) (memory : MemorySigns) (mains : Nat)
  /-- R456: Bundle verification completes; images start, or the candidate is staged, or it is refused. -/
  | bundleVerified
  /-- R461: The scheduled time arrives and every lane takes the activation hold. -/
  | scheduledTimeReached
  /-- R461: At the first quiescent point after the scheduled time the state becomes armed and a chip reset follows. -/
  | updateActivation
  /-- R462: The trial bundle requests confirmation; on success C becomes V, fuses blow and profiles are copied. -/
  | confirmationRequest
  /-- R463: At the first quiescent point after T_CONFIRM expiry the part chip-resets to return to C. -/
  | trialEndReset
  /-- R477: A PMIC temperature read completes and fixes the band of a starting update. -/
  | epdTemperatureRead (port : Fin 4) (ok : Bool) (temp : Int)
  /-- R478: While powered, the port reads the temperature once per second for status. -/
  | epdStatusTempRead (port : Fin 4) (ok : Bool) (temp : Int)
  /-- R480: PWRGOOD rises; VCOM_EN rises and the first frame follows 1 ms later. -/
  | epdPwrgoodRise (port : Fin 4)
  /-- R480: PWRGOOD falls while powered; the port powers down and becomes DIRTY. -/
  | epdPwrgoodFall (port : Fin 4)
  /-- R471: A display frame is driven over the changed lines; after the last frame the update ends. -/
  | epdFrame (port : Fin 4)
  /-- R480: 1 ms after VCOM_EN falls, PMIC_EN falls. -/
  | epdPmicOff (port : Fin 4)
  /-- R487: After 2 ms idle or 64 bytes held, received UART bytes are issued as a result. -/
  | epdUartRxFlush (port : Fin 4) (bytes : List (BitVec 8)) (idleUs : Nat)
  /-- R492: Once per 1 ms window the holder releases the line for a probe and samples for contention. -/
  | pairProbe (low : Bool)
  /-- R493: PAIR_HOLD_N changes level, starting or cancelling T_FREE. -/
  | pairHoldLineChange (low : Bool)
  /-- R499: Every 10 ms a HEALTH frame is sent to the partner. -/
  | healthSend
  /-- R499: A partner HEALTH frame brings the link up and updates partner status. -/
  | healthReceived (crcOk : Bool) (payload : List (BitVec 8))
  /-- R500: A partner journal block is joined into the ledger and acknowledged; sync may complete. -/
  | journalFrameReceived (crcOk : Bool) (payload : List (BitVec 8))
  /-- R500: A JACK records the partner's last joined block. -/
  | jackReceived (crcOk : Bool) (payload : List (BitVec 8))
  /-- R500: Every 100 ms the holder resends unacknowledged journal blocks. -/
  | journalResend
  /-- R501: A BULK snapshot page is joined after a sync gap. -/
  | bulkReceived (crcOk : Bool) (payload : List (BitVec 8))
  /-- R505: A partner SCHEDULE frame is taken as a schedule. -/
  | pairScheduleReceived (crcOk : Bool) (payload : List (BitVec 8))
  /-- R504: A TAKEBACK puts a pair hold on every lane of the holder. -/
  | takebackReceived (crcOk : Bool)
  /-- R504: A RELEASED frame reports that the holder has released the line. -/
  | releasedReceived (crcOk : Bool)
  /-- R503: Every 1 s the primary resends TAKEBACK until the line is released. -/
  | takebackResend
  /-- R504: At the first quiescent point under a pair hold the holder releases the line and sends RELEASED. -/
  | pairRelease
  /-- R511: At each window start every credit counter is refilled by its weight. -/
  | arbWindowStart (cycles : Nat)
  /-- R512: A requester's transfer is granted by urgency and credit, revoking a non-urgent grant for an urgent one. -/
  | arbRequest (requester : Fin 16) (target beats : Nat) (write : Option ArbWrite) (ended : Bool)
  /-- R515: A non-urgent requester holds a bank beyond LIMIT and is cut off until the next window. -/
  | bankHogCutoff (target cycles : Nat)
  /-- R516: A requester withdraws its request before its first beat and the grant lapses. -/
  | grantWithdraw (target beatsDone : Nat)
  /-- R40: A frame on the inter-die bridge fails its SECDED check, setting MGT_ERR.BRIDGE and putting every later record outside the guarantee with a GUARANTEE entry. -/
  | bridgeFrameError
  /-- R79: CK_REF becomes present again, and the start-up that waits for it after a clock-failure reset proceeds. -/
  | ckRefReturn
  /-- R79: CK_RTC is present again; GLB_CLK_STAT.OK bit 3 returns and the elapsed-second counter of R448 resumes giving elapsed time. -/
  | ckRtcReturn
  /-- R79: An SC, PLC or DDR PLL regains lock, which ends DRAM being unavailable in the DDR case. -/
  | pllRelock (pll : Fin 4)
  /-- R150: A PMCAN controller completes the automatic bus-off recovery of ISO 11898-1 and returns to error-active. -/
  | pmcanBusOffRecovery (ctl : Fin 4)
  /-- R62: After three failed rail attempts, VSYS falls below 4.0 V and the controller lockout ends, so a later rise can start the rails again. -/
  | vsysBelowRestartFloor
  /-- R80: RST_N rises, ending an external chip reset, and start-up proceeds, with the straps sampled 0.5 ms later. -/
  | rstNRelease
  /-- R83: PCIE_PERST_N rises, ending the endpoint reset and starting the 100 ms before configuration requests are accepted. -/
  | pciePerstRelease
  /-- R81: The A-die bias becomes good 0.5 ms after VSYS rises, and REG4 and the CK_RFID oscillator start. -/
  | biasGood
  /-- R462: The copy of the shadow profiles over the old-format slots after confirmation completes, and the shadow region is freed. -/
  | profileCopyComplete
  deriving DecidableEq, Repr

end Sys2Proof
end

