-- ==== Sys2Proof/Config.lean ====
section
/-!
DEFINITION. What the manual takes from other standards or leaves open: cryptographic functions and free values.
Every constant here is opaque: nothing in Lean can evaluate it, and a claim holds whatever its value is.
Keys and other long secrets are natural numbers.
-/
namespace Sys2Proof

/-- SHA-256 (R69, R89, R216, R452): an uninterpreted function, log 3. -/
opaque Config.sha256 : Bytes → BitVec 256

/-- SHA-384 (R430, R455), log 3. -/
opaque Config.sha384 : Bytes → BitVec 384

/-- AES-CMAC under a key, full 16-byte tag (R232, R358, R400, R434), log 3. -/
opaque Config.aesCmac : Nat → Bytes → BitVec 128

/-- AES-128 over one block under a key, and its inverse; CBC over a command's data under a key with the command counter as IV, and its inverse
(R198, R199), logs 3 and 100. -/
opaque Config.aesEncrypt : Nat → Bytes → Bytes
opaque Config.aesDecrypt : Nat → Bytes → Bytes
opaque Config.cbcEncrypt : Nat → Nat → Bytes → Bytes
opaque Config.cbcDecrypt : Nat → Nat → Bytes → Bytes

/-- Verification of an ECDSA P-521 signature: public key, message, signature (R431, R455), log 3. -/
opaque Config.ecdsaVerify : Bytes → Bytes → Bytes → Bool

/-- The 132 bytes of an ECDSA P-521 signature under a private scalar (R434), log 3. -/
opaque Config.ecdsaSign : Nat → Bytes → Nat

/-- HMAC-SHA-384 and HMAC-SHA-256 under a key (R426, R429), log 3. -/
opaque Config.hmacSha384 : Nat → Bytes → BitVec 384
opaque Config.hmacSha256 : Nat → Bytes → BitVec 256

/-- AES-KWP wrapping of a value under a key (R429), log 3. -/
opaque Config.keyWrap : Nat → Nat → Bytes

/-- The network identifier that an NMK gives (R173), log 3. -/
opaque Config.nidOf : Nat → Nat

/-- ECDH between a private scalar and a public key (R431), log 3. -/
opaque Config.ecdh : Nat → Bytes → Nat

/-- AES-KWP unwrapping: the value and its length, or none when the check fails (R431), log 3. -/
opaque Config.keyUnwrap : Nat → Bytes → Option (Nat × Nat)

/-- The 133 bytes of a private key's public key (R433, R434), log 3. -/
opaque Config.publicKey : Nat → Nat → Nat

/-- The n-th value drawn from the random generator (R425) or left open by the manual, log 4. -/
opaque Config.freeValue : Nat → Nat

/-- The EXI stream of a message of a kind with a response code and what it carries, under the schemas of a protocol (R184), log 96. -/
opaque Config.exiEncode : Nat → Nat → Nat → Bytes → Bytes

/-- The canonical EXI fragment of the signed elements of a message (R184), log 96. -/
opaque Config.exiFragment : Nat → Bytes → Bytes

/-- Whether a chain of certificates leads to one of the roots (R183), and whether a signature over a fragment is its leaf's, log 96. -/
opaque Config.chainVerify : List Bytes → Bytes → Bool
opaque Config.leafVerify : Bytes → Bytes → Bytes → Bool

/-- A stored key that the bundle image carries: the hash of the Broldanen bundle key's holder (R455), log 3. -/
opaque Config.bundleKey : Bytes

/-- What a bundle's profile converter (its image, R459) makes of a profile image of the old format; none: not accepted, log 44. -/
opaque Config.convertProfile : Bytes → Bytes → Option Bytes

/-- The MRAM directory that the boot ROM writes (R85, R88): its magic, the capacity in bytes, and the base and size of each region that is not
fixed; the manual names them and gives no value, log 78. -/
opaque Config.dirMagic : BitVec 32
opaque Config.mramCapacity : Nat
opaque Config.mramRegions : List (Nat × Nat)

end Sys2Proof
end

