-- ==== Sys2Proof/Machine/State.lean ====
section
/-!
DEFINITION. The state of the TSU-3272 as plain data: every register, buffer, timer, store and ball level the manual
names, and the queue of waiting commands. State.reset is the machine right after the power-on reset.
-/
namespace Sys2Proof.Machine

/-! ## Time, order and timers (The hub on one package) -/

/-- The class 15 timers of Table 1-9, in base order. -/
inductive TimerKind where
  | tClose | tFb | tStop | tFaultHold | tMod
  | tSlacInit | tMnbc | tMatchResp | tMatchSession | tSetup | tSeq | tAuth | tHost | tCpstate | tCable
  | tProv | tFsess | tRetap | tRepeat
  | tDisc | tAutorst | tWeld
  | tTrig
  | tCommand
  | tAck | tBeacon
  | tConfirm
  | tFree | tSwitch | tSettle | tTbwin | tLink
  | tRetry
  deriving DecidableEq, Repr

/-- A running timer (R33, R34): its owner (a lane, or the index i of R34), a second key where one owner can run
several of a kind, and the stamps at which it expires and was started. -/
structure Timer where
  kind : TimerKind
  owner : Nat
  sub : Nat
  expiry : Nat
  started : Nat
  deriving DecidableEq, Repr

/-- The event sequencer of R31: keys stamped and not yet released, and the tick released last with its keys. swept: the stamp whose expiries
(class 15) were queued last. -/
structure Sequencer where
  waiting : List EventKey
  issued : Nat
  lastTick : Nat
  released : List EventKey
  swept : Option Nat
  deriving DecidableEq, Repr

/-! ## Error registers (Table 16-3 and the error registers outside it) -/

/-- The W1C error registers; those of a lane, a controller or a port name their unit. -/
inductive ErrReg where
  | clk | pwr | hif
  | lane (n : Fin 32) | pmcan (k : Fin 4)
  | vlk | tok | abc | saf | lsw
  | met (n : Fin 32)
  | nrg | book | line | key | mgt
  | epd (p : Fin 4) | pair | arb
  deriving DecidableEq, Repr

/-- The sticky bits. pwr holds VBAT_LOW_SEEN, VIN_A_LOST and VIN_B_LOST in bits 0 to 2. -/
structure Errs where
  clk : Reg
  pwr : Reg
  hif : Reg
  lane : Vector Reg 32
  pmcan : Vector Reg 4
  vlk : Reg
  tok : Reg
  abc : Reg
  saf : Reg
  lsw : Reg
  met : Vector Reg 32
  nrg : Reg
  book : Reg
  line : Reg
  key : Reg
  mgt : Reg
  epd : Vector Reg 4
  pair : Reg
  arb : Reg
  deriving DecidableEq, Repr

/-- A register map: offset and value, offsets strictly rising, no entry at its default. -/
abbrev RegMap := List (Nat × Reg)

/-! ## Power, clocks and start-up -/

/-- One feed: its presence (R59) and its ideal-diode FET (R58). -/
structure Feed where
  present : Bool
  fetOn : Bool
  deriving DecidableEq, Repr

/-- Feeds, rails and battery-island supply (R58 to R67). railsGood counts the rails of Table 3-1 with power-good; vbatLost: VBAT is below its
retention limit; vsysMv is the last VSYS that a row gave. -/
structure Power where
  feedA : Feed
  feedB : Feed
  vsysUp : Bool
  biasGood : Bool
  railsGood : Nat
  starting : Bool
  retryWait : Bool
  attempts : Nat
  lockedOut : Bool
  vbatLow : Bool
  vbatLost : Bool
  onVbat : Bool
  holdupNow : Bool
  vsysMv : Nat
  deriving DecidableEq, Repr

/-- Clock monitors (R79): GLB_CLK_STAT.OK and ON_BACKUP, DRAM in self-refresh, the PCIe reference. -/
structure Clocks where
  ok : BitVec 8
  onBackup : Bool
  selfRefresh : Bool
  pcieRef : Bool
  deriving DecidableEq, Repr

/-- Start-up (R81 to R87): the last step of Table 3-7 that is done, GLB_BOOT_STAT, the straps and the reset balls. -/
structure Boot where
  step : Nat
  phase : BitVec 4
  failCode : Byte
  restoreOk : Bool
  profOk : Bool
  ddrOk : Bool
  straps : BitVec 2
  strapsTaken : Bool
  pairPri : Bool
  trstHigh : Bool
  rstNHigh : Bool
  perstHigh : Bool
  perstRise : Nat
  waitRef : Bool
  errOutReleased : Bool
  torn : Bool
  deriving DecidableEq, Repr

/-- GLB registers with storage of their own (Tables 3-12 to 3-21, 4-9). latched holds the second halves of the
register pairs that a read of the low half latches (R126). -/
structure Glb where
  rstCause : Reg
  holdupThresh : BitVec 10
  ckptInterval : BitVec 12
  comGen : BitVec 24
  comKind : BitVec 3
  comSlotB : Bool
  torn : Bool
  none : Bool
  profActive : BitVec 2
  profActiveValid : Bool
  profPending : BitVec 2
  profPendingValid : Bool
  profErr : BitVec 4
  scratch : Reg
  htcLatch : BitVec 72
  latched : RegMap
  readData : Reg
  deriving DecidableEq, Repr

/-! ## Host link -/

/-- A result descriptor (Table 4-5) with the bytes of its payload. -/
structure Result where
  opcode : Byte
  tag : BitVec 16
  unit : BitVec 16
  status : Byte
  detail : Byte
  stamp : BitVec 72
  inline : BitVec 64
  payload : Bytes
  outside : Bool
  deriving DecidableEq, Repr

/-- A piece of a result: what one slot of a ring carries of it, and whether it goes on in the next slot. -/
structure Piece where
  chain : Bool
  plen : Nat
  res : Result
  deriving DecidableEq, Repr

/-- One written slot of a from-device ring (R103, R105): its index, the host address of the descriptor, that of its payload, the PHASE
written, and its piece of a result. -/
structure Slot where
  index : BitVec 16
  addr : BitVec 64
  paddr : BitVec 64
  phase : Bool
  piece : Piece
  deriving DecidableEq, Repr

/-- One ring's block (Tables 4-14 to 4-16). prod is P and cons is C (R103); slots are the written ones between them. -/
structure Ring where
  base : BitVec 64
  pbase : BitVec 64
  en : Bool
  log2size : BitVec 4
  vec : BitVec 5
  irqEn : Bool
  pstride : BitVec 3
  prod : BitVec 16
  cons : BitVec 16
  phase : Bool
  err : Bool
  errCode : BitVec 4
  slots : List Slot
  skip : Nat
  deriving DecidableEq, Repr

/-- An MSI-X table entry with its pending bit, its moderation register and what waits for it (R119, R120). -/
structure Vec where
  addr : BitVec 64
  data : Reg
  masked : Bool
  pba : Bool
  count : Byte
  time : BitVec 12
  waiting : Nat
  oldest : Nat
  sent : Nat
  deriving DecidableEq, Repr

/-- The HIF page and the endpoint (R95 to R127). -/
structure Hif where
  run : Bool
  width : BitVec 2
  speed : BitVec 2
  bme : Bool
  d3 : Bool
  msixEn : Bool
  funcMask : Bool
  linkUp : Bool
  configReady : Bool
  rings : Vector Ring 16
  vecs : Vector Vec 32
  deriving DecidableEq, Repr

/-- A result held for a ring (R108): payload bytes of it already in slots, and whether its completion asks for an interrupt. -/
structure HeldRes where
  res : Result
  sent : Nat
  irq : Bool
  deriving DecidableEq, Repr

/-- A ring's spill area in DRAM (R108): held results, bytes used, whether it filled, completions of accepted commands that found it full and wait
for its space (log 77), results dropped since the last gap result. -/
structure Spill where
  held : List HeldRes
  used : Nat
  full : Bool
  behind : List HeldRes
  dropped : Nat
  dropStamp : BitVec 72
  deriving DecidableEq, Repr

/-- An accepted command not settled yet. members are its units; prev the values an inverse action restores (R117); batch the status of
each entry of a batch that waits for some of them (R118). -/
structure Flight where
  ring : Nat
  opcode : Nat
  tag : BitVec 16
  irq : Bool
  gang : Bool
  unit : BitVec 16
  members : List Nat
  done : List Nat
  failed : List Nat
  restored : List Nat
  settled : List Nat
  inverse : Bool
  invStarted : Bool
  prev : List (Nat × Nat)
  arg : Nat
  stamp : Nat
  batch : Option (List (Nat × Nat))
  deriving DecidableEq, Repr

/-- A fetched command that waits unaccepted (R546), and its descriptors; due: its wait has ended and its row stands in the queue. -/
structure Waiting where
  ring : Nat
  cmd : Instr
  count : Nat
  due : Bool
  deriving DecidableEq, Repr

/-- Of a to-device ring, the last stamps at which a command of it settled and at which its source was held (R107, R546). -/
structure Intake where
  settledAt : Option Nat
  heldAt : Option Nat
  deriving DecidableEq, Repr

/-- An internal queue (R121 to R125): words with their end marks, the packet counter, notices given, a consumer
standing in a stall, a producer standing in one, and how many packets are still to be discarded as they arrive. -/
structure IQueue where
  depth : Nat
  words : List (BitVec 64 × Bool)
  packets : Nat
  notices : Nat
  midPacket : Bool
  readerWaits : Bool
  writerWaits : Option (BitVec 64 × Bool)
  discarding : Nat
  lastRead : BitVec 64
  deriving DecidableEq, Repr

/-! ## Outlet lanes -/

/-- Lane states (Table 5-5), in the order of their codes. -/
inductive LaneSt where
  | disabled | idle | connected | authorised | closing | energised | paused | stopping | opening | ended
  | unavailable | fault
  deriving DecidableEq, Repr

/-- Pilot states (LANE_CP.PSTATE), in the order of their codes. -/
inductive Pilot where
  | a | b | c | d | e | f | x | unqualified
  deriving DecidableEq, Repr

/-- What the pilot generator drives (R130): a steady level, or PWM with duty d. -/
inductive PilotForm where
  | plus12 | minus12 | pwm (d : Nat)
  deriving DecidableEq, Repr

/-- A power-module setpoint (Table 5-9). -/
structure Setpoint where
  mode : Nat
  vTgt : Nat
  iLim : Nat
  iRev : Nat
  pLim : Nat
  deriving DecidableEq, Repr

/-- A base-format FD frame on a PMCAN controller (R150, Table 5-9). -/
structure CanFrame where
  ident : Nat
  bytes : Bytes
  deriving DecidableEq, Repr

/-- The module side of a DC lane (R149 to R152): last STATUS, MOD_OFF, the setpoint asked for by the session core,
the last frame sent and the SEQ of the next. -/
structure DcMod where
  state : Nat
  faultCode : Byte
  vOut : BitVec 16
  iOut : BitVec 16
  temp : Byte
  seqEcho : Byte
  modOff : Bool
  seqTx : Byte
  want : Setpoint
  sent : Option CanFrame
  deriving DecidableEq, Repr

/-- One lane. held is LANE_STATE.HELD; admitHold the last LANE_ADMIT; before the state that preceded OPENING; causes
the fault causes of R143; fba and fbb what the inputs report (R144); next a PWM form waiting for its period start, drives steady forms with the
tick from which each is driven, formFrom the tick since which the form is in force, formWas the form before it (R130); the class of the last pilot samples, how many
consecutive ones have it and the tick of the last (R135); the same of the proximity samples (R136). -/
structure Lane where
  st : LaneSt
  target : LaneSt
  before : LaneSt
  endCause : Nat
  held : Bool
  admitHold : Bool
  grant : Bool
  assocFailed : Bool
  forced : Bool
  sess : BitVec 16
  pilot : Pilot
  vhi : Int
  vlo : Int
  rc : Nat
  rating : Nat
  fbaHigh : Bool
  fbbHigh : Bool
  coil : Bool
  limit : Nat
  form : PilotForm
  next : Option PilotForm
  nextFrom : Nat
  drives : List (Nat × PilotForm)
  formFrom : Nat
  formWas : PilotForm
  runClass : Pilot
  runCount : Nat
  sampled : Option Nat
  ppClass : Nat
  ppCount : Nat
  ppSampled : Option Nat
  causes : Reg
  dc : DcMod
  deriving DecidableEq, Repr

/-- A PMCAN controller (R150, Table 5-24). -/
structure Pmcan where
  tec : Byte
  rec_ : Byte
  estate : BitVec 2
  deriving DecidableEq, Repr

/-! ## Vehicle link -/

/-- Association states (Table 6-2), in the order of their codes. -/
inductive Assoc where
  | off | waitParm | sounding | waitRsp | waitMatch | matched | failed
  deriving DecidableEq, Repr

/-- One M-SOUND as measured on a lane (R169): its stamp and attenuation per carrier group in dB; no groups where the frame was lost to an impulse
(Table 6-1). -/
structure Sound where
  stamp : Nat
  lane : Nat
  countdown : Nat
  impulse : Bool
  groups : List Nat
  deriving DecidableEq, Repr

/-- A run (R163): its sequence number, RunID and source MAC, its candidates, its sounds, and whether its sounding is
complete. decision: what the matcher has decided and not yet returned (Table 6-11 DETAIL, lane, m[best], second,
sounds counted, m[0..31]); bornAt and bornLane the stamp and lane of its first request; sealKey the key of the event that completed its sounding. -/
structure Run where
  seq : Nat
  bornAt : Nat
  bornLane : Nat
  sealKey : Option EventKey
  runId : BitVec 64
  mac : BitVec 48
  candidates : List Nat
  sounds : List Sound
  attenInd : Bool
  decision : Option (Nat × Nat × Nat × Nat × Nat × List Nat)
  deriving DecidableEq, Repr

/-- A management message sent by a modem: its kind, its own and the vehicle's MAC address, the RunID and what it carries (R162, R164, R174). -/
structure Mme where
  kind : Nat
  src : BitVec 48
  dst : BitVec 48
  run : BitVec 64
  body : Bytes
  deriving DecidableEq, Repr

/-- An answer to the vehicle: message kind, response code, what it carries, and its EXI stream (R184). -/
structure Answer where
  kind : Nat
  code : Nat
  body : Bytes
  raw : Bytes
  deriving DecidableEq, Repr

/-- The vehicle link of one lane: association (Table 6-2), link, session (Tables 6-7, 6-19, 6-20). phase is HPHASE;
toggles the stamps of B-to-C changes; lastOut the last answer sent; sent the last management message; sack what the last frame with a failed PB
was acknowledged with; maxCur the current offered on an AC lane in 0.1 A (R179); tuples the schedule tuples offered, reneg a renegotiation under way,
dynamic the control mode (R177); mutualAuth a handshake that verified the vehicle, contract the verified contract chain; overFrom the stamp since which every cycle draws too much (R186). -/
structure LinkLane where
  assoc : Assoc
  attempt : Nat
  fiveFrom : Nat
  run : BitVec 64
  evMac : BitVec 48
  resends : Nat
  profile : List Nat
  own : Nat
  second : Nat
  sounds : Nat
  lastResult : Nat
  nmk : Nat
  nid : Nat
  toggles : List Nat
  tcp : Bool
  tls : Nat
  proto : Nat
  auth : Nat
  phase : Nat
  bpt : Bool
  session : Nat
  oldSession : Nat
  setUp : Bool
  lastReq : Bytes
  lastOut : Option Answer
  sent : Option Mme
  sack : List Bool
  maxCur : Nat
  tuples : Nat
  reneg : Bool
  dynamic : Bool
  mutualAuth : Bool
  contract : Bytes
  overFrom : Option Nat
  paramClamped : Bool
  tlsFailed : Bool
  identity : Bytes
  identPending : Bool
  authDone : Bool
  relay : Option (Nat × Nat)
  expiredRelays : List Nat
  cable : Option Nat
  cableClass : Nat
  viol : Nat
  violLast : Nat
  impRuns : Nat
  lostFrames : Nat
  deriving DecidableEq, Repr

/-- A survey that runs (R175): whether a lane has disturbed it. -/
structure Survey where
  started : Nat
  deriving DecidableEq, Repr

/-- The hub matcher and what the lanes share (R163 to R184). -/
structure Link where
  lanes : Vector LinkLane 32
  runs : List Run
  runSeq : Nat
  survey : Option Survey
  relaySeq : Nat
  trust : List (Nat × Bytes)
  trustBefore : List (Nat × Bytes)
  trustFrom : Nat
  deriving DecidableEq, Repr

def LinkLane.reset : LinkLane :=
  { assoc := .off, attempt := 0, fiveFrom := 0, run := 0, evMac := 0, resends := 0, profile := [], own := 255,
    second := 255, sounds := 0, lastResult := 0, nmk := 0, nid := 0, toggles := [], tcp := false, tls := 0, proto := 0,
    auth := 0, phase := 0, bpt := false, session := 0, oldSession := 0, setUp := false, lastReq := [],
    lastOut := none, sent := none, sack := [], maxCur := 0, tuples := 0, reneg := false, dynamic := false, mutualAuth := false, contract := [], overFrom := none,
    paramClamped := false, tlsFailed := false, identity := [], identPending := false,
    authDone := false, relay := none, expiredRelays := [], cable := none, cableClass := 0, viol := 0, violLast := 0,
    impRuns := 0, lostFrames := 0 }

def Link.reset : Link :=
  { lanes := .replicate 32 LinkLane.reset, runs := [], runSeq := 0, survey := none, relaySeq := 0, trust := [], trustBefore := [],
    trustFrom := 0 }

/-! ## Contactless tokens -/

/-- A purse slot as read or written (Table 7-3). -/
structure Purse where
  seq : Nat
  tally : Nat
  hub : Nat
  valid : Bool
  deriving DecidableEq, Repr

/-- A reservation held after a collapse in S5 or S6 (R206). -/
structure Held where
  antenna : Nat
  purseId : Nat
  n : Nat
  t : Nat
  g : Nat
  hub : Nat
  session : Nat
  deriving DecidableEq, Repr

/-- One reader (R190 to R211). step is the current step, none while polling or idle; lastPolled the antenna polled
last; fieldOff the stamp at which the field last went off; killHit what S1 found in the kill list; code the slot
resolution of Table 7-4 and n, t, hub its current value; g the ceiling answered; awaiting whether S3 awaits its answer;
refuse the REFUSED reason with which the session ends after its repair, 0 for none; written whether S5 has begun;
committed whether S7 is done; uid the UID of the selected PICC, kept for its field session only (R197); rnd the two RndA of the session, sessKey
its session key and cmdCtr the command counter (R199); sent the commands of the session as sent (R198); rfErrs the CRC and framing errors in a row
(R196). -/
structure Reader where
  antenna : Nat
  field : Bool
  step : Option Nat
  sessions : Nat
  tears : Nat
  multi : Nat
  lastPolled : Nat
  fieldOff : Nat
  purseId : Nat
  ident : Bytes
  code : Nat
  prim : Purse
  back : Purse
  n : Nat
  t : Nat
  g : Nat
  hub : Nat
  killHit : Bool
  awaiting : Bool
  written : Bool
  committed : Bool
  refuse : Nat
  uid : Bytes
  rnd : Bytes
  sessKey : Nat
  cmdCtr : Nat
  sent : List Bytes
  rfErrs : Nat
  held : Option Held
  deriving DecidableEq, Repr

/-- The token sequence engine; starter is the purse whose announced grant started each lane's session (R210). -/
structure Tok where
  readers : Vector Reader 4
  starter : Vector (Option Nat) 32
  deriving DecidableEq, Repr

def Purse.reset : Purse := { seq := 0, tally := 0, hub := 0, valid := false }

/-- lastPolled 7: the first poll begins at antenna 0. -/
def Reader.reset : Reader :=
  { antenna := 0, field := false, step := none, sessions := 0, tears := 0, multi := 0, lastPolled := 7, fieldOff := 0,
    purseId := 0, ident := [], code := 0, prim := Purse.reset, back := Purse.reset, n := 0, t := 0, g := 0, hub := 0,
    killHit := false, awaiting := false, written := false, committed := false, refuse := 0, uid := [], rnd := [], sessKey := 0,
    cmdCtr := 0, sent := [], rfErrs := 0, held := none }

def Tok.reset : Tok := { readers := .replicate 4 Reader.reset, starter := .replicate 32 none }

/-! ## The Abacus account ledger -/

/-- A ledger record (Table 8-1). state: 0 empty, 1 active, 2 blocked, 3 deleted. -/
structure Rec where
  fp : Nat
  uver : Nat
  credit : Nat
  pack : Nat
  capclass : Nat
  state : Nat
  ackLost : Bool
  settled : Nat
  unack : Nat
  local_ : Nat
  deriving DecidableEq, Repr

/-- A grant-table entry (R223) with the identity figures that its results report (Table 8-7). -/
structure Grant where
  slot : Nat
  method : Nat
  g : Nat
  d : Nat
  stopped : Bool
  announced : Bool
  revoked : Bool
  key : Nat
  purseT : Nat
  purseId : Nat
  purseSeq : Nat
  deriving DecidableEq, Repr

/-- An entry that speaks of no record. -/
def Grant.blank : Grant := ⟨0x1FFFFFF, 0, 0, 0, false, false, false, 0, 0, 0, 0⟩

/-- What the Abacus has still to announce (R225 to R229): kind 0 decision, 1 revocation, 2 STOP; target entry;
the reason of a decision (Table 8-6); about: the request decided on, for a decision that fills no entry, or the entry
revoked. -/
structure Announce where
  due : Nat
  kind : Nat
  target : Nat
  reason : Nat
  about : Grant
  deriving DecidableEq, Repr

/-- An identity submission or reservation request that waits for READY (R244). ues: the slots whose reads it will meet an uncorrectable error on. -/
structure AuthReq where
  entry : Nat
  ident : Bytes
  method : Nat
  purseT : Nat
  purseId : Nat
  purseSeq : Nat
  ues : List Nat
  deriving DecidableEq, Repr

/-- A journal entry (R239), also the form of a pending-table entry. dirty: changed since it was last journaled. -/
structure JEntry where
  slot : Nat
  kind : Nat
  stamp : Nat
  image : Rec
  dirty : Bool
  deriving DecidableEq, Repr

/-- A journal block (R239). -/
structure JBlock where
  seq : Nat
  stamp : Nat
  entries : List JEntry
  deriving DecidableEq, Repr

/-- A snapshot copy in NAND (R240). sealPage: what its seal page holds, the generation repeated and the digest of the body; none while the page is not
written or cannot be read. -/
structure SnapCopy where
  gen : Nat
  start : Nat
  jStart : Nat
  image : List (Nat × Rec)
  sealPage : Option (Nat × BitVec 256)
  deriving DecidableEq, Repr

/-- An orphan-list entry (R231). -/
structure Orphan where
  purseId : Nat
  key : Nat
  seq : Nat
  total : Nat
  lane : Nat
  deriving DecidableEq, Repr

/-- The Abacus section of a commit record (Table 8-8). -/
structure AbcImage where
  jseq : Nat
  pending : List JEntry
  snapStart : Nat
  newestB : Bool
  rseq : Nat
  deriving DecidableEq, Repr

/-- The Abacus (R215 to R246) apart from its MRAM and NAND regions. snapDel: the slots whose records were deleted before the running copy started;
snapPct: ABC_STAT.SNAP_PCT as last read, or at its end; reserve: the reserve blocks left in each copy area. -/
structure Abc where
  ready : Bool
  restoring : Bool
  dram : List (Nat × Rec)
  quarantine : List Nat
  grants : Vector (Option Grant) 36
  announces : List Announce
  waiting : List AuthReq
  pend : List JEntry
  writing : List JBlock
  lineOut : List Bytes
  jseq : Nat
  rseq : Nat
  jheld : Bool
  debited : List Nat
  snap : Option SnapCopy
  snapB : Bool
  snapDel : List Nat
  snapPct : Nat
  reserve : Vector Nat 2
  newestB : Bool
  capRec : Nat
  ddrUnavailable : Bool
  keys : List (Nat × Nat)
  deriving DecidableEq, Repr

/-! ## Safety island -/

/-- A safety input: its filtered state, its faults (R261, R262), the stamps at which CROSS and STUCK were seen last, and whether both
inputs of its DUAL pair have read open together since its DISC fault; core and coreRun: the safety core's own filtered state, and the samples in a row
that differ from it (R254). -/
structure Sin where
  closed : Bool
  cross : Bool
  stuck : Bool
  disc : Bool
  crossAt : Nat
  stuckAt : Nat
  bothOpen : Bool
  core : Bool
  coreRun : Nat
  deriving DecidableEq, Repr

/-- A test-pulsed supply (R259): driving, switched off, its first pulse start since it began to drive, its last pulse; lowSeen and highSeen: the readback
of that pulse still to be judged, the lowest voltage in the pulse, and the voltage and the ticks at the current limit 24,576 ticks after its start. -/
structure Tps where
  on : Bool
  fault : Bool
  first : Option Nat
  last : Option Nat
  lowSeen : Option Nat
  highSeen : Option (Nat × Nat)
  deriving DecidableEq, Repr

/-- The island's part of a lane: trip latches (Table 9-2), the inputs that set latch 0, the self-test under way (TSW
from, its first comparison), the insulation cycle under way, counters of Table 9-3 and of R269; resSq, resSum and resW: the sums of the residual windows
and w as last evaluated; offPulse: the end of the forerunner off-pulse under way and what its readback shows. -/
structure SafLane where
  latch : BitVec 9
  sinBy : List Nat
  tested : Bool
  scPermit : Bool
  iso : BitVec 2
  rp : Nat
  rn : Nat
  acRms : Nat
  dcMean : Int
  resSq : Nat
  resSum : Int
  resW : Nat
  testFrom : Option Nat
  testMean : Int
  testOk : Bool
  testHalf : Bool
  pointFrom : Nat
  isoFrom : Option Nat
  isoCycle : Nat
  isoClosed : Bool
  isoV : Int × Int
  isoV2 : Int × Int
  isoReady : Bool
  isoBad : Bool
  offFails : Nat
  offPulse : Option (Nat × Bool)
  dcCur : Nat
  dcVolt : Nat
  stuckOn : Nat
  deriving DecidableEq, Repr

/-- A judgement that is due (R253, R267): stamp, lane, and 0 feedback, 1 voltage or 2 off-path. -/
structure Judge where
  due : Nat
  lane : Nat
  kind : Nat
  deriving DecidableEq, Repr

/-- The safety island (R247 to R275). dead: disarmed until chip reset (R255); cfgBad: until the next profile switch
(R257). scNext, demandNext, stuckNext and divNext are the core pair's outputs for the next cycle start (R254, R256). -/
structure Saf where
  armed : Bool
  scRun : Bool
  cfgMatch : Bool
  dead : Bool
  cfgBad : Bool
  crc : Reg
  crcCount : Nat
  lastCycle : Option Nat
  sins : Vector Sin 72
  tps : Vector Tps 4
  lanes : Vector SafLane 32
  diverge : Vector Nat 72
  scNext : BitVec 32
  demandNext : BitVec 32
  stuckNext : BitVec 32
  divNext : Bool
  judges : List Judge
  shuntUntil : Option Nat
  deriving DecidableEq, Repr

def Sin.reset : Sin := { closed := false, cross := false, stuck := false, disc := false, crossAt := 0, stuckAt := 0, bothOpen := false, core := false, coreRun := 0 }

def Tps.reset : Tps := { on := false, fault := false, first := none, last := none, lowSeen := none, highSeen := none }

def SafLane.reset : SafLane :=
  { latch := 0, sinBy := [], tested := false, scPermit := false, iso := 0, rp := 65535, rn := 65535, acRms := 0,
    dcMean := 0, resSq := 0, resSum := 0, resW := 0, testFrom := none, testMean := 0, testOk := false, testHalf := false,
    pointFrom := 0, isoFrom := none, isoCycle := 0, isoClosed := false, isoV := (0, 0), isoV2 := (0, 0),
    isoReady := false, isoBad := false, offFails := 0, offPulse := none, dcCur := 0, dcVolt := 0, stuckOn := 0 }

def Saf.reset : Saf :=
  { armed := false, scRun := false, cfgMatch := false, dead := false, cfgBad := false, crc := 0,
    crcCount := 0, lastCycle := none, sins := .replicate 72 Sin.reset, tps := .replicate 4 Tps.reset,
    lanes := .replicate 32 SafLane.reset, diverge := .replicate 72 0, scNext := 0, demandNext := 0, stuckNext := 0, divNext := false,
    judges := [], shuntUntil := none }

/-! ## Load switch channels -/

/-- Channel states (Table 10-1), in the order of their codes. -/
inductive ChSt where
  | off | start | on | retryWait | latched | thermal | supply
  deriving DecidableEq, Repr

/-- One channel. left is RETRY_LEFT of an auxiliary channel and TRIPS of a coil channel; cmd the commanded state;
tripped: a coil channel that waits for its enable to fall (R281); since the stamp of entry to st; offAt the stamp at
which the driver last switched off; onTime the on-time of the last economiser period read back (R279). -/
structure Chan where
  st : ChSt
  cause : Nat
  left : Nat
  cmd : Bool
  tripped : Bool
  openLoad : Bool
  underload : Bool
  cur : Nat
  since : Nat
  offAt : Option Nat
  onTime : Nat
  deriving DecidableEq, Repr

/-- A quad's sensor (R289). -/
structure Quad where
  temp : Int
  warn : Bool
  therm : Bool
  count : Nat
  deriving DecidableEq, Repr

/-- The load switches: supply (R292), heartbeat and whether it was lost (R293), the restart stamp, the quads that have restarted. -/
structure Lsw where
  chans : Vector Chan 48
  quads : Vector Quad 12
  vls : Nat
  uv : Bool
  hb : Bool
  hbLost : Bool
  restart : Option Nat
  restarted : List Nat
  deriving DecidableEq, Repr

def Chan.reset : Chan :=
  { st := .off, cause := 0, left := 0, cmd := false, tripped := false, openLoad := false, underload := false, cur := 0,
    since := 0, offAt := none, onTime := 0 }

def Quad.reset : Quad := { temp := 0, warn := false, therm := false, count := 0 }

def Lsw.reset : Lsw :=
  { chans := .replicate 48 Chan.reset, quads := .replicate 12 Quad.reset, vls := 0, uv := false, hb := false, hbLost := false,
    restart := none, restarted := [] }

/-! ## Metrology intake, energy engine, register book -/

/-- One channel's detectors (R320, R321) and its stuck condition (R302) with the sample times between which it held,
spells: from and, once over, to. -/
structure MetChan where
  rms : Nat
  aggRms : Nat
  pkmax : Int
  pkmin : Int
  env : Nat
  shownEnv : Nat
  isOver : Bool
  under : Bool
  stuck : Bool
  stuckLevel : Bool
  spells : List (Nat × Option Nat)
  blockSq : Nat
  envDone : Nat
  deriving DecidableEq, Repr

/-- The frequency tracker of a lane (R314 to R316). Instants are in 2^-16 stage-3 intervals. -/
structure Tracker where
  trk : Nat
  period : Nat
  valid : Nat
  misses : Nat
  nextJ : Nat
  prev : Int
  armed : Bool
  lastCross : Option Nat
  meas : Option Nat
  decided : Option Nat
  deriving DecidableEq, Repr

/-- Calibration of a lane as it stood before a write at a stamp: in use until the nominal tick from which what was written
applies (R319), once that tick is known. -/
structure MetOld where
  written : Nat
  effective : Option Nat
  lcal : Reg
  sh : List Reg
  deriving DecidableEq, Repr

/-- The chain of one lane (R310 to R319): start stamp, cycle start and length, counters; cutAt: the stamp at which a fall of the pair's HOLD
ended its enable, its last cycle still to be taken; next3: the first stage-3 output that no cycle has taken; shownPeriod and shownTrk: the
tracker as it stood after the last cycle end (R325), and shownEnv of a channel its envelope there; prevBegin: the start of the cycle before; thrOld:
MET_LCFG, MET_LTHRV and MET_LTHRI as they stood until a profile switch at a stamp (R319). -/
structure MetLane where
  start : Option Nat
  run : Bool
  begin : Nat
  len : Nat
  cyc : Nat
  lastSample : Nat
  blockCyc : Nat
  blockCnt : Nat
  following : Bool
  chans : Vector MetChan 8
  tracker : Tracker
  next3 : Nat
  shownPeriod : Nat
  shownTrk : Nat
  prevBegin : Option Nat
  thrOld : List (Nat × List Reg)
  old : List MetOld
  cutAt : Option Nat
  deriving DecidableEq, Repr

/-- One recorded cycle of a capture (Table 11-9). -/
structure CapCycle where
  first : Nat
  last : Nat
  len : Nat
  count : Nat
  flags : Byte
  samples : List (List Int)
  deriving DecidableEq, Repr

/-- A running capture (R323). -/
structure Capture where
  lane : Fin 32
  tag : BitVec 16
  mask : Byte
  source : Nat
  pre : Nat
  post : Nat
  onEvent : Bool
  evMask : BitVec 16
  accepted : Nat
  trigStamp : Nat
  trigBit : Option Nat
  trigSample : Nat
  cycles : List CapCycle
  deriving DecidableEq, Repr

/-- Intake: MCLK clocks (R299) with the starts and stops that are due, lane chains, captures, group calibration
kept in use until its effective tick (R319). -/
structure Met where
  mclk : BitVec 8
  mclkDue : List (Nat × Nat × Bool)
  switched : Bool
  lanes : Vector MetLane 32
  captures : Vector (Option Capture) 4
  gOld : Vector (List (Nat × Reg)) 8
  deriving DecidableEq, Repr

/-- Residues of a group, in fine units (R337). -/
structure Residue where
  p : Int
  q : Int
  s : Int
  deriving DecidableEq, Repr

/-- One lane of the energy engine apart from its accumulators (R335 to R341). scaled holds Table 12-4. -/
structure NrgLane where
  res : Vector Residue 4
  lastStamp : Nat
  cycles : Nat
  flags : Byte
  noload : BitVec 3
  quadT : BitVec 2
  sat : Bool
  flagged : Nat
  runOn : Bool
  runCount : Nat
  runUnion : Byte
  scaled : List Int
  oldCal : Option RegMap
  deriving DecidableEq, Repr

/-- One pulse output (R343 to R348). -/
structure Pulse where
  carry : Nat
  sched : List Nat
  lastStart : Option Nat
  active : Bool
  endAt : Nat
  count : Nat
  altLast : Option Nat
  deriving DecidableEq, Repr

/-- The accumulators of R328: lane, then index 8g + q. -/
abbrev Accs := Vector (Vector Nat 32) 32

/-- The energy engine (R328 to R355). -/
structure Nrg where
  accs : Accs
  lanes : Vector NrgLane 32
  pulses : Vector Pulse 8
  deriving DecidableEq, Repr

/-- A session record (Table 13-7). -/
structure SessRec where
  bsess : Nat
  isOpen : Bool
  flagged : Bool
  magnetic : Bool
  clkEvent : Bool
  grantHeld : Bool
  openStamp : Nat
  openSec : Nat
  openValid : Bool
  aPlus0 : Nat
  aMinus0 : Nat
  residue : Nat
  charged : Nat
  rates : Byte
  deriving DecidableEq, Repr

/-- The register-book objects of Tables 13-1 and 13-9: what its image in a commit record holds. -/
structure BookImage where
  rate : Nat
  clkValid : Bool
  sealOpen : Bool
  debitEn : Bool
  tblActive : Nat
  tblPending : Nat
  period : Nat
  lastClose : Nat
  ivFlags : BitVec 4
  ivStart : Nat
  ivStartSec : Nat
  calWrites : Nat
  calRefused : Nat
  magOn : BitVec 4
  roleCtr : Vector Nat 4
  tr : Vector (Vector (Nat × Nat) 8) 32
  ivVal : Vector Nat 32
  md : Vector (Vector (Nat × Nat) 8) 33
  sess : Vector SessRec 32
  unattr : Vector Nat 32
  magE : Vector Nat 32
  deriving DecidableEq, Repr

/-- A clock step or billing close asked for and not yet taken (R360): the stamp it takes effect at, the new second,
who asked (0 host, 1 site line) and with which role. -/
structure StepReq where
  due : Nat
  newSec : Nat
  source : Nat
  role : Nat
  deriving DecidableEq, Repr

/-- The register book: its image objects, and what is not in the image. outageF: the restored F and its RTC second
while the outage is not yet completed (R372). -/
structure Book where
  img : BookImage
  cal : RegMap
  calGen : Nat
  calOk : Bool
  steps : List StepReq
  closes : List Nat
  rateDue : Option Nat
  outage : Option (Nat × Nat)
  noclockFrom : Option Nat
  caseOpen : Bool
  magLevel : Vector Nat 4
  magPeak : Vector Nat 4
  magFrom : Vector Nat 4
  magEvents : Vector Nat 4
  deriving DecidableEq, Repr

/-- A kept BILLING result (R368). -/
structure BillCopy where
  period : Nat
  detail : Byte
  stamp : BitVec 72
  payload : Bytes
  deriving DecidableEq, Repr

/-- A calibration copy and a journal record (R379). -/
structure CalCopy where
  gen : Nat
  regs : RegMap
  deriving DecidableEq, Repr

structure CalJournal where
  target : Nat
  value : Reg
  gen : Nat
  stamp : Nat
  deriving DecidableEq, Repr

/-! ## The Ubrek site line -/

/-- A logical frame of the site line (R399, Table 14-4) without its NID, counter and codes. -/
structure LineFrame where
  ty : Nat
  prio : Nat
  ackReq : Bool
  hops : Nat
  route : List Nat
  src : Nat
  dst : Nat
  xmit : Nat
  next : Nat
  seq : Nat
  body : Bytes
  deriving DecidableEq, Repr

/-- A frame that waits to be sent. fwd: the FCNT a repeater keeps. sends: times sent; toNext: unacknowledged sends to its
NEXT; upward: sent to the parent, the parent candidate used last in cand; delimAt: for a TIME frame, the stamp at which its accumulated delay starts to
run, none for one that this part originates. -/
structure LineOut where
  f : LineFrame
  band : Bool
  fwd : Option Nat
  sends : Nat
  toNext : Nat
  upward : Bool
  cand : Nat
  delimAt : Option Nat
  deriving DecidableEq, Repr

/-- The transmission that runs: its frame and logical bytes, its first and last symbol's ends in ticks; ack: an ACK. -/
structure LineTx where
  out : LineOut
  bytes : Bytes
  start : Nat
  stop : Nat
  ack : Bool
  deriving DecidableEq, Repr

/-- A tone map (R395): its TMI, modulation 0 ROBUST, 1 DBPSK, 2 DQPSK, data-subcarrier mask. -/
structure ToneMap where
  tmi : Nat
  modu : Nat
  mask : Nat
  deriving DecidableEq, Repr

/-- A neighbour (R407): its address and level, the SNR of the last 8 frames heard from it, the map built for it with the one
before (R395), and the map that its SOUND_RPT gave for frames to it. -/
structure LineNeigh where
  addr : Nat
  level : Nat
  snrs : List Nat
  map : Option ToneMap
  prevMap : Option ToneMap
  txMap : Option ToneMap
  deriving DecidableEq, Repr

/-- A line test (R415): kind, tone, end. -/
structure LineTestRun where
  kind : Nat
  tone : Nat
  until_ : Nat
  deriving DecidableEq, Repr

/-- The site line. st is LINE_STAT.STATE. members is the last member list with its candidate bits; bp and slot the beacon's
values in 100 ms and 10 ms; beaconAt the start of the last beacon sent or heard; unlisted counts beacons heard since the last JOIN, none before
the first; heard the stamps at which the coordinator last heard its members; joins the nodes that have asked to join;
soundReq the SOUND_REQ address of the last beacon; quiet the beacon periods with nothing sent; reports the SNR reports that the
coordinator holds; rxSeqs the last 16 SEQ delivered by source; repeated the broadcasts repeated; tick the stamp of the last
RTC rollover; sounding: the stamp at which the SOUND of a LINE_SOUND ended, with the reports counted since; txOff the stamp at which LINE_TXEN fell
last. fcnt is the next counter value. -/
structure LineSt where
  st : Nat
  level : Nat
  parents : List Nat
  neigh : List LineNeigh
  tone : List Nat
  nextTone : Option (List Nat × Nat)
  beaconNo : Nat
  members : List Nat
  bp : Nat
  slot : Nat
  beaconAt : Option Nat
  unlisted : Option Nat
  heard : List (Nat × Nat)
  joins : List Nat
  soundReq : Nat
  quiet : Nat
  reports : List (Nat × List Nat)
  queue : List LineOut
  tx : Option LineTx
  txOff : Nat
  awaiting : Option LineOut
  acks : List (Nat × LineOut)
  seq : Nat
  fcnt : Nat
  rxSeqs : List (Nat × List Nat)
  repeated : List (Nat × Nat)
  advAt : Nat
  tick : Nat
  sounding : Option (Nat × Nat)
  test : Option LineTestRun
  freq : Nat
  blank : Nat
  lost : Nat
  txCount : Nat
  rxCount : Nat
  deriving DecidableEq, Repr

def LineSt.reset : LineSt :=
  { st := 0, level := 15, parents := [], neigh := [], tone := [0, 0, 0, 0], nextTone := none, beaconNo := 0, members := [], bp := 0,
    slot := 0, beaconAt := none, unlisted := none, heard := [], joins := [], soundReq := 0xFFFF, quiet := 0, reports := [], queue := [],
    tx := none, txOff := 0, awaiting := none, acks := [], seq := 0, fcnt := 0, rxSeqs := [], repeated := [], advAt := 0, tick := 0,
    sounding := none, test := none, freq := 0, blank := 0, lost := 0, txCount := 0, rxCount := 0 }

/-! ## Keys, the battery island, fuses -/

/-- A key of Table 15-4 in key RAM or in an MRAM copy. Values are secret numbers. -/
structure KeyEntry where
  id : Nat
  value : Nat
  deriving DecidableEq, Repr

/-- An MRAM key copy (R429). trailer: the HMAC-SHA-256 under STORE of everything before it, once it is written. -/
structure KeyCopy where
  gen : Nat
  counter : Nat
  epoch : Nat
  keys : List KeyEntry
  trailer : Option (BitVec 256)
  deriving DecidableEq, Repr

/-- A key update message that has passed checks 1 to 9 (R433): the new key set, its copy, the fuse operations, its switch stamp. -/
structure KeyPending where
  counter : Nat
  keys : List KeyEntry
  prog : List (Nat × BitVec 384)
  revoke : List Nat
  lock : Bool
  generated : List Nat
  switchAt : Nat
  copyDone : Bool
  deriving DecidableEq, Repr

/-- The D-die side of keys and trust (R418 to R438). rootReg: the root as taken by the derivation engine. -/
structure Keys where
  rootReg : Option Nat
  generating : Bool
  debug : Bool
  rngOk : Bool
  retLost : Bool
  keys : List KeyEntry
  pendingMsg : Option KeyPending
  debugCounter : Nat
  deriving DecidableEq, Repr

/-- A latched change of a tamper input while unpowered (R377, R382): opened, with its RTC second. -/
structure Latched where
  opened : Bool
  sec : Nat
  deriving DecidableEq, Repr

/-- The battery island (R65, R66, R377, R418 to R423, R448, R464). caseTrig: the case has opened and its trigger has not run yet. -/
structure Island where
  root : Option Nat
  integrity : Bool
  rtcSec : Nat
  rtcValid : Bool
  elapsed : Nat
  elapsedOk : Bool
  sealOpen : Bool
  caseOpen : Bool
  sealLatch : List Latched
  caseOpenings : Nat
  caseFirst : Nat
  caseTrig : Bool
  unpoweredCauses : List Nat
  tamp : Reg
  tampSec : Nat
  keyTally : Nat
  antiRollback : Nat
  deriving DecidableEq, Repr

/-- Fuses of the two dies (R93, R419, R427, R430, R465). -/
structure Fuses where
  dieIdD : BitVec 64
  dieIdA : BitVec 64
  asn : BitVec 64
  variant : BitVec 4
  subsysVendor : BitVec 16
  subsys : BitVec 16
  epoch : Nat
  owners : Vector (Option (BitVec 384)) 4
  revoked : BitVec 4
  debugLock : Bool
  level : Nat
  deriving DecidableEq, Repr

/-! ## Management, logs, updates -/

/-- A stored legal-log entry (R452). payload is its bytes 32 to 79. -/
structure LogEntry where
  lseq : BitVec 64
  kind : Byte
  outside : Bool
  stamp : BitVec 72
  sec : Nat
  secValid : Bool
  payload : Bytes
  chain : BitVec 128
  deriving DecidableEq, Repr

/-- The legal-log region of MRAM (R451 to R453). cap: how many entries the region holds (log 9). -/
structure LegalLog where
  entries : List LogEntry
  lseq : BitVec 64
  ack : BitVec 64
  lost : Nat
  chain : BitVec 128
  cap : Nat
  deriving DecidableEq, Repr

/-- A schedule taken (R460). htcForm: the time is an HTC value, not an RTC second. -/
structure Schedule where
  htcForm : Bool
  version : Reg
  ident : BitVec 64
  time : Nat
  window : Nat
  reachedAt : Option Nat
  deriving DecidableEq, Repr

/-- The boot record (R457): C, V, the state of V, the schedule, the elapsed-second values of R448. -/
structure BootRec where
  conf : Reg
  cand : Reg
  state : Nat
  sched : Option Schedule
  resets : List Nat
  candFormat : Nat
  confFormat : Nat
  deriving DecidableEq, Repr

/-- A copy of the boot record in MRAM (R457): its generation, the record, and the CRC-32 over both. -/
structure BootCopy where
  gen : Nat
  body : BootRec
  crc : BitVec 32
  deriving DecidableEq, Repr

/-- A profile slot (R89): its header fields and its body. -/
structure ProfSlot where
  magic : Reg
  index : Nat
  format : Nat
  minBundle : Reg
  gen : Nat
  length : Nat
  digest : BitVec 256
  body : Bytes
  deriving DecidableEq, Repr

/-- A download in progress (R456). last: its last chunk is stored and it awaits verification. -/
structure Download where
  bytes : Bytes
  stage : Bool
  last : Bool
  deriving DecidableEq, Repr

/-- An event-log record (R450). -/
structure EventRec where
  eseq : Nat
  page : Nat
  kind : Nat
  severity : Nat
  lane : Nat
  stamp : Nat
  sec : Nat
  secValid : Bool
  data : Bytes
  deriving DecidableEq, Repr

/-- The management core and its registers (R439 to R469). limits: how many consecutive samples each sensor
condition has held (temperature warning and critical of two dies, five rails). eexp: the last event record exported;
schedWait: schedules that wait for shedding level 4 to end, with their source (0 host, 1 site line, 2 partner); blockDue: block
resets that a fault reaction has asked for. -/
structure Mgt where
  mcRun : Bool
  shed : Nat
  hold : Bool
  trial : Bool
  trialEnded : Bool
  verRun : Reg
  runFormat : Nat
  bootKind : BitVec 2
  bootVer : Reg
  download : Option Download
  sensors : Vector Int 10
  limits : Vector Nat 9
  nmi : List Nat
  eseq : Nat
  edrop : Nat
  elog : List EventRec
  eexp : Nat
  schedWait : List (Bytes × Nat)
  copyDue : Bool
  blockDue : List Nat
  deriving DecidableEq, Repr

/-! ## Display ports -/

/-- A changed line of an update: its row, the stored greys and the targets. -/
structure EpdLine where
  row : Nat
  old : List Nat
  new : List Nat
  deriving DecidableEq, Repr

/-- An accepted update that has not started (R474): rows y0 … y1, mode, new pixel values. -/
structure EpdJob where
  y0 : Nat
  y1 : Nat
  mode : Nat
  pixels : List (List Nat)
  deriving DecidableEq, Repr

/-- The update that runs: a pass of the recovery clear (R483) or a job; its changed lines, the band and reading that its start
has fixed, its frames and the next of them, the stamp of its first frame. -/
structure EpdRun where
  pass : Option Nat
  mode : Nat
  lines : List EpdLine
  band : Nat
  reading : Int
  frames : Nat
  frame : Nat
  start : Nat
  deriving DecidableEq, Repr

/-- What a port's rails and engine do (R480): resting with the rails off; reading the temperature of a starting update;
waiting for PWRGOOD; waiting for the first frame; driving; powered between updates; VCOM_EN low and PMIC_EN to follow. -/
inductive EpdStage where
  | rest | reading | powering | ready | driving | idle | down
  deriving DecidableEq, Repr

/-- A display port (R470 to R488). since: the stamp at which stage was entered. image: none while unknown (R473); unif: none
until loaded, when every value is 8. refusedAt: the stamp of a refused recovery clear. temp: the last reading with its
stamp. script: what the last port start wrote to the PMIC, none until it is written. rows: the last frame, a skipped row none. -/
structure EpdPort where
  on : Bool
  dirty : Bool
  cleared : Bool
  stage : EpdStage
  since : Nat
  pmicEn : Bool
  vcomEn : Bool
  pwrgood : Bool
  image : Option (List (List Nat))
  unif : Option (List (List Nat))
  jobs : List EpdJob
  run : Option EpdRun
  refusedAt : Option Nat
  temp : Option (Int × Nat)
  band : Nat
  lines : Nat
  frame : Nat
  duty : Nat
  req : Nat
  rx : Bytes
  txFree : Nat
  script : Option (List (Nat × Nat × Nat))
  rows : List (Option Bytes)
  deriving DecidableEq, Repr

def EpdPort.reset : EpdPort :=
  { on := false, dirty := false, cleared := false, stage := .rest, since := 0, pmicEn := false, vcomEn := false, pwrgood := false,
    image := none, unif := none, jobs := [], run := none, refusedAt := none, temp := none, band := 0, lines := 0, frame := 0, duty := 0,
    req := 0, rx := [], txFree := 0, script := none, rows := [] }

/-! ## Redundant pairs -/

/-- The pair interlock, link and handover (R489 to R509). lineLow: PAIR_HOLD_N reads low. probes: clean probes since the
part drives or since the last contention; contend: consecutive contention samples. enabled: the lane enables are in
effect (R498). settled: healthy throughout T_SETTLE. byTakeback, byHandover, byFeeds: what set the pair hold;
feedsLow: the condition of the last one. highFrom: the stamp since which the line reads high. probeWin: the window of the last
probe. tbAt: the stamp of the last TAKEBACK sent. sentSeq: the last journal block sent. bulkTx: the image being sent as BULK pages, until the partner
acknowledges a block from its J_START on; bulkRx: the group, slots still to come, J_START and next page of the image being received.
sentAt, sent: the stamp at which frames were sent last, and those frames. -/
structure Pair where
  pri : Bool
  pres : Bool
  lineLow : Bool
  drive : Bool
  hold : Bool
  driveFrom : Nat
  probes : Nat
  contend : Nat
  enabled : Bool
  wasHealthy : Bool
  settled : Bool
  linkUp : Bool
  sync : Bool
  mismatch : Bool
  pHealthy : Bool
  pHold : Bool
  pSync : Bool
  pFeeds : BitVec 2
  pVer : Reg
  pConf : Reg
  pDone : Nat
  tbAsked : Bool
  released : Bool
  byTakeback : Bool
  byHandover : Bool
  byFeeds : Bool
  releasedAt : Option Nat
  joined : Nat
  acked : Nat
  gap : Bool
  txSeq : Nat
  highFrom : Option Nat
  probeWin : Option Nat
  tbAt : Nat
  feedsLow : Bool
  sentSeq : Nat
  bulkTx : Option SnapCopy
  bulkRx : Option (Nat × List Nat × Nat × Nat)
  sentAt : Nat
  sent : List Bytes
  deriving DecidableEq, Repr

def Pair.reset : Pair :=
  { pri := false, pres := false, lineLow := false, drive := false, hold := false, driveFrom := 0, probes := 0, contend := 0,
    enabled := false, wasHealthy := false, settled := false, linkUp := false, sync := false, mismatch := false,
    pHealthy := false, pHold := false, pSync := false, pFeeds := 0, pVer := 0, pConf := 0, pDone := 0, tbAsked := false,
    released := false, byTakeback := false, byHandover := false, byFeeds := false, releasedAt := none, joined := 0,
    acked := 0, gap := false, txSeq := 0, highFrom := none, probeWin := none,
    tbAt := 0, feedsLow := false, sentSeq := 0, bulkTx := none, bulkRx := none, sentAt := 0, sent := [] }

/-! ## The counting board -/

/-- A transfer that a requester asks for at a target, or that holds it: its length in beats of 64 bytes; write: what it writes, held in the
target's write buffer until its last beat is accepted (R514). -/
structure ArbReq where
  requester : Fin 16
  target : Nat
  beats : Nat
  write : Option ArbWrite
  deriving DecidableEq, Repr

/-- The counting board and the claim register (R510 to R523): counters, their values at the last window start, requests that
wait, grants, requesters barred from a bank until the next window, cut-offs; the bytes that finished transfers have written to DRAM and to the shared
SRAM (log 109). -/
structure Arb where
  credit : Vector Int 16
  shown : Vector Int 16
  waiting : List ArbReq
  grants : List ArbReq
  barred : List (Fin 16 × Nat)
  hogs : Vector Nat 16
  protId : Fin 16
  claim : Reg
  dram : List Host.Cell
  sram : List Host.Cell
  deriving DecidableEq, Repr

def Arb.reset : Arb :=
  { credit := .replicate 16 0, shown := .replicate 16 0, waiting := [], grants := [], barred := [], hogs := .replicate 16 0,
    protId := 0, claim := 0, dram := [], sram := [] }

/-- MRAM regions of the vehicle link (R175), tokens (R213) and safety island (R258): the harness table, the kill list,
the weld and off-path latches; and of the display ports (R475): waveform tables by 24 × port + 3 × band + mode; and of the
site line (R400): the end of the block of counter values reserved, the highest FCNT delivered by source. -/
structure NvLinks where
  xt : Option (List Nat)
  kill : List Nat
  weld : BitVec 32
  offpath : BitVec 32
  waves : List (Nat × Bytes)
  lineEnd : Nat
  lineSeen : List (Nat × Nat)
  deriving DecidableEq, Repr

def NvLinks.reset : NvLinks := { xt := none, kill := [], weld := 0, offpath := 0, waves := [], lineEnd := 0, lineSeen := [] }

/-! ## MRAM, NAND and commits -/

/-- The record of a commit (Table 3-2), as data. -/
structure CommitImage where
  kind : Nat
  profile : Nat
  gen : Nat
  freeze : Nat
  rtcSec : Nat
  rtcValid : Bool
  dieId : BitVec 64
  bundle : Reg
  accs : Accs
  book : BookImage
  abacus : AbcImage
  pulses : List (Nat × Nat × Bool)
  deriving DecidableEq, Repr

/-- A commit slot in MRAM (Table 3-2): magic, format, header generation and freeze stamp; the body once written; the trailer (generation
repeated, digest) once written. -/
structure CommitSlot where
  magic : Nat
  format : Nat
  gen : Nat
  freeze : Nat
  image : Option CommitImage
  trailer : Option (Nat × BitVec 256)
  deriving DecidableEq, Repr

/-- The MRAM directory (Table 3-8): magic, capacity in bytes, base and size of every region that is not fixed. -/
structure Directory where
  magic : Reg
  capacity : Nat
  regions : List (Nat × Nat)
  deriving DecidableEq, Repr

/-- A commit in progress (R68, R75): its kind, F, generation, target slot and, once the tick of F is past, the frozen image. cause: the GLB_RST_CAUSE bit of the chip reset that follows. -/
structure Commit where
  kind : Nat
  freeze : Nat
  gen : Nat
  slotB : Bool
  shadow : Option CommitImage
  bodyDone : Bool
  cause : Option Nat
  deriving DecidableEq, Repr

/-- Everything MRAM and NAND hold (R88). dir: none while the directory is blank (R85); nandPages: the pages of one NAND port's devices; qspi1:
whether QSPI1 is fitted; nandBad: the bad blocks of the two copy areas. -/
structure Nv where
  dir : Option Directory
  slotA : Option CommitSlot
  slotB : Option CommitSlot
  profiles : Vector ProfSlot 4
  shadow : List (Nat × ProfSlot)
  bootA : Option BootCopy
  bootB : Option BootCopy
  llog : LegalLog
  tblActive : Option Bytes
  tblPending : Option Bytes
  bills : List BillCopy
  calA : Option CalCopy
  calB : Option CalCopy
  calJournal : List CalJournal
  keyA : Option KeyCopy
  keyB : Option KeyCopy
  journal : List JBlock
  jcap : Nat
  orphans : List Orphan
  snapA : Option SnapCopy
  snapB : Option SnapCopy
  nandPages : Nat
  qspi1 : Bool
  nandBad : Vector (List Nat) 2
  links : NvLinks
  deriving DecidableEq, Repr

/-! ## Stops -/

/-- Why a step stops with a fault. None of the block's own faults stops it: they are error bits and results. -/
inductive Fault where
  /-- Kept for a later part of the spec that would stop the block; raised by no meaning of this model (safe). -/
  | halted
  deriving DecidableEq, Repr

/-- Why a step refuses. -/
inductive Refusal where
  /-- The row has no meaning yet (raised only by arms of the dispatch; safe). -/
  | notModelled (mnemonic : String)
  deriving DecidableEq, Repr

/-! ## The whole state -/

/-- The state of the TSU-3272. Fields are grouped by chapter; pending is the queue of commands (first in, first out). -/
structure State where
  htc : BitVec 72
  htcLoaded : Bool
  outside : Bool
  freeCtr : Nat
  seq : Sequencer
  timers : List Timer
  errs : Errs
  cfg : RegMap
  power : Power
  clocks : Clocks
  boot : Boot
  glb : Glb
  commit : Option Commit
  frozenAt : Option Nat
  chipResetDue : Option Nat
  hif : Hif
  spill : Vector Spill 16
  hostMem : List Host.Cell
  flights : List Flight
  waiting : List Waiting
  intake : Vector Intake 16
  queues : Vector IQueue 16
  lanes : Vector Lane 32
  pmcan : Vector Pmcan 4
  met : Met
  nrg : Nrg
  book : Book
  abc : Abc
  mgt : Mgt
  keys : Keys
  link : Link
  tok : Tok
  saf : Saf
  lsw : Lsw
  pair : Pair
  line : LineSt
  epd : Vector EpdPort 4
  arb : Arb
  island : Island
  fuses : Fuses
  nv : Nv
  pending : List Instr
  deriving DecidableEq, Repr

/-! ## Reset values -/

def Errs.reset : Errs :=
  { clk := 0, pwr := 0, hif := 0, lane := .replicate 32 0, pmcan := .replicate 4 0, vlk := 0, tok := 0, abc := 0,
    saf := 0, lsw := 0, met := .replicate 32 0, nrg := 0, book := 0, line := 0, key := 0, mgt := 0,
    epd := .replicate 4 0, pair := 0, arb := 0 }

/-- Right after power-on: VSYS is up, no rail is good (Table 3-7, step 1). The feeds read absent until their first
FEED_PRESENCE_CHANGE: DESIGN CHOICE, log 5. -/
def Power.reset : Power :=
  { feedA := ⟨false, false⟩, feedB := ⟨false, false⟩, vsysUp := true, biasGood := false, railsGood := 0,
    starting := false, retryWait := false, attempts := 0, lockedOut := false, vbatLow := false,
    vbatLost := false, onVbat := true, holdupNow := false, vsysMv := 8500 }

/-- CK_RTC runs in the battery island (log 5); the other monitors have seen nothing yet. -/
def Clocks.reset : Clocks := { ok := 8, onBackup := false, selfRefresh := false, pcieRef := true }

def Boot.reset : Boot :=
  { step := 1, phase := 0, failCode := 0, restoreOk := false, profOk := false, ddrOk := false, straps := 0,
    strapsTaken := false, pairPri := false, trstHigh := false, rstNHigh := true, perstHigh := false, perstRise := 0,
    waitRef := false, errOutReleased := false, torn := false }

/-- POR is set (R94); every other field at its Reset column, or 0 where it has none (log 5). -/
def Glb.reset : Glb :=
  { rstCause := 1, holdupThresh := 0x0A0, ckptInterval := 1, comGen := 0, comKind := 0, comSlotB := false,
    torn := false, none := false, profActive := 0, profActiveValid := false, profPending := 0,
    profPendingValid := false, profErr := 0, scratch := 0, htcLatch := 0, latched := [], readData := 0 }

/-- Ring n after reset: VEC is the ring number, PSTRIDE as Table 4-3 (0 for to-device rings, log 5). -/
def Ring.reset (n : Nat) : Ring :=
  { base := 0, pbase := 0, en := false, log2size := 4, vec := BitVec.ofNat 5 n, irqEn := false,
    pstride := match n with
      | 1 => 1 | 2 => 3 | 3 => 3 | 4 => 3 | 5 => 3 | 6 => 7 | 7 => 5 | 9 => 5 | 11 => 3 | 12 => 2 | 13 => 4 | _ => 0
    prod := 0, cons := 0, phase := true, err := false, errCode := 0, slots := [], skip := 0 }

/-- An MSI-X entry after reset is masked, as the PCI Express specification has it (PRESUMED, log 6). -/
def Vec.reset : Vec :=
  { addr := 0, data := 0, masked := true, pba := false, count := 0, time := 0, waiting := 0, oldest := 0, sent := 0 }

def Hif.reset : Hif :=
  { run := false, width := 0, speed := 0, bme := false, d3 := false, msixEn := false, funcMask := false, linkUp := false, configReady := false,
    rings := .ofFn fun i => Ring.reset i.val, vecs := .replicate 32 Vec.reset }

def Spill.reset : Spill := { held := [], used := 0, full := false, behind := [], dropped := 0, dropStamp := 0 }

/-- Internal queues: depth 64 is a DESIGN CHOICE (log 7), the depth the legal-log writer's queue has (R451). -/
def IQueue.reset : IQueue :=
  { depth := 64, words := [], packets := 0, notices := 0, midPacket := false, readerWaits := false,
    writerWaits := none, discarding := 0, lastRead := 0 }

def DcMod.reset : DcMod :=
  { state := 0, faultCode := 0, vOut := 0, iOut := 0, temp := 0, seqEcho := 0, modOff := false, seqTx := 0,
    want := ⟨0, 0, 0, 0, 0⟩, sent := none }

/-- LANE_CP reads F from reset (Table 5-19); the limit is the reset value of LANE_CUR.MAX. -/
def Lane.reset : Lane :=
  { st := .disabled, target := .disabled, before := .disabled, endCause := 0, held := false, admitHold := false,
    grant := false, assocFailed := false, forced := false, sess := 0, pilot := .f, vhi := 0, vlo := 0, rc := 4095,
    rating := 0, fbaHigh := false, fbbHigh := false, coil := false, limit := 60, form := .minus12, next := none,
    nextFrom := 0, drives := [], formFrom := 0, formWas := .minus12, runClass := .unqualified, runCount := 0, sampled := none, ppClass := 0,
    ppCount := 0, ppSampled := none, causes := 0, dc := DcMod.reset }

def Pmcan.reset : Pmcan := { tec := 0, rec_ := 0, estate := 0 }

def MetChan.reset : MetChan :=
  { rms := 0, aggRms := 0, pkmax := 0, pkmin := 0, env := 0, shownEnv := 0, isOver := false, under := false, stuck := false,
    stuckLevel := false, spells := [], blockSq := 0, envDone := 0 }

def Tracker.reset : Tracker :=
  { trk := 0, period := 0x03C0_0000, valid := 0, misses := 0, nextJ := 0, prev := 0, armed := false,
    lastCross := none, meas := none, decided := none }

def MetLane.reset : MetLane :=
  { start := none, run := false, begin := 0, len := 0x03C0_0000, cyc := 0, lastSample := 0, blockCyc := 0,
    blockCnt := 0, following := false, chans := .replicate 8 MetChan.reset, tracker := Tracker.reset,
    next3 := 0, shownPeriod := 0x03C0_0000, shownTrk := 0, prevBegin := none, thrOld := [], old := [], cutAt := none }

def Met.reset : Met :=
  { mclk := 0, mclkDue := [], switched := false, lanes := .replicate 32 MetLane.reset,
    captures := .replicate 4 none, gOld := .replicate 8 [] }

def NrgLane.reset : NrgLane :=
  { res := .replicate 4 ⟨0, 0, 0⟩, lastStamp := 0, cycles := 0, flags := 0, noload := 0, quadT := 0, sat := false,
    flagged := 0, runOn := false, runCount := 0, runUnion := 0, scaled := [], oldCal := none }

def Pulse.reset : Pulse :=
  { carry := 0, sched := [], lastStart := none, active := false, endAt := 0, count := 0, altLast := none }

def Accs.reset : Accs := .replicate 32 (.replicate 32 0)

def Nrg.reset : Nrg :=
  { accs := Accs.reset, lanes := .replicate 32 NrgLane.reset, pulses := .replicate 8 Pulse.reset }

def SessRec.reset : SessRec :=
  { bsess := 0, isOpen := false, flagged := false, magnetic := false, clkEvent := false, grantHeld := false,
    openStamp := 0, openSec := 0, openValid := false, aPlus0 := 0, aMinus0 := 0, residue := 0, charged := 0,
    rates := 0 }

/-- The register book starting from zero (R85). -/
def BookImage.reset : BookImage :=
  { rate := 0, clkValid := false, sealOpen := false, debitEn := false, tblActive := 0, tblPending := 0, period := 0,
    lastClose := 0, ivFlags := 0, ivStart := 0, ivStartSec := 0, calWrites := 0, calRefused := 0, magOn := 0,
    roleCtr := .replicate 4 0, tr := .replicate 32 (.replicate 8 (0, 0)), ivVal := .replicate 32 0,
    md := .replicate 33 (.replicate 8 (0, 0)), sess := .replicate 32 SessRec.reset, unattr := .replicate 32 0,
    magE := .replicate 32 0 }

def Book.reset : Book :=
  { img := BookImage.reset, cal := [], calGen := 0, calOk := false, steps := [], closes := [], rateDue := none,
    outage := none, noclockFrom := none, caseOpen := false, magLevel := .replicate 4 0,
    magPeak := .replicate 4 0, magFrom := .replicate 4 0, magEvents := .replicate 4 0 }

def Abc.reset : Abc :=
  { ready := false, restoring := false, dram := [], quarantine := [], grants := .replicate 36 none, announces := [],
    waiting := [], pend := [], writing := [], lineOut := [], jseq := 0, rseq := 0, jheld := false, debited := [], snap := none,
    snapB := false, snapDel := [], snapPct := 0, reserve := .replicate 2 0, newestB := false, capRec := 0, ddrUnavailable := false,
    keys := [] }

def Mgt.reset : Mgt :=
  { mcRun := false, shed := 0, hold := false, trial := false, trialEnded := false, verRun := 0, runFormat := 0,
    bootKind := 0, bootVer := 0, download := none, sensors := .replicate 10 0, limits := .replicate 9 0, nmi := [],
    eseq := 0, edrop := 0, elog := [], eexp := 0, schedWait := [], copyDue := false, blockDue := [] }

def Keys.reset : Keys :=
  { rootReg := none, generating := false, debug := false, rngOk := false,
    retLost := false, keys := [], pendingMsg := none, debugCounter := 0 }

/-- The battery island of a part never powered before: no root, contents intact, clock invalid (log 5). -/
def Island.reset : Island :=
  { root := none, integrity := true, rtcSec := 0, rtcValid := false, elapsed := 0, elapsedOk := true,
    sealOpen := false, caseOpen := false, sealLatch := [], caseOpenings := 0, caseFirst := 0, caseTrig := false, unpoweredCauses := [],
    tamp := 0, tampSec := 0, keyTally := 0, antiRollback := 0 }

/-- Fuses as the model names them (log 5): dies of zero coordinates with their types and correct CHECK fields. -/
def Fuses.reset : Fuses :=
  { dieIdD := 0x50e7, dieIdA := 0x90b1, asn := 0, variant := 2, subsysVendor := 0x1C3B, subsys := 0x3272, epoch := 0,
    owners := .replicate 4 none, revoked := 0, debugLock := false, level := 0 }

def ProfSlot.reset : ProfSlot :=
  { magic := 0, index := 0, format := 0, minBundle := 0, gen := 0, length := 0, digest := 0, body := [] }

/-- MRAM and NAND of a part never started: the directory is blank (R85). Region sizes: log 9. -/
def Nv.reset : Nv :=
  { dir := none, slotA := none, slotB := none, profiles := .replicate 4 ProfSlot.reset, shadow := [],
    bootA := none, bootB := none,
    llog := { entries := [], lseq := 0, ack := 0, lost := 0, chain := 0, cap := 2730 },
    tblActive := none, tblPending := none, bills := [], calA := none, calB := none, calJournal := [], keyA := none,
    keyB := none, journal := [], jcap := 2048, orphans := [], snapA := none, snapB := none, nandPages := 524288, qspi1 := true,
    nandBad := .replicate 2 [],
    links := NvLinks.reset }


/-- The machine right after the power-on reset (R80, R81): VSYS is up, PHASE is 0, nothing is loaded. -/
def State.reset : State :=
  { htc := 0, htcLoaded := false, outside := false, freeCtr := 0,
    seq := { waiting := [], issued := 0, lastTick := 0, released := [], swept := none },
    timers := [], errs := Errs.reset, cfg := [], power := Power.reset, clocks := Clocks.reset, boot := Boot.reset,
    glb := Glb.reset, commit := none, frozenAt := none, chipResetDue := none, hif := Hif.reset,
    spill := .replicate 16 Spill.reset, hostMem := [], flights := [], waiting := [], intake := .replicate 16 ⟨none, none⟩, queues := .replicate 16 IQueue.reset,
    lanes := .replicate 32 Lane.reset, pmcan := .replicate 4 Pmcan.reset, met := Met.reset, nrg := Nrg.reset,
    book := Book.reset, abc := Abc.reset, mgt := Mgt.reset, keys := Keys.reset,
    link := Link.reset, tok := Tok.reset, saf := Saf.reset, lsw := Lsw.reset,
    pair := Pair.reset, line := LineSt.reset,
    epd := .replicate 4 EpdPort.reset, arb := Arb.reset,
    island := Island.reset, fuses := Fuses.reset, nv := Nv.reset, pending := [] }


end Sys2Proof.Machine
end

