-- ==== Sys2Proof/Machine/Registers.lean ====
section
/-!
DEFINITION. Register maps: profile registers with their Reset columns and ranges, calibration registers, and the
accessors of a register map. A map lists only registers that differ from their Reset value, offsets rising.
-/
namespace Sys2Proof.Machine

open Sys2Proof

/-- A field of a register: lowest bit, width, Reset value, least and greatest value allowed. -/
structure Fld where
  lo : Nat
  w : Nat
  reset : Nat
  min : Nat
  max : Nat
  deriving DecidableEq, Repr

/-- Registers of one layout at base, base + stride, … -/
structure RegRow where
  base : Nat
  stride : Nat
  count : Nat
  flds : List Fld
  deriving DecidableEq, Repr

/-- Whether an offset is one of the row's registers. -/
def RegRow.has (r : RegRow) (off : Nat) : Bool :=
  r.base ≤ off && (off - r.base) % r.stride == 0 && (off - r.base) / r.stride < r.count

/-- The row's Reset value. -/
def RegRow.resetVal (r : RegRow) : Reg :=
  BitVec.ofNat 32 (r.flds.foldl (fun a f => a + f.reset * 2 ^ f.lo) 0)

/-- A field of a register value. -/
def regField (v : Reg) (lo w : Nat) : Nat := v.toNat / 2 ^ lo % 2 ^ w

/-- A value the row allows: every field in its range, every other bit zero. -/
def RegRow.ok (r : RegRow) (v : Reg) : Bool :=
  r.flds.all (fun f => f.min ≤ regField v f.lo f.w && regField v f.lo f.w ≤ f.max) &&
    r.flds.foldl (fun a f => a + regField v f.lo f.w * 2 ^ f.lo) 0 == v.toNat

/-- Profile rows of the LANE page (Tables 5-14 to 5-17, 5-24). -/
def profLane : List RegRow :=
  [ ⟨0x2000, 0x80, 32, [⟨0, 1, 0, 0, 1⟩, ⟨1, 2, 0, 0, 2⟩, ⟨3, 2, 0, 0, 2⟩, ⟨5, 1, 0, 0, 1⟩, ⟨6, 1, 0, 0, 1⟩,
      ⟨7, 1, 0, 0, 1⟩, ⟨8, 1, 1, 0, 1⟩, ⟨9, 1, 0, 0, 1⟩, ⟨10, 1, 1, 0, 1⟩, ⟨11, 1, 1, 0, 1⟩]⟩,
    ⟨0x2004, 0x80, 32, [⟨0, 10, 60, 60, 800⟩, ⟨10, 10, 60, 60, 800⟩]⟩,
    ⟨0x2008, 0x80, 32, [⟨0, 16, 3000, 100, 10000⟩, ⟨16, 16, 6000, 1000, 30000⟩]⟩,
    ⟨0x200C, 0x80, 32, [⟨0, 10, 200, 10, 1000⟩, ⟨10, 16, 3000, 1000, 60000⟩]⟩,
    ⟨0x2010, 0x80, 32, [⟨0, 6, 0, 0, 63⟩, ⟨8, 12, 0, 0, 1000⟩, ⟨20, 12, 0, 0, 600⟩]⟩,
    ⟨0x2060, 0x400, 4, [⟨0, 1, 0, 0, 1⟩, ⟨1, 2, 1, 0, 2⟩, ⟨3, 2, 1, 0, 2⟩, ⟨5, 8, 50, 20, 200⟩]⟩ ]

/-- Profile rows of the ABC page (Tables 8-11 to 8-13). -/
def profAbc : List RegRow :=
  [ ⟨0x5000, 4, 1, [⟨0, 1, 0, 0, 1⟩, ⟨1, 3, 2, 1, 7⟩, ⟨4, 1, 0, 0, 1⟩, ⟨5, 3, 1, 0, 7⟩]⟩,
    ⟨0x5004, 4, 1, [⟨0, 24, 0, 0, 0xFFFFFF⟩]⟩,
    ⟨0x5008, 4, 1, [⟨0, 32, 0x7A120, 1000, 0xFFFFFFFF⟩]⟩,
    ⟨0x500C, 4, 1, [⟨0, 32, 1000, 1, 1000000⟩]⟩,
    ⟨0x5010, 4, 1, [⟨0, 16, 2000, 500, 10000⟩, ⟨16, 16, 1000, 250, 5000⟩]⟩,
    ⟨0x5014, 4, 1, [⟨0, 12, 60, 1, 3600⟩, ⟨12, 14, 1000, 100, 10000⟩]⟩,
    ⟨0x5018, 4, 1, [⟨0, 8, 24, 1, 168⟩, ⟨8, 7, 50, 25, 75⟩]⟩,
    ⟨0x5040, 4, 16, [⟨0, 32, 50000, 0, 0xFFFFFFFF⟩]⟩ ]

/-- Profile rows of the MET, NRG and BOOK pages (Tables 11-14, 11-15, 12-12, 13-14). -/
def profLegal : List RegRow :=
  [ ⟨0x8104, 0x20, 32, [⟨0, 2, 0, 0, 2⟩, ⟨2, 4, 10, 4, 15⟩]⟩,
    ⟨0x8108, 0x20, 32, [⟨0, 16, 0, 0, 32767⟩, ⟨16, 16, 0, 0, 32767⟩]⟩,
    ⟨0x810C, 0x20, 32, [⟨0, 16, 0, 0, 32767⟩]⟩,
    ⟨0x9008, 4, 1, [⟨0, 1, 0, 0, 1⟩, ⟨1, 1, 0, 0, 1⟩]⟩,
    ⟨0xA000, 4, 1, [⟨0, 1, 0, 0, 1⟩, ⟨1, 1, 0, 0, 1⟩, ⟨8, 12, 300, 0, 3600⟩]⟩ ]

/-- Profile rows of the MGT page (Tables 16-10, 16-13). MGT_FRs of a source that Table 16-3 does not list reads zero
and is left out here. -/
def profMgt : List RegRow :=
  let fr (g lo n : Nat) : RegRow := ⟨0xD400 + 4 * (32 * g + lo), 4, n, [⟨0, 3, 1, 0, 4⟩, ⟨3, 1, 1, 0, 1⟩, ⟨4, 3, 0, 0, 7⟩]⟩
  [ ⟨0xD000, 4, 1, [⟨0, 12, 0x258, 60, 3600⟩, ⟨12, 5, 16, 0, 31⟩]⟩,
    fr 0 0 11, fr 1 0 6, fr 2 0 12, fr 2 16 2, fr 3 0 5, fr 4 0 4, fr 5 0 10, fr 6 0 15, fr 7 0 8, fr 8 0 18,
    fr 9 0 4, fr 10 0 8, fr 11 0 9, fr 12 0 5, fr 13 0 16 ]

/-- Profile rows of the VLK page (Tables 6-13 to 6-16, 6-18). -/
def profVlk : List RegRow :=
  [ ⟨0x3000, 4, 1, [⟨0, 1, 0, 0, 1⟩, ⟨1, 1, 0, 0, 1⟩, ⟨2, 1, 0, 0, 1⟩, ⟨3, 1, 0, 0, 1⟩, ⟨4, 1, 0, 0, 1⟩, ⟨5, 1, 1, 0, 1⟩,
      ⟨6, 1, 0, 0, 1⟩, ⟨7, 1, 1, 0, 1⟩, ⟨8, 1, 0, 0, 1⟩, ⟨9, 1, 0, 0, 1⟩]⟩,
    ⟨0x3004, 4, 1, [⟨0, 8, 16, 6, 40⟩, ⟨8, 8, 110, 40, 160⟩, ⟨16, 8, 12, 0, 40⟩, ⟨24, 4, 6, 1, 10⟩, ⟨28, 2, 3, 1, 3⟩,
      ⟨30, 1, 1, 0, 1⟩]⟩,
    ⟨0x3008, 4, 1, [⟨0, 16, 50000, 20000, 50000⟩, ⟨16, 16, 600, 200, 2000⟩]⟩,
    ⟨0x300C, 4, 1, [⟨0, 16, 200, 100, 1000⟩, ⟨16, 16, 10000, 1000, 20000⟩]⟩,
    ⟨0x3010, 4, 1, [⟨0, 16, 20000, 5000, 30000⟩, ⟨16, 16, 60000, 10000, 60000⟩]⟩,
    ⟨0x3014, 4, 1, [⟨0, 16, 45000, 1000, 58000⟩, ⟨16, 16, 4000, 500, 4500⟩]⟩,
    ⟨0x3018, 4, 1, [⟨0, 16, 1500, 500, 5000⟩, ⟨16, 16, 30000, 5000, 60000⟩]⟩,
    ⟨0x301C, 4, 1, [⟨0, 12, 0x600, 512, 2047⟩]⟩,
    ⟨0x3020, 4, 1, [⟨0, 32, 0, 0, 0xFFFFFFFF⟩]⟩,
    ⟨0x3024, 4, 1, [⟨0, 16, 0, 0, 0xFFFF⟩]⟩,
    ⟨0x3100, 0x20, 32, [⟨0, 1, 0, 0, 1⟩, ⟨1, 1, 0, 0, 1⟩, ⟨2, 2, 0, 0, 2⟩, ⟨4, 4, 0, 0, 15⟩]⟩ ]

/-- Profile rows of the TOK page (Tables 7-13, 7-14). -/
def profTok : List RegRow :=
  [ ⟨0x4000, 4, 1, [⟨0, 4, 0, 0, 15⟩, ⟨4, 2, 3, 0, 3⟩, ⟨6, 1, 0, 0, 1⟩]⟩,
    ⟨0x4004, 4, 1, [⟨0, 32, 0, 0, 0xFFFFFFFF⟩]⟩,
    ⟨0x4008, 4, 1, [⟨0, 16, 20000, 5000, 60000⟩, ⟨16, 16, 3000, 0, 10000⟩]⟩,
    ⟨0x400C, 4, 1, [⟨0, 16, 2000, 500, 10000⟩, ⟨16, 16, 1000, 200, 2000⟩]⟩,
    ⟨0x4010, 4, 1, [⟨0, 5, 5, 5, 20⟩]⟩ ]

/-- Profile rows of the SAF page (Tables 9-11 to 9-14, 9-17). -/
def profSaf : List RegRow :=
  let dcp (k i t : Nat) : RegRow := ⟨0x6010 + 4 * k, 4, 1, [⟨0, 13, i, 60, 8000⟩, ⟨13, 16, t, 10, 60000⟩, ⟨31, 1, 1, 0, 1⟩]⟩
  [ ⟨0x6000, 4, 1, [⟨0, 4, 0, 0, 15⟩, ⟨4, 1, 0, 0, 1⟩, ⟨5, 10, 300, 100, 800⟩, ⟨16, 12, 1000, 200, 4000⟩]⟩,
    ⟨0x6004, 4, 1, [⟨0, 16, 100, 10, 1000⟩, ⟨16, 16, 1000, 100, 60000⟩]⟩,
    dcp 0 60 9000, dcp 1 600 250, dcp 2 2000 60, dcp 3 5000 40,
    ⟨0x6020, 4, 1, [⟨0, 12, 500, 1, 4095⟩, ⟨12, 12, 100, 1, 4095⟩, ⟨24, 8, 10, 5, 100⟩]⟩,
    ⟨0x6024, 4, 1, [⟨0, 10, 100, 50, 500⟩, ⟨10, 10, 200, 50, 1000⟩]⟩,
    ⟨0x6028, 4, 1, [⟨0, 10, 100, 20, 1000⟩, ⟨10, 10, 50, 10, 500⟩, ⟨20, 6, 0, 0, 47⟩]⟩,
    ⟨0x6040, 4, 16, [⟨0, 32, 0, 0, 0xFFFFFFFF⟩]⟩,
    ⟨0x6100, 4, 72, [⟨0, 3, 0, 0, 4⟩, ⟨3, 2, 0, 0, 3⟩, ⟨5, 2, 0, 0, 2⟩, ⟨8, 4, 0, 0, 15⟩, ⟨12, 3, 4, 1, 7⟩]⟩,
    ⟨0x6400, 0x20, 32, [⟨0, 1, 1, 0, 1⟩, ⟨1, 1, 1, 0, 1⟩, ⟨2, 1, 1, 0, 1⟩, ⟨3, 1, 0, 0, 1⟩, ⟨4, 1, 0, 0, 1⟩,
      ⟨8, 10, 300, 60, 3000⟩, ⟨18, 10, 100, 30, 500⟩]⟩,
    ⟨0x6404, 0x20, 32, [⟨0, 16, 10000, 1, 65535⟩]⟩,
    ⟨0x6408, 0x20, 32, [⟨0, 16, 1000, 100, 10000⟩, ⟨16, 16, 1000, 100, 10000⟩]⟩ ]

/-- Profile rows of the LSW page (Tables 10-7 to 10-9). -/
def profLsw : List RegRow :=
  [ ⟨0x7000, 4, 1, [⟨0, 1, 1, 0, 1⟩, ⟨8, 8, 140, 100, 160⟩]⟩,
    ⟨0x7100, 4, 32, [⟨0, 8, 100, 10, 200⟩, ⟨8, 10, 500, 300, 1000⟩, ⟨18, 1, 1, 0, 1⟩]⟩,
    ⟨0x7200, 8, 16, [⟨0, 6, 20, 0, 50⟩, ⟨8, 11, 1500, 100, 1500⟩, ⟨19, 1, 1, 0, 1⟩, ⟨20, 1, 0, 0, 1⟩]⟩,
    ⟨0x7204, 8, 16, [⟨0, 8, 10, 1, 255⟩, ⟨8, 3, 3, 0, 7⟩, ⟨16, 8, 10, 1, 255⟩]⟩ ]

/-- Profile rows of the PAIR page (Table 18-7). -/
def profPair : List RegRow :=
  [ ⟨0xF000, 4, 1, [⟨0, 2, 0, 0, 3⟩, ⟨4, 6, 0, 0, 47⟩, ⟨10, 10, 100, 20, 1000⟩]⟩,
    ⟨0xF004, 4, 1, [⟨0, 12, 60, 10, 3600⟩, ⟨12, 16, 3600, 60, 43200⟩]⟩,
    ⟨0xF008, 4, 1, [⟨0, 8, 50, 20, 255⟩]⟩ ]

/-- Profile rows of the LINE page (Table 14-9). -/
def profLine : List RegRow :=
  [ ⟨0xB000, 4, 1, [⟨0, 1, 0, 0, 1⟩, ⟨1, 2, 0, 0, 2⟩, ⟨3, 1, 0, 0, 1⟩, ⟨4, 1, 1, 0, 1⟩, ⟨5, 1, 0, 0, 1⟩, ⟨8, 4, 0, 0, 15⟩]⟩,
    ⟨0xB004, 4, 1, [⟨0, 10, 0, 0, 1023⟩, ⟨16, 16, 0, 0, 65535⟩]⟩,
    ⟨0xB008, 4, 1, [⟨0, 10, 0, 0, 1023⟩, ⟨16, 10, 0, 0, 1023⟩]⟩,
    ⟨0xB00C, 4, 1, [⟨0, 6, 0x06, 0, 45⟩, ⟨8, 6, 0x12, 0, 45⟩, ⟨16, 6, 0x1E, 0, 45⟩, ⟨24, 6, 0x2A, 0, 45⟩]⟩,
    ⟨0xB010, 4, 1, [⟨0, 8, 0x96, 20, 255⟩, ⟨8, 8, 0x3C, 30, 200⟩, ⟨16, 3, 3, 1, 7⟩, ⟨19, 3, 3, 1, 7⟩, ⟨22, 3, 7, 1, 7⟩]⟩,
    ⟨0xB014, 4, 1, [⟨0, 10, 0xC8, 200, 1000⟩, ⟨10, 12, 0x3C, 10, 3600⟩]⟩,
    ⟨0xB018, 4, 1, [⟨0, 16, 0x4000, 1024, 32767⟩, ⟨16, 8, 0x18, 0, 255⟩, ⟨24, 8, 0x30, 0, 255⟩]⟩,
    ⟨0xB01C, 4, 1, [⟨0, 8, 0x20, 0, 255⟩, ⟨8, 8, 0x18, 0, 255⟩]⟩,
    ⟨0xB020, 4, 1, [⟨0, 6, 2, 1, 60⟩, ⟨8, 12, 0, 0, 3600⟩]⟩ ]

/-- Profile rows of the EPD page (Tables 17-4, 17-6). -/
def profEpd : List RegRow :=
  let port (off : Nat) (flds : List Fld) : RegRow := ⟨0xE100 + off, 0x80, 4, flds⟩
  [ ⟨0xE000, 4, 1, [⟨0, 1, 0, 0, 1⟩]⟩,
    port 0x00 [⟨0, 1, 0, 0, 1⟩, ⟨1, 11, 0x400, 64, 1024⟩, ⟨12, 10, 0x2F6, 1, 758⟩],
    port 0x04 [⟨0, 5, 0x0F, 3, 31⟩, ⟨8, 8, 0x40, 16, 255⟩, ⟨16, 1, 0, 0, 1⟩],
    port 0x08 [⟨0, 7, 0x48, 0, 127⟩, ⟨8, 8, 0, 0, 255⟩],
    port 0x0C [⟨0, 8, 0, 0, 255⟩, ⟨8, 8, 0x32, 0, 255⟩, ⟨16, 8, 0x32, 5, 255⟩],
    port 0x10 [⟨0, 16, 0x3E8, 0, 10000⟩, ⟨16, 1, 0, 0, 1⟩],
    port 0x14 [⟨0, 32, 0x120C0600, 0, 0xFFFFFFFF⟩],
    port 0x18 [⟨0, 24, 0x281E18, 0, 0xFFFFFF⟩] ] ++
  (List.range 16).map fun k => port (0x40 + 4 * k) [⟨0, 7, 0, 0, 127⟩, ⟨8, 8, 0, 0, 255⟩, ⟨16, 8, 0, 0, 255⟩, ⟨31, 1, 0, 0, 1⟩]

/-- Profile rows of the ARB page (Tables 19-1, 19-6, 19-7): ARB_Wi of i = 3 … 15. -/
def profArb : List RegRow :=
  ⟨0x10000, 4, 1, [⟨0, 16, 0x1000, 256, 65535⟩]⟩ ::
  (List.zip [3, 4, 5, 6, 7, 8, 9, 10, 11, 12, 13, 14, 15] [16, 32, 32, 16, 16, 16, 16, 16, 8, 16, 4, 4, 2]).map fun (i, w) =>
    ⟨0x10040 + 4 * i, 4, 1, [⟨0, 8, w, 1, 255⟩, ⟨8, 16, 0x400, 64, 65535⟩]⟩

/-- Every register that forms part of the active profile. -/
def profRows : List RegRow := profLane ++ profVlk ++ profTok ++ profAbc ++ profSaf ++ profLsw ++ profLegal ++ profMgt ++
  profPair ++ profLine ++ profEpd ++ profArb

/-- Calibration registers (R319, R349, R378): MET_GCALk, MET_LCAL, MET_SHn_c, the NRG scales, ISTART, the pulse
fields, BOOK_MAGk and BOOK_MAPk. -/
def calRows : List RegRow :=
  [ ⟨0x8020, 4, 8, [⟨0, 3, 2, 1, 7⟩, ⟨8, 8, 0, 0, 255⟩]⟩,
    ⟨0x8100, 0x20, 32, [⟨0, 2, 1, 0, 2⟩, ⟨2, 2, 0, 0, 2⟩, ⟨4, 1, 0, 0, 1⟩, ⟨5, 5, 0, 0, 31⟩, ⟨10, 1, 0, 0, 1⟩,
      ⟨16, 8, 16, 1, 255⟩]⟩,
    ⟨0x8500, 4, 256, [⟨0, 5, 2, 0, 31⟩, ⟨8, 5, 17, 0, 31⟩, ⟨16, 5, 17, 0, 31⟩]⟩,
    ⟨0x9800, 0x40, 32, [⟨0, 32, 0, 0, 0xFFFFFFFF⟩]⟩, ⟨0x9804, 0x40, 32, [⟨0, 32, 0, 0, 0xFFFFFFFF⟩]⟩,
    ⟨0x9808, 0x40, 32, [⟨0, 32, 0, 0, 0xFFFFFFFF⟩]⟩, ⟨0x980C, 0x40, 32, [⟨0, 32, 0, 0, 0xFFFFFFFF⟩]⟩,
    ⟨0x9810, 0x40, 32, [⟨0, 32, 0, 0, 0xFFFFFFFF⟩]⟩, ⟨0x9814, 0x40, 32, [⟨0, 32, 0, 0, 0xFFFFFFFF⟩]⟩,
    ⟨0x9818, 0x40, 32, [⟨0, 32, 0, 0, 0xFFFFFFFF⟩]⟩,
    ⟨0x981C, 0x40, 32, [⟨0, 24, 0, 0, 8388607⟩]⟩,
    ⟨0x9100, 0x20, 8, [⟨0, 1, 0, 0, 1⟩, ⟨1, 2, 3, 0, 3⟩, ⟨3, 3, 0, 0, 7⟩, ⟨6, 5, 0, 0, 31⟩, ⟨11, 1, 0, 0, 1⟩,
      ⟨12, 7, 10, 2, 100⟩]⟩,
    ⟨0x9104, 0x20, 8, [⟨0, 17, 10000, 1, 100000⟩]⟩,
    ⟨0x9108, 0x20, 8, [⟨0, 32, 0, 0, 0xFFFFFFFF⟩]⟩,
    ⟨0xA040, 8, 4, [⟨0, 13, 0, 0, 5000⟩]⟩,
    ⟨0xA044, 8, 4, [⟨0, 32, 0, 0, 0xFFFFFFFF⟩]⟩ ]

/-- The key under which a correction-table value lies in the calibration map: the target word of R378. -/
def tabKey (lane ch k fld : Nat) : Nat := 0x80000000 + lane * 65536 + ch * 256 + k * 16 + fld

/-- The Reset value of a register in a table of rows; 0 for an offset of none of them. -/
def rowsReset (rows : List RegRow) (off : Nat) : Reg :=
  match rows.find? (·.has off) with
  | some r => r.resetVal
  | none => 0

/-- The Reset value of a calibration key: a register of calRows, or X[k] = 1,048,576 k with X[8] = 8,388,607. -/
def calReset (key : Nat) : Reg :=
  if key < 0x80000000 then rowsReset calRows key
  else if key % 16 == 0 then
    let k := key / 16 % 16
    if k == 8 then 8388607 else BitVec.ofNat 32 (1048576 * k)
  else 0

/-- The value a map gives an offset, or the default. -/
def regGet (dflt : Reg) (m : RegMap) (off : Nat) : Reg :=
  match m.find? (·.1 == off) with
  | some p => p.2
  | none => dflt

/-- The map with an offset set: in order, and with no entry where the value is the default. -/
def regPut (dflt : Reg) : RegMap → Nat → Reg → RegMap
  | [], off, v => if v == dflt then [] else [(off, v)]
  | (o, x) :: m, off, v =>
    if o < off then (o, x) :: regPut dflt m off v
    else if o == off then (if v == dflt then m else (off, v) :: m)
    else if v == dflt then (o, x) :: m
    else (off, v) :: (o, x) :: m

/-- A register of the active profile, or its Reset value. -/
def State.prof (s : State) (off : Nat) : Reg := regGet (rowsReset profRows off) s.cfg off

/-- A field of a profile register. -/
def State.pf (s : State) (off lo w : Nat) : Nat := regField (s.prof off) lo w

/-- A calibration value in force. -/
def State.calv (s : State) (key : Nat) : Reg := regGet (calReset key) s.book.cal key

end Sys2Proof.Machine
end

