-- ==== Sys2Proof/Machine/Numbers.lean ====
section
/-!
DEFINITION. Numbers and bytes: rounding, little-endian fields, bits, CRCs and the integer square root.
-/
namespace Sys2Proof.Machine

open Sys2Proof

/-- Nearest integer with ties toward +∞ (R304, R331). -/
def roundDiv (a : Int) (b : Nat) : Int := (2 * a + b) / (2 * b)

/-- Division truncating toward zero (R15). -/
def tdivNat (a : Int) (b : Nat) : Int := Int.tdiv a b

/-- ⌈a / b⌉. -/
def ceilDiv (a b : Nat) : Nat := (a + b - 1) / b

/-- Little-endian bytes of a number (R8). -/
def leBytes : Nat → Nat → Bytes
  | 0, _ => []
  | n + 1, v => BitVec.ofNat 8 (v % 256) :: leBytes n (v / 256)

/-- The number that little-endian bytes hold. -/
def leNat : Bytes → Nat
  | [] => 0
  | b :: bs => b.toNat + 256 * leNat bs

/-- The low n bytes of a number, the highest first, and the number that such bytes hold. -/
def beBytes (n v : Nat) : Bytes := (leBytes n v).reverse
def beNat (bs : Bytes) : Nat := leNat bs.reverse

/-- n bytes from position i, little-endian, as a number; bytes past the end read zero. -/
def field (bs : Bytes) (i n : Nat) : Nat := leNat ((bs.drop i).take n)

/-- Two's complement little-endian bytes of an integer (R6). -/
def leInt (n : Nat) (v : Int) : Bytes := leBytes n (v % (256 ^ n : Nat)).toNat

/-- The integer that two's complement little-endian bytes hold. -/
def signedField (bs : Bytes) (i n : Nat) : Int :=
  let v := field bs i n
  if v < 256 ^ n / 2 then v else (v : Int) - (256 ^ n : Nat)

/-- n zero bytes. -/
def zeros (n : Nat) : Bytes := List.replicate n 0

/-- A Bool as a bit. -/
def bit (b : Bool) : Nat := if b then 1 else 0

/-- Whether bit i of a number is set. -/
def hasBit (v i : Nat) : Bool := v / 2 ^ i % 2 == 1

/-- A register with a bit set. -/
def setBitR (v : Reg) (i : Nat) : Reg := v ||| BitVec.ofNat 32 (2 ^ i)

/-- One step of the reflected CRC-32 of R257. -/
def crcShift (c : BitVec 32) : BitVec 32 := if c.getLsbD 0 then (c >>> 1) ^^^ 0xEDB88320 else c >>> 1

/-- CRC-32 (R257): reflected polynomial 0xEDB88320, initial value and final inversion all ones. -/
def crc32 (bs : Bytes) : BitVec 32 :=
  ~~~(bs.foldl (fun c b =>
    crcShift (crcShift (crcShift (crcShift (crcShift (crcShift (crcShift (crcShift (c ^^^ b.zeroExtend 32))))))))) 0xFFFFFFFF)

/-- CRC-14 over the upper 50 bits of a die ID (R93). -/
def crc14 (id : BitVec 64) : Nat :=
  (List.range 50).foldl (fun reg i =>
    let fb := (id.getLsbD (63 - i)) != hasBit reg 13
    let r := reg * 2 % 16384
    if fb then r ^^^ 0x202B else r) 0x3FFF

/-- The integer square root, by bisection on bits. -/
def isqrtGo : Nat → Nat → Nat → Nat
  | 0, _, r => r
  | n + 1, v, r => let t := r + 2 ^ n; isqrtGo n v (if t * t ≤ v then t else r)

/-- floor(sqrt v) for v below 2^64 (R320). -/
def isqrt (v : Nat) : Nat := isqrtGo 32 v 0

end Sys2Proof.Machine
end

