-- ==== Sys2Proof/Machine/Record.lean ====
section
/-!
DEFINITION. What the part stores in MRAM as bytes: ledger records and journal blocks (Tables 8-1, R239), session records, the
register-book image, the Abacus section and the whole commit record with its validity (Tables 3-2, 8-8, 12-5, 13-7, 13-9).
-/
namespace Sys2Proof.Machine

open Sys2Proof

/-- The RTC second in seven bytes, with the valid flag in bit 55. -/
def rtcBytes (sec : Nat) (valid : Bool) : Bytes := leBytes 7 (sec % 2 ^ 55 + (if valid then 2 ^ 55 else 0))

/-! ## Ledger records and journal blocks -/

/-- SFL of a record (Table 8-1): STATE in bits 1:0, ACK_LOST in bit 2. -/
def Rec.sfl (r : Rec) : Nat := r.state + 4 * bit r.ackLost

/-- A journal block and its entries as bytes (R239, Table 8-1). -/
def Rec.bytes (r : Rec) : Bytes :=
  leBytes 5 r.fp ++ leBytes 3 r.uver ++ leBytes 5 r.credit ++ leBytes 2 r.pack ++ leBytes 1 (r.capclass + 16 * r.sfl) ++
    leBytes 5 r.settled ++ leBytes 3 r.unack ++ leBytes 5 r.local_ ++ leBytes 3 (r.pack / 65536)
def recOfBytes (b : Bytes) : Rec :=
  let sfl := field b 15 1 / 16
  { fp := field b 0 5, uver := field b 5 3, credit := field b 8 5, pack := field b 13 2 + 65536 * field b 29 3,
    capclass := field b 15 1 % 16, state := sfl % 4, ackLost := hasBit sfl 2, settled := field b 16 5, unack := field b 21 3,
    local_ := field b 24 5 }
def JEntry.bytes (e : JEntry) : Bytes := leBytes 4 (e.slot + 2 ^ 25 * e.kind) ++ leBytes 9 e.stamp ++ zeros 3 ++ e.image.bytes
def jentryOfBytes (b : Bytes) : JEntry :=
  { slot := field b 0 4 % 2 ^ 25, kind := field b 0 4 / 2 ^ 25 % 8, stamp := field b 4 9, image := recOfBytes (b.drop 16), dirty := true }
def JBlock.bytes (b : JBlock) : Bytes :=
  let h := leBytes 4 0x4A524E4C ++ leBytes 2 b.entries.length ++ zeros 2 ++ leBytes 8 b.seq ++ leBytes 9 b.stamp ++ zeros 3
  let es := (b.entries.flatMap JEntry.bytes ++ zeros 480).take 480
  h ++ leBytes 4 (crc32 (h ++ es)).toNat ++ es
def jblockOfBytes (b : Bytes) : Option JBlock :=
  let n := field b 4 2
  if b.length != 512 || field b 0 4 != 0x4A524E4C || n > 10 || field b 28 4 != (crc32 (b.take 28 ++ b.drop 32)).toNat then none
  else some ⟨field b 8 8, field b 16 9, (List.range n).map fun i => jentryOfBytes ((b.drop (32 + 48 * i)).take 48)⟩

/-! ## Snapshot copies (R240) -/

/-- The record of a slot in an image. -/
def imgGet (m : List (Nat × Rec)) (slot : Nat) : Rec :=
  match m.find? (·.1 == slot) with
  | some p => p.2
  | none => ⟨0, 0, 0, 0, 0, 0, false, 0, 0, 0⟩

/-- A group of 64 buckets: the occupancy mask, slot 0 in the lowest bit, then the occupied slots' images in slot order. -/
def groupBytes (m : List (Nat × Rec)) (g : Nat) : Bytes :=
  let occ := m.filter fun p => p.1 / 256 == g
  leBytes 32 (occ.foldl (fun v p => v + 2 ^ (p.1 % 256)) 0) ++ occ.flatMap fun p => p.2.bytes

/-- The body of a copy: the groups of all 2^23 buckets. -/
def SnapCopy.body (c : SnapCopy) : Bytes := (List.range 131072).flatMap (groupBytes c.image)

/-- Data cut into pages of 2,016 bytes, filled up with zero. -/
def pageData : Nat → Bytes → List Bytes
  | 0, _ => []
  | fuel + 1, bs => if bs.isEmpty then [] else (bs.take 2016 ++ zeros (2016 - bs.length)) :: pageData fuel (bs.drop 2016)

/-- A 2,048-byte page: its data and the trailer with the generation, the page index and a CRC-32 over all that goes before it (log 102). -/
def SnapCopy.page (c : SnapCopy) (index : Nat) (data : Bytes) : Bytes :=
  let b := data ++ leBytes 8 c.gen ++ leBytes 4 index ++ zeros 16
  b ++ leBytes 4 (crc32 b).toNat

/-- The pages of a copy in the order written: header, body, seal (log 102). -/
def SnapCopy.pages (c : SnapCopy) : List Bytes :=
  let header := leBytes 8 c.gen ++ leBytes 9 c.start ++ leBytes 8 c.jStart ++ zeros 1991
  let lastPage := match c.sealPage with | some (g, d) => [leBytes 8 g ++ leBytes 32 d.toNat ++ zeros 1976] | none => []
  let datas := header :: pageData (c.body.length / 2016 + 1) c.body ++ lastPage
  (List.range datas.length).map fun i => c.page i (datas.getD i [])

/-- Where a page of a copy lies in its area of 64-page blocks: bad blocks are skipped. -/
def pagePlace (areaPages : Nat) (bad : List Nat) (index : Nat) : Option Nat :=
  ((List.range (areaPages / 64)).filter (!bad.contains ·))[index / 64]?.map fun b => 64 * b + index % 64

/-- A copy is complete when its seal page is valid. -/
def SnapCopy.complete (c : SnapCopy) : Bool := c.sealPage == some (c.gen, Config.sha256 c.body)

/-! ## Fixed MRAM regions (Table 3-8) -/

/-- Base and size of the directory, commit slots A and B, and profile n. -/
def mramDirectory : Nat × Nat := (0x000000, 0x1000)
def mramSlot (slotB : Bool) : Nat × Nat := if slotB then (0x009000, 0x8000) else (0x001000, 0x8000)
def mramProfile (n : Nat) : Nat × Nat := (0x011000 + n * 0x10000, 0x10000)

/-! ## The commit record -/

/-- The 64 bytes of a session record (Table 13-7). -/
def SessRec.bytes (r : SessRec) : Bytes :=
  leBytes 4 r.bsess ++ [BitVec.ofNat 8 (bit r.isOpen + 2 * bit r.flagged + 4 * bit r.magnetic + 8 * bit r.clkEvent + 16 * bit r.grantHeld)] ++
    zeros 3 ++ leBytes 9 r.openStamp ++ rtcBytes r.openSec r.openValid ++ leBytes 9 r.aPlus0 ++ leBytes 9 r.aMinus0 ++
    leBytes 5 r.residue ++ leBytes 5 r.charged ++ [r.rates] ++ zeros 11

/-- The register-book image (Table 13-9). -/
def BookImage.bytes (i : BookImage) : Bytes :=
  let lanes := List.finRange 32
  leBytes 2 1 ++ leBytes 1 i.rate ++ leBytes 1 (bit i.clkValid + 2 * bit i.sealOpen + 4 * bit i.debitEn) ++ leBytes 4 i.tblActive ++
    leBytes 4 i.tblPending ++ leBytes 4 i.period ++ leBytes 7 i.lastClose ++ leBytes 1 i.ivFlags.toNat ++ leBytes 9 i.ivStart ++
    leBytes 7 i.ivStartSec ++ leBytes 2 i.calWrites ++ leBytes 2 i.calRefused ++ leBytes 4 i.magOn.toNat ++ zeros 16 ++
    zeros 8 ++ leBytes 8 i.roleCtr[1] ++ leBytes 8 i.roleCtr[2] ++ leBytes 8 i.roleCtr[3] ++ zeros 32 ++
    (lanes.flatMap fun n => (List.finRange 8).flatMap fun r => leBytes 9 i.tr[n][r].1 ++ leBytes 9 i.tr[n][r].2) ++
    (lanes.flatMap fun n => leBytes 9 i.ivVal[n]) ++
    ((List.finRange 33).flatMap fun n => (List.finRange 8).flatMap fun r => leBytes 5 i.md[n][r].1 ++ leBytes 7 i.md[n][r].2) ++
    (lanes.flatMap fun n => i.sess[n].bytes) ++ (lanes.flatMap fun n => leBytes 9 i.unattr[n]) ++
    (lanes.flatMap fun n => leBytes 9 i.magE[n]) ++ zeros 5568

/-- The Abacus section (Table 8-8). -/
def AbcImage.bytes (a : AbcImage) : Bytes :=
  leBytes 8 a.jseq ++ leBytes 2 a.pending.length ++ leBytes 9 a.snapStart ++ leBytes 1 (bit a.newestB) ++ leBytes 8 a.rseq ++ zeros 20 ++
    (a.pending.flatMap JEntry.bytes ++ zeros (127 * 48)).take (127 * 48)

/-- The pulse section (Table 12-5): the carry, the pending pulses, whether the alternative function was selected. -/
def pulseBytes (p : Nat × Nat × Bool) : Bytes := leBytes 5 p.1 ++ leBytes 4 p.2.1 ++ leBytes 1 (bit p.2.2) ++ zeros 6

/-- Magic and format of a commit record at stepping B1 (Table 3-2). -/
def commitMagic : Nat := 0x434D5453
def commitFormat : Nat := 1

/-- Bytes 0x0000 to 0x7FBF of a commit record (Table 3-2): what the trailer's digest covers. -/
def CommitImage.bytes (i : CommitImage) : Bytes :=
  leBytes 4 commitMagic ++ leBytes 2 commitFormat ++ leBytes 1 i.kind ++ leBytes 1 i.profile ++ leBytes 8 i.gen ++ leBytes 9 i.freeze ++
    rtcBytes i.rtcSec i.rtcValid ++ leBytes 8 i.dieId.toNat ++ leBytes 4 i.bundle.toNat ++ zeros 20 ++
    ((List.finRange 32).flatMap fun n => (List.finRange 32).flatMap fun k => leBytes 9 i.accs[n][k]) ++
    i.book.bytes ++ i.abacus.bytes ++ i.pulses.flatMap pulseBytes ++ zeros 768

/-- The trailer of a record (Table 3-2): the generation repeated and the digest. -/
def CommitImage.trailer (i : CommitImage) : Nat × BitVec 256 := (i.gen, Config.sha256 i.bytes)

/-- The 32,768 bytes of a slot whose body and trailer are written (Table 3-2). -/
def CommitSlot.bytes (c : CommitSlot) : Bytes :=
  match c.image, c.trailer with
  | some i, some (g, d) => i.bytes ++ leBytes 8 g ++ leBytes 32 d.toNat ++ zeros 24
  | some i, none => i.bytes
  | none, _ => leBytes 4 c.magic ++ leBytes 2 c.format ++ zeros 2 ++ leBytes 8 c.gen ++ leBytes 9 c.freeze

/-- R70: magic and format are right, the two generations are equal, and the digest matches the body. -/
def CommitSlot.valid (c : CommitSlot) : Bool :=
  c.magic == commitMagic && c.format == commitFormat &&
    match c.image, c.trailer with
    | some i, some (g, d) => g == c.gen && d == Config.sha256 i.bytes
    | _, _ => false

/-! ## The boot record (R457) -/

/-- The boot record of a part that has never written one: no confirmed version, no candidate. -/
def BootRec.blank : BootRec := { conf := 0, cand := 0, state := 0, sched := none, resets := [], candFormat := 0, confFormat := 0 }

/-- A schedule of the boot record as bytes. -/
def Schedule.bytes (c : Schedule) : Bytes :=
  [1, BitVec.ofNat 8 (bit c.htcForm)] ++ leBytes 4 c.version.toNat ++ leBytes 8 c.ident.toNat ++ leBytes 9 c.time ++ leBytes 4 c.window ++
    (match c.reachedAt with | some r => 1 :: leBytes 9 r | none => zeros 10)

/-- The bytes of a copy of the boot record before its CRC-32; the order of the fields is the model's (log 117). -/
def BootRec.bytes (b : BootRec) (gen : Nat) : Bytes :=
  leBytes 4 gen ++ leBytes 4 b.conf.toNat ++ leBytes 4 b.cand.toNat ++ leBytes 1 b.state ++ leBytes 2 b.candFormat ++ leBytes 2 b.confFormat ++
    (match b.sched with | some c => c.bytes | none => zeros 37) ++ leBytes 1 b.resets.length ++ b.resets.flatMap (leBytes 8)

/-- Whether a copy is valid: its CRC-32 holds. -/
def BootCopy.ok (c : BootCopy) : Bool := c.crc == crc32 (c.body.bytes c.gen)

/-- The newest valid copy of the boot record. -/
def Nv.bootCopy (n : Nv) : Option BootCopy :=
  match n.bootA.filter BootCopy.ok, n.bootB.filter BootCopy.ok with
  | some a, some b => some (if a.gen < b.gen then b else a)
  | some a, none => some a
  | none, b => b

/-- The boot record in force. -/
def Nv.boot (n : Nv) : BootRec := match n.bootCopy with | some c => c.body | none => .blank

/-- A write of the boot record goes to the copy that is not in force. -/
def Nv.putBoot (n : Nv) (b : BootRec) : Nv :=
  let gen := match n.bootCopy with | some c => c.gen + 1 | none => 1
  let c : BootCopy := ⟨gen, b, crc32 (b.bytes gen)⟩
  if n.bootCopy == n.bootA then { n with bootB := some c } else { n with bootA := some c }

end Sys2Proof.Machine
end

