-- ==== Sys2Proof/Machine/Ops.lean ====
section
/-!
DEFINITION. Shared operations of the block: bits and bytes, timers, order keys, error bits with their fault
reactions, the legal log, results and completions on rings, interrupts, commits and the chip reset.
-/
namespace Sys2Proof.Machine

open Sys2Proof

/-! ## Time -/

/-- The stamp of an event that arises now. -/
def State.now (s : State) : Nat := s.htc.toNat

/-- A duration in microseconds, in ticks (R33). -/
def ticksUs (us : Nat) : Nat := ceilDiv (us * 24576) 1000

/-- The base of a timer kind (Table 1-9). -/
def TimerKind.base : TimerKind → Nat
  | .tClose => 0 | .tFb => 1 | .tStop => 2 | .tFaultHold => 3 | .tMod => 4
  | .tSlacInit => 8 | .tMnbc => 9 | .tMatchResp => 10 | .tMatchSession => 11 | .tSetup => 12 | .tSeq => 13
  | .tAuth => 14 | .tHost => 15 | .tCpstate => 16 | .tCable => 17
  | .tProv => 20 | .tFsess => 21 | .tRetap => 22 | .tRepeat => 23
  | .tDisc => 24 | .tAutorst => 25 | .tWeld => 26
  | .tTrig => 28 | .tCommand => 30 | .tAck => 32 | .tBeacon => 33 | .tConfirm => 36
  | .tFree => 40 | .tSwitch => 41 | .tSettle => 42 | .tTbwin => 43 | .tLink => 44
  | .tRetry => 48

/-- Whether a kind's expiry takes its owner's lane (R34); otherwise it takes lane 32 and its owner is i. -/
def TimerKind.ofLane : TimerKind → Bool
  | .tMnbc | .tDisc | .tProv | .tFsess | .tRetap | .tRepeat | .tRetry | .tTrig | .tAck | .tBeacon | .tConfirm
  | .tFree | .tSwitch | .tSettle | .tTbwin | .tLink | .tCommand => false
  | _ => true

/-- The instance i of a timer's index (R34): the lower SIN number of a T_DISC's pair, the channel less 32 of a T_RETRY, the run number modulo 64
of a T_MNBC, the reader, the capture slot; 0 for any other. -/
def Timer.instanceOf (t : Timer) : Nat :=
  match t.kind with
  | .tDisc => 2 * t.owner
  | .tRetry => t.owner - 32
  | .tMnbc => t.owner % 64
  | .tTrig | .tProv | .tFsess | .tRetap => t.owner
  | .tRepeat => t.owner / 8
  | _ => 0

/-- The order key of a timer's expiry (R34). -/
def Timer.key (t : Timer) : EventKey :=
  { stamp := t.expiry, cls := 15, lane := if t.kind.ofLane || (t.kind == .tCommand && t.owner < 32) then t.owner else 32,
    index := 64 * t.kind.base + t.instanceOf, order := t.started }

/-- Whether a timer is the one of a kind, owner and sub-key. -/
def Timer.isOne (t : Timer) (k : TimerKind) (owner sub : Nat) : Bool :=
  t.kind == k && t.owner == owner && t.sub == sub

/-- The order of R29. -/
def keyLe (a b : EventKey) : Bool :=
  if a.stamp != b.stamp then decide (a.stamp ≤ b.stamp)
  else if a.cls != b.cls then decide (a.cls ≤ b.cls)
  else if a.lane != b.lane then decide (a.lane ≤ b.lane)
  else if a.index != b.index then decide (a.index ≤ b.index)
  else decide (a.order ≤ b.order)

/-- Stop a timer (R36). -/
def State.cancel (s : State) (k : TimerKind) (owner : Nat) (sub : Nat := 0) : State :=
  { s with timers := s.timers.filter fun t => !t.isOne k owner sub }

/-- Start a timer, or start it anew, for a duration in ticks from now (R33). -/
def State.arm (s : State) (k : TimerKind) (owner dur : Nat) (sub : Nat := 0) : State :=
  let s := s.cancel k owner sub
  { s with timers := s.timers ++ [⟨k, owner, sub, s.now + dur, s.now⟩] }

/-- Whether a timer runs. -/
def State.armed (s : State) (k : TimerKind) (owner : Nat) (sub : Nat := 0) : Bool :=
  s.timers.any (·.isOne k owner sub)

/-- Whether a timer runs and its expiry stamp is reached (R35). -/
def State.expired (s : State) (k : TimerKind) (owner : Nat) (sub : Nat := 0) : Bool :=
  s.timers.any fun t => t.isOne k owner sub && t.expiry ≤ s.now

/-- The order key of an event that arises now, given to the sequencer (R27 to R31); before step 9 of start-up no event is stamped (R81).
A row of the A-die runs at its stamp, the tick of its arrival at the hub less 6 (R27; log 76). -/
def State.note (s : State) (cls lane index : Nat) : State :=
  if s.htcLoaded then
    { s with seq := { s.seq with
        waiting := s.seq.waiting ++ [⟨s.now, cls, lane, index, s.seq.issued⟩], issued := s.seq.issued + 1 } }
  else s

/-- A stated timeout that no Timer keeps takes effect: a class 15 event of no lane (R33, R34). -/
def State.noteTimeout (s : State) (base : Nat) : State := s.note 15 32 (64 * base)

/-- A time limit that is reached takes effect: its expiry is an event of class 15 (R33, R34), and its timer is done. -/
def State.expire (s : State) (k : TimerKind) (owner : Nat) (sub : Nat := 0) : State :=
  match s.timers.find? (·.isOne k owner sub) with
  | some t => { s.cancel k owner sub with seq := { s.seq with waiting := s.seq.waiting ++ [t.key] } }
  | none => s

/-- A free value below a bound (log 4), and the state that has drawn it. -/
def State.draw (s : State) (bound : Nat) : Nat × State :=
  (Config.freeValue s.freeCtr % bound, { s with freeCtr := s.freeCtr + 1 })

/-! ## The freeze of a commit -/

/-- Whether the legal path and the Abacus no longer apply events (R68): a hold-up, reset or clock-failure commit
froze them at an earlier stamp, or the HTC stands still since. -/
def State.frozen (s : State) : Bool :=
  match s.frozenAt with
  | some f => f < s.now || !s.clocks.ok.getLsbD 1
  | none => false

/-- Whether the legal path applies events: restored (Table 3-7, step 10) and not frozen. -/
def State.legalOn (s : State) : Bool := s.boot.step ≥ 10 && !s.frozen

/-! ## Interrupts and rings -/

/-- A vector of the interrupt table replaced. -/
def State.setVec (s : State) (v : Fin 32) (f : Vec → Vec) : State :=
  { s with hif := { s.hif with vecs := s.hif.vecs.set v (f s.hif.vecs[v]) } }

/-- Whether the function may send messages: MSI-X enabled and not masked as a whole, bus-mastering, not in D3hot (log 6). -/
def State.msixOn (s : State) : Bool := s.hif.msixEn && !s.hif.funcMask && s.hif.bme && !s.hif.d3

/-- A vector fires (R119, R120): a message, or its pending bit while it or the function is masked. -/
def State.fire (s : State) (v : Fin 32) : State :=
  s.setVec v fun e =>
    if e.masked || !s.msixOn then { e with pba := true, waiting := 0 } else { e with sent := e.sent + 1, waiting := 0 }

/-- A pending vector that neither its own mask nor the function's holds back sends its message (log 6). -/
def Vec.release (on : Bool) (e : Vec) : Vec := if on && !e.masked && e.pba then { e with pba := false, sent := e.sent + 1 } else e

/-- One more result waits for a vector; it fires when a moderation limit says so (R120). -/
def State.pend (s : State) (v : Fin 32) (atOnce : Bool) : State :=
  let e := s.hif.vecs[v]
  let s1 := s.setVec v fun e => { e with oldest := if e.waiting == 0 then s.now else e.oldest, waiting := e.waiting + 1 }
  if atOnce || e.count == 0 || e.time == 0 || e.count.toNat ≤ e.waiting + 1 then s1.fire v else s1

/-- A ring replaced. -/
def State.setRing (s : State) (n : Fin 16) (f : Ring → Ring) : State :=
  { s with hif := { s.hif with rings := s.hif.rings.set n (f s.hif.rings[n]) } }

/-- A spill area replaced. -/
def State.setSpill (s : State) (n : Fin 16) (f : Spill → Spill) : State :=
  { s with spill := s.spill.set n (f s.spill[n]) }

/-- Whether the endpoint lets rings be processed (R98, R127). -/
def State.hostOn (s : State) : Bool := s.hif.run && s.hif.bme && !s.hif.d3

/-- Whether a ring is being processed: HIF_RING_STAT.RUN (R98, R102, R110). -/
def State.ringRun (s : State) (n : Fin 16) : Bool := s.hostOn && s.hif.rings[n].en && !s.hif.rings[n].err

/-- Entries of a ring. -/
def Ring.size (r : Ring) : Nat := 2 ^ r.log2size.toNat

/-- Descriptors between P and C (R103). -/
def Ring.fill (r : Ring) : Nat := (r.prod - r.cons).toNat

/-- The payload stride in bytes, 0 for no payload area (Table 4-15). -/
def Ring.stride (r : Ring) : Nat := if r.pstride == 0 then 0 else 2 ^ (r.pstride.toNat + 5)

/-- The descriptor address of an index (R103): base + (i mod size) × 32. -/
def Ring.slotAddr (r : Ring) (i : BitVec 16) : BitVec 64 := r.base + BitVec.ofNat 64 (i.toNat % r.size * 32)

/-- The payload address of an index (Table 4-5): PBASE + (i mod size) × stride. -/
def Ring.payloadAddr (r : Ring) (i : BitVec 16) : BitVec 64 := r.pbase + BitVec.ofNat 64 (i.toNat % r.size * r.stride)

/-- The 32 bytes of a result descriptor (Table 4-5). -/
def Slot.bytes (x : Slot) : Bytes :=
  let r := x.piece.res
  [r.opcode, BitVec.ofNat 8 (bit x.phase + 2 * bit x.piece.chain + 4 * bit r.outside)] ++ leBytes 2 r.tag.toNat ++ leBytes 2 r.unit.toNat ++
    [r.status, r.detail] ++ leBytes 9 r.stamp.toNat ++ zeros 3 ++ leBytes 4 x.piece.plen ++ leBytes 8 r.inline.toNat

/-- The pieces a result takes on a ring: its payload cut at the stride, each piece but the last with CHAIN. -/
def piecesOf (stride : Nat) (res : Result) : Nat → Bytes → List Piece
  | 0, _ => []
  | fuel + 1, bs =>
    if stride == 0 then [⟨false, 0, { res with payload := [] }⟩]
    else if bs.length ≤ stride then [⟨false, bs.length, { res with payload := bs }⟩]
    else ⟨true, stride, { res with payload := bs.take stride }⟩ :: piecesOf stride res fuel (bs.drop stride)

/-- The pieces of a result on a ring, from a byte of its payload on. -/
def Ring.pieces (r : Ring) (res : Result) (sent : Nat := 0) : List Piece :=
  piecesOf r.stride res (res.payload.length + 1) (res.payload.drop sent)

/-- Write a piece into a ring's next slot (R105): PHASE as expected, toggled at each multiple of the size. -/
def Ring.put (r : Ring) (x : Piece) : Ring :=
  let p := r.prod + 1
  { r with prod := p, slots := r.slots ++ [⟨r.prod, r.slotAddr r.prod, r.payloadAddr r.prod, r.phase, x⟩],
           phase := if p.toNat % r.size == 0 then !r.phase else r.phase }

/-- Whether a ring has free slots for a result. -/
def Ring.room (r : Ring) (res : Result) : Bool := r.fill + (r.pieces res).length ≤ r.size

/-- Bytes a held result occupies (R108). -/
def spillSize (res : Result) : Nat := 32 + (res.payload.length + 31) / 32 * 32

/-- The size of a spill area: 4 MiB (R108). -/
def spillCap : Nat := 4194304

/-- The gap result of R108. -/
def gapResult (sp : Spill) (outside : Bool) : Result :=
  { opcode := 0xFF, tag := 0, unit := 0xFFFF, status := 0, detail := 0, stamp := sp.dropStamp,
    inline := BitVec.ofNat 64 sp.dropped, payload := [], outside := outside }

/-- A result has been written to a ring: it counts for the ring's vector, while the ring's IRQ_EN is 1 (R119, R120). -/
def State.signal (s : State) (n : Fin 16) (irq : Bool) : State :=
  if s.hif.rings[n].irqEn then s.pend (s.hif.rings[n].vec.toFin) irq else s

/-- Write a result into a ring's slots and count it for the ring's vector. -/
def State.ringWrite (s : State) (n : Fin 16) (res : Result) (irq : Bool) : State :=
  (s.setRing n fun r => (r.pieces res).foldl Ring.put r).signal n irq

/-! ## Host memory written by the part -/

/-- Write one byte: addresses stay strictly rising (the canonical form). -/
def memPut : List Host.Cell → Nat → Byte → List Host.Cell
  | [], a, b => [(a, b)]
  | (x, y) :: m, a, b => if x < a then (x, y) :: memPut m a b else if x == a then (a, b) :: m else (a, b) :: (x, y) :: m

/-- Write a run of bytes from an address upward (R8). -/
def memWrite : List Host.Cell → Nat → Bytes → List Host.Cell
  | m, _, [] => m
  | m, a, b :: bs => memWrite (memPut m a b) (a + 1) bs

/-- The byte the part has written at a host address, if any. -/
def memRead (m : List Host.Cell) (a : Nat) : Option Byte := (m.find? (·.1 == a)).map (·.2)

/-- The canonical form of a memory: addresses strictly rising. -/
def Memory.wf (m : List Host.Cell) : Bool :=
  match m with
  | [] => true
  | [_] => true
  | (a, _) :: (b, y) :: rest => a < b && Memory.wf ((b, y) :: rest)

/-- Write a command's payload to ADDR (Table 4-4). -/
def State.writeHost (s : State) (addr : BitVec 64) (bs : Bytes) : State :=
  { s with hostMem := memWrite s.hostMem addr.toNat bs }

/-! ## Error bits and fault reactions -/

/-- The value of an error register. -/
def State.err (s : State) : ErrReg → Reg
  | .clk => s.errs.clk | .pwr => s.errs.pwr | .hif => s.errs.hif | .lane n => s.errs.lane[n]
  | .pmcan k => s.errs.pmcan[k] | .vlk => s.errs.vlk | .tok => s.errs.tok | .abc => s.errs.abc | .saf => s.errs.saf
  | .lsw => s.errs.lsw | .met n => s.errs.met[n] | .nrg => s.errs.nrg | .book => s.errs.book | .line => s.errs.line
  | .key => s.errs.key | .mgt => s.errs.mgt | .epd p => s.errs.epd[p] | .pair => s.errs.pair | .arb => s.errs.arb

/-- An error register replaced. -/
def Errs.put (e : Errs) (r : ErrReg) (v : Reg) : Errs :=
  match r with
  | .clk => { e with clk := v } | .pwr => { e with pwr := v } | .hif => { e with hif := v }
  | .lane n => { e with lane := e.lane.set n v } | .pmcan k => { e with pmcan := e.pmcan.set k v }
  | .vlk => { e with vlk := v } | .tok => { e with tok := v } | .abc => { e with abc := v }
  | .saf => { e with saf := v } | .lsw => { e with lsw := v } | .met n => { e with met := e.met.set n v }
  | .nrg => { e with nrg := v } | .book => { e with book := v } | .line => { e with line := v }
  | .key => { e with key := v } | .mgt => { e with mgt := v } | .epd p => { e with epd := e.epd.set p v }
  | .pair => { e with pair := v } | .arb => { e with arb := v }

/-- The fault source of an error bit (Table 16-3), or none for the registers it does not list. -/
def faultSource (r : ErrReg) (b : Nat) : Option Nat :=
  match r with
  | .clk => some b | .pwr => some (8 + b) | .hif => some (32 + b) | .lane _ => some (64 + b)
  | .pmcan _ => some (64 + 16 + b) | .vlk => some (96 + b) | .tok => some (128 + b) | .abc => some (160 + b)
  | .saf => some (192 + b) | .lsw => some (224 + b) | .met _ => some (256 + b) | .nrg => some (288 + b)
  | .book => some (320 + b) | .line => some (352 + b) | .key => some (384 + b) | .mgt => some (416 + b)
  | .epd _ | .pair | .arb => none

/-- The OR of a source's sticky bit over its instances (R444). -/
def State.sticky (s : State) (src : Nat) : Bool :=
  let g := src / 32
  let b := src % 32
  match g with
  | 0 => if b < 8 then s.errs.clk.getLsbD b else s.errs.pwr.getLsbD (b - 8)
  | 1 => s.errs.hif.getLsbD b
  | 2 => if b < 16 then s.errs.lane.toList.any (·.getLsbD b) else s.errs.pmcan.toList.any (·.getLsbD (b - 16))
  | 3 => s.errs.vlk.getLsbD b | 4 => s.errs.tok.getLsbD b | 5 => s.errs.abc.getLsbD b | 6 => s.errs.saf.getLsbD b
  | 7 => s.errs.lsw.getLsbD b | 8 => s.errs.met.toList.any (·.getLsbD b) | 9 => s.errs.nrg.getLsbD b
  | 10 => s.errs.book.getLsbD b | 11 => s.errs.line.getLsbD b | 12 => s.errs.key.getLsbD b
  | 13 => s.errs.mgt.getLsbD b | _ => false

/-- MGT_FRs of a source. -/
def State.frs (s : State) (src : Nat) : Reg := s.prof (0xD400 + 4 * src)

/-- ERR_OUT_N is driven low (R49, R449): before the initial self-test, or while a source with ERRO has its bit. -/
def State.errOutLow (s : State) : Bool :=
  !s.boot.errOutReleased || (List.range 448).any fun src => (s.frs src).getLsbD 3 && s.sticky src

/-- The lane of an error register's instance, for BLOCK = 7 (R445). -/
def ErrReg.laneOf : ErrReg → Option Nat
  | .lane n => some n.val | .met n => some n.val | .pmcan k => some (8 * k.val) | _ => none

/-- The newest valid commit slot is B (R69): the slot with the greater generation among the valid ones. -/
def Nv.newestB (nv : Nv) : Bool :=
  match nv.slotA, nv.slotB with
  | some a, some b => b.valid && (!a.valid || a.gen < b.gen)
  | none, some b => b.valid
  | _, none => false

/-- The generation of a new commit (R71). -/
def Nv.nextGen (nv : Nv) : Nat :=
  1 + max (match nv.slotA with | some a => a.gen | none => 0) (match nv.slotB with | some b => b.gen | none => 0)

/-- Whether either slot holds a valid record. -/
def Nv.anyValid (nv : Nv) : Bool :=
  (match nv.slotA with | some a => a.valid | none => false) || (match nv.slotB with | some b => b.valid | none => false)

/-- Start a commit of a kind at now (R68 to R71, R75). A checkpoint waits for nothing and yields to any running
commit; another kind abandons a checkpoint and writes the same slot; a second one only records its cause. -/
def State.startCommit (s : State) (kind : Nat) (cause : Option Nat) : State :=
  let begin_ (slotB : Bool) (s : State) : State :=
    let g := s.nv.nextGen
    let slot : CommitSlot := ⟨commitMagic, commitFormat, g, s.now, none, none⟩
    { s with commit := some ⟨kind, s.now, g, slotB, none, false, cause⟩,
             frozenAt := if kind == 1 then s.frozenAt else some s.now,
             nv := if slotB then { s.nv with slotB := some slot } else { s.nv with slotA := some slot } }
  if s.boot.step < 10 then s
  else match s.commit with
  | none => if s.frozenAt.isSome then s else begin_ (s.nv.anyValid && !s.nv.newestB) s
  | some c => if c.kind == 1 && kind != 1 then begin_ c.slotB s else s

/-- Ask for a chip reset with a reset commit first (R75, R80): cause is the bit of GLB_RST_CAUSE. Before the legal
path runs, and with a commit of another kind already made, the reset follows without a commit of its own. -/
def State.requestChipReset (s : State) (cause : Nat) : State :=
  let s := { s with glb := { s.glb with rstCause := setBitR s.glb.rstCause cause },
                    chipResetDue := some (s.chipResetDue.getD cause) }
  s.startCommit 3 (some cause)

/-- The boot record replaced (R457). -/
def State.setBoot (s : State) (f : BootRec → BootRec) : State := { s with nv := s.nv.putBoot (f s.nv.boot) }

/-- Whether a further fault chip reset is held back by R448: three counted ones within 3,600 s, or no elapsed time. -/
def State.storm (s : State) : Bool :=
  s.nv.boot.resets.length ≥ 3 &&
    (!s.island.elapsedOk || !s.island.integrity || s.nv.boot.resets.all fun v => s.island.elapsed ≤ v + 3600)

/-- The fault interrupt: the vector of MGT_CFG.FVEC fires at once (Table 16-4). -/
def State.faultIrq (s : State) : State := s.fire ⟨s.pf 0xD000 12 5 % 32, Nat.mod_lt _ (by decide)⟩

/-- The reactions other than a chip reset (Table 16-4): none, interrupt, NMI, block reset. A block reset is recorded for
the pass that ends the command. -/
def State.reactPlain (s : State) (r : ErrReg) (src code : Nat) : State :=
  match code with
  | 1 => s.faultIrq
  | 2 => { s with mgt := { s.mgt with nmi := if s.mgt.nmi.contains src then s.mgt.nmi else s.mgt.nmi ++ [src] } }
  | 3 =>
    let b := regField (s.frs src) 4 3
    let blk := if b == 7 then (match r.laneOf with | some n => n / 8 | none => 7) else b
    { s with mgt := { s.mgt with blockDue := if s.mgt.blockDue.contains blk then s.mgt.blockDue else s.mgt.blockDue ++ [blk] } }
  | _ => s

/-- RESET_STORM rises (R448): it is a source too, whose own reaction of 4 acts as 1 from now on. -/
def State.stormRises (s : State) : State :=
  let code := regField (s.frs 427) 0 3
  ({ s with errs := { s.errs with mgt := setBitR s.errs.mgt 11 } } : State).reactPlain .mgt 427 (if code == 4 then 1 else code)

/-- Take a source's reaction (R445 to R448). A chip reset that is under way ends the sequence: no further reaction on its
stamp, and no further chip reset. -/
def State.react (s : State) (r : ErrReg) (src : Nat) : State :=
  let code := regField (s.frs src) 0 3
  if s.chipResetDue.isSome && s.frozenAt == some s.now then s
  else if code != 4 then s.reactPlain r src code
  else if s.errs.mgt.getLsbD 11 then s.faultIrq
  else if s.chipResetDue.isSome then s
  else if s.storm then s.stormRises.faultIrq
  else
    let keep := if s.nv.boot.resets.length ≥ 3 then s.nv.boot.resets.drop 1 else s.nv.boot.resets
    ((s.setBoot fun b => { b with resets := keep ++ [s.island.elapsed] }).note 14 32 56).requestChipReset 3

/-- Set an error bit; a bit that rises takes its source's reaction (R445). -/
def State.setErr (s : State) (r : ErrReg) (b : Nat) : State :=
  if (s.err r).getLsbD b then s
  else
    let s := { s with errs := s.errs.put r (setBitR (s.err r) b) }
    match faultSource r b with
    | some src => s.react r src
    | none => s

/-! ## Results and completions -/

/-- Whether a ring's results may not be dropped when they complete a command (R108, R114). -/
def keepsCompletion (n : Fin 16) : Bool := n == 1 || n == 7 || n == 9

/-- Held results go to the ring in order, piece by piece, while it has slots (R108); completions that wait behind a full area move into it.
The number bounds the pieces. -/
def State.pour (s : State) (n : Fin 16) : Nat → State
  | 0 => s
  | k + 1 =>
    let r := s.hif.rings[n]
    if !s.ringRun n || r.size ≤ r.fill then s
    else match s.spill[n].held with
    | [] => s
    | h :: rest =>
      match r.pieces h.res h.sent with
      | [] => s
      | [x] =>
        let sp := s.spill[n]
        let used := sp.used - spillSize h.res
        let fits : Bool := match sp.behind with | b :: _ => used + spillSize b.res ≤ spillCap | [] => false
        let sp := match sp.behind with
          | b :: bs => if fits then { sp with held := rest ++ [b], used := used + spillSize b.res, behind := bs } else { sp with held := rest, used := used }
          | [] => { sp with held := rest, used := used }
        (((s.setRing n (·.put x)).setSpill n fun _ => sp).signal n h.irq).pour n k
      | x :: _ => ((s.setRing n (·.put x)).setSpill n fun sp => { sp with held := { h with sent := h.sent + x.plen } :: rest }).pour n k

/-- The pieces that held results can take at most. -/
def Spill.work (sp : Spill) : Nat := ((sp.held ++ sp.behind).map fun h => h.res.payload.length + 1).sum

/-- A spill area has filled (R108): SPILL, and the sources of rings 1, 7 and 9 are held back. -/
def State.spillFull (s : State) (n : Fin 16) : State := (s.setSpill n fun sp => { sp with full := true }).setErr .hif 5

/-- Hold a result in a ring's spill area (R108). With the area full a completion of an accepted command, which may not be dropped (R114), waits
for its space (log 77); any other result is dropped. -/
def State.hold (s : State) (n : Fin 16) (res : Result) (completion irq : Bool) : State :=
  let sp := s.spill[n]
  if sp.used + spillSize res ≤ spillCap && sp.behind.isEmpty then
    let s := s.setSpill n fun sp => { sp with held := sp.held ++ [⟨res, 0, irq⟩], used := sp.used + spillSize res }
    let s := s.pour n s.spill[n].work
    if spillCap ≤ s.spill[n].used then s.spillFull n else s
  else if completion && keepsCompletion n then (s.setSpill n fun sp => { sp with behind := sp.behind ++ [⟨res, 0, irq⟩] }).spillFull n
  else
    (s.setSpill n fun sp => { sp with dropped := sp.dropped + 1, dropStamp := if sp.dropped == 0 then res.stamp else sp.dropStamp }).spillFull n

/-- Deliver a result to a from-device ring (R108): written when the ring runs, nothing is held before it and its slots are free; held in the spill
area otherwise. -/
def State.deliver (s : State) (n : Fin 16) (res : Result) (completion irq : Bool) : State :=
  let sp := s.spill[n]
  if s.ringRun n && sp.held.isEmpty && sp.dropped == 0 && s.hif.rings[n].room res then s.ringWrite n res irq
  else s.hold n res completion irq

/-- A result that is no completion, stamped now. Before step 9 of start-up no event is stamped (R81); while the legal path and the Abacus are
frozen their rings, 6, 7 and 9, take nothing stamped after F (R68). -/
def State.emit (s : State) (ring : Fin 16) (opcode unit detail inline : Nat) (payload : Bytes := []) : State :=
  if !s.htcLoaded || (s.frozen && (ring == 6 || ring == 7 || ring == 9)) then s
  else
    s.deliver ring { opcode := BitVec.ofNat 8 opcode, tag := 0, unit := BitVec.ofNat 16 unit, status := 0,
                     detail := BitVec.ofNat 8 detail, stamp := s.htc, inline := BitVec.ofNat 64 inline,
                     payload := payload, outside := s.outside } false false

/-- The ring of a lane's session core (R20). -/
def laneRing (n : Fin 32) : Fin 16 := ⟨2 + n.val / 8, by omega⟩

/-- The ring on which a to-device ring's completions appear (Table 4-3). -/
def completionRing (ring : Nat) : Fin 16 := if ring == 8 then 9 else 1

/-- Opcodes of single scope that name no unit (the opcode tables of the chapters: UNIT 0). -/
def unitless (opcode : Nat) : Bool :=
  [0x00, 0x30, 0x32, 0x40, 0x50, 0x51, 0x52, 0x53, 0x54, 0x60, 0x63, 0x7B, 0x91, 0x92, 0x93, 0x94, 0xA1, 0xA2, 0xA3, 0xB0, 0xB1, 0xB2, 0xC0,
   0xC1, 0xC2, 0xC3, 0xC4, 0xD8, 0xD9].contains opcode

/-- UNIT of a completion (Table 4-5): the unit concerned, or 0xFFFF for a gang, a batch or an opcode that names none. -/
def complUnit (opcode : Nat) (scope : Byte) (unit : BitVec 16) : BitVec 16 := if scope != 0 || unitless opcode then 0xFFFF else unit

/-- Write a completion (R112, R114); the ring keeps the stamp at which a command of it settled last (R546). -/
def State.complete (s : State) (ring opcode : Nat) (tag : BitVec 16) (irq : Bool) (unit : BitVec 16)
    (status detail inline : Nat) (payload : Bytes := []) : State :=
  let k : Fin 16 := ⟨ring % 16, Nat.mod_lt _ (by decide)⟩
  ({ s with intake := s.intake.set k { s.intake[k] with settledAt := some s.now } } : State).deliver (completionRing ring)
    { opcode := BitVec.ofNat 8 opcode, tag := tag, unit := unit, status := BitVec.ofNat 8 status,
      detail := BitVec.ofNat 8 detail, stamp := s.htc, inline := BitVec.ofNat 64 inline, payload := payload,
      outside := s.outside } true irq

/-! ## The legal log (R451 to R454) -/

/-- Bytes 0 to 79 of an entry (R452). -/
def LogEntry.body (e : LogEntry) : Bytes :=
  leBytes 8 e.lseq.toNat ++ [e.kind, if e.outside then 1 else 0, 0, 0] ++ leBytes 9 e.stamp.toNat ++
    rtcBytes e.sec e.secValid ++ zeros 4 ++ (e.payload ++ zeros 48).take 48

/-- All 96 bytes of an entry. -/
def LogEntry.bytes (e : LogEntry) : Bytes := e.body ++ leBytes 16 e.chain.toNat

/-- Write a legal-log entry at now (R451 to R453): the next LSEQ, and stored unless the region is full of entries not
acknowledged. Each stored entry is also a LEGAL result on RING13 (R454, R468). Nothing is written while frozen. -/
def State.legal (s : State) (kind : Nat) (payload : Bytes) : State :=
  if s.frozen then s
  else
    let l := s.nv.llog
    let q := l.lseq + 1
    let room := l.entries.length < l.cap ||
      (match l.entries with | e :: _ => decide (e.lseq.toNat ≤ l.ack.toNat) | [] => false)
    if room then
      let e0 : LogEntry := { lseq := q, kind := BitVec.ofNat 8 kind, outside := s.outside, stamp := s.htc,
                             sec := s.island.rtcSec, secValid := s.book.img.clkValid, payload := payload, chain := 0 }
      let ch := (Config.sha256 (leBytes 16 l.chain.toNat ++ e0.body)).truncate 128
      let e := { e0 with chain := ch }
      let es := if l.entries.length < l.cap then l.entries ++ [e] else l.entries.drop 1 ++ [e]
      let s := { s with nv := { s.nv with llog := { l with entries := es, lseq := q, chain := ch } } }
      s.emit 13 0x01 0xFFFF 0 q.toNat e.bytes
    else
      let s := { s with nv := { s.nv with llog := { l with lseq := q, lost := min (l.lost + 1) 0xFFFFFFFF } } }
      s.setErr .mgt 9

/-- A fault of R40: from now every record is written outside the guarantee, and a GUARANTEE entry names the cause
(Table 16-5). A second fault adds its entry and changes nothing else. -/
def State.guaranteeLost (s : State) (cause : Nat) : State :=
  ({ s with outside := true } : State).legal 0x20 [BitVec.ofNat 8 cause]

/-! ## The event log (R450) -/

/-- The 64 bytes of a record. -/
def EventRec.bytes (e : EventRec) : Bytes :=
  leBytes 8 e.eseq ++ [BitVec.ofNat 8 e.page, BitVec.ofNat 8 (e.kind + 64 * e.severity)] ++ leBytes 2 e.lane ++
    leBytes 9 e.stamp ++ rtcBytes e.sec e.secValid ++ (e.data ++ zeros 36).take 36

/-- Record in the MC's event log; the shedding level drops records (R442), the area holds 262,144 of them. -/
def State.event (s : State) (page kind severity lane : Nat) (data : Bytes) : State :=
  if s.mgt.shed ≥ 4 || (s.mgt.shed ≥ 2 && severity == 0) then
    ({ s with mgt := { s.mgt with edrop := min (s.mgt.edrop + 1) 0xFFFFFFFF } } : State).setErr .mgt 10
  else
    let e : EventRec := ⟨s.mgt.eseq + 1, page, kind, severity, lane, s.now, s.island.rtcSec, s.book.img.clkValid, data⟩
    let log := if s.mgt.elog.length < 262144 then s.mgt.elog ++ [e] else s.mgt.elog.drop 1 ++ [e]
    let s := { s with mgt := { s.mgt with eseq := s.mgt.eseq + 1, elog := log } }
    if s.mgt.shed ≥ 3 then s
    else ({ s with mgt := { s.mgt with eexp := e.eseq } } : State).emit 13 0x02 0xFFFF 0 e.eseq e.bytes

/-! ## Lists of lanes -/

/-- Every lane number, ascending. -/
def allLanes : List (Fin 32) := List.finRange 32

/-- Fold an operation over every lane, ascending. -/
def State.forLanes (s : State) (f : State → Fin 32 → State) : State := allLanes.foldl f s

end Sys2Proof.Machine
end

