-- ==== Sys2Proof/Machine/Operands.lean ====
section
/-!
DEFINITION. How a request is taken from a to-device ring: waits (R86, R106 to R108, R546), refusals in common
(R113), and commands over several units with their inverse actions (R115 to R118).
-/
namespace Sys2Proof.Machine

open Sys2Proof

/-! ## Fields of a request -/

/-- Byte n of a request descriptor (Table 4-4). -/
def dbyte (d : Desc) (n : Nat) : Nat := d.head.toNat / 256 ^ n % 256

/-- Bytes a … a + n − 1 of a request descriptor as a number. -/
def dparam (d : Desc) (a n : Nat) : Nat := d.head.toNat / 256 ^ a % 256 ^ n

/-- Scope codes of Table 4-4. -/
abbrev scopeSingle : Nat := 0
abbrev scopeGang : Nat := 1
abbrev scopeBatch : Nat := 2

/-- Completion statuses of Table 4-7. -/
abbrev stOk : Nat := 0x00
abbrev stPartial : Nat := 0x01
abbrev stCompensated : Nat := 0x02
abbrev stStuck : Nat := 0x03
abbrev stBadOpcode : Nat := 0x10
abbrev stBadUnit : Nat := 0x11
abbrev stBadLen : Nat := 0x12
abbrev stBadAddr : Nat := 0x13
abbrev stBadScope : Nat := 0x14
abbrev stResvNz : Nat := 0x15
abbrev stChainErr : Nat := 0x16
abbrev stDenied : Nat := 0x17
abbrev stBusy : Nat := 0x18
abbrev stTimeout : Nat := 0x19
abbrev stAborted : Nat := 0x1A

/-! ## Acceptance -/

/-- Whether a to-device ring has an unsettled command (R107). -/
def State.unsettled (s : State) (ring : Nat) : Bool := s.flights.any (·.ring == ring)

/-- Whether a source is held back (R108, R241, R244, R442). -/
def State.heldBack (s : State) (ring : Nat) : Bool :=
  match ring with
  | 0 => s.spill[1].full || s.spill[7].full
  | 8 => s.spill[9].full || !s.abc.ready || s.abc.jheld
  | 15 => s.spill[1].full || s.mgt.shed ≥ 1
  | _ => s.spill[1].full

/-- Whether an opcode is one of the legal path or the Abacus: intake, energy, register book, legal log, ledger. While a
hold-up, reset or clock-failure commit has frozen them, its request gets no completion (R68): it stays unaccepted. -/
def isFrozenOp (opcode : Nat) : Bool :=
  (0x50 ≤ opcode && opcode ≤ 0x54) || (0x78 ≤ opcode && opcode ≤ 0x81) || (0x90 ≤ opcode && opcode ≤ 0x94) || opcode == 0xC4

/-- Whether a to-device ring's source waits now: for PHASE 7 (R86) or held back. -/
def State.sourceHeld (s : State) (ring : Fin 16) : Bool := (s.boot.phase != 7 && ring != 14) || s.heldBack ring.val

/-- Whether a stamp is not yet passed by more than n ticks. -/
def State.within (s : State) (n : Nat) (t : Option Nat) : Bool := match t with | some e => decide (s.now ≤ e + n) | none => false

/-- Whether the head descriptor of a ring has to wait (R68, R86, R98, R107, R546): what holds it back, or its end not released yet, 8 ticks after
its stamp. The stamp after the last one at which a source was held ends the hold. -/
def State.mustWait (s : State) (ring : Fin 16) (d : Desc) : Bool :=
  !s.ringRun ring || s.sourceHeld ring || s.within 9 s.intake[ring].heldAt || (d.fence && (s.unsettled ring.val || s.within 8 s.intake[ring].settledAt)) ||
    (s.frozen && isFrozenOp d.opcode.toNat)

/-- Consume a command's descriptors (R103, R106); a ring that was full signals its vector (R119). -/
def State.consume (s : State) (ring : Fin 16) (n : Nat) : State :=
  let r := s.hif.rings[ring]
  let s1 := s.setRing ring fun r => { r with cons := r.cons + BitVec.ofNat 16 n }
  if r.fill == r.size && r.irqEn then s1.pend r.vec.toFin false else s1

/-- Complete a request. -/
def State.answer (s : State) (ring opcode : Nat) (d : Desc) (status : Nat) (detail inline : Nat := 0)
    (payload : Bytes := []) : State :=
  s.complete ring opcode d.tag d.irq (complUnit opcode d.scope d.unit) status detail inline payload

/-- The refusals of R113 that every opcode shares, in the order reserved field, scope, length, parameter, payload
transfer (the order among them is a DESIGN CHOICE, log 8); none when the request may go on. A gang's UNIT is 0 (Table 4-4); another is an invalid
unit (log 79). -/
def refusal (d : Desc) (scopeOk lenOk paramOk : Bool) : Option Nat :=
  if d.resv then some stResvNz
  else if !scopeOk then some stBadScope
  else if d.len.toNat > 16777216 || !lenOk then some stBadLen
  else if !paramOk || (d.scope == 1 && d.unit != 0) then some stBadUnit
  else if d.dmaErr && d.len != 0 then some stBadAddr
  else none

/-- The descriptors of a ring's commands that wait (R106). -/
def State.queuedOn (s : State) (ring : Fin 16) : Nat :=
  ((s.waiting.filter (·.ring == ring.val)).map fun w => w.count).sum

/-- Take a command's descriptors off its ring. A command that waits holds its place (R107, R546): its row acts again when its wait has ended, and a
command behind it waits too. One whose descriptors the ring does not hold is forgotten (R102). -/
def State.arrive (s : State) (i : Instr) (ring : Fin 16) (count : Nat) (wait : Bool) (act : State → State) : State :=
  let r := s.hif.rings[ring]
  let mine := s.waiting.find? (·.ring == ring.val)
  let w0 : Waiting := ⟨ring.val, i, count, true⟩
  let isHead := mine == some w0
  let s0 : State := if isHead then { s with waiting := s.waiting.erase w0 } else s
  if !r.en || r.err || count == 0 || count > 16 || r.fill < s0.queuedOn ring + count && !isHead || r.fill < count then s0
  else if (mine.isSome && !isHead) || wait then
    let w : Waiting := ⟨ring.val, i, count, false⟩
    let s0 := if s.sourceHeld ring then { s0 with intake := s0.intake.set ring { s0.intake[ring] with heldAt := some s.now } } else s0
    { s0 with waiting := if isHead then w :: s0.waiting else s0.waiting ++ [w] }
  else act (s0.consume ring count)

/-- Take a request: nothing happens when the ring has no such descriptor; it waits when it must; otherwise it is
accepted as an event (class 13, or 12 on RING08, R106), refused by R113 or given to its opcode's own action. -/
def State.accept (s : State) (i : Instr) (ring : Fin 16) (opcode : Nat) (d : Desc)
    (scopeOk lenOk paramOk : Bool) (act : State → State) : State :=
  s.arrive i ring d.count (s.mustWait ring d) fun s =>
    let s1 := s.note (if ring == 8 then 12 else 13) 32 ring.val
    match refusal d scopeOk lenOk paramOk with
    | some st =>
      let s2 := s1.answer ring.val opcode d st
      if st == stBadAddr then s2.setErr .hif 4 else s2
    | none => act s1

/-- Accept a request of single scope on RING00 with no payload of its own length rule but len. -/
def State.acceptSingle (s : State) (i : Instr) (opcode : Nat) (d : Desc) (len : Nat) (paramOk : Bool)
    (act : State → State) : State :=
  s.accept i 0 opcode d (d.scope == 0) (d.len.toNat == len) paramOk act

/-! ## Commands in flight -/

/-- Record an accepted command that settles later. -/
def State.launch (s : State) (ring opcode : Nat) (d : Desc) (gang : Bool) (members : List Nat)
    (prev : List (Nat × Nat)) (arg : Nat := 0) (batch : Option (List (Nat × Nat)) := none) : State :=
  { s with flights := s.flights ++
      [{ ring := ring, opcode := opcode, tag := d.tag, irq := d.irq, gang := gang, unit := complUnit opcode d.scope d.unit, members := members,
         done := [], failed := [], restored := [], settled := [], inverse := false, invStarted := false, prev := prev,
         arg := arg, stamp := s.now, batch := batch }] }

/-- The bit that names a unit in the masks (R116, R296). -/
def maskBit (opcode unit : Nat) : Nat := if opcode == 0x70 then unit - 32 else unit

/-- A mask of units. -/
def maskOf (opcode : Nat) (us : List Nat) : Nat := us.foldl (fun a u => a ||| 2 ^ maskBit opcode u) 0

/-- Whether a command was unsettled at the freeze stamp of a commit: it receives no completion (R68, R114). -/
def State.unanswered (s : State) (f : Flight) : Bool :=
  s.frozen && (match s.frozenAt with | some x => decide (f.stamp ≤ x) | none => false)

/-- Settle a flight with a status (R114). -/
def State.settleFlight (s : State) (f : Flight) (status detail inline : Nat) (payload : Bytes := []) : State :=
  let t : State := { s with flights := s.flights.erase f }
  if s.unanswered f then t else t.complete f.ring f.opcode f.tag f.irq f.unit status detail inline payload

/-- Replace a flight by its successor. -/
def State.setFlight (s : State) (f g : Flight) : State :=
  { s with flights := s.flights.map fun x => if x == f then g else x }

/-- The flight of an opcode that has a unit among its unsettled members. -/
def State.flightOf (s : State) (opcode unit : Nat) : Option Flight :=
  s.flights.find? fun f => f.opcode == opcode && f.members.contains unit && !f.settled.contains unit

/-- Settle every unsettled flight of an opcode on a unit with a status. -/
def State.settleAll (s : State) (opcode unit status inline : Nat) : State :=
  (s.flights.filter fun f => f.opcode == opcode && f.members.contains unit).foldl (fun s f => s.settleFlight f status 0 inline) s

/-- The unsettled flights of an opcode that name a unit. -/
def State.flightsOf (s : State) (opcode unit : Nat) : List Flight :=
  s.flights.filter fun f => f.opcode == opcode && f.members.contains unit && !f.settled.contains unit

/-- Whether two flights are the same command. -/
def Flight.same (f g : Flight) : Bool := f.ring == g.ring && f.opcode == g.opcode && f.tag == g.tag && f.stamp == g.stamp && f.members == g.members

/-- The inverse action of a member has ended (R117); the gang completes when every member has settled: COMPENSATED, or STUCK when a member other
than the first that failed was not restored. -/
def State.inverseEnd (s : State) (f : Flight) (unit : Nat) (ok : Bool) : State :=
  let g := { f with settled := f.settled ++ [unit], restored := if ok then f.restored ++ [unit] else f.restored }
  if g.members.all (g.settled.contains ·) then
    let inline := maskOf g.opcode g.failed + maskOf g.opcode g.restored * 2 ^ 32
    let first := g.failed.head?
    let stuck := g.members.any fun u => !g.restored.contains u && some u != first
    s.settleFlight f (if stuck then stStuck else stCompensated) 0 inline
  else s.setFlight f g

/-- The completion of a command that is done on every unit: OK, or for a batch its status bytes (R118). -/
def State.flightOk (s : State) (f : Flight) : State :=
  match f.batch with
  | some sts => s.settleFlight f (if sts.all (·.2 == stOk) then stOk else stPartial) 0 0 (sts.map (BitVec.ofNat 8 ·.2))
  | none => s.settleFlight f stOk 0 0

/-- A member of one flight reports its action done (R117): once the inverse actions run it is the member's inverse that is done; a report of the
original action between the first failure and their start is ignored. -/
def State.flightDone (s : State) (f : Flight) (unit : Nat) : State :=
  if f.invStarted then s.inverseEnd f unit true
  else if f.inverse || f.done.contains unit then s
  else
    let g := { f with done := f.done ++ [unit] }
    if g.members.all (g.done.contains ·) then s.flightOk f else s.setFlight f g

/-- A unit reports an opcode's action done. -/
def State.memberDone (s : State) (opcode unit : Nat) : State :=
  (s.flightsOf opcode unit).foldl (fun s f => s.flightDone f unit) s

/-- What becomes of a member's inverse action at once: done, or to be reported, or failed. -/
inductive Inverse where
  | done | waits | stuck
  deriving DecidableEq, Repr

/-- A member of one flight reports its action failed (R117). A single command completes with the status given, a batch notes it for the unit's
entries; in a gang the first failure begins the inverse stage, and a later one adds its unit; a member whose inverse action runs then is not
restored. -/
def State.flightFail (s : State) (f : Flight) (unit status : Nat) : State :=
  match f.gang, f.batch with
  | false, none => s.settleFlight f status 0 0
  | false, some sts =>
    let g := { f with batch := some (sts.map fun e => if e.1 == unit && e.2 == stOk then (unit, status) else e) }
    (s.setFlight f g).flightDone g unit
  | true, _ =>
    let g := { f with failed := if f.failed.contains unit then f.failed else f.failed ++ [unit] }
    if f.invStarted then (s.setFlight f g).inverseEnd g unit false
    else if f.inverse then s.setFlight f g
    else s.setFlight f { g with settled := [unit], inverse := true }

/-- A unit reports an opcode's action failed: gang members only, or every flight. -/
def State.memberFail (s : State) (opcode unit status : Nat) (single : Bool := false) : State :=
  ((s.flightsOf opcode unit).filter fun f => f.gang || single).foldl (fun s f => s.flightFail f unit status) s

/-- The units that a mask names (R116), for units lo … lo + 31. -/
def maskUnits (mask : BitVec 32) (lo : Nat) : List Nat :=
  (List.range 32).filterMap fun b => if mask.getLsbD b then some (lo + b) else none

/-- The entries of a batch on lanes or channels: 16 bytes each, unit in bytes 0 and 1, PARAM1 in bytes 8 to 15
(DESIGN CHOICE, log 10: R118 gives no entry format for these opcodes). -/
def batchEntries : Nat → Bytes → List (Nat × Nat)
  | 0, _ => []
  | n + 1, bs => (field bs 0 2, field bs 8 8) :: batchEntries n (bs.drop 16)

/-- Run a batch (R118): each entry in payload order; its unit and status. -/
def runBatch (f : State → Nat → Nat → Nat × State) : List (Nat × Nat) → State → List (Nat × Nat) × State
  | [], s => ([], s)
  | (u, p) :: es, s =>
    let (st, s1) := f s u p
    let (sts, s2) := runBatch f es s1
    ((u, st) :: sts, s2)

/-- The completion of a batch: OK or PARTIAL with the status bytes (R118). ok tells which codes count as success. -/
def State.answerBatch (s : State) (ring opcode : Nat) (d : Desc) (ok : Nat → Bool) (sts : List Nat) : State :=
  s.answer ring opcode d (if sts.all ok then stOk else stPartial) 0 0 (sts.map (BitVec.ofNat 8 ·))

/-- A batch over lanes or channels has been applied, with a status for each entry's unit: it completes, or waits for the units that are not done. -/
def State.endBatch (s : State) (opcode : Nat) (d : Desc) (sts : List (Nat × Nat)) (waits : Nat → Bool) : State :=
  let us := ((sts.filter fun e => e.2 == stOk && waits e.1).map (·.1)).eraseDups
  if us.isEmpty then s.answerBatch 0 opcode d (· == stOk) (sts.map (·.2)) else s.launch 0 opcode d false us [] 0 (some sts)

/-- LEN of a batch over lanes or channels: 16 bytes for each of the UNIT entries (Table 4-4; DESIGN CHOICE, logs 10 and 79). -/
def batchLen (d : Desc) : Bool := d.unit != 0 && d.len.toNat == 16 * d.unit.toNat

/-- The entries of a batch over lanes or channels. -/
def unitEntries (d : Desc) : List (Nat × Nat) := batchEntries d.unit.toNat d.payload

/-- Check a gang's units (R116): an empty mask, a mask that names an invalid unit, or the failing units; none when all pass. -/
def gangCheck (opcode : Nat) (units : List Nat) (valid denied ready : Nat → Bool) : Option (Nat × Nat) :=
  if units.isEmpty then some (stBadUnit, 0)
  else if units.any (fun u => !valid u) then some (stBadUnit, maskOf opcode (units.filter fun u => !valid u || denied u || !ready u))
  else
    let bad := units.filter fun u => denied u || !ready u
    if bad.isEmpty then none
    else some (if bad.any denied then stDenied else stBadUnit, maskOf opcode bad)

end Sys2Proof.Machine
end

