-- ==== Sys2Proof/Machine/Basics.lean ====
section
/-!
DEFINITION. What every chapter asks of a lane's profile: whether it is enabled, its mode, the channels its mode uses.
-/
namespace Sys2Proof.Machine

open Sys2Proof

/-- The offset of a lane's LANE block. -/
def laneOff (n : Fin 32) : Nat := 0x2000 + 0x80 * n.val

/-- A field of a lane's LANE profile registers. -/
def State.lanePf (s : State) (n : Fin 32) (off lo w : Nat) : Nat := s.pf (laneOff n + off) lo w

/-- A lane replaced. -/
def State.setLane (s : State) (n : Fin 32) (f : Lane → Lane) : State := { s with lanes := s.lanes.set n (f s.lanes[n]) }

/-- Whether the part is paired: PAIR_CFG.MODE 1 or 3 (R489). -/
def State.paired (s : State) : Bool := s.pf 0xF000 0 2 == 1 || s.pf 0xF000 0 2 == 3

/-- Whether a lane's enable bit acts: a profile is active, EN is 1, and the enables are in effect (R498). -/
def State.laneEn (s : State) (n : Fin 32) : Bool :=
  s.glb.profActiveValid && s.lanePf n 0 0 1 == 1 && (!s.paired || s.pair.enabled)

/-- Whether the pair interlock lets the HSS permit (R250, R494). -/
def State.interlock (s : State) : Bool := !s.paired || s.pair.hold

/-- The channel named by PAIR_CFG.SEL_CH in MODE 1 or 3 (R497), and the shunt channel of SAF_WELD (R294). -/
def State.selectorCh (s : State) : Option (Fin 48) :=
  if h : s.paired = true ∧ 32 ≤ s.pf 0xF000 4 6 ∧ s.pf 0xF000 4 6 < 48 then some ⟨s.pf 0xF000 4 6, h.2.2⟩ else none
def State.shuntCh (s : State) : Option (Fin 48) :=
  if h : 32 ≤ s.pf 0x6028 20 6 ∧ s.pf 0x6028 20 6 < 48 then some ⟨s.pf 0x6028 20 6, h.2⟩ else none

/-- Whether a channel's driver is on (Table 10-1). -/
def Chan.driving (c : Chan) : Bool := c.st == .start || c.st == .on

/-- Whether the selector channel is off while the part is paired (R144). -/
def State.selectorOff (s : State) : Bool :=
  s.paired && (match s.selectorCh with | some c => !s.lsw.chans[c].driving | none => true)

/-- Whether a pair hold is in force (R504), and whether any hold beside LANE_ADMIT is (R547). -/
def State.pairHold (s : State) : Bool := s.pair.byTakeback || s.pair.byHandover || s.pair.byFeeds
def State.hubHold (s : State) : Bool := s.mgt.hold || s.pairHold

/-- LANE_CFG.MODE: 0 AC-1P, 1 AC-3P, 2 DC (R128). -/
def State.laneMode (s : State) (n : Fin 32) : Nat := s.lanePf n 0 1 2

/-- Whether a lane is a DC lane. -/
def State.isDc (s : State) (n : Fin 32) : Bool := s.laneMode n == 2

/-- The channels a mode uses (Table 5-1), in the order V1, V2, V3, I1, I2, I3, IN, IDF. -/
def channelUsed (mode c : Nat) : Bool :=
  match mode with
  | 0 => c == 0 || c == 3 || c == 6 || c == 7
  | 1 => c < 8
  | _ => c == 0 || c == 1 || c == 2 || c == 3 || c == 4 || c == 7

/-- Whether a lane's digital communication is in force by its profile and session (R133). -/
def State.digital (s : State) (n : Fin 32) : Bool :=
  match s.lanePf n 0 3 2 with
  | 1 => true
  | 2 => !s.lanes[n].assocFailed
  | _ => false

/-- The grade maximum in 0.1 °C (R2, Table 20-2): variant 1 is -A, 2 is -I. -/
def State.gradeMax (s : State) : Int := if s.fuses.variant == 1 then 1500 else 1250

/-- The runs of samples at or above a threshold, first and last such sample of each, newest first: a run goes on until gap consecutive samples
have stayed below (R160, R397). -/
def noiseRuns (gap thr : Nat) (high : List (Nat × Nat)) : List (Nat × Nat) :=
  high.foldl (fun rs x =>
    if x.2 < thr then rs
    else match rs with
      | (a, b) :: rest => if x.1 ≤ b + gap then (a, x.1) :: rest else (x.1, x.1) :: rs
      | [] => [(x.1, x.1)]) []

end Sys2Proof.Machine
end

