-- ==== Sys2Proof/Machine/Tables.lean ====
section
/-!
DEFINITION. The constant tables of the metrology path: the resampler prototype of R306 and a quarter wave of the
cosine table of R331, both computed in IEEE 754 binary64 arithmetic as those rules say, and the filter taps of R305.
-/
namespace Sys2Proof.Machine

def hPart0 : List Int :=
  [1, 2, 5, 8, 11, 15, 17, 19, 20, 18, 15, 9, 0, -12, -29, -50, -75, -105, -141, -183, -231, -286, -346,
   -414, -489, -571, -659, -755, -858, -968, -1084, -1207, -1336, -1471, -1611, -1756, -1906, -2059, -2216,
   -2375, -2536, -2698, -2859, -3021, -3180, -3336, -3489, -3637, -3780, -3915, -4041, -4159, -4265, -4360,
   -4441, -4507, -4557, -4590, -4604, -4598, -4569, -4518, -4442, -4340]
def hPart1 : List Int :=
  [-4210, -4051, -3861, -3639, -3385, -3095, -2770, -2408, -2007, -1567, -1086, -564, 0, 608, 1259, 1953,
   2692, 3473, 4298, 5165, 6073, 7023, 8012, 9040, 10104, 11205, 12340, 13507, 14705, 15931, 17184, 18462,
   19762, 21082, 22420, 23773, 25140, 26518, 27904, 29297, 30694, 32092, 33490, 34884, 36274, 37655, 39028,
   40388, 41734, 43064, 44377, 45667, 46936, 48181, 49394, 50583, 51740, 52869, 53960, 55012, 56029, 57005,
   57936, 58826]
def hPart2 : List Int :=
  [59668, 60464, 61205, 61892, 62531, 63110, 63636, 64103, 64513, 64861, 65149, 65372, 65536, 65634, 65671,
   65642, 65547, 65388, 65162, 64873, 64523, 64107, 63628, 63092, 62495, 61843, 61126, 60361, 59543, 58674,
   57752, 56791, 55781, 54736, 53648, 52523, 51367, 50177, 48959, 47713, 46444, 45153, 43842, 42515, 41169,
   39813, 38448, 37072, 35688, 34300, 32908, 31515, 30121, 28729, 27340, 25955, 24576, 23204, 21840, 20486,
   19142, 17811, 16493, 15188]
def hPart3 : List Int :=
  [13899, 12626, 11370, 10133, 8915, 7718, 6543, 5390, 4261, 3156, 2077, 1025, 0, -996, -1963, -2898,
   -3800, -4668, -5500, -6296, -7054, -7773, -8454, -9094, -9693, -10252, -10769, -11245, -11679, -12072,
   -12423, -12734, -13005, -13235, -13426, -13579, -13694, -13772, -13814, -13822, -13795, -13735, -13644,
   -13522, -13371, -13192, -12986, -12754, -12497, -12218, -11916, -11593, -11251, -10890, -10511, -10117,
   -9707, -9284, -8848, -8400, -7941, -7473, -6996, -6512]
def hPart4 : List Int :=
  [-6021, -5525, -5024, -4520, -4014, -3506, -2998, -2491, -1986, -1483, -984, -489, 0, 483, 957, 1423,
   1879, 2324, 2756, 3175, 3579, 3968, 4341, 4696, 5034, 5354, 5655, 5936, 6197, 6438, 6659, 6859, 7038,
   7196, 7334, 7451, 7547, 7623, 7678, 7714, 7731, 7728, 7707, 7668, 7611, 7537, 7446, 7339, 7217, 7080,
   6928, 6763, 6585, 6394, 6191, 5977, 5753, 5518, 5274, 5022, 4761, 4493, 4218, 3936]
def hPart5 : List Int :=
  [3649, 3357, 3061, 2761, 2458, 2152, 1845, 1536, 1227, 919, 611, 304, 0, -302, -600, -893, -1182, -1465,
   -1740, -2009, -2269, -2520, -2762, -2994, -3215, -3426, -3624, -3811, -3986, -4148, -4297, -4433, -4556,
   -4666, -4763, -4846, -4916, -4973, -5017, -5047, -5065, -5071, -5064, -5045, -5014, -4972, -4918, -4854,
   -4779, -4694, -4599, -4495, -4382, -4260, -4129, -3991, -3846, -3693, -3534, -3368, -3197, -3020, -2838,
   -2651]
def hPart6 : List Int :=
  [-2460, -2266, -2068, -1867, -1663, -1458, -1251, -1043, -834, -625, -416, -207, 0, 206, 409, 610, 808,
   1002, 1192, 1376, 1556, 1730, 1897, 2058, 2211, 2357, 2496, 2626, 2748, 2862, 2967, 3063, 3150, 3227,
   3296, 3356, 3406, 3447, 3480, 3503, 3517, 3523, 3520, 3508, 3489, 3461, 3425, 3382, 3332, 3274, 3209,
   3138, 3060, 2976, 2886, 2791, 2690, 2584, 2474, 2359, 2239, 2116, 1989, 1859]
def hPart7 : List Int :=
  [1726, 1590, 1451, 1311, 1168, 1024, 879, 733, 586, 439, 292, 146, 0, -145, -288, -430, -569, -706, -840,
   -970, -1097, -1220, -1338, -1452, -1560, -1664, -1762, -1854, -1941, -2021, -2096, -2164, -2225, -2281,
   -2329, -2372, -2408, -2437, -2460, -2477, -2487, -2491, -2489, -2482, -2468, -2448, -2423, -2393, -2357,
   -2316, -2271, -2220, -2165, -2106, -2042, -1975, -1903, -1829, -1750, -1669, -1584, -1497, -1407, -1315]
def hPart8 : List Int :=
  [-1221, -1125, -1027, -927, -826, -724, -622, -518, -415, -311, -207, -103, 0, 102, 204, 304, 402, 499,
   593, 686, 775, 861, 945, 1025, 1102, 1174, 1243, 1308, 1369, 1426, 1478, 1525, 1569, 1607, 1641, 1671,
   1696, 1716, 1732, 1744, 1750, 1753, 1751, 1745, 1735, 1721, 1703, 1681, 1656, 1627, 1594, 1558, 1519,
   1477, 1432, 1385, 1334, 1281, 1226, 1169, 1109, 1048, 985, 920]
def hPart9 : List Int :=
  [854, 786, 717, 648, 577, 506, 434, 362, 289, 217, 144, 72, 0, -71, -142, -211, -280, -347, -412, -476,
   -538, -598, -655, -711, -763, -814, -861, -906, -947, -986, -1021, -1054, -1083, -1110, -1133, -1152,
   -1169, -1183, -1193, -1200, -1204, -1205, -1204, -1199, -1191, -1181, -1168, -1153, -1135, -1114, -1091,
   -1066, -1039, -1010, -978, -945, -910, -874, -836, -796, -755, -713, -670, -625]
def hPart10 : List Int :=
  [-580, -534, -487, -439, -391, -342, -294, -244, -195, -146, -97, -48, 0, 48, 95, 142, 188, 233, 277,
   319, 361, 400, 439, 475, 510, 543, 575, 604, 631, 656, 680, 701, 720, 737, 751, 764, 774, 783, 789, 793,
   795, 795, 793, 790, 784, 777, 767, 757, 744, 730, 714, 697, 679, 659, 638, 616, 593, 568, 543, 517, 490,
   462, 434, 404]
def hPart11 : List Int :=
  [375, 345, 314, 283, 252, 220, 189, 157, 125, 94, 62, 31, 0, -31, -61, -90, -120, -148, -176, -202, -228,
   -253, -277, -300, -322, -342, -361, -379, -396, -411, -425, -438, -449, -459, -468, -475, -481, -486,
   -489, -491, -492, -491, -489, -486, -482, -477, -471, -464, -455, -446, -436, -425, -413, -401, -387,
   -373, -359, -343, -328, -311, -295, -278, -260, -242]
def hPart12 : List Int :=
  [-224, -206, -187, -168, -150, -131, -112, -93, -74, -55, -37, -18, 0, 18, 36, 53, 70, 86, 102, 117, 132,
   146, 160, 173, 185, 196, 207, 217, 226, 234, 242, 248, 254, 259, 264, 267, 270, 272, 273, 274, 274, 273,
   271, 269, 266, 263, 259, 254, 249, 243, 237, 231, 224, 217, 209, 201, 193, 184, 175, 166, 157, 147, 138,
   128]
def hPart13 : List Int :=
  [118, 108, 98, 88, 78, 68, 58, 48, 38, 28, 19, 9, 0, -9, -18, -27, -35, -43, -51, -58, -66, -72, -79,
   -85, -91, -96, -101, -105, -109, -113, -116, -119, -121, -123, -125, -126, -127, -128, -128, -127, -127,
   -126, -125, -123, -121, -119, -117, -114, -112, -109, -106, -102, -99, -95, -91, -87, -83, -79, -75,
   -71, -66, -62, -58, -53]
def hPart14 : List Int :=
  [-49, -45, -40, -36, -32, -27, -23, -19, -15, -11, -7, -4, 0, 4, 7, 10, 13, 16, 19, 22, 24, 27, 29, 31,
   32, 34, 36, 37, 38, 39, 40, 40, 41, 41, 41, 41, 41, 41, 41, 40, 40, 39, 38, 37, 37, 36, 34, 33, 32, 31,
   30, 28, 27, 26, 25, 23, 22, 20, 19, 18, 16, 15, 14, 13]
def hPart15 : List Int :=
  [11, 10, 9, 8, 7, 6, 5, 4, 3, 2, 1, 1, 0, -1, -1, -2, -2, -3, -3, -3, -4, -4, -4, -4, -4, -5, -5, -5, -5,
   -5, -4, -4, -4, -4, -4, -4, -4, -3, -3, -3, -3, -3, -2, -2, -2, -2, -2, -1, -1, -1, -1, -1, -1, -1, 0,
   0, 0, 0, 0, 0, 0, 0, 0, 0]

/-- The resampler prototype h[0 … 1,023] (R306). -/
def resamplerH : List Int :=
  hPart0 ++ hPart1 ++ hPart2 ++ hPart3 ++ hPart4 ++ hPart5 ++ hPart6 ++ hPart7 ++ hPart8 ++ hPart9 ++ hPart10 ++ hPart11 ++ hPart12 ++ hPart13 ++ hPart14 ++ hPart15

def cosPart0 : List Int :=
  [131072, 131062, 131033, 130983, 130914, 130825, 130717, 130589, 130441, 130273, 130086, 129880, 129653,
   129408, 129142, 128858, 128553, 128230, 127887, 127525, 127144, 126744, 126324, 125886, 125428, 124952,
   124457, 123943, 123410, 122859, 122289, 121701, 121095, 120470, 119827, 119166, 118488, 117791, 117077,
   116345, 115595, 114828, 114044, 113243, 112424, 111589, 110737, 109868, 108982, 108081, 107162, 106228,
   105278, 104312, 103330, 102333, 101320, 100292, 99249, 98191, 97118, 96030, 94929, 93812]
def cosPart1 : List Int :=
  [92682, 91538, 90379, 89208, 88023, 86824, 85613, 84388, 83151, 81902, 80640, 79366, 78079, 76782, 75472,
   74152, 72820, 71477, 70123, 68759, 67384, 66000, 64605, 63201, 61787, 60364, 58931, 57490, 56041, 54582,
   53116, 51641, 50159, 48669, 47172, 45668, 44157, 42639, 41115, 39585, 38048, 36506, 34959, 33406, 31848,
   30285, 28718, 27147, 25571, 23991, 22408, 20822, 19232, 17640, 16045, 14447, 12847, 11246, 9642, 8037,
   6431, 4824, 3217, 1608]
def cosPart2 : List Int :=
  [0]

/-- round(131,072 cos(2π k / 512)) for k = 0 … 128 (R331). -/
def cosQuarter : List Int :=
  cosPart0 ++ cosPart1 ++ cosPart2

/-- The stage-2 taps 0 … 22 (Table 11-2). -/
def stage2Taps : List Int :=
  [-112, 0, 724, 0, -2156, 0, 5102, 0, -11210, 0, 40420, 65536, 40420, 0, -11210, 0, 5102, 0, -2156, 0, 724, 0, -112]

/-- The stage-3 taps 0 … 26 (Table 11-3). -/
def stage3Taps : List Int :=
  [-29, 0, 293, 785, 928, 0, -2110, -4254, -4229, 0, 8758, 19834, 29131, 32858, 29131, 19834, 8758, 0, -4229, -4254,
   -2110, 0, 928, 785, 293, 0, -29]

/-- cos(2π k / 512) in units of 2^-17, for any k (R331). -/
def cos512 (k : Nat) : Int :=
  let m := k % 512
  if m ≤ 128 then cosQuarter.getD m 0
  else if m ≤ 256 then - cosQuarter.getD (256 - m) 0
  else if m ≤ 384 then - cosQuarter.getD (m - 256) 0
  else cosQuarter.getD (512 - m) 0

/-- t[k] and u[k] of R331 for N = 128, 256 or 512. -/
def cosTab (n k : Nat) : Int := cos512 (k * (512 / n))
def sinTab (n k : Nat) : Int := cos512 (k * (512 / n) + 384)

end Sys2Proof.Machine
end

