-- ==== Sys2Proof/Machine/Intake.lean ====
section
/-!
DEFINITION. The sample intake and decimation chain (R299 to R321): filters and resampler as functions of the
modulator bits, the grid, the frequency tracker and the detectors.
-/
namespace Sys2Proof.Machine

open Sys2Proof

/-! ## Filters -/

/-- A run of filter outputs with their indices and OVF flags; sats: the nominal instants of the outputs at which a shift of this stage or
an earlier one saturated. -/
structure Samples where
  first : Nat
  vals : List (Int × Bool)
  sats : List Nat
  deriving DecidableEq, Repr

/-- Output i; an index outside the run reads zero, a sample R310 discards (log 11). -/
def Samples.at (x : Samples) (i : Nat) : Int × Bool := if i < x.first then (0, false) else x.vals.getD (i - x.first) (0, false)

/-- The index after the last output. -/
def Samples.stop (x : Samples) : Nat := x.first + x.vals.length

/-- Running sums of a list. -/
def runningSums : Int → List Int → List Int
  | _, [] => []
  | a, x :: xs => (a + x) :: runningSums (a + x) xs

/-- One integrator and comb pair of the CIC: the sum of the newest 32 values (R303, R304). -/
def sum32 (xs : List Int) : List Int :=
  let c := runningSums 0 xs
  List.zipWith (· - ·) c (List.replicate 32 0 ++ c)

/-- Every n-th value, beginning after skip ones. -/
def everyNth (n : Nat) : Nat → List Int → List Int
  | _, [] => []
  | 0, x :: xs => x :: everyNth n (n - 1) xs
  | k + 1, _ :: xs => everyNth n k xs

/-- The shift with rounding and saturation of R304. -/
def shiftSat (v : Int) (sh : Nat) : Int × Bool :=
  let y := if sh == 0 then v else (v + (2 ^ (sh - 1) : Nat)) / ((2 ^ sh : Nat) : Int)
  if y > 8388607 then (8388607, true) else if y < -8388608 then (-8388608, true) else (y, false)

/-- Stage 1 (R303, R304, R548): CIC of order 5, decimation 32; output k has taken bit 32k + 1,261. -/
def stage1 (w : BitWindow) (sh : Nat → Nat) : Samples :=
  let xs := w.bits.map fun b => if b then (1 : Int) else -1
  let v := sum32 (sum32 (sum32 (sum32 (sum32 xs))))
  let k0 := if w.first ≤ 1261 then 0 else ceilDiv (w.first - 1261) 32
  let ys := ((everyNth 32 (32 * k0 + 1261 - w.first) v).zipIdx k0).map fun (y, k) => shiftSat y (sh (64 * k))
  { first := k0, vals := ys, sats := (ys.zipIdx k0).filterMap fun (z, k) => if z.2 then some (64 * k) else none }

/-- A FIR output whose newest input is input i, with the OVF flags of what it uses, and whether its own shift saturates (R304). -/
def firAt (taps : List Int) (x : Samples) (i sh : Nat) : (Int × Bool) × Bool :=
  let (acc, ovf) := (taps.zipIdx).foldl (fun (a, o) (c, t) =>
    let (y, f) := if t ≤ i then x.at (i - t) else (0, false)
    (a + c * y, o || f)) ((0 : Int), false)
  let (y, sat) := shiftSat acc sh
  ((y, ovf || sat), sat)

/-- A decimating FIR stage (R303, R305, R548): output i has input d·i as its newest; its nominal instant is step·i. -/
def firStage (taps : List Int) (d step : Nat) (x : Samples) (sh : Nat → Nat) : Samples :=
  let i0 := ceilDiv x.first d
  let n := if x.stop ≤ d * i0 then 0 else ceilDiv (x.stop - d * i0) d
  let ys := (List.range n).map fun t => firAt taps x (d * (i0 + t)) (sh (step * (i0 + t)))
  { first := i0, vals := ys.map (·.1), sats := x.sats ++ (ys.zipIdx i0).filterMap fun (z, i) => if z.2 then some (step * i) else none }

/-- The three shifts at a nominal instant. -/
structure Shifts where
  sh1 : Nat
  sh2 : Nat
  sh3 : Nat

/-- Stages 1 to 3 of one channel. -/
def stage3 (w : BitWindow) (sh : Nat → Shifts) : Samples :=
  let s1 := stage1 w fun u => (sh u).sh1
  let s2 := firStage stage2Taps 2 128 s1 fun u => (sh u).sh2
  firStage stage3Taps 4 512 s2 fun u => (sh u).sh3

/-- A resampler output at grid position q, in 1/64 of a stage-3 interval, and whether its own shift saturates (R311). -/
def resample (x : Samples) (q : Nat) : (Int × Bool) × Bool :=
  let j1 := (q + 140) / 64
  let (acc, ovf) := (List.range 16).foldl (fun (a, o) d =>
    if d ≤ j1 then
      let (y, f) := x.at (j1 - d)
      (a + y * resamplerH.getD (q + 140 - 64 * (j1 - d)) 0, o || f)
    else (a, o)) ((0 : Int), false)
  let (y, sat) := shiftSat acc 16
  ((y, ovf || sat), sat)

/-! ## Calibration and grid -/

def metLcalOff (n : Fin 32) : Nat := 0x8100 + 0x20 * n.val
def metShOff (n : Fin 32) (c : Nat) : Nat := 0x8500 + 0x20 * n.val + 4 * c

/-- What a lane's calibration was at a nominal tick, where a later write has not reached it (R319). -/
def State.heldAt (s : State) (n : Fin 32) (tick : Nat) : Option MetOld :=
  s.met.lanes[n].old.find? fun o => match o.effective with | some e => decide (tick < e) | none => true

/-- MET_LCAL of a lane for a cycle that begins at a nominal tick (R319). -/
def State.lcalAt (s : State) (n : Fin 32) (tick : Nat) : Reg :=
  match s.heldAt n tick with
  | some o => o.lcal
  | none => s.calv (metLcalOff n)

/-- The shifts of a channel at a nominal instant (R319). -/
def State.shiftsAt (s : State) (n : Fin 32) (c tick : Nat) : Shifts :=
  let v := match s.heldAt n tick with
    | some o => o.sh.getD c 0
    | none => s.calv (metShOff n c)
  ⟨regField v 0 5, regField v 8 5, regField v 16 5⟩

/-- MET_GCALk of a lane's group for an instant (R319). -/
def State.gcalAt (s : State) (n : Fin 32) (tick : Nat) : Reg :=
  let k : Fin 8 := ⟨n.val / 4, by omega⟩
  match s.met.gOld[k].find? fun x => decide (tick < x.1) with
  | some x => x.2
  | none => s.calv (0x8020 + 4 * k.val)

/-- The group delay D in force for a sample of a nominal instant (R309). -/
def State.groupDelay (s : State) (n : Fin 32) (tick : Nat) : Nat :=
  let g := s.gcalAt n tick
  regField g 0 3 + regField g 8 8 + 3643

/-- Samples per cycle N: AC by GRID, DC 80, 160 or 320 (R312, R313). -/
def State.gridN (s : State) (n : Fin 32) (tick : Nat) : Nat :=
  let g := regField (s.lcalAt n tick) 0 2
  if s.isDc n then 80 * 2 ^ g else 128 * 2 ^ g

/-- The nominal period by FNOM (R315). -/
def nominalPeriod (lcal : Reg) : Nat := if lcal.getLsbD 10 then 52428800 else 62914560

/-- The grid positions of a cycle, in 1/64 of a stage-3 interval (R312, R313). begin_ is in 2^-16 intervals. -/
def gridPositions (dc : Bool) (begin_ len n : Nat) : List Nat :=
  if dc then
    (List.range n).map fun i => begin_ / 1024 + i * (61440 / n)
  else
    (List.range n).map fun i => (begin_ + i * len / n + 512) / 1024

/-- The issue stamp of a resampler output at a grid position (R308). -/
def issueOf (q : Nat) : Nat := 8 * q + 3645

/-! ## The frequency tracker (R314 to R316) -/

/-- Take one stage-3 output of the reference: count a positive-going crossing (R314). -/
def Tracker.sample (t : Tracker) (hys : Nat) (j : Nat) (y : Int) : Tracker :=
  let armed := t.armed || y ≤ -((hys * 32768 : Nat) : Int)
  if t.prev < 0 && y ≥ 0 && t.armed then
    let z := (j - 1) * 65536 + ((-t.prev) * 65536 / (y - t.prev)).toNat
    { t with prev := y, armed := false, nextJ := j + 1, lastCross := some z,
             meas := match t.lastCross with | some z0 => some (z - z0) | none => none }
  else { t with prev := y, armed := armed, nextJ := j + 1 }

/-- Whether a measurement lies in [738.46, 1,066.67] stage-3 intervals (R315). -/
def measInRange (t : Nat) : Bool := 73846 * 65536 ≤ t * 100 && t * 100 ≤ 106667 * 65536

/-- The decision at a cycle boundary (R315, R316): period, state and counters. -/
def Tracker.decide (t : Tracker) (nominal : Nat) : Tracker :=
  let good : Option Nat := match t.meas with
    | some m =>
      if !measInRange m then none
      else if t.trk == 1 && (if m ≥ t.period then m - t.period else t.period - m) > t.period / 8 then none
      else some m
    | none => none
  let t := { t with meas := none }
  match good with
  | some m =>
    let step (d : Nat) : Nat := ((t.period : Int) + tdivNat ((m : Int) - t.period) d).toNat
    match t.trk with
    | 1 => { t with period := step 8, valid := t.valid + 1, misses := 0 }
    | 0 =>
      let t := { t with period := step 2, valid := t.valid + 1, misses := 0 }
      if t.valid ≥ 4 then { t with trk := 1, valid := 0 } else t
    | _ => { t with period := step 2, trk := 0, valid := 1, misses := 0 }
  | none =>
    let t := { t with misses := t.misses + 1, valid := 0 }
    match t.trk with
    | 0 => if t.misses ≥ 25 then { t with trk := 3, period := nominal, misses := 0 } else t
    | 1 => if t.misses ≥ 25 then { t with trk := 2, misses := 0 } else t
    | 2 => if t.misses ≥ 3000 then { t with trk := 3, period := nominal, misses := 0 } else t
    | _ => t

/-- A lane of the intake replaced. -/
def State.setMet (s : State) (n : Fin 32) (f : MetLane → MetLane) : State :=
  { s with met := { s.met with lanes := s.met.lanes.set n (f s.met.lanes[n]) } }

/-- MET_LSTAT.FREQ in mHz (R315). -/
def freqOf (p : Nat) : Nat := if p == 0 then 0 else 3145728000000 / p

/-- The leader a lane follows, while that is an enabled AC lane which follows no other (R317). -/
def State.leader (s : State) (n : Fin 32) : Option (Fin 32) :=
  let c := s.lcalAt n (s.met.lanes[n].begin / 128)
  let l : Fin 32 := ⟨regField c 5 5, by unfold regField; exact Nat.mod_lt _ (by decide)⟩
  if c.getLsbD 4 && !s.isDc n && l != n && s.laneEn l && !s.isDc l && !(s.calv (metLcalOff l)).getLsbD 4 then some l
  else none

/-- Feed a lane's tracker with the reference's stage-3 outputs up to the boundary at which its cycle begins, each with the REF and HYS in force at its
nominal instant (R319), and decide that boundary once (R315, R316). wins: the bits of V1, V2 and V3. A change of state is reported as TRACK (Table 11-11); leaving LOCKED for HOLDOVER
sets TRACK_LOST. -/
def State.trackDecide (s : State) (n : Fin 32) (wins : List BitWindow) : State :=
  let m := s.met.lanes[n]
  if s.isDc n || m.tracker.decided == some m.begin || !m.run then s
  else
    let tick := m.begin / 128
    let c := s.lcalAt n tick
    let t0 := m.tracker
    let xs := (List.range 3).map fun r => stage3 (wins.getD r ⟨0, []⟩) (s.shiftsAt n r)
    let t1 := (List.range (tick / 512 + 1 - t0.nextJ)).foldl (fun t i =>
      let j := t0.nextJ + i
      let cal := s.lcalAt n (512 * j)
      let x := xs.getD (regField cal 2 2) ⟨0, [], []⟩
      if x.first ≤ j && j < x.stop then t.sample (regField cal 16 8) j (x.at j).1 else t) t0
    let t2 := { t1.decide (nominalPeriod c) with decided := some m.begin }
    let s := s.setMet n fun m => { m with tracker := t2, len := t2.period }
    if t2.trk == t0.trk then s
    else
      let s := s.note 5 n.val 32
      let s := s.emit (laneRing n) 0x41 n.val t2.trk (freqOf t2.period % 65536 + t0.trk * 65536)
      if t0.trk == 1 && t2.trk == 2 then s.setErr (.met n) 16 else s

/-- The cycle of a leader that a follower's cycle in progress is (R317): the one in progress, the one before it, which has just ended, or, for a follower
that is not aligned yet, the next to begin (log 108). -/
def leaderCycle (lm : MetLane) (begin_ : Nat) : Nat × Nat :=
  if lm.prevBegin == some begin_ then (begin_, lm.begin - begin_)
  else if begin_ ≤ lm.begin then (lm.begin, lm.len)
  else (lm.begin + lm.len, lm.len)

/-- Place a follower's cycle as its leader's (R317): b, L, TRK and FREQ; without a usable leader it tracks its own
reference, and MET_LERR.FOLLOW is set. refWins: the voltage channels of the lane whose tracker decides. -/
def State.placeCycle (s : State) (n : Fin 32) (refWins : List BitWindow) : State :=
  let m := s.met.lanes[n]
  match s.leader n with
  | some l =>
    let s := if s.met.lanes[l].begin == m.begin then s.trackDecide l refWins else s
    let lm := s.met.lanes[l]
    let (b, len) := leaderCycle lm m.begin
    s.setMet n fun m => { m with begin := b, len := len, following := true,
                                 tracker := { m.tracker with trk := lm.tracker.trk, period := lm.tracker.period } }
  | none =>
    let s := s.trackDecide n refWins
    let s := s.setMet n fun m => { m with following := false }
    if (s.lcalAt n (m.begin / 128)).getLsbD 4 && !s.isDc n then s.setErr (.met n) 17 else s

/-! ## Detectors (R320, R321) -/

/-- Per-cycle RMS (R320). -/
def rmsOf (ys : List Int) : Nat :=
  if ys.isEmpty then 0 else isqrt ((ys.foldl (fun a y => a + (y * y).toNat) 0) / ys.length)

/-- The envelope after one sample (R321). -/
def envStep (dec : Nat) (e : Nat) (y : Int) : Nat := if y.natAbs > e then y.natAbs else e - e / 2 ^ dec

/-- MET_LCFG, MET_LTHRV and MET_LTHRI of a lane (i = 0, 1, 2) for a sample issued at a stamp (R319). -/
def State.metProf (s : State) (n : Fin 32) (issued i : Nat) : Reg :=
  match s.met.lanes[n].thrOld.find? fun x => decide (issued ≤ x.1) with
  | some x => x.2.getD i 0
  | none => s.prof (0x8104 + 0x20 * n.val + 4 * i)

/-- The envelope thresholds of a channel: HI and LO in LSB / 256 (R321); 0 is off, IDF has none. -/
def State.envThresholds (s : State) (n : Fin 32) (issued c : Nat) : Nat × Nat :=
  if c < 3 then (regField (s.metProf n issued 1) 0 16, regField (s.metProf n issued 1) 16 16)
  else if c < 7 then (regField (s.metProf n issued 2) 0 16, 0)
  else (0, 0)

/-- A capture slot replaced. -/
def State.setCapture (s : State) (i : Fin 4) (c : Option Capture) : State :=
  { s with met := { s.met with captures := s.met.captures.set i c } }

/-- An OVER or UNDER event triggers the event captures of its lane whose mask names it (R323). -/
def State.triggerCaptures (s : State) (n : Fin 32) (evBit sampleTime : Nat) : State :=
  (List.finRange 4).foldl (fun s i =>
    match s.met.captures[i] with
    | some c =>
      if c.lane == n && c.onEvent && c.trigBit.isNone && c.evMask.getLsbD evBit then
        (s.setCapture i (some { c with trigBit := some evBit, trigStamp := s.now, trigSample := sampleTime })).cancel .tTrig i.val
      else s
    | none => s) s

/-- An ENV result (Table 11-11) with its order key. -/
def State.envEvent (s : State) (n : Fin 32) (c kind e : Nat) : State :=
  (s.note 5 n.val (8 + 2 * c + kind / 2)).emit (laneRing n) 0x40 n.val c (kind + 256 * e)

/-- A channel's detector state replaced. -/
def State.setChan (s : State) (n : Fin 32) (c : Fin 8) (f : MetChan → MetChan) : State :=
  s.setMet n fun m => { m with chans := m.chans.set c (f m.chans[c]) }

/-- One resampler output through the envelope of a channel, with the events it raises (R321, Table 11-6). -/
def State.envSample (s : State) (n : Fin 32) (c : Fin 8) (y : Int) (issued : Nat) : State :=
  let ch := s.met.lanes[n].chans[c]
  let sampleTime := issued - s.groupDelay n (issued - 3645)
  let dec := regField (s.metProf n issued 0) 2 4
  let e := envStep dec ch.env y
  let (hi, lo) := s.envThresholds n issued c.val
  let isOver := hi != 0 && !ch.isOver && hi * 256 ≤ e
  let overEnd := ch.isOver && e < hi * 240
  let under := lo != 0 && !ch.under && lo * 256 ≤ ch.env && e < lo * 256
  let underEnd := ch.under && lo * 272 ≤ e
  let s := s.setChan n c fun ch => { ch with env := e, isOver := (ch.isOver || isOver) && !overEnd,
                                             under := (ch.under || under) && !underEnd }
  let s := if isOver then (s.envEvent n c.val 0 e).triggerCaptures n c.val sampleTime else s
  let s := if overEnd then s.envEvent n c.val 1 e else s
  let s := if under then (s.envEvent n c.val 2 e).triggerCaptures n (8 + c.val) sampleTime else s
  if underEnd then s.envEvent n c.val 3 e else s

/-! ## A cycle -/

/-- What a cycle-end event carries (R318), with the samples and RMS values its consumers take: stage3s, the stage-3 outputs issued since
the cycle end before, and first3 the sample time of the first of them (R309); residuals, those of IDF since the chain's start; sat, whether a shift saturated at an output that the cycle takes. -/
structure Cycle where
  lane : Fin 32
  first : Nat
  last : Nat
  n : Nat
  count : Nat
  len : Nat
  dc : Bool
  trk : Nat
  ovf : List Bool
  sat : List Bool
  stuck : List Bool
  part : Bool
  samples : List (List Int)
  stage3s : List (List Int)
  residuals : List Int
  next3 : Nat
  first3 : Nat
  issued : List Nat
  rms : List Nat

/-- Flags of a cycle as Table 12-9 byte 13, without NOLOAD: OVF, STUCK, PARTIAL, TRK not LOCKED. -/
def Cycle.flags (c : Cycle) : Nat :=
  bit (c.ovf.any id) + 2 * bit (c.stuck.any id) + 4 * bit c.part + 8 * bit (!c.dc && c.trk != 1)

/-- The tick at which a change of MET_GCALk cuts the lane's cycle in progress, if it does; a cycle that ends at that tick is cut there too (R319). -/
def State.cutTick (s : State) (n : Fin 32) : Option Nat :=
  let m := s.met.lanes[n]
  let k : Fin 8 := ⟨n.val / 4, by omega⟩
  (s.met.gOld[k].find? fun x => decide (m.begin < 128 * x.1 ∧ 128 * x.1 ≤ m.begin + m.len)).map (·.1)

/-- Build the cycle in progress of a lane from its bit windows, with the samples issued up to a stamp (R311 to R313,
R318, R320). -/
def State.buildCycle (s : State) (n : Fin 32) (wins : List BitWindow) (upTo : Nat) : Cycle :=
  let m := s.met.lanes[n]
  let tick := m.begin / 128
  let dc := s.isDc n
  let gn := s.gridN n tick
  let qs := (gridPositions dc m.begin m.len gn).filter fun q => issueOf q ≤ upTo
  let stg := (List.range 8).map fun c =>
    if channelUsed (s.laneMode n) c then stage3 (wins.getD c ⟨0, []⟩) (s.shiftsAt n c) else ⟨0, [], []⟩
  let per := stg.zipIdx.map fun (x, c) =>
    if channelUsed (s.laneMode n) c then qs.map (resample x) else qs.map fun _ => ((0, false), false)
  let stop3 := (min upTo s.now + 512 - 2525) / 512
  let span (x : Samples) (lo : Nat) : List Int :=
    (x.vals.zipIdx x.first).filterMap fun (v, j) => if lo ≤ j && j < stop3 then some v.1 else none
  let time (q : Nat) : Nat := issueOf q - s.groupDelay n (8 * q)
  let t1 := time (qs.getLastD 0)
  let samples := per.map (·.map (·.1.1))
  let hit (ch : MetChan) : Bool := qs.any fun q => ch.spells.any fun p => decide (p.1 ≤ time q) && p.2.all fun u => decide (time q < u)
  { lane := n, first := time (qs.headD 0), last := t1, n := gn, count := qs.length, len := m.len, dc := dc,
    trk := m.tracker.trk, ovf := per.map (·.any (·.1.2)),
    sat := (per.zip stg).map fun (ys, x) => ys.any (·.2) || x.sats.any fun u => decide (512 * m.next3 < u + 512 ∧ u + 512 ≤ 512 * stop3),
    stuck := (List.range 8).map fun c => channelUsed (s.laneMode n) c && hit (m.chans.toList.getD c MetChan.reset),
    part := qs.length < gn || (s.cutTick n).isSome, samples := samples,
    stage3s := stg.map fun x => span x m.next3, residuals := span (stg.getD 7 ⟨0, [], []⟩) (ceilDiv (m.start.getD 0 + 32768) 512),
    next3 := max m.next3 stop3, first3 := 512 * m.next3 + 2525 - (s.groupDelay n (512 * m.next3) - 1120), issued := qs.map issueOf,
    rms := samples.map rmsOf }

/-- The length of an aggregation block in cycles (R320). -/
def State.blockLen (s : State) (n : Fin 32) : Nat :=
  if s.isDc n then 10
  else match s.pf (0x8104 + 0x20 * n.val) 0 2 with
  | 1 => 10
  | 2 => 12
  | _ => if (s.lcalAt n (s.met.lanes[n].begin / 128)).getLsbD 10 then 12 else 10

/-- The detectors take a cycle (R320, R321): RMS, peaks, aggregation block, the envelope over the samples it has not
yet taken, and MET_LERR.OVF where a shift saturated (R304). -/
def State.detect (s : State) (c : Cycle) : State :=
  let n := c.lane
  let m0 := s.met.lanes[n]
  let cyc := m0.blockCyc + 1
  let cnt := m0.blockCnt + c.count
  let closes := c.part || cyc ≥ s.blockLen n
  let s := (List.finRange 8).foldl (fun s ch =>
    if !channelUsed (s.laneMode n) ch.val then s
    else
      let ys := c.samples.getD ch.val []
      let sq := s.met.lanes[n].chans[ch].blockSq + ys.foldl (fun a y => a + (y * y).toNat) 0
      let s := s.setChan n ch fun k =>
        { k with rms := c.rms.getD ch.val 0, pkmax := ys.foldl max (ys.headD 0), pkmin := ys.foldl min (ys.headD 0),
                 aggRms := if closes && cnt != 0 then isqrt (sq / cnt) else k.aggRms,
                 blockSq := if closes then 0 else sq }
      let s := ((ys.zip c.issued).drop m0.chans[ch].envDone).foldl (fun s p => s.envSample n ch p.1 p.2) s
      if c.sat.getD ch.val false then s.setErr (.met n) (8 + ch.val) else s) s
  s.setMet n fun m => { m with blockCyc := if closes then 0 else cyc, blockCnt := if closes then 0 else cnt,
                               chans := m.chans.map fun k => { k with envDone := 0, shownEnv := k.env,
                                                                      spells := k.spells.filter fun p => p.2.all fun u => decide (c.last < u) },
                               thrOld := m.thrOld.filter fun x => decide (c.issued.getLastD 0 < x.1) }

/-- Move a lane to its next cycle, which begins at a nominal instant in 2^-16 intervals (R312, R319). -/
def State.nextCycle (s : State) (c : Cycle) (begin_ : Nat) : State :=
  s.setMet c.lane fun m =>
    { m with prevBegin := some m.begin, begin := begin_, cyc := (m.cyc + 1) % 2 ^ 32, lastSample := c.last,
             next3 := c.next3, shownPeriod := m.tracker.period, shownTrk := m.tracker.trk,
             old := (m.old.filter fun o => match o.effective with | some e => decide (m.begin ≤ 128 * e) | none => true).map fun o =>
               if o.effective.isNone && o.written < begin_ / 128 then { o with effective := some (begin_ / 128) } else o }

/-- Record a cycle in the running captures of its lane (R323, R324): before the trigger the newest PRE cycles are
kept; the cycle whose sample time holds the trigger is the first of the POST cycles. -/
def recordCycle (cap : Capture) (c : Cycle) : Capture :=
  let pick (xs : List (List Int)) : List (List Int) :=
    (xs.zipIdx).filterMap fun (y, ch) => if cap.mask.getLsbD ch then some y else none
  let rec_ : CapCycle :=
    { first := if cap.source == 0 then c.first else c.first3, last := c.last, len := if c.dc then 0 else c.len, count := if cap.source == 0 then c.count else (c.stage3s.headD []).length,
      flags := BitVec.ofNat 8 (c.flags % 16), samples := pick (if cap.source == 0 then c.samples else c.stage3s) }
  let cs := cap.cycles ++ [rec_]
  let waitingTrig := cap.onEvent && (cap.trigBit.isNone || c.last < cap.trigSample)
  { cap with cycles := if waitingTrig then cs.drop (cs.length - cap.pre) else cs }

/-- How many POST cycles a capture has recorded. -/
def Capture.postCount (cap : Capture) : Nat :=
  if cap.onEvent then
    if cap.trigBit.isNone then 0 else (cap.cycles.filter fun c => cap.trigSample ≤ c.last).length
  else cap.cycles.length

end Sys2Proof.Machine
end

