-- ==== Sys2Proof/Machine/LinkBase.lean ====
section
/-!
DEFINITION. What the lane asks of its vehicle link: association starts when DIGITAL_ON rises and ends with the session
(Table 6-3, R165).
-/
namespace Sys2Proof.Machine

open Sys2Proof

/-- A lane's link replaced. -/
def State.setLink (s : State) (n : Fin 32) (f : LinkLane → LinkLane) : State :=
  { s with link := { s.link with lanes := s.link.lanes.set n (f s.link.lanes[n]) } }

/-- The code of an association state (Table 6-2). -/
def Assoc.code : Assoc → Nat
  | .off => 0 | .waitParm => 1 | .sounding => 2 | .waitRsp => 3 | .waitMatch => 4 | .matched => 5 | .failed => 6

/-- A field of VLK_TMRk in ticks. -/
def State.vlkTimer (s : State) (k lo : Nat) : Nat := s.pf (0x3008 + 4 * k) lo 16 * ticksPerMs

/-- Change a lane's association state and report it (ASSOC, Table 6-11). -/
def State.assocTo (s : State) (n : Fin 32) (a : Assoc) : State :=
  if s.link.lanes[n].assoc == a then s
  else
    let s := s.setLink n fun l => { l with assoc := a }
    s.emit (laneRing n) 0x11 n.val a.code s.link.lanes[n].attempt

/-- The lane leaves every run in which it is a candidate (R164, R173). -/
def State.leaveRuns (s : State) (n : Fin 32) (but : Option Nat) : State :=
  { s with link := { s.link with runs := s.link.runs.map fun r =>
      if (but == some r.seq) then r else { r with candidates := r.candidates.filter (· != n.val) } } }

/-- Every vehicle-link timer of a lane stopped. -/
def State.cancelLink (s : State) (n : Fin 32) : State :=
  ((((((((s.cancel .tSlacInit n.val).cancel .tMatchResp n.val).cancel .tMatchSession n.val).cancel .tSetup n.val).cancel
    .tSeq n.val).cancel .tAuth n.val).cancel .tHost n.val).cancel .tCpstate n.val).cancel .tCable n.val

/-- The AVLN is dissolved and the TCP connection and session state are lost. -/
def LinkLane.drop (l : LinkLane) : LinkLane :=
  { l with tcp := false, tls := 0, proto := 0, auth := 0, phase := 0, bpt := false, setUp := false, lastReq := [],
           lastOut := none, maxCur := 0, tuples := 0, reneg := false, dynamic := false, mutualAuth := false, contract := [], overFrom := none, nmk := 0, nid := 0, relay := none, cable := none, cableClass := 0, authDone := false }

/-- DIGITAL_ON rises at a lane (Table 6-3): A_WAIT_PARM with no failed attempt. The 5 % duty begins at the first period
start greater than the stamp (R130). -/
def State.assocStart (s : State) (n : Fin 32) : State :=
  let s := s.setLink n fun l =>
    { l.drop with attempt := 0, resends := 0, fiveFrom := (s.now / 24576 + 1) * 24576, paramClamped := false, tlsFailed := false,
                  identity := [], identPending := false, session := 0, oldSession := 0, toggles := [] }
  (s.assocTo n .waitParm).arm .tSlacInit n.val (s.vlkTimer 0 0)

/-- A lane's session ends or the lane is held (Table 6-3): A_OFF. -/
def State.assocOff (s : State) (n : Fin 32) : State :=
  let s := ((s.cancelLink n).leaveRuns n none).setLink n fun l => { l.drop with identPending := false, identity := [], attempt := 0 }
  s.assocTo n .off

/-- Whether a lane's phase currents, in mA, stay above the offer by more than 10 % plus 0.5 A (class 12 of R186), judged at each cycle. -/
def State.overdraw (s : State) (n : Fin 32) (amps : List Int) : State :=
  let l := s.link.lanes[n]
  if l.maxCur == 0 then s
  else if amps.any fun i => decide ((l.maxCur * 110 + 500 : Nat) < i) then (if l.overFrom.isSome then s else s.setLink n fun l => { l with overFrom := some s.now })
  else s.setLink n fun l => { l with overFrom := none }

/-- Count, report and log a violation (R186): VIOLATION with up to 192 bytes of the message, and an event-log record. -/
def State.violation (s : State) (n : Fin 32) (cls msg : Nat) (raw : Bytes) : State :=
  let s := s.setLink n fun l => { l with viol := min (l.viol + 1) 65535, violLast := cls }
  let s := s.emit (laneRing n) 0x16 n.val cls (msg % 65536 + 65536 * s.link.lanes[n].proto) (raw.take 192)
  s.event 3 cls 2 n.val (BitVec.ofNat 8 cls :: raw.take 35)

end Sys2Proof.Machine
end

