-- ==== Sys2Proof/Machine/Energy.lean ====
section
/-!
DEFINITION. The energy engine and the pulse outputs (R328 to R355): per-cycle arithmetic, residues and quadrants,
pulse scheduling, and the energy commands.
-/
namespace Sys2Proof.Machine

open Sys2Proof

/-! ## Calibration in use -/

/-- The calibration map a lane's energy arithmetic uses now: the old values for the first cycle end after a write
(R350). -/
def State.nrgCal (s : State) (n : Fin 32) : RegMap := (s.nrg.lanes[n].oldCal).getD s.book.cal

/-- A calibration value of a map. -/
def calIn (m : RegMap) (key : Nat) : Nat := (regGet (calReset key) m key).toNat

/-- A signed calibration value of a map. -/
def calSigned (m : RegMap) (key : Nat) : Int := (regGet (calReset key) m key).toInt

/-- The scale of a channel: KV1 … KV3 for V, KI1 … KI3 for I, KIN for IN (Table 12-15). -/
def scaleOf (m : RegMap) (n : Fin 32) (c : Nat) : Nat := calIn m (0x9800 + 0x40 * n.val + 4 * c)

/-- The current-dependent correction of R333: field 1 GAIN, field 2 PHASE, of current channel ch at RMS r. -/
def corrAt (m : RegMap) (n : Fin 32) (ch fld r : Nat) : Int :=
  let x (k : Nat) : Int := calIn m (tabKey n.val ch k 0)
  let y (k : Nat) : Int := calSigned m (tabKey n.val ch k fld)
  if (r : Int) ≤ x 0 then y 0
  else if x 8 ≤ (r : Int) then y 8
  else
    let k := ((List.range 8).filter fun k => x k ≤ (r : Int)).getLastD 0
    y k + Int.tdiv ((y (k + 1) - y k) * ((r : Int) - x k)) (x (k + 1) - x k)

/-- g of R333. -/
def gainAt (m : RegMap) (n : Fin 32) (ch r : Nat) : Int := 16777216 + corrAt m n ch 1 r

/-! ## Per-cycle arithmetic -/

/-- The sum of products of two sample lists. -/
def dot (a b : List Int) : Int := (List.zipWith (· * ·) a b).foldl (· + ·) 0

/-- The three sums sp, sq, ss of a phase (R331). -/
def phaseSums (dc part : Bool) (n : Nat) (v i : List Int) (rmsv rmsi : Nat) : Int × Int × Int :=
  let sp := dot v i
  let ts := (List.range v.length).map (cosTab n)
  let us := (List.range v.length).map (sinTab n)
  let sq := if dc || part then 0 else roundDiv (dot v ts * dot i us - dot v us * dot i ts) (n * 2 ^ 33)
  let ss : Int := if dc then sp.natAbs else v.length * rmsv * rmsi
  (sp, sq, ss)

/-- A sum in fine units (R332). -/
def fineUnits (x : Int) (kv ki len n : Nat) : Int := roundDiv (x * kv * ki * len * 625) (n * 108 * 2 ^ 80)

/-- The corrected values p', q', s' of a phase (R333, R334). -/
def corrected (dc : Bool) (g ph ep eq es : Int) : Int × Int × Int :=
  let sn : Int := if dc then 0 else ph
  let cs : Int := if dc then 67108864 else 67108864 - roundDiv (ph * ph) (2 ^ 27)
  (roundDiv (g * (ep * cs + eq * sn)) (2 ^ 50), roundDiv (g * (eq * cs - ep * sn)) (2 ^ 50), roundDiv (g * es) (2 ^ 24))

/-- A group's residues and whole units for a cycle (R337). -/
def residueStep (r : Residue) (p q s : Int) : Residue × Int × Int × Int :=
  let np := tdivNat (r.p + p) 65536
  let nq := tdivNat (r.q + q) 65536
  let ns := tdivNat (r.s + s) 65536
  (⟨r.p + p - np * 65536, r.q + q - nq * 65536, r.s + s - ns * 65536⟩, np, nq, ns)

/-- The increments of a group's eight accumulators (Table 12-2). -/
def groupIncs (p np nq ns : Int) : List Nat :=
  let pos (x : Int) : Nat := x.toNat
  [pos np, pos (-np), if p ≥ 0 then pos nq else 0, if p < 0 then pos nq else 0, if p < 0 then pos (-nq) else 0,
   if p ≥ 0 then pos (-nq) else 0, if p ≥ 0 then pos ns else 0, if p < 0 then pos ns else 0]

/-- The quadrant code of QUADT (Table 12-16): p' = 0 counts as import, q' = 0 as quadrant I or III. -/
def quadrant (p q : Int) : BitVec 2 :=
  if p ≥ 0 then (if q ≥ 0 then 0 else 3) else (if q > 0 then 1 else 2)

/-- The value at which an accumulator stays (R329). -/
def accMax : Nat := 2 ^ 71 - 1

/-- An energy lane replaced. -/
def State.setNrg (s : State) (n : Fin 32) (f : NrgLane → NrgLane) : State :=
  { s with nrg := { s.nrg with lanes := s.nrg.lanes.set n (f s.nrg.lanes[n]) } }

/-- Add an increment to an accumulator (R329). -/
def State.addAcc (s : State) (n : Fin 32) (a : Fin 32) (x : Nat) : State :=
  let v := s.nrg.accs[n][a]
  let s1 : State := { s with nrg := { s.nrg with accs := s.nrg.accs.set n ((s.nrg.accs[n]).set a (min (v + x) accMax)) } }
  if v + x ≤ accMax then s1
  else (((s1.setNrg n fun l => { l with sat := true }).setErr .nrg 0).note 5 n.val 64).emit (laneRing n) 0x51 n.val a.val 0

/-! ## Pulses (R343 to R348) -/

/-- A pulse output replaced. -/
def State.setPulse (s : State) (k : Fin 8) (f : Pulse → Pulse) : State :=
  { s with nrg := { s.nrg with pulses := s.nrg.pulses.set k (f s.nrg.pulses[k]) } }

/-- A field of NRG_PCFGk. -/
def State.pcfg (s : State) (k : Fin 8) (lo w : Nat) : Nat := regField (s.calv (0x9100 + 0x20 * k.val)) lo w

/-- The pulse weight W (R343). -/
def State.pulseWeight (s : State) (k : Fin 8) : Nat := 10 ^ 12 / regField (s.calv (0x9104 + 0x20 * k.val)) 0 17

/-- WIDTH in ticks (R345). -/
def State.pulseWidth (s : State) (k : Fin 8) : Nat := s.pcfg k 12 7 * ticksPerMs

/-- Whether output k carries its alternative function (R346). -/
def State.altSel (s : State) (k : Fin 8) : Bool :=
  (k == 6 && (s.prof 0x9008).getLsbD 0) || (k == 7 && (s.prof 0x9008).getLsbD 1)

/-- Insert a due instant in order. -/
def insertDue : List Nat → Nat → List Nat
  | [], d => [d]
  | x :: xs, d => if x ≤ d then x :: insertDue xs d else d :: x :: xs

/-- The due instants of an increment (R344). -/
def pulseDues (e len x c w : Nat) : List Nat :=
  if x == 0 || w == 0 then []
  else (List.range ((c + x) / w)).map fun j => e + ceilDiv (((j + 1) * w - c) * len) (128 * x)

/-- Pulses due and not started (R345). -/
def Pulse.backlog (p : Pulse) (now : Nat) : Nat := (p.sched.filter (· ≤ now)).length

/-- Schedule a pulse, unless the backlog count is saturated (R345). -/
def State.schedulePulse (s : State) (k : Fin 8) (due : Nat) : State :=
  if s.nrg.pulses[k].backlog s.now ≥ 2 ^ 32 - 1 then s.setErr .nrg 2
  else s.setPulse k fun p => { p with sched := insertDue p.sched due }

/-- One output takes a lane's increments of a cycle (R343, R344). -/
def State.pulseTake (s : State) (n : Fin 32) (incs : List Nat) (len : Nat) (k : Fin 8) : State :=
  let src := if s.pcfg k 11 1 == 1 then (s.calv (0x9108 + 0x20 * k.val)).getLsbD n.val else s.pcfg k 6 5 == n.val
  let x := incs.getD (8 * s.pcfg k 1 2 + s.pcfg k 3 3) 0
  if s.pcfg k 0 1 == 1 && src && x > 0 && !s.altSel k then
    let c := s.nrg.pulses[k].carry
    let w := s.pulseWeight k
    let s := (pulseDues s.now len x c w).foldl (fun s d => s.schedulePulse k d) s
    s.setPulse k fun p => { p with carry := (c + x) % w }
  else s

/-! ## A cycle end in the energy engine -/

/-- The scaled values of Table 12-4, in the order V1, V2, V3, I1, I2, I3, IN RMS, then the DC means of I1, I2, V1,
V2, V3. -/
def scaledValues (m : RegMap) (c : Cycle) : List Int :=
  let n := c.lane
  let rms (ch : Nat) : Nat := c.rms.getD ch 0
  let v (ch : Nat) : Int := roundDiv (rms ch * scaleOf m n ch * 1000) (2 ^ 40)
  let i (ch : Nat) : Int := roundDiv (rms ch * gainAt m n (ch - 3) (rms ch) * scaleOf m n ch * 1000) (2 ^ 64)
  let sum (ch : Nat) : Int := (c.samples.getD ch []).foldl (· + ·) 0
  let im (ch : Nat) : Int := if c.dc && c.count != 0 then roundDiv (sum ch * gainAt m n (ch - 3) (rms ch) * scaleOf m n ch * 1000) (c.count * 2 ^ 64) else 0
  let vm (ch : Nat) : Int := if c.dc && c.count != 0 then roundDiv (sum ch * scaleOf m n ch * 1000) (c.count * 2 ^ 40) else 0
  [v 0, v 1, v 2, i 3, i 4, i 5, roundDiv (rms 6 * scaleOf m n 6 * 1000) (2 ^ 40), im 3, im 4, vm 0, vm 1, vm 2]

/-- The corrected p', q', s' of each computed phase, with its no-load flag (R331 to R336). -/
def phaseValues (m : RegMap) (mode : Nat) (c : Cycle) : List (Int × Int × Int × Bool) :=
  let n := c.lane
  let len := if c.dc then 62914560 else c.len
  (List.range (if mode == 1 then 3 else 1)).map fun p =>
    let rv := c.rms.getD p 0
    let ri := c.rms.getD (3 + p) 0
    let istart := calIn m (0x981C + 0x40 * n.val)
    if ri < istart then (0, 0, 0, true)
    else
      let (sp, sq, ss) := phaseSums c.dc c.part c.n (c.samples.getD p []) (c.samples.getD (3 + p) []) rv ri
      let e (x : Int) : Int := fineUnits x (scaleOf m n p) (scaleOf m n (3 + p)) len c.n
      let (p', q', s') := corrected c.dc (gainAt m n p ri) (corrAt m n p 2 ri) (e sp) (e sq) (e ss)
      (p', q', s', false)

/-- Update one group with its corrected values; the increments of its accumulators are returned (R337, R338). -/
def State.groupUpdate (s : State) (n : Fin 32) (g : Fin 4) (p q a : Int) : List Nat × State :=
  let (r, np, nq, ns) := residueStep s.nrg.lanes[n].res[g] p q a
  let incs := groupIncs p np nq ns
  let s := s.setNrg n fun l => { l with res := l.res.set g r }
  let s := (List.finRange 8).foldl (fun s qx => s.addAcc n ⟨8 * g.val + qx.val, by omega⟩ (incs.getD qx.val 0)) s
  (incs, s)

/-- The flagged-cycle run of R339: a flagged cycle carries OVF, STUCK or PARTIAL (log 12). Its FLAGGED result and its
legal-log entry (Table 13-8) come at the first flagged cycle and at the first unflagged one. -/
def State.flagRun (s : State) (n : Fin 32) (flags : Byte) : State :=
  let isF := flags.toNat % 8 != 0
  let l := s.nrg.lanes[n]
  let out (s : State) (detail cycles : Nat) (u : Byte) : State :=
    (((s.note 5 n.val 65).emit (laneRing n) 0x50 n.val detail (cycles % 2 ^ 32 + u.toNat * 2 ^ 32)).legal 0x18
      ([BitVec.ofNat 8 n.val, BitVec.ofNat 8 detail] ++ leBytes 4 cycles ++ [u]))
  if isF then
    let s := (s.setNrg n fun l => { l with flagged := min (l.flagged + 1) 0xFFFFFFFF, runOn := true,
                                           runCount := if l.runOn then l.runCount + 1 else 1,
                                           runUnion := if l.runOn then l.runUnion ||| flags else flags }).setErr .nrg 3
    if l.runOn then s else out s 0 0 flags
  else if l.runOn then out (s.setNrg n fun l => { l with runOn := false }) 1 l.runCount l.runUnion
  else s

/-- The energy engine takes a cycle end (R331 to R344): accumulators, residues, flags, scaled values and pulses. The
lane's 32 increments are returned for the register book (R342). -/
def State.energyCycle (s : State) (c : Cycle) : List Nat × State :=
  let n := c.lane
  let m := s.nrgCal n
  let mode := s.laneMode n
  let vals := phaseValues m mode c
  let (i0, s) := match vals[0]? with | some (p, q, a, _) => s.groupUpdate n 0 p q a | none => ([], s)
  let (i1, s) := match vals[1]? with | some (p, q, a, _) => s.groupUpdate n 1 p q a | none => (List.replicate 8 0, s)
  let (i2, s) := match vals[2]? with | some (p, q, a, _) => s.groupUpdate n 2 p q a | none => (List.replicate 8 0, s)
  let tp := vals.foldl (fun a v => a + v.1) 0
  let tq := if mode == 2 then 0 else vals.foldl (fun a v => a + v.2.1) 0
  let ts := vals.foldl (fun a v => a + v.2.2.1) 0
  let (i3, s) := s.groupUpdate n 3 tp tq ts
  let incs := i0 ++ i1 ++ i2 ++ i3
  let noload := vals.map (·.2.2.2)
  let flags := BitVec.ofNat 8 (c.flags + 16 * bit (noload.any id))
  let s := s.setNrg n fun l =>
    { l with lastStamp := s.now, cycles := (l.cycles + 1) % 2 ^ 32, flags := flags,
             noload := BitVec.ofNat 3 (bit (noload.getD 0 false) + 2 * bit (noload.getD 1 false) + 4 * bit (noload.getD 2 false)),
             quadT := quadrant tp tq, scaled := scaledValues m c, oldCal := none }
  let s := (s.flagRun n flags).overdraw n (if mode == 2 then [] else ((scaledValues m c).drop 3).take (if mode == 1 then 3 else 1))
  let len := if c.dc then 62914560 else c.len
  let s := (List.finRange 8).foldl (fun s k => s.pulseTake n incs len k) s
  (incs, s)

/-! ## Pulse events -/

/-- R345: the earliest scheduled pulse of output k starts when it is due and 2 × WIDTH have passed since the last
start; a pulse that starts late sets RATE. -/
def execPulseStart (k : Fin 8) (s : State) : Host.Outcome State Fault Refusal :=
  let p := s.nrg.pulses[k]
  match p.sched with
  | [] => .next s
  | d :: rest =>
    let free := match p.lastStart with | some t => decide (t + 2 * s.pulseWidth k ≤ s.now) | none => true
    if d ≤ s.now && free && !s.altSel k && s.legalOn then
      let s1 := s.setPulse k fun p => { p with sched := rest, active := true, endAt := s.now + s.pulseWidth k,
                                               lastStart := some s.now, count := (p.count + 1) % 2 ^ 32 }
      .next (if d < s.now then s1.setErr .nrg 1 else s1)
    else .next s

/-- R345, R346: the output is released when its width has passed. -/
def execPulseEnd (k : Fin 8) (s : State) : Host.Outcome State Fault Refusal :=
  if s.nrg.pulses[k].active && s.nrg.pulses[k].endAt ≤ s.now then .next (s.setPulse k fun p => { p with active := false })
  else .next s

/-- R346: the timebase marker at each HTC multiple of 24,576,000, the RTC test output at each RTC second. -/
def execAltPulseStart (k : Fin 8) (s : State) : Host.Outcome State Fault Refusal :=
  let mark := if k == 6 then s.now else s.island.rtcSec
  let due := if k == 6 then s.now % ticksPerS == 0 else true
  if s.altSel k && due && s.nrg.pulses[k].altLast != some mark && s.legalOn then
    .next (s.setPulse k fun p => { p with active := true, endAt := s.now + ticksPerMs, altLast := some mark })
  else .next s

/-! ## Commands -/

/-- The payload of NRG_READ (Table 12-9). -/
def State.nrgReadPayload (s : State) (n : Fin 32) : Bytes :=
  let l := s.nrg.lanes[n]
  let sc (i : Nat) : Int := l.scaled.getD i 0
  leBytes 9 l.lastStamp ++ leBytes 4 l.cycles ++ [l.flags] ++ zeros 2 ++
    (s.nrg.accs[n]).toList.flatMap (leBytes 9) ++
    l.res.toList.flatMap (fun r => leInt 3 r.p ++ leInt 3 r.q ++ leInt 3 r.s) ++
    ((List.range 7).flatMap fun i => leInt 4 (sc i)) ++ leInt 4 (sc 7) ++ leInt 4 (sc 8) ++
    leInt 4 (sc 9) ++ leInt 4 (sc 10) ++ leInt 4 (sc 11) ++ zeros 12

/-- The 324 bytes of a lane's three correction tables (R353). -/
def tableBytes (m : RegMap) (n : Fin 32) : Bytes :=
  (List.range 3).flatMap fun ch => (List.range 9).flatMap fun k => (List.range 3).flatMap fun f =>
    leBytes 4 (calIn m (tabKey n.val ch k f))

/-- The payload of NRG_CAL_READ (Table 12-10), with the values in force: until the lane's first cycle end after a write, the old ones
(R350). -/
def State.nrgCalPayload (s : State) (n : Fin 32) : Bytes :=
  ((List.range 8).flatMap fun i => leBytes 4 (calIn (s.nrgCal n) (0x9800 + 0x40 * n.val + 4 * i))) ++ tableBytes (s.nrgCal n) n

/-- A lane number from UNIT. -/
def unitLane (d : Desc) : Option (Fin 32) := if h : d.unit.toNat < 32 then some ⟨d.unit.toNat, h⟩ else none

/-- R352: opcode 0x80. -/
def execNrgRead (d : Desc) (s : State) : Host.Outcome State Fault Refusal :=
  .next (s.acceptSingle (.nrgRead d) 0x80 d 400 true fun s =>
    match unitLane d with
    | some n =>
      if s.laneEn n && s.met.lanes[n].run then (s.writeHost d.addr (s.nrgReadPayload n)).answer 0 0x80 d stOk
      else s.answer 0 0x80 d stBadUnit
    | none => s.answer 0 0x80 d stBadUnit)

/-- R352, R353: opcode 0x81. -/
def execNrgCalRead (d : Desc) (s : State) : Host.Outcome State Fault Refusal :=
  .next (s.acceptSingle (.nrgCalRead d) 0x81 d 356 true fun s =>
    match unitLane d with
    | some n => (s.writeHost d.addr (s.nrgCalPayload n)).answer 0 0x81 d stOk
    | none => s.answer 0 0x81 d stBadUnit)

end Sys2Proof.Machine
end

