-- ==== Sys2Proof/Machine/Ledger.lean ====
section
/-!
DEFINITION. The Abacus account ledger (R215 to R246): keys and index, records, the grant table, authorisation, debit
quanta, deltas, reports, the pending table, journal, snapshots and restore.
-/
namespace Sys2Proof.Machine

open Sys2Proof

/-! ## Keys and index -/

/-- k of R216. Byte i of a digest is bits 8i + 7 … 8i of Config.sha256 (log 3). -/
def keyOf (ident : Bytes) : Nat := (Config.sha256 ([0x41, 0x42, 0x43, 0x31] ++ ident)).toNat % 2 ^ 64

/-- b1 and fp of a key. -/
def bucket1 (k : Nat) : Nat := k % 2 ^ 23
def fprint (k : Nat) : Nat := k / 2 ^ 23 % 2 ^ 40

/-- The other candidate bucket of a bucket and fingerprint (R216). -/
def otherBucket (b fp : Nat) : Nat := b ^^^ ((fp * 0x5BD1E995 % 2 ^ 64 / 2 ^ 9 % 2 ^ 23) ||| 1)

/-- An empty slot. -/
def Rec.empty : Rec :=
  { fp := 0, uver := 0, credit := 0, pack := 0, capclass := 0, state := 0, ackLost := false, settled := 0, unack := 0, local_ := 0 }

/-- ACK and BAL of a record (R218, R219). -/
def Rec.ack (r : Rec) : Nat := r.local_ - r.unack
def Rec.bal (r : Rec) : Int := (r.credit : Int) - r.settled - r.unack

/-- An image with a slot set; slots rising, empty slots not listed. -/
def imgPut : List (Nat × Rec) → Nat → Rec → List (Nat × Rec)
  | [], i, r => if r == Rec.empty then [] else [(i, r)]
  | (j, x) :: m, i, r =>
    if j < i then (j, x) :: imgPut m i r
    else if j == i then (if r == Rec.empty then m else (i, r) :: m)
    else if r == Rec.empty then (j, x) :: m
    else (i, r) :: (j, x) :: m

/-- The record of a slot. -/
def State.recAt (s : State) (slot : Nat) : Rec := imgGet s.abc.dram slot

/-- The Abacus replaced. -/
def State.setAbc (s : State) (f : Abc → Abc) : State := { s with abc := f s.abc }

/-- The slots a lookup examines, in order (R220). -/
def slotsOf (k : Nat) : List Nat :=
  let b1 := bucket1 k
  let b2 := otherBucket b1 (fprint k)
  [4 * b1, 4 * b1 + 1, 4 * b1 + 2, 4 * b1 + 3, 4 * b2, 4 * b2 + 1, 4 * b2 + 2, 4 * b2 + 3]

/-- The lookup of R220. -/
def State.lookup (s : State) (k : Nat) : Option Nat :=
  (slotsOf k).find? fun i => (s.recAt i).fp == fprint k && ((s.recAt i).state == 1 || (s.recAt i).state == 2)

/-- The lowest empty slot of a bucket. -/
def emptySlot (m : List (Nat × Rec)) (b : Nat) : Option Nat :=
  [4 * b, 4 * b + 1, 4 * b + 2, 4 * b + 3].find? fun i => imgGet m i == Rec.empty

/-- The eviction walk of R221 from kick k with fuel; answers the changed image and slots, or none when FULL. -/
def evict : Nat → Nat → List (Nat × Rec) → Rec → Nat → List Nat → Option (List (Nat × Rec) × List Nat)
  | 0, _, _, _, _, _ => none
  | fuel + 1, kick, m, cur, b, moved =>
    let v := 4 * b + kick % 4
    let old := imgGet m v
    let m := imgPut m v cur
    let moved := moved ++ [v]
    let b' := otherBucket b old.fp
    match emptySlot m b' with
    | some e => some (imgPut m e old, moved ++ [e])
    | none => evict fuel (kick + 1) m old b' moved

/-- Where an eviction walk over the slots ch leaves a record: pos, the slot that holds it, or none while it is the one in
hand (R221). The last slot of the walk was empty. -/
def followMoves : List Nat → Option Nat → Option Nat
  | [], pos => pos
  | v :: rest, none => followMoves rest (some v)
  | v :: rest, some p => followMoves rest (if p == v && !rest.isEmpty then none else some p)

/-- An insertion (R221): the changed image, the changed slots and the new record's slot. -/
def insertRec (m : List (Nat × Rec)) (k : Nat) (r : Rec) : Option (List (Nat × Rec) × List Nat × Nat) :=
  let b1 := bucket1 k
  let b2 := otherBucket b1 (fprint k)
  match emptySlot m b1 with
  | some e => some (imgPut m e r, [e], e)
  | none =>
    match emptySlot m b2 with
    | some e => some (imgPut m e r, [e], e)
    | none => (evict 64 0 m r b1 []).map fun (m', ch) =>
        (m', ch, (followMoves ch none).getD (4 * b1))

/-- ABC_COUNT.ACTIVE and ABC_TOMB.DELETED. -/
def State.abcActive (s : State) : Nat := (s.abc.dram.filter fun p => p.2.state == 1 || p.2.state == 2).length
def State.abcDeleted (s : State) : Nat := (s.abc.dram.filter fun p => p.2.state == 3).length

/-- The pages of a copy area: a port's devices, or half of them where only QSPI0 is fitted; and its reserve, 2 % of its blocks (R240). -/
def Nv.areaPages (nv : Nv) : Nat := if nv.qspi1 then nv.nandPages else nv.nandPages / 2
def reserveBlocks (p : Nat) : Nat := ceilDiv (p / 64 * 2) 100

/-- ABC_CAPREC for a copy area of P pages in 64-page blocks of which some are bad (R240). -/
def capRecOf (p bad : Nat) : Nat :=
  let r := (reserveBlocks p + bad) * 64
  min (2 ^ 25) (((p - r - 2) * 2016 - 4194304) / 32)

/-! ## Pending table and journal (R238, R239, R241) -/

/-- Whether a slot is pinned by a grant-table entry. -/
def State.pinned (s : State) (slot : Nat) : Bool :=
  s.abc.grants.toList.any fun g => match g with | some e => e.slot == slot | none => false

/-- J_START of the newest complete copy. -/
def State.newestCopy (s : State) : Option SnapCopy :=
  match s.nv.snapA, s.nv.snapB with
  | some a, some b =>
    if a.complete && (!b.complete || b.gen < a.gen) then some a else if b.complete then some b else none
  | some a, none => if a.complete then some a else none
  | none, some b => if b.complete then some b else none
  | none, none => none

def State.jStart (s : State) : Nat := match s.newestCopy with | some c => c.jStart | none => 0

/-- Cut entries into blocks of at most 10 (R239). -/
def blocksOf : Nat → Nat → Nat → List JEntry → List JBlock
  | 0, _, _, _ => []
  | fuel + 1, seq, stamp, es =>
    if es.isEmpty then [] else ⟨seq, stamp, es.take 10⟩ :: blocksOf fuel (seq + 1) stamp (es.drop 10)

/-- Whether the journal region would overwrite a block still needed (R241). -/
def State.journalBlocked (s : State) (n : Nat) : Bool :=
  let excess := s.nv.journal.length + s.abc.writing.length + n - s.nv.jcap
  excess > 0 && (match s.nv.journal[excess - 1]? with | some b => decide (s.jStart ≤ b.seq) | none => true)

/-- Flush the pending table (R238): entries changed since they were last journaled go into blocks, in the order of
first change, unless the journal is held (R241). -/
def State.flush (s : State) : State :=
  let es := s.abc.pend.filter (·.dirty)
  if es.isEmpty then s
  else
    let last := match s.abc.writing.getLast? with | some b => b.seq | none => s.abc.jseq
    let bs := blocksOf es.length (last + 1) s.now es
    if s.journalBlocked bs.length then (s.setAbc fun a => { a with jheld := true }).setErr .abc 2
    else s.setAbc fun a => { a with writing := a.writing ++ bs, jheld := false,
                                    pend := a.pend.map fun e => { e with dirty := false } }

/-- A journal block has been written: it joins the region, and its entries leave the table unless pinned or changed
again (R238, R239). -/
def State.blockDone (s : State) : State :=
  match s.abc.writing with
  | [] => s
  | b :: rest =>
    let j := s.nv.journal ++ [b]
    let j := if j.length > s.nv.jcap then j.drop (j.length - s.nv.jcap) else j
    let slots := b.entries.map (·.slot)
    let s := { s with nv := { s.nv with journal := j } }
    s.setAbc fun a => { a with writing := rest, jseq := b.seq,
                               pend := a.pend.filter fun e => e.dirty || s.pinned e.slot || !slots.contains e.slot ||
                                 rest.any fun b => b.entries.any fun x => x.slot == e.slot }

/-- Complete every block under way: what makes room before a change that needs a 128th entry (R238, log 13). -/
def State.drainJournal (s : State) : State := s.abc.writing.foldl (fun s _ => s.blockDone) s

/-- Room for one more pending entry (R238): a table that holds 127 is flushed first. -/
def State.roomInPending (s : State) : State := if s.abc.pend.length ≥ 127 then s.flush.drainJournal else s

/-- A record changes: the DRAM image and the pending table take the new image with the present stamp (R238). -/
def State.putRec (s : State) (slot : Nat) (r : Rec) (kind : Nat := 0) : State :=
  let known := s.abc.pend.any (·.slot == slot)
  let s := if known then s else s.roomInPending
  let e : JEntry := ⟨slot, kind, s.now, r, true⟩
  s.setAbc fun a =>
    { a with dram := imgPut a.dram slot r,
             pend := if a.pend.any (fun x => x.slot == slot && x.dirty) then a.pend.map fun x => if x.slot == slot then e else x
                     else a.pend.filter (·.slot != slot) ++ [e] }

/-- Put a slot into the pending table unchanged, pinned by a grant (R238). -/
def State.pin (s : State) (slot : Nat) : State :=
  if s.abc.pend.any (·.slot == slot) then s
  else s.roomInPending.setAbc fun a => { a with pend := a.pend ++ [⟨slot, 0, s.now, s.recAt slot, false⟩] }

/-- Entries no longer pinned and already journaled leave the table. -/
def State.unpin (s : State) : State :=
  s.setAbc fun a => { a with pend := a.pend.filter (fun e => e.dirty || s.pinned e.slot ||
    a.writing.any (fun b => b.entries.any (fun x => x.slot == e.slot))) }

/-! ## Grants and reports -/

/-- A grant entry. -/
def State.grant (s : State) (g : Fin 36) : Option Grant := s.abc.grants[g]

/-- A grant entry replaced. -/
def State.setGrant (s : State) (g : Fin 36) (e : Option Grant) : State :=
  s.setAbc fun a => { a with grants := a.grants.set g e }

/-- Entry of a lane. -/
def laneEntry (n : Fin 32) : Fin 36 := ⟨n.val, by omega⟩

/-- The remaining reservation of an entry, and RESV of a record (R223). -/
def Grant.remaining (e : Grant) : Nat := e.g - e.d
def State.resv (s : State) (slot : Nat) : Nat :=
  s.abc.grants.toList.foldl (fun a g => match g with | some e => if e.slot == slot then a + e.remaining else a | none => a) 0

/-- ABC profile fields. -/
def State.gmax (s : State) : Nat := (s.prof 0x5008).toNat
def State.gmin (s : State) : Nat := (s.prof 0x500C).toNat
def State.capOf (s : State) (c : Nat) : Nat := (s.prof (0x5040 + 4 * c)).toNat
def State.latLookup (s : State) : Nat := ticksUs (s.pf 0x5010 0 16)
def State.latTable (s : State) : Nat := ticksUs (s.pf 0x5010 16 16)
def State.hubId (s : State) : Nat := s.pf 0x5004 0 24

/-- The key of a slot for reports: as last named by a request or delta, else from FP and bucket (log 14). -/
def State.keyOfSlot (s : State) (slot : Nat) : Nat :=
  match s.abc.keys.find? (·.1 == slot) with
  | some p => p.2
  | none => (s.recAt slot).fp * 2 ^ 23 + slot / 4

/-- Remember the key that names a slot. -/
def State.nameSlot (s : State) (slot k : Nat) : State :=
  s.setAbc fun a => { a with keys := (slot, k) :: a.keys.filter (·.1 != slot) }


/-- The 64-byte payload of Table 8-7 for a record and, where there is one, a grant entry. -/
def State.ledgerPayload (s : State) (key : Nat) (r : Rec) (e : Option Grant) : Bytes :=
  let g := e.getD Grant.blank
  leBytes 8 key ++ leBytes 5 r.local_ ++ leBytes 5 r.ack ++ leBytes 3 r.uver ++
    [BitVec.ofNat 8 r.sfl, BitVec.ofNat 8 r.capclass, BitVec.ofNat 8 g.method] ++ leBytes 5 g.g ++ leBytes 5 g.d ++
    leBytes 5 g.purseT ++ zeros 1 ++ leBytes 8 g.purseId ++ leBytes 4 g.purseSeq ++ leBytes 3 s.hubId ++ zeros 1 ++
    leInt 8 r.bal

/-- A ledger result on RING09 (R237) with the next RSEQ; with LINE_RPT = 1 it is offered to the site line too. -/
def State.ledgerResult (s : State) (opcode unit detail : Nat) (payload : Bytes) : State :=
  let s := s.setAbc fun a => { a with rseq := a.rseq + 1 }
  let s := s.emit 9 opcode unit detail s.abc.rseq payload
  if s.pf 0x5000 4 1 == 1 && (opcode == 1 || opcode == 4) then
    let b := [BitVec.ofNat 8 opcode, BitVec.ofNat 8 detail] ++ zeros 6 ++ leBytes 8 s.abc.rseq ++ payload
    if s.abc.lineOut.length < 256 then s.setAbc fun a => { a with lineOut := a.lineOut ++ [b] }
    else (s.setAbc fun a => { a with lineOut := a.lineOut.drop 1 ++ [b] }).setErr .line 4
  else s

/-- The lowest entry on a slot. -/
def State.entryOn (s : State) (slot : Nat) : Option Grant :=
  s.abc.grants.toList.findSome? fun g => match g with | some e => if e.slot == slot then some e else none | none => none

/-- A TALLY result of a slot (Table 8-6). Its G and D are those of the entry given, or of the lowest entry on the record,
as the report of Table 8-4 shows D (log 73). -/
def State.tally (s : State) (slot detail : Nat) (e : Option Grant) : State :=
  let e := match e with | some x => some x | none => s.entryOn slot
  let s := s.ledgerResult 0x01 0xFFFF detail (s.ledgerPayload (s.keyOfSlot slot) (s.recAt slot) e)
  s.setAbc fun a => { a with debited := a.debited.filter (· != slot) }

/-- Release an entry (R227). -/
def State.release (s : State) (g : Fin 36) : State := (s.setGrant g none).unpin

/-- An announcement to make later (R225, R228, R229). -/
def State.announce (s : State) (delay kind target reason : Nat) (about : Grant := Grant.blank) : State :=
  s.setAbc fun a => { a with announces := a.announces ++ [⟨s.now + delay, kind, target, reason, about⟩] }

/-- Take the first announcement of a kind to a target that is due. -/
def State.takeAnnounce (s : State) (kind target : Nat) : Option (Announce × State) :=
  match s.abc.announces.find? fun x => x.kind == kind && x.target == target && x.due ≤ s.now with
  | some x => some (x, s.setAbc fun a => { a with announces := a.announces.erase x })
  | none => none

/-- Revoke every entry on a record that is not revoked yet (R228). Answers how many (log 73). -/
def State.revokeSlot (s : State) (slot : Nat) : Nat × State :=
  (List.finRange 36).foldl (fun (k, s) g =>
    match s.grant g with
    | some e =>
      if e.slot == slot && !e.revoked then
        let s := s.setGrant g (some { e with revoked := true })
        (k + 1, if g.val < 32 && e.announced then s.announce s.latTable 1 g.val 9 e else s)
      else (k, s)
    | none => (k, s)) (0, s)

/-- Quarantine a slot after an uncorrectable error (R242), which puts later records outside the guarantee. -/
def State.quarantine (s : State) (slot : Nat) : State :=
  let s := s.setAbc fun a => { a with quarantine := if a.quarantine.contains slot || a.quarantine.length ≥ 64 then a.quarantine
                                                    else a.quarantine ++ [slot] }
  (s.guaranteeLost 1).setErr .abc 0

/-- Records read from DRAM, of which some meet an uncorrectable error: those slots are quarantined (R242). -/
def State.readSlots (s : State) (slots ues : List Nat) : State := (slots.filter ues.contains).foldl State.quarantine s

/-- Whether the ledger cannot reach DRAM (R226). -/
def State.ddrDown (s : State) : Bool := s.abc.ddrUnavailable || s.clocks.selfRefresh || !s.clocks.ok.getLsbD 7

/-- The decision of R224 for a request on entry g; the reason of a denial is that of Table 8-6. -/
def State.decideGrant (s : State) (g : Fin 36) (k method t : Nat) : Nat ⊕ (Nat × Nat) :=
  match s.lookup k with
  | none => .inl 1
  | some slot =>
    let r := s.recAt slot
    if r.state == 2 then .inl 2
    else if s.abc.quarantine.contains slot then .inl 7
    else if method == 3 && t < r.pack then .inl 6
    else if (s.abc.grants.toList.filter fun x => match x with | some e => e.slot == slot | none => false).length ≥ s.pf 0x5000 1 3
        || (s.grant g).isSome then .inl 5
    else
      let e := if method == 3 then max r.unack (t - r.pack) else r.unack
      let avail : Int := (r.credit : Int) - r.settled - e - s.resv slot
      let room : Int := (s.capOf r.capclass : Int) - r.unack - s.resv slot
      if avail < s.gmin then .inl 3
      else if room < s.gmin then .inl 4
      else .inr (slot, (min (min avail room) s.gmax).toNat)

/-- Authorise (R224, R225): decide, fill the entry of a grant, schedule the announcement. An identity outside 1 … 64
bytes, or EN = 0, finds no record (log 15). -/
def State.authorise (s : State) (a : AuthReq) : State :=
  let g : Fin 36 := ⟨a.entry % 36, Nat.mod_lt _ (by decide)⟩
  let k := keyOf a.ident
  let known := 1 ≤ a.ident.length && a.ident.length ≤ 64 && s.pf 0x5000 0 1 == 1
  let s := if known then s.readSlots (slotsOf k) a.ues else s
  let about : Grant := { Grant.blank with method := a.method, key := k, purseT := a.purseT, purseId := a.purseId, purseSeq := a.purseSeq }
  if !known then s.announce s.latLookup 0 g.val 1 about
  else match s.decideGrant g k a.method a.purseT with
  | .inl reason => s.announce s.latLookup 0 g.val reason about
  | .inr (slot, amount) =>
    let s := (s.setGrant g (some ⟨slot, a.method, amount, 0, false, false, false, k, a.purseT, a.purseId, a.purseSeq⟩)).nameSlot slot k
    (s.pin slot).announce s.latLookup 0 g.val 0

/-- An identity submission or reservation request (R224, R244): it waits in order until READY. -/
def State.requestAuth (s : State) (a : AuthReq) : State :=
  if s.frozen then s
  else if s.abc.ready then s.authorise a
  else s.setAbc fun x => { x with waiting := x.waiting ++ [a] }

/-- The SESSION result and the release of an entry after its final quantum (R227, R237). -/
def State.finishEntry (s : State) (n : Fin 32) (e : Grant) : State :=
  let p := s.ledgerPayload e.key (s.recAt e.slot) (some e)
  let s := s.ledgerResult 0x03 n.val (if e.revoked then 2 else if e.stopped then 1 else 0) p
  (s.tally e.slot 1 (some e)).release (laneEntry n)

/-- A debit quantum (R229, R230, R375), class 8 at the lane; a frozen Abacus takes none (R68). Without an entry the slot 0x1FF_FFFF stands in the result's KEY (log 101). -/
def State.quantum (s : State) (n : Fin 32) (q : Nat) (final : Bool) : State :=
  if s.frozen then s
  else
  let s := s.note 8 n.val 0
  match s.grant (laneEntry n) with
  | none =>
    let s := s.setErr .abc 8
    s.ledgerResult 0x03 n.val 0 (s.ledgerPayload Grant.blank.slot Rec.empty (some { Grant.blank with d := q }))
  | some e =>
    let r := s.recAt e.slot
    let excess := r.unack + q > 0xFFFFFF
    let r' := { r with local_ := r.local_ + q, unack := if excess then 0xFFFFFF else r.unack + q, ackLost := r.ackLost || excess }
    let s := if q == 0 then s else s.putRec e.slot r'
    let s := if q == 0 then s else s.setAbc fun a => { a with debited := if a.debited.contains e.slot then a.debited else a.debited ++ [e.slot] }
    let e := { e with d := e.d + q }
    let s := s.setGrant (laneEntry n) (some e)
    let e := if e.method != 3 && (e.g : Int) - e.d < s.gmin then
        let others : Int := (s.resv e.slot : Int) - e.remaining
        let lim := min (min (r'.bal - others) ((s.capOf r'.capclass : Int) - r'.unack - others)) s.gmax
        { e with g := (max (e.g : Int) (e.d + lim)).toNat }
      else e
    let stop := decide (e.d ≥ e.g) && !e.stopped
    let e := { e with stopped := e.stopped || stop }
    let s := s.setGrant (laneEntry n) (some e)
    let s := if stop then (s.announce s.latTable 2 n.val 0).tally e.slot 2 (some e) else s
    if final then s.finishEntry n e else s

/-! ## Orphans (R231) -/

/-- Enter an abandoned reservation in the orphan list and report it. -/
def State.orphan (s : State) (e : Grant) (lane : Nat) : State :=
  let o : Orphan := ⟨e.purseId, e.key, e.purseSeq + 1, e.purseT + e.g, lane⟩
  let full := s.nv.orphans.length ≥ 256
  let s := { s with nv := { s.nv with orphans := (if full then s.nv.orphans.drop 1 else s.nv.orphans) ++ [o] } }
  let s := (if full then s.setErr .abc 7 else s).setErr .tok 3
  s.ledgerResult 0x04 lane 0 (s.ledgerPayload e.key (s.recAt e.slot) (some { e with purseT := o.total, purseSeq := o.seq }))

/-- Abandon a reservation (R227, R231): the reader's entry is released, with the orphan flag it enters the list. -/
def State.abandon (s : State) (g : Fin 36) (orphanFlag : Bool) (lane : Nat) : State :=
  match if s.frozen then none else s.grant g with
  | some e =>
    let s := s.release g
    if orphanFlag then s.orphan e lane else s
  | none => s

/-! ## Deltas (R232 to R235) -/

/-- The value of an operational key, none while it is missing. -/
def State.keyVal (s : State) (id : Nat) : Option Nat := (s.keys.keys.find? (·.id == id)).map (·.value)

/-- The first 8 bytes of AES-CMAC under a key, as a number. -/
def cmac8 (k : Nat) (bs : Bytes) : Nat := (Config.aesCmac k bs).toNat % 2 ^ 64

/-- What names a record by its slot follows it through an eviction walk (R221): the grant entries, the keys of reports, the
accounts debited and the deleted records that a running copy will free (R233). -/
def State.slotsMoved (s : State) (ch : List Nat) : State :=
  let dst (i : Nat) : Nat := (followMoves ch (some i)).getD i
  s.setAbc fun a => { a with grants := a.grants.map (·.map fun e => { e with slot := dst e.slot }),
                             keys := a.keys.map (fun p => (dst p.1, p.2)), debited := a.debited.map dst, snapDel := a.snapDel.map dst }

/-- Apply one delta entry (R233, Table 8-3). ues: the slots whose reads meet an uncorrectable error (R242), in the lookup or in an eviction walk. -/
def State.applyDelta (s : State) (b : Bytes) (ues : List Nat) : Nat × State :=
  let kind := field b 0 1
  let k := field b 8 8
  let hub := field b 36 3
  let h := s.hubId
  let own := hub != 0 && hub == h
  let macOk := match s.keyVal 3 with | some key => cmac8 key (b.take 56) == field b 56 8 | none => false
  if !macOk then (0x24, s.setErr .abc 6)
  else if hub != 0 && hub != h then (0x25, s)
  else
    let found := s.lookup k
    let s := s.readSlots (slotsOf k) ues
    if (match found with | some slot => s.abc.quarantine.contains slot | none => false) then (0x27, s)
    else if !(kind == 1 || kind == 2 || kind == 3) || (kind != 3 && !(field b 1 1 == 1 || field b 1 1 == 2)) then (0x22, s)
    else if found.isNone && kind != 2 then (0x22, s)
    else
      let target : Option (Nat × Rec × State) := match found with
        | some slot => some (slot, s.recAt slot, s)
        | none =>
          let fresh : Rec := { Rec.empty with fp := fprint k }
          if s.abcActive ≥ s.abc.capRec || field b 4 3 == 0 then none
          else match insertRec s.abc.dram k { fresh with state := 1 } with
            | some (m, ch, slot) =>
              some (slot, fresh, (ch.foldl (fun s i => s.putRec i (imgGet m i)) (s.readSlots ch ues)).slotsMoved ch)
            | none => none
      match target with
      | none => if field b 4 3 == 0 then (0x20, s) else (0x23, s.setErr .abc 1)
      | some (slot, r, s1) =>
        let uver := field b 4 3
        let credit := field b 16 5
        let settled := field b 21 5
        let ack := field b 26 5
        let pack := field b 31 5
        let packValid := hasBit (field b 3 1) 0
        if uver ≤ r.uver then (0x20, s)
        else if credit < r.credit || settled < r.settled || (packValid && pack < r.pack) ||
            (own && !r.ackLost && ack < r.local_ - r.unack) then (0x21, s)
        else
          let st := if kind == 3 then 3 else field b 1 1
          let was := r.state
          let r := { r with uver := uver, credit := credit, settled := settled, capclass := field b 2 1 % 16,
                            pack := if packValid then pack else r.pack, state := st }
          let raised := own && ack > r.local_
          let r := if own then
              let l := max r.local_ ack
              { r with local_ := l, unack := min (l - ack) 0xFFFFFF, ackLost := decide (l - ack > 0xFFFFFF) }
            else r
          let s2 := (s1.putRec slot r).nameSlot slot k
          let s2 := if (st == 2 || st == 3) && st != was then (s2.revokeSlot slot).2 else s2
          let s2 := { s2 with nv := { s2.nv with orphans := s2.nv.orphans.filter fun o =>
              !(o.key % 2 ^ 63 == k % 2 ^ 63 && packValid && o.total ≤ pack) } }
          if raised then (0x26, s2.tally slot 4 none) else (0x00, s2)

/-- Apply entries in order (R118). ues lists, by entry index, the slots whose reads meet an uncorrectable error. -/
def applyDeltas (ues : List (Nat × Nat)) : Nat → Nat → Bytes → State → List Nat × State
  | 0, _, _, s => ([], s)
  | n + 1, i, bs, s =>
    let (st, s) := s.applyDelta (bs.take 64) ((ues.filter (·.1 == i)).map (·.2))
    let (rest, s) := applyDeltas ues n (i + 1) (bs.drop 64) s
    (st :: rest, s)

/-! ## Snapshots and restore (R240, R244) -/

/-- Start a snapshot of the image (R240): it overwrites the older copy. -/
def State.startSnapshot (s : State) : State :=
  let toB := match s.nv.snapA, s.nv.snapB with
    | some a, some b => decide (b.gen < a.gen)
    | some _, none => true
    | none, _ => false
  let gen := 1 + max (match s.nv.snapA with | some a => a.gen | none => 0) (match s.nv.snapB with | some b => b.gen | none => 0)
  let last := match s.abc.writing.getLast? with | some b => b.seq | none => s.abc.jseq
  let c : SnapCopy := ⟨gen, s.now, last + 1, s.abc.dram, none⟩
  let s := s.setAbc fun a => { a with snap := some c, snapB := toB, snapPct := 0, snapDel := (a.dram.filter fun p => p.2.state == 3).map (·.1) }
  { s with nv := if toB then { s.nv with snapB := some c } else { s.nv with snapA := some c } }

/-- Join a journal image with the record of a slot (R244). -/
def joinRec (old new : Rec) : Rec :=
  if old == Rec.empty || old.fp != new.fp then new
  else
    let hi := if new.uver ≥ old.uver then new else old
    let l := max old.local_ new.local_
    { hi with local_ := l, unack := min (l - hi.ack) 0xFFFFFF, ackLost := hi.ackLost || decide (l - hi.ack > 0xFFFFFF) }

/-- Insert an entry by stamp, after those of equal stamp. -/
def insertByStamp : List JEntry → JEntry → List JEntry
  | [], e => [e]
  | x :: xs, e => if x.stamp ≤ e.stamp then x :: insertByStamp xs e else e :: x :: xs

/-- Apply a journal entry to an image (R239, R244). -/
def applyEntry (m : List (Nat × Rec)) (e : JEntry) : List (Nat × Rec) :=
  if e.kind == 0 then imgPut m e.slot (joinRec (imgGet m e.slot) e.image) else imgPut m e.slot Rec.empty

/-- The Abacus section of the commit record at step 10 of start-up (R72, R243): the pending entries, the numbering of blocks and of reports. -/
def State.restoreAbc (s : State) (i : AbcImage) : State :=
  s.setAbc fun a => { a with pend := i.pending.map (fun e => { e with dirty := true }), jseq := i.jseq, rseq := i.rseq - 1, newestB := i.newestB }

/-- Restore the ledger (R244): the newest complete copy, then the journal from J_START and the pending entries of the
restored commit record whose stamps exceed S, in ascending stamp order. -/
def State.restoreLedger (s : State) : State :=
  let base := match s.newestCopy with | some c => c.image | none => []
  let start := match s.newestCopy with | some c => c.start | none => 0
  let jes := ((s.nv.journal.filter fun b => s.jStart ≤ b.seq).flatMap (·.entries)) ++ s.abc.pend
  let jes := jes.filter fun e => s.newestCopy.isNone || start < e.stamp
  let sorted := jes.foldl insertByStamp []
  let img := sorted.foldl applyEntry base
  let seqs := (s.nv.journal.filter fun b => s.jStart ≤ b.seq).map (·.seq)
  let gap := match seqs with
    | [] => false
    | x :: _ => (x != s.jStart && s.newestCopy.isSome) || seqs != (List.range seqs.length).map (x + ·)
  let lost := (s.nv.snapA.isSome || s.nv.snapB.isSome) && s.newestCopy.isNone
  let lastSeq := max (seqs.getLastD 0) s.abc.jseq
  let s := s.setAbc fun a =>
    { a with dram := img, quarantine := [], jseq := lastSeq, newestB := match s.nv.snapB, s.newestCopy with
               | some b, some c => b == c
               | _, _ => false,
             capRec := min (capRecOf s.nv.areaPages s.nv.nandBad[0].length) (capRecOf s.nv.areaPages s.nv.nandBad[1].length),
             reserve := .replicate 2 (reserveBlocks s.nv.areaPages) }
  let s := if gap || lost || s.boot.torn then s.setErr .abc 4 else s
  if lost then s.setErr .abc 3 else s

/-- The Abacus section of a commit record (R243): the pending table as it is, before a restore that of the record restored. -/
def State.abcImage (s : State) : AbcImage :=
  { jseq := s.abc.jseq, pending := s.abc.pend,
    snapStart := match s.newestCopy with | some c => c.start | none => 0, newestB := s.abc.newestB, rseq := s.abc.rseq + 1 }

end Sys2Proof.Machine
end

