-- ==== Sys2Proof/Machine/Book.lean ====
section
/-!
DEFINITION. The register book (R356 to R388): the tariff table and its calendar, intervals and demand, billing closes,
clock steps, sessions and the debit feed, calibration copies, and the role authentication of R358.
-/
namespace Sys2Proof.Machine

open Sys2Proof

/-- The book replaced; its image objects replaced. -/
def State.setBook (s : State) (f : Book → Book) : State := { s with book := f s.book }
def State.setImg (s : State) (f : BookImage → BookImage) : State := s.setBook fun b => { b with img := f b.img }

/-! ## Calendar (R359) -/

/-- Year, month and day of a day number counted from 2000-01-01, in the Gregorian calendar. -/
def civil (d : Nat) : Nat × Nat × Nat :=
  let z := d + 730425
  let era := z / 146097
  let doe := z % 146097
  let yoe := (doe - doe / 1460 + doe / 36524 - doe / 146096) / 365
  let doy := doe - (365 * yoe + yoe / 4 - yoe / 100)
  let mp := (5 * doy + 2) / 153
  let day := doy - (153 * mp + 2) / 5 + 1
  let month := if mp < 10 then mp + 3 else mp - 9
  (yoe + era * 400 + (if month ≤ 2 then 1 else 0), month, day)

/-- The day number, from 2000-01-01, of a date from the year 2000 on. -/
def dayNumber (y m d : Nat) : Nat :=
  let y := if m ≤ 2 then y - 1 else y
  let era := y / 400
  let yoe := y % 400
  let doy := (153 * (if m > 2 then m - 3 else m + 9) + 2) / 5 + d - 1
  era * 146097 + (yoe * 365 + yoe / 4 - yoe / 100 + doy) - 730425

/-- The day of the week, 0 for Monday. -/
def weekday (sec : Nat) : Nat := (sec / 86400 + 5) % 7

/-! ## The tariff table (R362) -/

/-- The demand-interval length of a table in seconds. -/
def tblLen (t : Bytes) : Nat := [300, 600, 900, 1800, 3600].getD (field t 15 1) 300

/-- Point j of day profile p. -/
def tblPoint (t : Bytes) (p j : Nat) : Nat := field t (56 + 24 * p + 2 * j) 2
def pointValid (v : Nat) : Bool := hasBit v 15
def pointMinute (v : Nat) : Nat := v % 2048
def pointRate (v : Nat) : Nat := v / 2048 % 8

/-- The valid points of a profile, in table order. -/
def tblPoints (t : Bytes) (p : Nat) : List Nat := ((List.range 12).map (tblPoint t p)).filter pointValid

/-- The day profile in force on a day: the lowest matching special day, else the week entry. -/
def tblProfile (t : Bytes) (sec : Nat) : Nat :=
  let (y, m, d) := civil (sec / 86400)
  let hit := (List.range 32).find? fun i =>
    let b := 248 + 4 * i
    field t b 1 == d && field t (b + 1) 1 == m && (field t (b + 2) 1 == 0xFF || 2000 + field t (b + 2) 1 == y)
  match hit with
  | some i => field t (251 + 4 * i) 1
  | none => field t (48 + weekday sec) 1

/-- The rate in force at a wall-clock second (R362). -/
def tblRate (t : Bytes) (sec : Nat) : Nat :=
  let minute := sec % 86400 / 60
  let ps := (tblPoints t (tblProfile t sec)).filter fun v => pointMinute v ≤ minute
  match ps.getLast? with
  | some v => pointRate v
  | none => 0

/-- Whether a second is a billing boundary of the table (R367). -/
def tblBoundary (t : Bytes) (sec : Nat) : Bool :=
  let (_, _, d) := civil (sec / 86400)
  field t 12 1 == d && sec % 86400 == 3600 * field t 13 1 + 60 * field t 14 1

/-- The billing boundaries in (a, b], ascending. -/
def tblBoundaries (t : Bytes) (a b : Nat) : List Nat :=
  if field t 12 1 == 0 || b ≤ a then []
  else
    let (y0, m0, _) := civil (a / 86400)
    let (y1, m1, _) := civil (b / 86400)
    let n := 12 * y1 + m1 - (12 * y0 + m0) + 1
    ((List.range n).map fun i =>
      let k := 12 * y0 + (m0 - 1) + i
      86400 * dayNumber (k / 12) (k % 12 + 1) (field t 12 1) + 3600 * field t 13 1 + 60 * field t 14 1).filter
        fun x => a < x && x ≤ b

/-- Whether the valid points of a profile ascend strictly from minute 0. -/
def ascends : Nat → List Nat → Bool
  | _, [] => true
  | lo, v :: vs => decide (lo ≤ pointMinute v) && ascends (pointMinute v + 1) vs

/-- The checks of R362. Points that are not valid need only bit 14 zero (log 18). -/
def tableOk (t : Bytes) : Bool :=
  let f := field t
  let len := tblLen t
  t.length == 384 && f 0 4 ≥ 1 && f 4 7 < 2 ^ 55 && f 11 1 ≤ 7 && 1 ≤ f 12 1 && f 12 1 ≤ 28 && f 13 1 ≤ 23 && f 14 1 ≤ 59 &&
  f 15 1 ≤ 4 && (60 * f 13 1 + f 14 1) * 60 % len == 0 &&
  (List.range 7).all (fun i => decide (f (48 + i) 1 ≤ 7) && !(tblPoints t (f (48 + i) 1)).isEmpty) && f 55 1 == 0 &&
  (List.range 8).all (fun p =>
    (List.range 12).all (fun j => !hasBit (tblPoint t p j) 14 &&
      (!pointValid (tblPoint t p j) || (decide (pointMinute (tblPoint t p j) ≤ 1439) && pointMinute (tblPoint t p j) * 60 % len == 0))) &&
    (match tblPoints t p with
     | [] => true
     | v :: vs => pointMinute v == 0 && ascends 1 vs)) &&
  (List.range 32).all (fun i =>
    let b := 248 + 4 * i
    f b 1 == 0 || (f b 1 ≤ 31 && 1 ≤ f (b + 1) 1 && f (b + 1) 1 ≤ 12 && f (b + 3) 1 ≤ 7 && !(tblPoints t (f (b + 3) 1)).isEmpty)) &&
  f 376 8 == 0

/-- The active table; with none, a table of zero bytes: rate 0, price 0, no boundary, intervals of 5 min (log 17). -/
def State.table (s : State) : Bytes := s.nv.tblActive.getD (zeros 384)

/-- The price of a rate in cu per kWh. -/
def State.price (s : State) (rate : Nat) : Nat := field s.table (16 + 4 * rate) 4

/-- The rate by the table now: FALLBACK while the clock is invalid (R371). -/
def State.rateByTable (s : State) : Nat :=
  if s.book.img.clkValid then tblRate s.table s.island.rtcSec else field s.table 11 1 % 8

/-- The rate in force becomes the rate by the table; a change is a rate switch (7/3 of Table 13-3). -/
def State.rateSwitch (s : State) : State :=
  let r := s.rateByTable
  if r == s.book.img.rate then s else (s.note 7 32 3).setImg fun i => { i with rate := r }

/-- Take a rate switch that a clock step left due one tick later (R369). -/
def State.settleRate (s : State) : State :=
  match s.book.rateDue with
  | some t => if t ≤ s.now then ({ s with book := { s.book with rateDue := none } } : State).rateSwitch else s
  | none => s

/-- The second in seven bytes with the valid flag (R383). -/
def State.rtc7 (s : State) : Bytes := rtcBytes s.island.rtcSec s.book.img.clkValid

/-! ## Demand intervals (R365, R366) -/

/-- A lane's A+ and A− totals (indices 24 and 25). -/
def State.aPlus (s : State) (n : Fin 32) : Nat := s.nrg.accs[n][24]
def State.aMinus (s : State) (n : Fin 32) : Nat := s.nrg.accs[n][25]

/-- The demand of a lane's open interval so far, in mW. -/
def State.demandNow (s : State) (n : Fin 32) : Nat :=
  (s.aPlus n - s.book.img.ivVal[n]) * 3600 / (tblLen s.table * 1000000)

/-- One maximum updated. -/
def mdTake (m : Vector (Nat × Nat) 8) (rate : Fin 8) (dem sec : Nat) : Vector (Nat × Nat) 8 :=
  if dem > m[rate].1 then m.set rate (dem % 2 ^ 40, sec) else m

/-- The rate in force as an index. -/
def State.rateIx (s : State) : Fin 8 := ⟨s.book.img.rate % 8, Nat.mod_lt _ (by decide)⟩

/-- End the open interval and open the next with the given flags (R365, R366). It is an event of its own (7/0) only where the interval's time
is up, not at the place of a step or an outage (Table 13-5). -/
def State.intervalEnd (s : State) (openFlags : BitVec 4) : State :=
  let r := s.rateIx
  let dems := allLanes.map fun n => if s.laneEn n then s.demandNow n else 0
  let hub := dems.foldl (· + ·) 0
  s.setImg fun i =>
    let md := (List.finRange 32).foldl (fun m n => m.set (n.val) (mdTake m[n.val] r (dems.getD n.val 0) s.island.rtcSec) (by omega)) i.md
    { i with md := md.set 32 (mdTake md[32] r hub s.island.rtcSec), ivVal := .ofFn fun n => if s.laneEn n then s.aPlus n else i.ivVal[n],
             ivFlags := openFlags, ivStart := s.now, ivStartSec := s.island.rtcSec }

/-- The open interval gathers a flag. -/
def State.gather (s : State) (f : BitVec 4) : State := s.setImg fun i => { i with ivFlags := i.ivFlags ||| f }

abbrev ivClock : BitVec 4 := 1
abbrev ivOutage : BitVec 4 := 2
abbrev ivNoclock : BitVec 4 := 4
abbrev ivTariff : BitVec 4 := 8

/-! ## Billing (R367, R368) -/

/-- Maxima as bytes: 5-byte value, 7-byte second. -/
def mdBytes (m : Vector (Nat × Nat) 8) : Bytes := m.toList.flatMap fun p => leBytes 5 p.1 ++ leBytes 7 p.2

/-- Tariff registers as bytes. -/
def trBytes (t : Vector (Nat × Nat) 8) : Bytes := t.toList.flatMap fun p => leBytes 9 p.1 ++ leBytes 9 p.2

/-- The payload of a BILLING result (Table 13-12). -/
def State.billPayload (s : State) : Bytes :=
  (allLanes.flatMap fun n => trBytes s.book.img.tr[n] ++ mdBytes s.book.img.md[n.val]) ++ mdBytes s.book.img.md[32]

/-- A billing close (R367): kind 0 scheduled, 1 command, 2 catch-up; sec is the boundary's second. The copy of a close at
a freeze stamp is still being written then, and is abandoned (R368, log 73). -/
def State.billClose (s : State) (kind sec : Nat) : State :=
  let p := s.billPayload
  let s := s.emit 7 0x11 0xFFFF kind s.book.img.period p
  let sha := (Config.sha256 p).toNat
  let s := s.legal 0x15 (leBytes 4 s.book.img.period ++ leBytes 7 sec ++ [BitVec.ofNat 8 kind] ++ leBytes 32 sha)
  let copy : BillCopy := ⟨s.book.img.period, BitVec.ofNat 8 kind, s.htc, p⟩
  let s := if s.frozenAt.isSome then s else { s with nv := { s.nv with bills := (copy :: s.nv.bills).take 4 } }
  s.setImg fun i => { i with md := .replicate 33 (.replicate 8 (0, 0)), period := (i.period + 1) % 2 ^ 32, lastClose := sec }

/-- Activate the pending table (R363): an event of its own (7/2) unless it is taken at the place of a step or an outage. A changed length ends
the open interval with TARIFF, and the one that opens then carries it too (log 114). -/
def State.activateTable (s : State) (own : Bool) : State :=
  match s.nv.tblPending with
  | none => s
  | some t =>
    let s := if own then s.note 7 32 2 else s
    let old := s.book.img.tblActive
    let lenOld := tblLen s.table
    let s := if tblLen t != lenOld then (s.gather ivTariff).intervalEnd ivTariff else s
    let s := { s with nv := { s.nv with tblActive := some t, tblPending := none } }
    let s := s.setImg fun i => { i with tblActive := field t 0 4, tblPending := 0 }
    (s.legal 0x14 (leBytes 4 (field t 0 4) ++ leBytes 4 old)).rateSwitch

/-- The pending table's ACTIVATE. -/
def State.pendActivate (s : State) : Option Nat := s.nv.tblPending.map fun t => field t 4 7

/-- A billing boundary taken, as an event of its own (7/1) or at the place of a step or an outage: the close, then a table that waits for the
next boundary. -/
def State.boundary (s : State) (own : Bool) (kind sec : Nat) : State :=
  let s := (if own then s.note 7 32 1 else s).billClose kind sec
  if s.pendActivate == some 0 then s.activateTable own else s

/-! ## Clock (R361, R369 to R372) -/

/-- The points of a valid second just begun (R361). -/
def State.takePoints (s : State) : State :=
  let sec := s.island.rtcSec
  let s := if sec % 86400 % tblLen s.table == 0 then (s.note 7 32 0).intervalEnd 0 else s
  let s := if tblBoundary s.table sec && sec > s.book.img.lastClose then s.boundary true 0 sec else s
  let s := match s.pendActivate with | some a => if a != 0 && a == sec then s.activateTable true else s | none => s
  s.rateSwitch

/-- Whole intervals that lay wholly inside an outage, besides the one that was open (R372). -/
def missedIntervals (len from_ to_ : Nat) : Nat := to_ / len - (from_ / len + 1)

/-- Take the billing boundaries in (a, b] that lie after LAST_CLOSE, in order; from the first close on, a table that waited
for a boundary gives the rest (R363). -/
def State.closesIn (s : State) (kind a b : Nat) : State :=
  let close (s : State) (x : Nat) : State := if x > s.book.img.lastClose then s.boundary false kind x else s
  let bs := (tblBoundaries s.table a b).filter fun x => decide (s.book.img.lastClose < x)
  match bs with
  | [] => s
  | x :: rest =>
    if s.pendActivate == some 0 then
      let s := close s x
      (tblBoundaries s.table x b).foldl close s
    else (x :: rest).foldl close s

/-- Complete an outage at the first valid rollover (R372). -/
def State.completeOutage (s : State) (f fSec : Nat) : State :=
  let sec := s.island.rtcSec
  let s := s.setBook fun b => { b with outage := none }
  let missed := missedIntervals (tblLen s.table) fSec sec
  let s := (s.gather ivOutage).intervalEnd ivOutage
  let before := s.book.img.period
  let s := s.closesIn 2 s.book.img.lastClose sec
  let caught := (s.book.img.period + 2 ^ 32 - before) % 2 ^ 32
  let s := match s.pendActivate with | some a => if a != 0 && a ≤ sec then s.activateTable false else s | none => s
  let s := s.setImg fun i => { i with rate := s.rateByTable, ivFlags := ivOutage }
  s.legal 0x19 (leBytes 9 f ++ leBytes 7 fSec ++ leBytes 7 sec ++ leBytes 4 missed ++ [BitVec.ofNat 8 caught])

/-- Mark the open sessions as having met a clock step or an invalid clock (Table 13-7). -/
def State.markClock (s : State) : State :=
  s.setImg fun i => { i with sess := i.sess.map fun r => if r.isOpen then { r with clkEvent := true } else r }

/-- A CLOCK entry and result (Tables 13-8, 13-12). -/
def State.clockEntry (s : State) (source role old new : Nat) : State :=
  (s.legal 0x13 ([BitVec.ofNat 8 source, BitVec.ofNat 8 role] ++ leBytes 7 old ++ leBytes 7 new)).emit 7 0x12 0xFFFF source new

/-- The wall clock becomes invalid (R371). The open interval gathers NOCLOCK and ends one length later (log 19). -/
def State.clockInvalid (s : State) : State :=
  if !s.book.img.clkValid then s
  else
    let sec := s.island.rtcSec
    let s := s.setImg fun i => { i with clkValid := false }
    let s := s.clockEntry 2 0 sec sec
    let s := (s.setErr .book 1).gather ivNoclock
    let s := s.markClock
    let s := s.setBook fun b => { b with noclockFrom := some s.now, rateDue := none, outage := none }
    let s := { s with island := { s.island with rtcValid := false } }
    s.setImg fun i => { i with rate := s.rateByTable }

/-- Merge boundaries and the pending activation in wall-clock order over (old, new] (R369). -/
def State.spanPoints (s : State) (old new : Nat) : State :=
  let act := match s.pendActivate with | some a => if a != 0 && old < a && a ≤ new then some a else none | none => none
  match act with
  | none => s.closesIn 0 old new
  | some a => ((s.closesIn 0 old a).activateTable false).closesIn 0 a new

/-- A clock step takes effect (R369): source 0 host, 1 site line. -/
def State.clockStep (s : State) (source role new : Nat) : State :=
  let s := s.note 6 32 (if source == 0 then 1 else 2)
  let old := s.island.rtcSec
  let was := s.book.img.clkValid
  let s := (s.gather ivClock)
  let s := if was then s else (s.setImg fun i => { i with clkValid := true }).clockEntry 3 role old new
  let s := s.intervalEnd ivClock
  let s := { s with island := { s.island with rtcSec := new, rtcValid := true } }
  let s := s.setImg fun i => { i with ivStartSec := new }
  let s := (s.clockEntry source role old new).setErr .book 2
  let s := s.markClock
  let s := s.setBook fun b => { b with noclockFrom := none }
  let s := if new > old then s.spanPoints old new else s
  s.setBook fun b => { b with rateDue := some (s.now + 1) }

/-! ## Cycles, sessions and the debit feed (R364, R373 to R376, R381) -/

/-- A lane's session record replaced. -/
def State.setSess (s : State) (n : Fin 32) (f : SessRec → SessRec) : State :=
  s.setImg fun i => { i with sess := i.sess.set n (f i.sess[n]) }

/-- Whether a field on some sensor covers a lane. -/
def State.underField (s : State) (n : Fin 32) : Bool :=
  (List.range 4).any fun k => s.book.img.magOn.getLsbD k && (s.calv (0xA044 + 8 * k)).getLsbD n.val

/-- Whether a lane's debit feed is active (R374). -/
def State.feedActive (s : State) (n : Fin 32) : Bool :=
  s.pf 0xA000 0 1 == 1 && s.book.img.sess[n].isOpen && s.lanes[n].grant

/-- The widest value of a 72-bit register. -/
def wide72 (x : Nat) : Nat := min x (2 ^ 72 - 1)

/-- The book takes a lane's increments at its cycle end (R364, R374 to R376, R381). -/
def State.bookCycle (s : State) (n : Fin 32) (incs : List Nat) (flags : Byte) : State :=
  let s := s.settleRate
  let ap := incs.getD 24 0
  let am := incs.getD 25 0
  let r := s.rateIx
  let s := s.setImg fun i => { i with tr := i.tr.set n ((i.tr[n]).set r (wide72 (i.tr[n][r].1 + ap), wide72 (i.tr[n][r].2 + am))) }
  let s := if s.underField n then s.setImg fun i => { i with magE := i.magE.set n (wide72 (i.magE[n] + ap)) } else s
  if s.book.img.sess[n].isOpen then
    let s := s.setSess n fun x => { x with flagged := x.flagged || flags.toNat % 8 != 0, rates := x.rates ||| BitVec.ofNat 8 (2 ^ r.val),
                                           magnetic := x.magnetic || s.underField n }
    if s.feedActive n then
      let x := s.book.img.sess[n].residue + ap * s.price r.val
      let q := x / 10 ^ 12
      let s := s.setSess n fun y => { y with residue := x - q * 10 ^ 12, charged := (y.charged + q) % 2 ^ 40 }
      if q > 0 then s.quantum n q false else s
    else s
  else if ap > 0 then (s.setImg fun i => { i with unattr := i.unattr.set n (wide72 (i.unattr[n] + ap)) }).setErr .book 6
  else s

/-- Open a lane's book session (R373); a frozen book takes no event (R68). -/
def State.openSession (s : State) (n : Fin 32) : State :=
  if s.frozen then s
  else s.setSess n fun r =>
    { SessRec.reset with bsess := (r.bsess + 1) % 2 ^ 32, isOpen := true, openStamp := s.now, openSec := s.island.rtcSec,
                         openValid := s.book.img.clkValid, aPlus0 := s.aPlus n, aMinus0 := s.aMinus n,
                         magnetic := s.underField n, clkEvent := !s.book.img.clkValid }

/-- Close a lane's book session (R373, R375); a frozen book takes no event (R68). The record is cleared but for BSESS, which counts on (log 20). -/
def State.closeSession (s : State) (n : Fin 32) (cause : Nat) : State :=
  let r := s.book.img.sess[n]
  if !r.isOpen || s.frozen then s
  else
    let ap := s.aPlus n - r.aPlus0
    let am := s.aMinus n - r.aMinus0
    let s := if r.grantHeld then s.quantum n 0 true else s
    let s := s.emit 7 0x10 n.val cause r.charged (r.bytes ++ leBytes 9 ap ++ leBytes 9 am ++ s.rtc7 ++ zeros 7)
    let s := s.legal 0x1A ([BitVec.ofNat 8 n.val, BitVec.ofNat 8 cause] ++ leBytes 4 r.bsess ++ leBytes 9 ap ++ leBytes 9 am ++
      leBytes 5 r.charged ++ [r.rates] ++ leBytes 5 r.residue)
    s.setSess n fun r => { SessRec.reset with bsess := r.bsess }

/-! ## Calibration (R378 to R380) -/

/-- BOOK_CALSUM (R380). -/
def State.calSum (s : State) : BitVec 32 :=
  let v (k : Nat) : Bytes := leBytes 4 (calIn s.book.cal k)
  crc32 (((List.range 8).flatMap fun k => v (0x8020 + 4 * k)) ++
    (allLanes.flatMap fun n => v (metLcalOff n) ++ ((List.range 8).flatMap fun c => v (metShOff n c)) ++
      ((List.range 8).flatMap fun i => v (0x9800 + 0x40 * n.val + 4 * i)) ++ tableBytes s.book.cal n) ++
    ((List.range 8).flatMap fun k => v (0x9100 + 0x20 * k) ++ v (0x9104 + 0x20 * k) ++ v (0x9108 + 0x20 * k)) ++
    ((List.range 4).flatMap fun k => v (0xA040 + 8 * k) ++ v (0xA044 + 8 * k)))

/-- Whether target and value of an entry are good on their own (R378); a pulse constant divides 10^12 (R343). -/
def calEntryOk (b : Bytes) : Bool :=
  let t := field b 0 4
  let v := field b 4 4
  if field b 8 8 != 0 then false
  else if t < 0x80000000 then
    match calRows.find? (·.has t) with
    | some r => r.ok (BitVec.ofNat 32 v) && (!(0x9100 ≤ t && t < 0x9200 && t % 0x20 == 4) || 10 ^ 12 % v == 0)
    | none => false
  else
    let ch := t / 256 % 4
    let k := t / 16 % 16
    let f := t % 4
    let used := t == 0x80000000 + (t / 65536 % 32) * 65536 + ch * 256 + k * 16 + f
    let sv := signedField b 4 4
    used && ch ≤ 2 && k ≤ 8 && f ≤ 2 &&
      (if f == 0 then decide (v ≤ 8388607) else if f == 1 then decide (sv.natAbs ≤ 1677721) else decide (sv.natAbs ≤ 2342541))

/-- Split bytes into 16-byte entries. -/
def entries16 : Nat → Bytes → List Bytes
  | 0, _ => []
  | n + 1, bs => bs.take 16 :: entries16 n (bs.drop 16)

/-- Apply entries to a calibration map in order. -/
def calApply (m : RegMap) (es : List Bytes) : RegMap :=
  es.foldl (fun m e => regPut (calReset (field e 0 4)) m (field e 0 4) (BitVec.ofNat 32 (field e 4 4))) m

/-- Whether the X table of a lane's channel ascends strictly. -/
def xTableOk (m : RegMap) (lane ch : Nat) : Bool :=
  (List.range 8).all fun k => calIn m (tabKey lane ch k 0) < calIn m (tabKey lane ch (k + 1) 0)

/-- The first bad entry of a command: its own check, else the last entry that wrote a table left out of order (R378). -/
def calBad (m : RegMap) (es : List Bytes) : Option Nat :=
  match es.findIdx? fun e => !calEntryOk e with
  | some i => some i
  | none =>
    let m' := calApply m es
    let isX (e : Bytes) : Bool := field e 0 4 ≥ 0x80000000 && field e 0 4 % 16 == 0
    let bad := (es.zipIdx).filter fun (e, _) => isX e && !xTableOk m' (field e 0 4 / 65536 % 32) (field e 0 4 / 256 % 4)
    match bad with
    | [] => none
    | (e0, _) :: _ =>
      let same := bad.filter fun (e, _) => field e 0 4 / 256 == field e0 0 4 / 256
      same.getLast?.map (·.2)

/-- Keep a lane's old values in use where a target's chapter delays the new ones (R319, R350). -/
def State.keepOldCal (s : State) (target : Nat) : State :=
  let old := s.book.cal
  let nrgKeep (s : State) (n : Fin 32) : State := s.setNrg n fun l => { l with oldCal := some (l.oldCal.getD old) }
  let metKeep (s : State) (n : Fin 32) : State :=
    s.setMet n fun m =>
      if m.start.isNone || m.old.any (·.written == s.now) then m
      else { m with old := m.old ++ [⟨s.now, none, regGet (calReset (metLcalOff n)) old (metLcalOff n),
              (List.range 8).map fun c => regGet (calReset (metShOff n c)) old (metShOff n c)⟩] }
  if target ≥ 0x80000000 then nrgKeep s ⟨target / 65536 % 32, Nat.mod_lt _ (by decide)⟩
  else if 0x9800 ≤ target && target < 0xA000 then nrgKeep s ⟨(target - 0x9800) / 0x40 % 32, Nat.mod_lt _ (by decide)⟩
  else if 0x8100 ≤ target && target < 0x8500 then metKeep s ⟨(target - 0x8100) / 0x20 % 32, Nat.mod_lt _ (by decide)⟩
  else if 0x8500 ≤ target && target < 0x8900 then metKeep s ⟨(target - 0x8500) / 0x20 % 32, Nat.mod_lt _ (by decide)⟩
  else if 0x8020 ≤ target && target < 0x8040 then
    let k : Fin 8 := ⟨(target - 0x8020) / 4 % 8, Nat.mod_lt _ (by decide)⟩
    let eff := ((s.now + 8) / 491520 + 1) * 491520
    let kept := s.met.gOld[k].filter fun x => decide (s.now ≤ x.1 + 24576000)
    { s with met := { s.met with gOld := s.met.gOld.set k (kept ++ [(eff, regGet (calReset target) old target)]) } }
  else s

/-- A pulse field that changes clears its output at the write's stamp (R348). Answers the carry and the pulses dropped. -/
def State.pulseCal (s : State) (target : Nat) (v : Reg) : Nat × Nat × State :=
  if 0x9100 ≤ target && target < 0x9200 && (target % 0x20 == 0 || target % 0x20 == 4) && s.calv target != v then
    let k : Fin 8 := ⟨(target - 0x9100) / 0x20 % 8, Nat.mod_lt _ (by decide)⟩
    let p := s.nrg.pulses[k]
    (p.carry, p.sched.length, s.setPulse k fun p => { p with carry := 0, sched := [], count := 0 })
  else (0, 0, s)

/-- One accepted calibration entry: generation, effect, journal record and CAL_WRITE entry (R378, R379). -/
def State.calWrite (s : State) (e : Bytes) : State :=
  let t := field e 0 4
  let v := BitVec.ofNat 32 (field e 4 4)
  let old := s.calv t
  let (carry, dropped, s) := s.pulseCal t v
  let s := s.keepOldCal t
  let gen := (s.book.calGen + 1) % 2 ^ 32
  let s := s.setBook fun b => { b with cal := regPut (calReset t) b.cal t v, calGen := gen }
  let s := { s with nv := { s.nv with calJournal := s.nv.calJournal ++ [(⟨t, v, gen, s.now⟩ : CalJournal)] } }
  let s := s.setImg fun i => { i with calWrites := (i.calWrites + 1) % 65536 }
  s.legal 0x11 (leBytes 4 t ++ leBytes 4 old.toNat ++ leBytes 4 v.toNat ++ leBytes 4 gen ++ leBytes 5 carry ++ leBytes 4 dropped)

/-- Write a fresh calibration copy over the older one (R379). -/
def State.calCopy (s : State) : State :=
  let c : CalCopy := ⟨s.book.calGen, s.book.cal⟩
  let toB := match s.nv.calA, s.nv.calB with
    | some a, some b => decide (b.gen < a.gen)
    | some _, none => true
    | none, _ => false
  { s with nv := { s.nv with calA := if toB then s.nv.calA else some c, calB := if toB then some c else s.nv.calB, calJournal := [] } }

/-- Load calibration at step 10 (R379): the newest copy, then journal records of higher generation. A part that was
never calibrated has neither copy and keeps the Reset values. -/
def State.calLoad (s : State) : State :=
  let newest := match s.nv.calA, s.nv.calB with
    | some a, some b => some (if a.gen < b.gen then b else a)
    | some a, none => some a
    | none, b => b
  match newest with
  | some c =>
    let js := s.nv.calJournal.filter fun j => c.gen < j.gen
    let m := js.foldl (fun m j => regPut (calReset j.target) m j.target j.value) c.regs
    s.setBook fun b => { b with cal := m, calGen := js.foldl (fun g j => max g j.gen) c.gen, calOk := true }
  | none =>
    let hi := s.nv.calJournal.foldl (fun g j => max g j.gen) 0
    ((s.setBook fun b => { b with cal := [], calGen := hi, calOk := false }).legal 0x12 (leBytes 4 hi)).setErr .book 0

/-! ## Role authentication (R357, R358) -/

/-- The role key's identifier (Table 15-4). -/
def roleKey (role : Nat) : Nat := 4 + role

/-- Whether a role has the right to a command: clock set, tariff load, billing close, calibration write. UTILITY
holds every right of OPERATOR. -/
def roleRight (role opcode : Nat) : Bool :=
  match opcode with
  | 0x91 => role == 1 || role == 2
  | 0x93 => role == 3
  | _ => role == 2

/-- Check an authentication block (R358). Answers whether the command may go on; the role counter takes the command's
counter whenever the MAC is right and the counter greater. -/
def State.authRole (s : State) (opcode : Nat) (d : Desc) : Bool × State :=
  let p := d.payload
  let role := field p 0 1
  let ctr := field p 8 8
  let msg := leBytes 8 s.fuses.dieIdD.toNat ++ [BitVec.ofNat 8 opcode] ++ leBytes 2 d.unit.toNat ++ leBytes 4 d.param0.toNat ++
    leBytes 8 d.param1.toNat ++ p.take 1 ++ (p.drop 8).take 8 ++ p.drop 32
  let macOk := match s.keyVal (roleKey role) with | some k => cmac8 k msg == field p 16 8 | none => false
  if h : 1 ≤ role ∧ role ≤ 3 then
    let fresh := decide (ctr > s.book.img.roleCtr[role])
    let shape := field p 1 7 == 0 && field p 24 8 == 0
    if macOk && fresh then
      (roleRight role opcode && shape, s.setImg fun i => { i with roleCtr := i.roleCtr.set role ctr })
    else (false, s)
  else (false, s)

end Sys2Proof.Machine
end

