-- ==== Sys2Proof/Machine/Lane.lean ====
section
/-!
DEFINITION. The outlet lanes (R128 to R155): conditions, pilot form, the transitions of Table 5-6, sessions, holds and
setpoints.
-/
namespace Sys2Proof.Machine

open Sys2Proof

/-- The code of a lane state (Table 5-5) and of a pilot state. -/
def LaneSt.code : LaneSt → Nat
  | .disabled => 0 | .idle => 1 | .connected => 2 | .authorised => 3 | .closing => 4 | .energised => 5 | .paused => 6
  | .stopping => 7 | .opening => 8 | .ended => 9 | .unavailable => 10 | .fault => 11

def Pilot.code : Pilot → Nat
  | .a => 0 | .b => 1 | .c => 2 | .d => 3 | .e => 4 | .f => 5 | .x => 6 | .unqualified => 7

/-! ## Conditions of a lane -/

/-- Whether the proximity rating is valid (R137, R140). -/
def State.ratingValid (s : State) (n : Fin 32) : Bool :=
  let r := s.lanes[n].rating
  if s.lanePf n 0 6 1 == 1 then true
  else if s.isDc n && s.lanePf n 0 7 1 == 1 then true
  else r != 0 && r != 5

/-- LANE_PP.RATING: 6 with a fixed cable, 7 where proximity is not evaluated (R137); 6 where both hold (DESIGN CHOICE, log 89). -/
def State.ratingShown (s : State) (n : Fin 32) : Nat :=
  if s.lanePf n 0 6 1 == 1 then 6 else if s.isDc n && s.lanePf n 0 7 1 == 1 then 7 else s.lanes[n].rating

/-- Pilot valid (R140). -/
def State.pilotValid (s : State) (n : Fin 32) : Bool :=
  (s.lanes[n].pilot == .c || (s.lanes[n].pilot == .d && s.lanePf n 0 5 1 == 1)) && s.ratingValid n

/-- LANE_GATE.REQ (R141). STOPPING is entered only from CLOSING and ENERGISED. -/
def State.laneReq (s : State) (n : Fin 32) : Bool :=
  s.lanes[n].st == .closing || s.lanes[n].st == .energised || s.lanes[n].st == .stopping

/-- What the polarity bits make of the two inputs (R144). -/
def State.fbaClosed (s : State) (n : Fin 32) : Bool := s.lanes[n].fbaHigh == (s.lanePf n 0 8 1 == 1)
def State.fbbClosed (s : State) (n : Fin 32) : Bool := s.lanes[n].fbbHigh == (s.lanePf n 0 9 1 == 1)

/-- The feedback reads closed, or open; neither while the inputs disagree (R144). -/
def State.fbClosed (s : State) (n : Fin 32) : Bool :=
  !s.selectorOff && s.fbaClosed n && (s.lanePf n 0 10 1 == 0 || s.fbbClosed n)
def State.fbOpen (s : State) (n : Fin 32) : Bool :=
  s.selectorOff || (!s.fbaClosed n && (s.lanePf n 0 10 1 == 0 || !s.fbbClosed n))

/-- The latches of Table 9-2 that withdraw the HSS permit (all but SC) and the safety core's (all but TEST and HOST). -/
abbrev hssLatches : BitVec 9 := 0b111011111
abbrev coreLatches : BitVec 9 := 0b011101111

/-- SAF_LCFG fields of a lane. -/
def State.safLcfg (s : State) (n : Fin 32) (lo w : Nat) : Nat := s.pf (0x6400 + 0x20 * n.val) lo w

/-- HSS_PERMIT of a lane (R250), withdrawn by hold-up and by loss of CK_MET (R249). -/
def State.hssPermit (s : State) (n : Fin 32) : Bool :=
  s.saf.armed && s.saf.lanes[n].latch &&& hssLatches == 0 &&
    (s.isDc n || s.safLcfg n 2 1 == 0 || s.saf.lanes[n].tested) && s.interlock &&
    !s.power.holdupNow && s.clocks.ok.getLsbD 1

/-- SC_PERMIT of a lane: 0 while disarmed (R258). -/
def State.scPermit (s : State) (n : Fin 32) : Bool := s.saf.armed && s.saf.lanes[n].scPermit

/-- Coil permit line n: stages 1 and 2 of Table 9-1. -/
def State.permitLine (s : State) (n : Fin 32) : Bool :=
  s.laneReq n && s.pilotValid n && s.lanes[n].grant && s.scPermit n

/-- The stage-4 coil enable (R247, R277), and LANE_GATE.COIL: the enable once it has risen as an event. -/
def State.coilEnable (s : State) (n : Fin 32) : Bool := s.permitLine n && s.hssPermit n && s.lsw.hb
def State.coilOn (s : State) (n : Fin 32) : Bool := s.lanes[n].coil && s.coilEnable n

/-- LANE_GATE.MOD_OFF (R142). -/
def State.modOff (s : State) (n : Fin 32) : Bool := s.lanes[n].dc.modOff

/-- LANE_GATE (Table 5-21). -/
def State.laneGate (s : State) (n : Fin 32) : Nat :=
  bit (s.hssPermit n) + 2 * bit (s.scPermit n) + 4 * bit (s.pilotValid n) + 8 * bit s.lanes[n].grant +
    16 * bit (s.laneReq n) + 32 * bit (s.coilOn n) + 64 * bit (s.fbaClosed n) + 128 * bit (s.fbbClosed n) +
    256 * bit (s.modOff n)

/-- LANE_STATE.HELD: the lane's own hold, or a hold over the hub (R461, R504, R547). A hold over the hub that begins on an unheld lane in
CONNECTED makes it held, and quiet, at once (DESIGN CHOICE, log 85: R461's words, where Tables 16-8 and 18-5 can be read otherwise). -/
def State.heldNow (s : State) (n : Fin 32) : Bool := s.lanes[n].held || s.hubHold

/-- Quiet (R139), and the quiescent point. -/
def State.quiet (s : State) (n : Fin 32) : Bool :=
  match s.lanes[n].st with
  | .disabled | .idle | .ended | .unavailable | .fault => true
  | .connected => s.heldNow n
  | _ => false

def State.quiescent (s : State) : Bool := allLanes.all s.quiet

/-! ## Offer and pilot form -/

/-- The current of Table 5-4 for a rating, in 0.1 A. -/
def ratingAmps (r cable : Nat) : Nat :=
  match r with
  | 1 => 130 | 2 => 200 | 3 => 320 | 4 => 630 | 6 => cable | _ => 60

/-- The offer i (R132). -/
def State.offer (s : State) (n : Fin 32) : Nat :=
  min (min (s.lanePf n 4 0 10) (ratingAmps (s.ratingShown n) (s.lanePf n 4 10 10))) s.lanes[n].limit

/-- The duty of IEC 61851-1 (R132), and the high time of a period (R131). -/
def dutyOf (i : Nat) : Nat := if i ≤ 510 then 10 * i / 6 else 2 * i / 5 + 640
def highTicks (d : Nat) : Nat := d * 24576 / 1000

/-- DIGITAL_ON: 5 % in force (Table 5-2, R133). -/
def State.digitalOn (s : State) (n : Fin 32) : Bool :=
  s.digital n && (match s.lanes[n].st with
    | .connected => !s.heldNow n
    | .authorised | .closing | .energised | .paused => true
    | _ => false)

/-- The form of Table 5-2 for a state. -/
def State.formOf (s : State) (n : Fin 32) (st : LaneSt) : PilotForm :=
  match st with
  | .disabled | .unavailable | .fault => .minus12
  | .idle | .ended | .stopping | .opening => .plus12
  | .connected => if s.heldNow n then .plus12 else if s.digital n then .pwm 50 else .plus12
  | .authorised | .closing | .energised | .paused => if s.digital n then .pwm 50 else .pwm (dutyOf (s.offer n))

/-- The form a lane should show; OPENING keeps the form of the state before it, but for the rows of Table 5-6 that drive
−12 V at the stamp: pilot E, pilot X and a lane switched off. -/
def State.formWanted (s : State) (n : Fin 32) : PilotForm :=
  let l := s.lanes[n]
  if l.st == .opening then
    (if l.target == .disabled || l.endCause == 10 || l.endCause == 11 then .minus12 else s.formOf n l.before)
  else s.formOf n l.st

/-- DUTY as shown (Table 5-19). -/
def PilotForm.duty (f : PilotForm) : Nat := match f with | .pwm d => d | _ => 0
def PilotForm.isPwm (f : PilotForm) : Bool := match f with | .pwm _ => true | _ => false

/-- Whether a new duty waits on a lane that shows PWM: its LANE_LIMIT is not done (R153). -/
def State.limitWaits (s : State) (u : Nat) : Bool := if h : u < 32 then s.lanes[u].form.isPwm && s.lanes[u].next.isSome else false

/-- The form asked of the generator last: the one that waits for its period start, else the last steady form on its way. -/
def Lane.asked (l : Lane) : PilotForm :=
  match l.next with
  | some f => f
  | none => match l.drives.getLast? with | some d => d.2 | none => l.form

/-- A form comes into force (R130). Driving state F reads F; leaving it begins a fresh qualification (R135). -/
def Lane.takeForm (l : Lane) (f : PilotForm) (t : Nat) : Lane :=
  if l.form == f then l
  else if f == .minus12 then { l with formWas := l.form, form := f, formFrom := t, pilot := .f, runCount := 0 }
  else if l.form == .minus12 then { l with formWas := l.form, form := f, formFrom := t, pilot := .unqualified, runCount := 0 }
  else { l with formWas := l.form, form := f, formFrom := t }

/-- Whether a lane's state, or the target it opens toward, is FAULT. -/
def Lane.faults (l : Lane) : Bool := l.st == .fault || (l.st == .opening && l.target == .fault)

/-- Ask for the wanted form (R130): PWM and a new duty from the first period start greater than the stamp, a steady level from 8 ticks after the
stamp. A lane that leaves state F before it was driven begins its qualification anew all the same. A LANE_LIMIT is done when no PWM is shown. -/
def State.drivePilot (s : State) (n : Fin 32) : State :=
  let w := s.formWanted n
  let l := s.lanes[n]
  match w with
  | .pwm _ =>
    if l.form == w && l.drives.isEmpty then s.setLane n fun l => { l with next := none }
    else if l.next == some w then s
    else s.setLane n fun l => { l with next := some w, nextFrom := s.now }
  | _ =>
    let s := if l.asked == w then s
      else s.setLane n fun l =>
        { l with next := none, drives := l.drives ++ [(s.now + 8, w)],
                 pilot := if l.asked == .minus12 && l.form != .minus12 then .unqualified else l.pilot,
                 runCount := if l.asked == .minus12 then 0 else l.runCount }
    if l.faults then s else s.memberDone 0x11 n.val

/-- The steady levels that are due are driven (R130). -/
def Lane.driveDue (now : Nat) (l : Lane) : Lane :=
  { (l.drives.filter fun d => decide (d.1 ≤ now)).foldl (fun l d => l.takeForm d.2 d.1) l with drives := l.drives.filter fun d => decide (now < d.1) }

/-- The same on every lane that has one waiting. -/
def State.drivesDue (s : State) : State :=
  if s.lanes.toList.all (·.drives.isEmpty) then s else s.forLanes fun s n => s.setLane n (Lane.driveDue s.now)

/-! ## Errors and results of a lane -/

/-- A lane result (Table 5-12). -/
def State.laneResult (s : State) (n : Fin 32) (opcode detail inline : Nat) : State :=
  s.emit (laneRing n) opcode n.val detail inline

/-- Set a bit of LANE_ERR: an ERR result when it rises, a fault cause on the way to FAULT (R143), a weld report for the
two feedback bits (R147, R267). -/
def State.laneErr (s : State) (n : Fin 32) (b : Nat) : State :=
  let rises := !(s.err (.lane n)).getLsbD b
  let l := s.lanes[n]
  let s := if l.faults then s.setLane n fun l => { l with causes := setBitR l.causes b } else s
  let s := s.setErr (.lane n) b
  let s := if rises then s.laneResult n 0x05 b 0 else s
  if (b == 4 || b == 5) && !s.saf.judges.contains ⟨s.now + 1, n.val, 0⟩ then
    { s with saf := { s.saf with judges := s.saf.judges ++ [⟨s.now + 1, n.val, 0⟩] } }
  else s

/-! ## Sessions -/

/-- Whether a state belongs to a session (R146). -/
def LaneSt.inSession : LaneSt → Bool
  | .connected | .authorised | .closing | .energised | .paused | .stopping | .opening => true
  | _ => false

/-- The session of a lane ends (R146): SESSION_END, the grant and billing, the vehicle link. -/
def State.sessionEnd (s : State) (n : Fin 32) (cause : Nat) : State :=
  let l := s.lanes[n]
  let s := s.laneResult n 0x07 cause (l.sess.toNat + 2 ^ 32 * bit l.forced)
  let s := s.closeSession n cause
  let s := s.setLane n fun l => { l with grant := false, assocFailed := false }
  let s := s.assocOff n
  { s with tok := { s.tok with starter := s.tok.starter.set n none } }

/-! ## The safety island at lane transitions -/

/-- An island lane replaced. -/
def State.setSaf (s : State) (n : Fin 32) (f : SafLane → SafLane) : State :=
  { s with saf := { s.saf with lanes := s.saf.lanes.set n (f s.saf.lanes[n]) } }

/-- Start a residual self-test (R264): TSW is driven from now, the evaluation is held and its timers are cancelled. -/
def State.testStart (s : State) (n : Fin 32) : State :=
  s.setSaf n fun l => { l with testFrom := some s.now, testHalf := false, testOk := false, testMean := 0, pointFrom := s.now }

/-- A self-test under way is abandoned: TSW is off, a SAF_RES_TEST completes with ABORTED (R264); a lane that leaves its AC mode has none (R56). -/
def State.testEnd (s : State) (n : Fin 32) : State :=
  let s := match s.flightOf 0x61 n.val with
    | some f => s.settleFlight f stAborted 0 0
    | none => s
  s.setSaf n fun l => { l with testFrom := none, testHalf := false }

/-- The time for which TSW is driven, and the tail (R264). -/
abbrev testTicks : Nat := 983040

/-- The level of Lnn_TSW: the test winding of an AC lane under test, the bridge switch of a DC lane (R56, R264, R265). -/
def State.tswLevel (s : State) (n : Fin 32) : Bool :=
  if s.isDc n then s.saf.lanes[n].isoClosed else s.saf.lanes[n].testFrom.any fun f => decide (s.now < f + testTicks)

/-- What the island does when a lane enters CONNECTED (R250, R264): a test under way is abandoned, a new one starts. -/
def State.safConnected (s : State) (n : Fin 32) : State :=
  let s := (s.testEnd n).setSaf n fun l => { l with tested := false }
  if !s.isDc n && s.safLcfg n 2 1 == 1 then s.testStart n else s

/-- Whether a DC lane measures insulation (R265). -/
def State.isoOn (s : State) (n : Fin 32) : Bool := s.isDc n && s.safLcfg n 3 1 == 1

/-- Whether V1 of a lane is at least VMIN, as its last cycle has measured it (R265). -/
def State.v1Enough (s : State) (n : Fin 32) : Bool := decide ((s.pf 0x6020 24 8 * 10000 : Int) ≤ s.nrg.lanes[n].scaled.getD 9 0)

/-- An insulation cycle begins (R265). -/
def State.isoBegin (s : State) (n : Fin 32) : State :=
  s.setSaf n fun l => { l with isoFrom := some s.now, isoCycle := s.now, isoClosed := false, isoReady := false, isoBad := false }

/-- The insulation cycles of a lane end (R265); a pending SAF_ISO_MEASURE finds its cycle discarded. -/
def State.isoEnd (s : State) (n : Fin 32) : State :=
  (s.setSaf n fun l => { l with isoFrom := none, isoClosed := false, isoReady := false }).settleAll 0x62 n.val 0x22 0

/-- R265: the island measures while the lane is ENERGISED and V1 ≥ VMIN: cycles begin once both hold, and the one under way is discarded when V1 falls
below VMIN. -/
def State.isoWatch (s : State) (n : Fin 32) : State :=
  if !s.isoOn n || s.lanes[n].st != .energised then s
  else if s.v1Enough n then (if s.saf.lanes[n].isoFrom.isNone then s.isoBegin n else s)
  else if s.saf.lanes[n].isoFrom.isSome then s.isoEnd n else s

/-- The insulation cycles begin when a lane enters ENERGISED with V1 at VMIN or above, and end when it leaves (R265). -/
def State.safEnergised (s : State) (n : Fin 32) (on : Bool) : State :=
  if on then (if s.isoOn n && s.v1Enough n then s.isoBegin n else s) else s.isoEnd n

/-! ## Transitions -/

/-- Enter a state: timers of the old state stop, those of the new one start, STATE is issued, and what the entry
brings with it happens (R139, R146, R148, R547). target is that of OPENING. OPENING belongs to a session only when it was entered from one (R146;
DESIGN CHOICE, log 86): a lane that opens from IDLE, ENDED, FAULT or UNAVAILABLE issues no SESSION_END. -/
def State.enterPlain (s : State) (n : Fin 32) (st : LaneSt) (cause : Nat) (target : LaneSt := .disabled) : State :=
  let old := s.lanes[n].st
  let s := match old with
    | .closing => (s.cancel .tClose n.val).cancel .tFb n.val
    | .opening => s.cancel .tFb n.val
    | .stopping => s.cancel .tStop n.val
    | .fault => s.cancel .tFaultHold n.val
    | .energised => s.safEnergised n false
    | _ => s
  let ends := !st.inSession && (if old == .opening then s.lanes[n].before.inSession else old.inSession)
  let s := s.setLane n fun l =>
    { l with st := st, target := target, before := old, endCause := cause, held := st == .connected && l.admitHold,
             sess := if old == .idle && st == .connected then l.sess + 1 else l.sess }
  let s := s.laneResult n 0x03 st.code (old.code + 256 * cause + 65536 * s.lanes[n].sess.toNat)
  let s := if ends then s.sessionEnd n cause else s
  let s := if old == .idle && st == .connected then (s.openSession n).safConnected n else s
  let s := s.drivePilot n
  let s := if st == .connected && s.digitalOn n then s.assocStart n else s
  let s := match st with
    | .closing => s.arm .tClose n.val (s.lanePf n 8 0 16 * ticksPerMs)
    | .stopping => s.arm .tStop n.val (s.lanePf n 8 16 16 * ticksPerMs)
    | .fault => s.arm .tFaultHold n.val (s.lanePf n 0xC 10 16 * ticksPerMs)
    | .energised => s.safEnergised n true
    | _ => s
  let stopDone := st == .ended || st == .idle || st == .fault || st == .disabled
  let s := if stopDone then s.memberDone 0x12 n.val else s
  if st == .fault then (s.memberFail 0x11 n.val stAborted).memberDone 0x11 n.val else s

/-- Go through OPENING to a target (R143): REQ falls; with the feedback already open the target is entered at once. -/
def State.opening (s : State) (n : Fin 32) (target : LaneSt) (cause : Nat) (forced : Bool := false) : State :=
  let s := s.enterPlain n .opening cause target
  let s := s.setLane n fun l => { l with forced := forced, causes := if target == .fault then 0 else l.causes }
  if s.fbOpen n then s.enterPlain n target cause else s.arm .tFb n.val (s.lanePf n 0xC 0 10 * ticksPerMs)

/-- Enter FAULT at once. The causes of the fault are counted from here. -/
def State.faultNow (s : State) (n : Fin 32) (cause : Nat) : State :=
  let s := s.enterPlain n .fault cause
  s.setLane n fun l => { l with causes := 0 }

/-- Go to FAULT through OPENING, or, where the row of Table 5-6 says so, directly if the feedback is open. -/
def State.toFault (s : State) (n : Fin 32) (cause : Nat) (direct : Bool) : State :=
  if direct && s.fbOpen n then s.faultNow n cause else s.opening n .fault cause

/-- The conditions that act when a lane enters a state while they already hold (R143, R144), once. A module fault or loss counts as the
arrival of its frame, its expiry or its bus-off, not as a condition (R152; DESIGN CHOICE, log 87). -/
def State.onEntry (s : State) (n : Fin 32) : State :=
  let l := s.lanes[n]
  let uncmd := !s.laneReq n && s.fbClosed n
  match l.st with
  | .disabled => if uncmd then s.laneErr n 5 else s
  | .opening => s
  | .fault => if uncmd && !(s.lanes[n].causes).getLsbD 5 then s.laneErr n 5 else s
  | st =>
    if uncmd then (s.faultNow n 13).laneErr n 5
    else
      match st with
      | .idle => if l.pilot == .b || l.pilot == .c || l.pilot == .d then s.enterPlain n .connected 0 else s
      | .connected => if l.pilot == .a then s.enterPlain n .idle 1 else if l.pilot == .e then (s.toFault n 10 true).laneErr n 0
          else if l.pilot == .x then (s.toFault n 11 true).laneErr n 1 else s
      | .authorised | .paused =>
        if l.pilot == .a then s.enterPlain n .idle 1
        else if l.pilot == .e then (s.toFault n 10 true).laneErr n 0
        else if l.pilot == .x then (s.toFault n 11 true).laneErr n 1
        else if s.pilotValid n && (!s.isDc n || s.modOff n) then s.enterPlain n .closing 0
        else s
      | .closing => if s.fbClosed n then s.enterPlain n .energised 0 else s
      | .stopping => if l.pilot == .b then s.opening n .ended l.endCause else if l.pilot == .a then s.opening n .idle 1 else s
      | .ended => if l.pilot == .a then s.enterPlain n .idle 1 else s
      | _ => s

/-- Apply the entry conditions until the lane rests. A lane passes through at most a few states on one stamp. -/
def State.rest : Nat → State → Fin 32 → State
  | 0, s, _ => s
  | fuel + 1, s, n =>
    let s1 := s.onEntry n
    if s1.lanes[n].st == s.lanes[n].st then s1 else State.rest fuel s1 n

/-- Enter a state and let its conditions act. -/
def State.enter (s : State) (n : Fin 32) (st : LaneSt) (cause : Nat) : State := State.rest 8 (s.enterPlain n st cause) n

/-- Go through OPENING and let the conditions of the target act. -/
def State.openTo (s : State) (n : Fin 32) (target : LaneSt) (cause : Nat) (forced : Bool := false) : State :=
  State.rest 8 (s.opening n target cause forced) n

/-- Fault with a LANE_ERR bit. -/
def State.faultWith (s : State) (n : Fin 32) (cause b : Nat) (direct : Bool := false) : State :=
  State.rest 8 ((s.toFault n cause direct).laneErr n b) n

/-- The target of an OPENING lane whose target was PAUSED becomes ENDED (Table 5-6); the grant is released. -/
def State.retargetEnded (s : State) (n : Fin 32) (cause : Nat) : State :=
  s.setLane n fun l => { l with target := .ended, grant := false, endCause := cause }

/-- A qualified pilot state reaches the lane (Table 5-6). -/
def State.pilotEvent (s : State) (n : Fin 32) (p : Pilot) : State :=
  let l := s.lanes[n]
  let valid := s.pilotValid n && (!s.isDc n || s.modOff n)
  match p with
  | .a => match l.st with
    | .connected | .authorised | .paused | .ended => s.enter n .idle 1
    | .closing | .energised | .stopping => s.openTo n .idle 1
    | _ => s
  | .e | .x =>
    let cause := if p == .e then 10 else 11
    match l.st with
    | .connected | .authorised | .closing | .energised | .paused | .stopping => s.faultWith n cause (if p == .e then 0 else 1) true
    | _ => s
  | .b => match l.st with
    | .idle => s.enter n .connected 0
    | .closing | .energised => s.openTo n .paused 2
    | .stopping => s.openTo n .ended l.endCause
    | _ => s
  | .c | .d => match l.st with
    | .idle => s.enter n .connected 0
    | .authorised | .paused => if valid then s.enter n .closing 0 else s
    | _ => s
  | _ => s

/-- A stop request (Table 5-6): cause 3 LANE_STOP, 4 vehicle link, 5 ledger. -/
def State.stopRequest (s : State) (n : Fin 32) (cause : Nat) : State :=
  let l := s.lanes[n]
  match l.st with
  | .closing | .energised => State.rest 8 ((s.setLane n fun l => { l with endCause := cause }).enterPlain n .stopping cause) n
  | .connected | .authorised | .paused => s.enter n .ended cause
  | .opening => if l.target == .paused then s.retargetEnded n cause else s
  | _ => s

/-- The grant of a lane (Table 5-6). -/
def State.grantLane (s : State) (n : Fin 32) : State :=
  if s.lanes[n].st != .connected then s
  else
    let s := (s.setLane n fun l => { l with grant := true }).setSess n fun r => { r with grantHeld := true }
    if s.pilotValid n && (!s.isDc n || s.modOff n) then s.enter n .closing 0 else s.enter n .authorised 0

/-- A revocation reaches a lane (Table 5-6): the grant goes, the coil falls. -/
def State.revokeLane (s : State) (n : Fin 32) : State :=
  let l := s.lanes[n]
  match l.st with
  | .authorised | .paused | .closing | .energised | .stopping =>
    let s := s.setLane n fun l => { l with grant := false }
    if s.fbOpen n then s.enter n .ended 6 else s.openTo n .ended 6
  | .opening => if l.target == .paused then s.retargetEnded n 6 else s
  | _ => s

/-- A permit of the lane is withdrawn (Table 5-6). -/
def State.permitFall (s : State) (n : Fin 32) : State :=
  match s.lanes[n].st with
  | .closing | .energised | .stopping => s.openTo n .fault 9
  | _ => s

/-- The feedback becomes closed, becomes open, or stops reading closed (R144, Table 5-6). A lane in FAULT already sets FB_UNCMD and stays: no
STATE result, no new T_FAULT_HOLD (DESIGN CHOICE, log 88). -/
def State.feedbackClosed (s : State) (n : Fin 32) : State :=
  match s.lanes[n].st with
  | .closing => s.enter n .energised 0
  | .energised | .stopping | .opening => s
  | .disabled => s.laneErr n 5
  | .fault => s.laneErr n 5
  | _ => State.rest 8 ((s.faultNow n 13).laneErr n 5) n

def State.feedbackOpen (s : State) (n : Fin 32) : State :=
  let l := s.lanes[n]
  if l.st == .opening then s.enter n l.target l.endCause else s

def State.feedbackDrop (s : State) (n : Fin 32) : State :=
  match s.lanes[n].st with
  | .energised | .stopping => if s.coilOn n then s.faultWith n 13 6 else s
  | _ => s

/-- Module lost (bit 9) or module fault (bit 10) of a DC lane (R152). -/
def State.moduleBad (s : State) (n : Fin 32) (b : Nat) : State :=
  match s.lanes[n].st with
  | .connected | .authorised | .closing | .energised | .paused | .stopping =>
    if s.isDc n then s.faultWith n 14 b true else s
  | _ => s

/-- MOD_OFF of a DC lane changes (class 4, index 2); its rise may close the lane (R142). -/
def State.modOffChange (s : State) (n : Fin 32) (on : Bool) : State :=
  if s.lanes[n].dc.modOff == on then s
  else
    let s := (s.note 4 n.val 2).setLane n fun l => { l with dc := { l.dc with modOff := on } }
    if on then State.rest 8 s n else s

/-- The enable of a lane changes: by a profile switch or by the pair (Table 5-6, R498). -/
def State.laneEnable (s : State) (n : Fin 32) (on : Bool) : State :=
  if on then (if s.lanes[n].st == .disabled then s.enter n .idle 16 else s)
  else
    match s.lanes[n].st with
    | .disabled => s
    | .opening => if s.lanes[n].target == .disabled then s
                  else (s.setLane n fun l => { l with target := .disabled, endCause := 16 }).drivePilot n
    | _ => if s.fbOpen n then s.enter n .disabled 16 else s.openTo n .disabled 16

/-- A lane held in CONNECTED becomes unheld once no hold over the hub is in force and LANE_ADMIT no longer holds it (R547): its pilot form
and its association start. A LANE_ADMIT hold that began while the lane was unheld is for the next session. -/
def State.unhold (s : State) (n : Fin 32) : State :=
  let l := s.lanes[n]
  if l.st == .connected && !(l.held && l.admitHold) && !s.hubHold then
    let s := (s.setLane n fun l => { l with held := false }).drivePilot n
    if s.digitalOn n && s.link.lanes[n].assoc == .off then s.assocStart n else s
  else s

/-- A hold over the hub begins (R461, R504): unheld lanes in CONNECTED are held at once and lose their association (log 85). -/
def State.holdBegins (s : State) (n : Fin 32) : State :=
  if s.lanes[n].st == .connected then (s.drivePilot n).assocOff n else s

/-- A hold over the hub ends (R547). -/
def State.holdEnds (s : State) : State := s.forLanes State.unhold

/-! ## Setpoints of DC lanes (R151) -/

/-- The MODE sent to a lane's module. -/
def State.modeOut (s : State) (n : Fin 32) : Nat :=
  match s.lanes[n].st with
  | .energised => s.lanes[n].dc.want.mode
  | .stopping => if s.lanes[n].dc.want.mode == 0 then 0 else 1
  | _ => 0

/-- The bytes of a SETPOINT frame (Table 5-9). -/
def setpointBytes (w : Setpoint) (seq : Byte) : Bytes :=
  [BitVec.ofNat 8 w.mode, seq] ++ leBytes 2 w.vTgt ++ leBytes 2 w.iLim ++ leBytes 2 w.iRev ++ leBytes 2 w.pLim ++ zeros 6

/-- Send a SETPOINT frame: clamp and count (R151). A paired part that does not hold sends none (R498); neither does a
disabled controller or one that is bus-off. P_LIM is held to the 16 bits of its field. -/
def State.sendSetpoint (s : State) (n : Fin 32) : State :=
  let k : Fin 4 := ⟨n.val / 8, by omega⟩
  if !s.isDc n || !s.laneEn n || s.pf (0x2060 + 0x400 * k.val) 0 1 == 0 || s.pmcan[k].estate == 2 then s
  else
    let w := s.lanes[n].dc.want
    let vMax := s.lanePf n 0x10 8 12 * 10
    let iMax := s.lanePf n 0x10 20 12 * 10
    let out : Setpoint := { mode := s.modeOut n, vTgt := min w.vTgt vMax, iLim := min w.iLim iMax, iRev := min w.iRev iMax, pLim := min w.pLim 65535 }
    let clamped := w.vTgt > vMax || w.iLim > iMax || w.iRev > iMax
    let s := s.setLane n fun l => { l with dc := { l.dc with sent := some ⟨0x200 + s.lanePf n 0x10 0 6, setpointBytes out l.dc.seqTx⟩, seqTx := l.dc.seqTx + 1 } }
    if clamped then s.laneErr n 11 else s

/-- What the lane makes of its feedback when it stops reading closed, begins to, or reads open, by a ball, a polarity or the selector (R144). -/
def State.watchFeedback (s0 s : State) (n : Fin 32) : State :=
  let s1 := if s0.fbClosed n && !s.fbClosed n then s.feedbackDrop n else s
  let s2 := if !s0.fbClosed n && s.fbClosed n then s1.feedbackClosed n else s1
  if s2.fbOpen n then s2.feedbackOpen n else s2

/-- What follows from one state to the next on every lane: its feedback and a permit that was withdrawn act by Table 5-6, a commanded
MODE that changed sends its SETPOINT at once, and a changed LANE_GATE is reported (GATE, Table 5-12). -/
def State.watchLane (s0 s : State) (n : Fin 32) : State :=
  let fell := (s0.hssPermit n && !s.hssPermit n) || (s0.scPermit n && !s.scPermit n)
  let s := State.watchFeedback s0 s n
  let s := if fell then s.permitFall n else s
  let s := if s.isDc n && s0.modeOut n != s.modeOut n then s.sendSetpoint n else s
  if s0.laneGate n != s.laneGate n then s.laneResult n 0x04 0 (s.laneGate n) else s

def State.watch (s0 s : State) : State :=
  allLanes.foldl (fun t n => State.watchLane s0 t n) s

end Sys2Proof.Machine
end

