-- ==== Sys2Proof/Machine/LswBase.lean ====
section
/-!
DEFINITION. The load switch channels (R276 to R298): state changes, starts, trips, restarts and the demands on the
shunt and selector channels.
-/
namespace Sys2Proof.Machine

open Sys2Proof

/-- The code of a channel state (Table 10-1). -/
def ChSt.code : ChSt → Nat
  | .off => 0 | .start => 1 | .on => 2 | .retryWait => 3 | .latched => 4 | .thermal => 5 | .supply => 6

/-- A channel replaced; a quad replaced; the load switches replaced. -/
def State.setCh (s : State) (c : Fin 48) (f : Chan → Chan) : State :=
  { s with lsw := { s.lsw with chans := s.lsw.chans.set c (f s.lsw.chans[c]) } }
def State.setQuad (s : State) (q : Fin 12) (f : Quad → Quad) : State :=
  { s with lsw := { s.lsw with quads := s.lsw.quads.set q (f s.lsw.quads[q]) } }
def State.setLsw (s : State) (f : Lsw → Lsw) : State := { s with lsw := f s.lsw }

/-- The lane an event of a channel belongs to, and its ring (R295, R297). -/
def chLane (c : Fin 48) : Nat := if c.val < 32 then c.val else 32
def chRing (c : Fin 48) : Fin 16 := if h : c.val < 32 then laneRing ⟨c.val, h⟩ else 2

/-- A load-switch event's order key (R295). -/
def State.chNote (s : State) (c : Fin 48) : State := s.note 4 (chLane c) (16 + c.val)

/-- Auxiliary channel 32 + m, and coil channel n. -/
def auxCh (m : Fin 16) : Fin 48 := ⟨32 + m.val, by omega⟩
def coilCh (n : Fin 32) : Fin 48 := ⟨n.val, by omega⟩

/-- Configuration fields of an auxiliary channel (Table 10-9) and of a coil channel (Table 10-8). -/
def State.acfg (s : State) (c : Fin 48) (lo w : Nat) : Nat := s.pf (0x7200 + 8 * (c.val - 32)) lo w
def State.acfg2 (s : State) (c : Fin 48) (lo w : Nat) : Nat := s.pf (0x7204 + 8 * (c.val - 32)) lo w
def State.ccfg (s : State) (c : Fin 48) (lo w : Nat) : Nat := s.pf (0x7100 + 4 * c.val) lo w

/-- Change a channel's state and report it (LS_STATE). Leaving ON clears UNDERLOAD (R288). -/
def State.chTo (s : State) (c : Fin 48) (st : ChSt) : State :=
  let ch := s.lsw.chans[c]
  if ch.st == st then s.setCh c fun ch => { ch with since := s.now }
  else
    let wasOn := ch.driving
    let isOn := st == .start || st == .on
    let s := s.setCh c fun ch => { ch with st := st, since := s.now, underload := ch.underload && st == .on,
                                           offAt := if wasOn && !isOn then some s.now else ch.offAt }
    let s := s.emit (chRing c) 0x30 c.val st.code (ch.st.code + 256 * ch.cause + 65536 * s.lsw.chans[c].left)
    let s := if ch.underload && st != .on then s.emit (chRing c) 0x31 c.val 1 0 else s
    if st == .latched then s.setErr .lsw 1 else s

/-- LSW_SET members waiting for ON: the channel enters ON (R296). -/
def State.chOn (s : State) (c : Fin 48) : State := (s.chTo c .on).memberDone 0x70 c.val

/-- A channel trips, or enters THERMAL or SUPPLY: a gang member of LSW_SET fails (R296). -/
def State.chFails (s : State) (c : Fin 48) : State := s.memberFail 0x70 c.val stAborted

/-- Whether a channel is reserved for the shunt or the selector (R294, R497). -/
def State.claimed (s : State) (c : Fin 48) : Bool := s.shuntCh == some c || s.selectorCh == some c

/-- A channel enters LATCHED by a trip (R282, R285, R294, R497). A single LSW_SET that waited for ON ends (log 25). -/
def State.chLatch (s : State) (c : Fin 48) : State :=
  let s := (s.setCh c fun ch => { ch with cmd := false }).chTo c .latched
  let s := if s.shuntCh == some c then s.setErr .lsw 6 else s
  let s := if s.selectorCh == some c then s.setErr .pair 6 else s
  ((s.flightsOf 0x70 c.val).filter (!·.gang)).foldl (fun s f => s.flightFail f c.val stAborted) s

/-- An auxiliary channel trips (R284, R285). -/
def State.auxTrip (s : State) (c : Fin 48) (cause : Nat) : State :=
  let s := (s.chNote c).setCh c fun ch => { ch with cause := cause }
  let s := (s.setErr .lsw 0).chFails c
  if s.lsw.chans[c].left > 0 && !s.claimed c then
    (s.chTo c .retryWait).arm .tRetry c.val (s.acfg2 c 16 8 * 100 * ticksPerMs)
  else s.chLatch c

/-- A supply hold on a channel's quad (R292, R293). -/
def State.supplyHold (s : State) (q : Fin 12) : Bool :=
  !s.lsw.hb || s.lsw.uv || (s.lsw.restart.isSome && !s.lsw.restarted.contains q.val)

/-- The quad of a channel. -/
def chQuad (c : Fin 48) : Fin 12 := ⟨c.val / 4, by omega⟩

/-- Whether a channel may start now. -/
def State.canStart (s : State) (c : Fin 48) : Bool := !s.supplyHold (chQuad c) && !s.lsw.quads[chQuad c].therm

/-- Where a channel goes when a thermal latch or a supply hold ends (R290, R292). -/
def State.chRestart (s : State) (c : Fin 48) : State :=
  let ch := s.lsw.chans[c]
  if ch.st == .latched then s
  else if h : c.val < 32 then
    (if s.coilEnable ⟨c.val, h⟩ && s.lanes[(⟨c.val, h⟩ : Fin 32)].coil && !ch.tripped then s.chTo c .start else s.chTo c .off)
  else if ch.cmd then (if s.armed .tRetry c.val then s.chTo c .retryWait else s.chTo c .start)
  else s.chTo c .off

/-- The four channels of a quad. -/
def quadChans (q : Fin 12) : List (Fin 48) :=
  [⟨4 * q.val, by omega⟩, ⟨4 * q.val + 1, by omega⟩, ⟨4 * q.val + 2, by omega⟩, ⟨4 * q.val + 3, by omega⟩]

/-- A quad leaves a supply hold: into THERMAL while its latch is set, else by R290. -/
def State.quadRestart (s : State) (q : Fin 12) : State :=
  (quadChans q).foldl (fun s c =>
    if s.lsw.chans[c].st == .supply then (if s.lsw.quads[q].therm then (s.chTo c .thermal).chFails c else s.chRestart c) else s) s

/-- Every channel that is not LATCHED enters SUPPLY (R292, R293). -/
def State.allSupply (s : State) : State :=
  (List.finRange 48).foldl (fun s c => if s.lsw.chans[c].st == .latched then s else (s.chTo c .supply).chFails c) s

/-- The commanded state of an auxiliary channel becomes on: it starts unless it is held (R283). -/
def State.auxOn (s : State) (c : Fin 48) : State :=
  let s := s.setCh c fun ch => { ch with cmd := true }
  if s.lsw.chans[c].st == .off then s.chTo c .start else s

/-- The commanded state becomes off (R283). RETRY_LEFT stays (R285): only LSW_SET off loads it. -/
def State.auxOff (s : State) (c : Fin 48) : State :=
  let s := (s.setCh c fun ch => { ch with cmd := false }).cancel .tRetry c.val
  let st := s.lsw.chans[c].st
  if st == .start || st == .on || st == .retryWait then s.chTo c .off else s

/-- An LSW_SET on whose channel has not entered ON is ended early (R296). -/
def State.endSet (s : State) (c : Fin 48) : State :=
  ((s.flightsOf 0x70 c.val).filter fun f => !f.done.contains c.val).foldl (fun s f => s.flightFail f c.val stAborted) s

/-- The inverse of LSW_SET: the previous commanded state (R296). Off is done at once; on is done when the channel is in ON, waits for that while it
starts or is held, and fails on a LATCHED channel (R285; log 90). -/
def State.restoreChannel (s : State) (c : Fin 48) (on : Bool) : Inverse × State :=
  if !on then (.done, s.auxOff c)
  else if s.lsw.chans[c].st == .latched then (.stuck, s)
  else
    let s := s.auxOn c
    (if s.lsw.chans[c].st == .on then .done else .waits, s)

/-- The safety island's demand on the shunt channel (R268, R294): on for 500 ms, not while it is LATCHED. -/
def State.shuntDemand (s : State) : State :=
  match s.shuntCh with
  | none => s
  | some c =>
    if s.lsw.chans[c].st == .latched then s.setErr .lsw 6
    else
      let s := { s with saf := { s.saf with shuntUntil := some (s.now + 12288000) } }
      s.auxOn c

end Sys2Proof.Machine
end

