-- ==== Sys2Proof/Machine/SafBase.lean ====
section
/-!
DEFINITION. The safety island (R247 to R275): latches, safety inputs, residual windows, insulation, judgements, the
safety core cycle and arming.
-/
namespace Sys2Proof.Machine

open Sys2Proof

/-- The island replaced; a safety input replaced; a supply replaced. -/
def State.setIsland (s : State) (f : Saf → Saf) : State := { s with saf := f s.saf }
def State.setSin (s : State) (i : Fin 72) (f : Sin → Sin) : State := s.setIsland fun x => { x with sins := x.sins.set i (f x.sins[i]) }
def State.setTps (s : State) (k : Fin 4) (f : Tps → Tps) : State := s.setIsland fun x => { x with tps := x.tps.set k (f x.tps[k]) }

/-- A lane's latch register as a number, and whether latch k is set. -/
def State.latched (s : State) (n : Fin 32) (k : Nat) : Bool := s.saf.lanes[n].latch.getLsbD k

/-! ## Latches (R251) -/

/-- Set latch k of a lane by the cause of a class 0 index (0xFF for SAF_TRIP). Latches 6 and 7 are written to MRAM. -/
def State.latchSet (s : State) (n : Fin 32) (k idx : Nat) : State :=
  if s.latched n k then s
  else
    let s := s.setSaf n fun l => { l with latch := l.latch ||| BitVec.ofNat 9 (2 ^ k) }
    let m := BitVec.ofNat 32 (2 ^ n.val)
    let s := if k == 6 then { s with nv := { s.nv with links := { s.nv.links with weld := s.nv.links.weld ||| m } } }
      else if k == 7 then { s with nv := { s.nv with links := { s.nv.links with offpath := s.nv.links.offpath ||| m } } } else s
    s.laneResult n 0x20 k (s.saf.lanes[n].latch.toNat + 65536 * idx)

/-- Clear latch k of a lane. -/
def State.latchClear (s : State) (n : Fin 32) (k : Nat) : State :=
  if !s.latched n k then s
  else
    let s := s.setSaf n fun l => { l with latch := l.latch &&& ~~~(BitVec.ofNat 9 (2 ^ k)), sinBy := if k == 0 then [] else l.sinBy }
    let m := ~~~(BitVec.ofNat 32 (2 ^ n.val))
    let s := if k == 6 then { s with nv := { s.nv with links := { s.nv.links with weld := s.nv.links.weld &&& m } } }
      else if k == 7 then { s with nv := { s.nv with links := { s.nv.links with offpath := s.nv.links.offpath &&& m } } } else s
    s.laneResult n 0x21 k s.saf.lanes[n].latch.toNat

/-! ## Safety inputs (R259 to R262) -/

/-- SAF_SINCFGi fields: TYPE, TPS, ACTION, SCOPE, FILT. -/
def State.sinCfg (s : State) (i : Fin 72) (lo w : Nat) : Nat := s.pf (0x6100 + 4 * i.val) lo w
def State.sinType (s : State) (i : Fin 72) : Nat := s.sinCfg i 0 3
def State.sinTps (s : State) (i : Fin 72) : Fin 4 := ⟨s.sinCfg i 3 2 % 4, Nat.mod_lt _ (by decide)⟩
def State.sinAction (s : State) (i : Fin 72) : Nat := s.sinCfg i 5 2

/-- Whether an input is fed by a test-pulsed supply. -/
def State.sinPulsed (s : State) (i : Fin 72) : Bool := s.sinType i == 1 || s.sinType i == 2

/-- Whether an input has a fault. -/
def Sin.faulty (x : Sin) : Bool := x.cross || x.stuck || x.disc

/-- Whether an input reads closed: UNUSED always, another when its filtered state is closed and its supply is on. -/
def State.sinReads (s : State) (i : Fin 72) : Bool :=
  s.sinType i == 0 || (s.saf.sins[i].closed && (!s.sinPulsed i || s.saf.tps[s.sinTps i].on))

/-- Whether an input reads closed and is unfaulted. -/
def State.sinGood (s : State) (i : Fin 72) : Bool := s.sinType i == 0 || (s.sinReads i && !s.saf.sins[i].faulty)

/-- Whether the scope of an input includes a lane. -/
def State.inScope (s : State) (i : Fin 72) (n : Fin 32) : Bool := (s.prof (0x6040 + 4 * s.sinCfg i 8 4)).getLsbD n.val

/-- Whether every input that acts on a lane is good. -/
def State.sinsGood (s : State) (n : Fin 32) : Bool :=
  (List.finRange 72).all fun i => s.sinAction i == 0 || !s.inScope i n || s.sinGood i

/-- The fault code of a SIN result (Table 9-10). -/
def Sin.code (x : Sin) : Nat := if x.cross then 1 else if x.stuck then 2 else if x.disc then 3 else 0

/-- A SIN result with its event, and a fault code. -/
def State.sinSay (s : State) (i : Fin 72) (code : Nat) : State :=
  (s.note 0 32 i.val).emit 2 0x25 0xFFFF i.val (bit (s.sinReads i) + 256 * code)
def State.sinResult (s : State) (i : Fin 72) : State := s.sinSay i s.saf.sins[i].code

/-- An input reads open or is faulted: its ACTION (R260). -/
def State.sinAct (s : State) (i : Fin 72) : State :=
  if s.sinAction i == 0 then s
  else s.forLanes fun s n =>
    if s.inScope i n then
      let s := (s.latchSet n 0 i.val).cancel .tAutorst n.val
      s.setSaf n fun l => { l with sinBy := if l.sinBy.contains i.val then l.sinBy else l.sinBy ++ [i.val] }
    else s

/-- Inputs have become good: T_AUTORST starts on the lanes whose latch 0 only ACTION 2 inputs have set (R260). -/
def State.autoRst (s : State) : State :=
  s.forLanes fun s n =>
    let by_ := s.saf.lanes[n].sinBy
    if s.latched n 0 && by_.all (fun i => if h : i < 72 then s.sinAction ⟨i, h⟩ == 2 else false) && s.sinsGood n && !s.armed .tAutorst n.val then
      s.arm .tAutorst n.val (s.pf 0x6004 16 16 * ticksPerMs)
    else s

/-- The other input of a DUAL pair. -/
def sinPartner (i : Fin 72) : Fin 72 := if i.val % 2 == 0 then ⟨(i.val + 1) % 72, Nat.mod_lt _ (by decide)⟩ else ⟨i.val - 1, by omega⟩

/-- T_DISC of a pair follows whether its inputs disagree (R262); a DISC fault may clear once both have read open. -/
def State.pairCheck (s : State) (i : Fin 72) : State :=
  let p := i.val / 2
  if s.sinType i != 2 then s.cancel .tDisc p
  else
    let j := sinPartner i
    let a := s.sinReads i
    let b := s.sinReads j
    let s := if !a && !b then (s.setSin i fun x => { x with bothOpen := true }).setSin j fun x => { x with bothOpen := true } else s
    if a != b then (if s.armed .tDisc p then s else s.arm .tDisc p (s.pf 0x6004 0 16 * ticksPerMs)) else s.cancel .tDisc p

/-- The ticks since TPSk's last pulse start at an HTC value (R259). -/
def pulsePhaseAt (t k : Nat) : Nat := (t + 491520 - k * 122880) % 491520
def State.pulsePhase (s : State) (k : Nat) : Nat := pulsePhaseAt s.now k

/-- Whether the sample of a pulsed input at an HTC value is blanked (R260). -/
def State.sinBlankedAt (s : State) (t : Nat) (i : Fin 72) : Bool :=
  let p := pulsePhaseAt t (s.sinTps i).val
  s.sinPulsed i && (p == 0 || p == 6144 || p == 12288 || p == 18432)

/-- Consecutive samples an input of its TYPE needs at a new level (R260). -/
def State.sinNeeds (s : State) (i : Fin 72) (level : Bool) : Nat :=
  if s.sinType i == 3 && !level then 7 else s.sinCfg i 12 3

/-- The low time of a test pulse, and the time to its last check (R259). -/
abbrev tpsPulse : Nat := 9831
abbrev tpsCheck : Nat := 24576

/-- The level of TPSk (R259). -/
def State.tpsLevel (s : State) (k : Fin 4) : Bool :=
  s.saf.tps[k].on && (match s.saf.tps[k].last with | some p => decide (p + tpsPulse ≤ s.now) | none => true)

/-- A supply is switched off (R259): its inputs read open, and qualify anew once it drives again. -/
def State.tpsOff (s : State) (k : Fin 4) : State :=
  let fed := (List.finRange 72).filter fun i => s.sinPulsed i && s.sinTps i == k && s.sinReads i
  let s := s.setTps k fun t => { t with on := false, fault := true, first := none, lowSeen := none, highSeen := none }
  let s := fed.foldl (fun s i => s.setSin i fun x => { x with closed := false }) s
  let s := ((s.note 0 32 (72 + k.val)).setErr .saf 3).emit 2 0x25 0xFFFF (72 + k.val) (256 * 4)
  fed.foldl (fun s i => ((s.pairCheck i).sinResult i).sinAct i) s

/-- Typical readback thresholds of a supply in mV (log 27). -/
abbrev tpsLow : Nat := 5000
abbrev tpsHigh : Nat := 18000

/-- The checks of R259 that have come due: at the end of the pulse it must have fallen below the low threshold; 24,576 ticks after the pulse start it
must be above the high one and not have stayed at its current limit. -/
def State.tpsDue (s : State) (k : Fin 4) : State :=
  let t := s.saf.tps[k]
  let low := match t.last, t.lowSeen with | some p, some mv => decide (p + tpsPulse ≤ s.now ∧ tpsLow ≤ mv) | _, _ => false
  let high := match t.last, t.highSeen with | some p, some (mv, l) => decide (p + tpsCheck ≤ s.now ∧ (mv ≤ tpsHigh ∨ tpsCheck ≤ l)) | _, _ => false
  if t.on && (low || high) then s.tpsOff k
  else s.setTps k fun t => { t with lowSeen := if t.last.any (fun p => decide (p + tpsPulse ≤ s.now)) then none else t.lowSeen,
                                    highSeen := if t.last.any (fun p => decide (p + tpsCheck ≤ s.now)) then none else t.highSeen }

/-! ## Residual current (R263) -/

/-- KRES of a lane, and thr(v). -/
def State.kres (s : State) (n : Fin 32) : Nat := s.pf (0x6404 + 0x20 * n.val) 0 16
def State.thr (s : State) (n : Fin 32) (v : Nat) : Nat := v * 2 ^ 23 / s.kres n

/-- The windows w and n. -/
def State.resWindow (s : State) (n : Fin 32) : Nat :=
  if s.isDc n then 480 else (s.met.lanes[n].tracker.period + 65536) / 131072

/-- The newest m samples of a run; missing ones count as zero. -/
def newest (m : Nat) (xs : List Int) : List Int := xs.drop (xs.length - m)

/-- The sums of R263 over the newest samples. -/
def sumSq (xs : List Int) : Nat := xs.foldl (fun a x => a + (x * x).toNat) 0
def sumOf (xs : List Int) : Int := xs.foldl (· + ·) 0

/-- A DC mean in 0.1 mA, with its sign. -/
def State.dcMeanOf (s : State) (n : Fin 32) (xs : List Int) : Int :=
  let m := 2 * s.resWindow n
  Int.tdiv (sumOf (newest m xs) * s.kres n) (m * 2 ^ 23 : Nat)

/-- A signed 16-bit figure, saturating. -/
def sat16 (v : Int) : Int := max (-32768) (min 32767 v)

/-- SAF_LRES and the window sums from a run of samples (R263, Table 9-17). -/
def State.residual (s : State) (n : Fin 32) (xs : List Int) : State :=
  let w := s.resWindow n
  let r := if w == 0 then 0 else isqrt (sumSq (newest w xs) / w)
  let rms := r * s.kres n / 2 ^ 23
  s.setSaf n fun l => { l with acRms := min rms 65535, dcMean := sat16 (s.dcMeanOf n xs), resSq := sumSq (newest w xs),
                               resSum := sumOf (newest (2 * w) xs), resW := w }

/-- The clearing condition of latches 1 and 2 (Table 9-2) on the present windows and settings: the AC RMS is below AC_THR / 2 and the DC mean is below
half of the current of point 0. -/
def State.resLow (s : State) (n : Fin 32) : Bool :=
  let l := s.saf.lanes[n]
  l.resW == 0 || (decide (4 * l.resSq * s.kres n ^ 2 < l.resW * s.safLcfg n 8 10 ^ 2 * 2 ^ 46) &&
    decide (l.resSum.natAbs * s.kres n < l.resW * s.pf 0x6010 0 13 * 2 ^ 23))

/-- Whether the residual evaluation of a lane runs: chain running, no test and no tail (R264). -/
def State.resRuns (s : State) (n : Fin 32) : Bool := s.met.lanes[n].run && s.saf.lanes[n].testFrom.isNone

/-! ## Insulation (R265, R266) -/

/-- A resistance as a fraction of Ω, none when unbounded. -/
def resistance (num : Int) (den : Int) : Option (Nat × Nat) :=
  if (0 < num && 0 < den) || (num < 0 && den < 0) then some (num.natAbs, den.natAbs) else none

/-- rp and rn of R266, in Ω, from the four averages; rb and rs in Ω. -/
def insulation (vp vn vp2 vn2 : Int) (rb rs : Nat) : Option (Nat × Nat) × Option (Nat × Nat) :=
  let d := vn2 * vp - vp2 * vn
  let rn := resistance (rs * d * rb) (-(vp2 * vp * rb) - rs * d)
  let rp := resistance (rs * d * rb) (vn * vp2 * rb - rs * d)
  (rp, rn)

/-- Whether a resistance is at least a value; an unbounded one is. -/
def atLeast (r : Option (Nat × Nat)) (v : Nat) : Bool :=
  match r with
  | some (a, b) => decide (v * b ≤ a)
  | none => true

/-- A resistance in kΩ, saturating at 65,535. -/
def kOhm (r : Option (Nat × Nat)) : Nat :=
  match r with
  | some (a, b) => min (a / (b * 1000)) 65535
  | none => 65535

/-- The class of R266: 1 PASS, 2 WARN, 3 FAIL. -/
def isoClass (rp rn : Option (Nat × Nat)) (warn fault vMax : Nat) : Nat :=
  if atLeast rp (warn * vMax) && atLeast rn (warn * vMax) then 1
  else if atLeast rp (fault * vMax) && atLeast rn (fault * vMax) then 2 else 3

/-! ## Judgements (R267 to R269) -/

/-- A weld is judged on a lane. -/
def State.weldJudged (s : State) (n : Fin 32) (kind : Nat) : State :=
  let s := ((s.note 0 n.val 88).latchSet n 6 88).setErr .saf 12
  (s.laneResult n 0x24 kind (match s.shuntCh with | some c => c.val | none => 0)).shuntDemand

/-- An off-path failure (R269) at its stamp. -/
def State.offPath (s : State) (n : Fin 32) : State :=
  let s := ((s.note 0 n.val 89).latchSet n 7 89).setErr .saf 13
  (s.laneResult n 0x24 2 (match s.shuntCh with | some c => c.val | none => 0)).shuntDemand

/-- One readback of a coil channel that should be off; the third (second in forerunner mode) consecutive failure is an
off-path failure, judged one tick later (R253). -/
def State.offReadback (s : State) (n : Fin 32) (high : Bool) (limit : Nat) : State :=
  let k := s.saf.lanes[n].offFails + 1
  if !high then s.setSaf n fun l => { l with offFails := 0 }
  else if k ≥ limit then
    (s.setSaf n fun l => { l with offFails := 0 }).setIsland fun x => { x with judges := x.judges ++ [⟨s.now + 1, n.val, 2⟩] }
  else s.setSaf n fun l => { l with offFails := k }

/-- Whether the driver of a coil channel is on: START or ON, outside a forerunner off-pulse (R269). -/
def State.coilDriven (s : State) (n : Fin 32) : Bool :=
  let st := s.lsw.chans[coilCh n].st
  (st == .start || st == .on) && s.saf.lanes[n].offPulse.isNone

/-- A forerunner off-pulse whose end has come: the readback is judged, unless the channel has left ON meanwhile (R269). -/
def State.offPulseDue (s : State) (n : Fin 32) : State :=
  match s.saf.lanes[n].offPulse with
  | some (u, high) =>
    if u ≤ s.now then
      let s := s.setSaf n fun l => { l with offPulse := none }
      if s.lsw.chans[coilCh n].st == .on then s.offReadback n high 2 else s
    else s
  | none => s

/-- What the island does at a stamp by itself: the checks of test pulses, the ends of off-pulses. -/
def State.islandDue (s : State) : State :=
  let s := if (List.finRange 4).any (fun k => s.saf.tps[k].lowSeen.isSome || s.saf.tps[k].highSeen.isSome) then (List.finRange 4).foldl State.tpsDue s else s
  if allLanes.any (fun n => s.saf.lanes[n].offPulse.isSome) then s.forLanes State.offPulseDue else s

/-! ## Arming and the safety core (R254 to R258) -/

/-- The bytes of the SAF profile section over which the CRC of R257 runs: its registers in offset order (log 26). -/
def State.safBytes (s : State) : Bytes :=
  ((profSaf.flatMap fun r => (List.range r.count).map fun i => r.base + r.stride * i)).flatMap fun o => leBytes 4 (s.prof o).toNat

/-- ARMED falls: ISLAND with its cause (an error bit, or 0xFF for a profile switch). -/
def State.disarm (s : State) (cause : Nat) : State :=
  if !s.saf.armed then s
  else ((s.note 0 32 99).setIsland fun x => { x with armed := false }).emit 2 0x26 0xFFFF 1 cause

/-- R255: every SC_PERMIT falls, the island is disarmed until the next chip reset. -/
def State.coreDown (s : State) (errBit : Nat) : State :=
  let s := (s.note 0 32 (96 + errBit)).disarm errBit
  let s := s.setIsland fun x => { x with dead := true, scNext := 0, scRun := false, lanes := x.lanes.map fun l => { l with scPermit := false } }
  s.setErr .saf errBit

/-- Whether every condition of R258 but the CRC holds. -/
def State.mayArm (s : State) : Bool :=
  s.glb.profActiveValid && s.boot.phase == 7 && !s.saf.dead && !s.saf.cfgBad && !s.power.holdupNow && s.clocks.ok.getLsbD 1 &&
    (List.finRange 4).all fun k => s.pf 0x6000 k.val 1 == 0 ||
      (s.saf.tps[k].on && (match s.saf.tps[k].first with | some f => decide (f + 983040 ≤ s.now) | none => false))

/-- The check counters of a lane on a snapshot (Table 9-3). -/
def State.coreChecks (s : State) (n : Fin 32) (coilHigh : Bool) : State :=
  let sc (i : Nat) : Int := s.nrg.lanes[n].scaled.getD i 0
  let cur := s.isDc n && decide (50 * (sc 7 - sc 8).natAbs > max (sc 7).natAbs 50000)
  let vol := s.isDc n && decide (50 * (sc 9 - (sc 10 - sc 11)).natAbs > (sc 9).natAbs + 250000)
  let stk := coilHigh && !s.coilOn n
  s.setSaf n fun l => { l with dcCur := if cur then l.dcCur + 1 else 0, dcVolt := if vol then l.dcVolt + 1 else 0,
                               stuckOn := if stk then l.stuckOn + 1 else 0 }

/-- Whether the core has a cause for latch 5 on a lane now. -/
def State.coreCause (s : State) (n : Fin 32) : Bool :=
  s.saf.lanes[n].dcCur ≥ 100 || s.saf.lanes[n].dcVolt ≥ 100 ||
    (List.finRange 72).any fun i => s.inScope i n && s.saf.diverge[i] ≥ 10

/-- A mask of the lanes that satisfy a condition. -/
def laneMask (f : Fin 32 → Bool) : BitVec 32 := BitVec.ofNat 32 (allLanes.foldl (fun a n => if f n then a + 2 ^ n.val else a) 0)

/-- The outputs of the last cycle take effect (R254, step 3). -/
def State.coreOutputs (s : State) : State :=
  let sc := s.saf.scNext
  let dem := s.saf.demandNext
  let stk := s.saf.stuckNext
  let s := s.setIsland fun x => { x with lanes := .ofFn fun n => { x.lanes[n] with scPermit := sc.getLsbD n.val } }
  let s := if s.saf.divNext then s.setErr .saf 7 else s
  let s := s.forLanes fun s n => if dem.getLsbD n.val && !s.latched n 5 then ((s.note 0 n.val 87).latchSet n 5 87).setErr .saf 14 else s
  s.forLanes fun s n => if stk.getLsbD n.val && !s.latched n 7 then s.offPath n else s

/-- The core's CRC against SAF_CRC (R257), at arming and then every 1,000 cycles. -/
def State.coreCrc (s : State) (crc : BitVec 32) : State :=
  if s.saf.armed && s.saf.crcCount < 999 then s.setIsland fun x => { x with crcCount := x.crcCount + 1 }
  else if crc == s.saf.crc then s.setIsland fun x => { x with crcCount := 0, cfgMatch := true }
  else if s.saf.cfgBad then s
  else
    let s := ((s.note 0 32 98).disarm 2).setIsland fun x => { x with crcCount := 0, cfgMatch := false, cfgBad := true }
    s.setErr .saf 2

/-- One raw sample of an input through the core's own filter, which blanks and counts as R260 does (R254). -/
def State.coreFilter (s : State) (t : Nat) (raw : Bool) (i : Fin 72) (x : Sin) : Sin :=
  if s.sinType i == 0 then { x with core := true, coreRun := 0 }
  else if s.sinBlankedAt t i then x
  else if raw == x.core then { x with coreRun := 0 }
  else if s.sinNeeds i raw ≤ x.coreRun + 1 then { x with core := raw, coreRun := 0 }
  else { x with coreRun := x.coreRun + 1 }

/-- The raw samples up to a cycle start, the newest at that tick, the others 6,144 ticks apart (R254, R260). -/
def State.coreSamples (s : State) (raws : List (BitVec 72)) : State :=
  (raws.zipIdx 1).foldl (fun s p =>
    let t := s.now - 6144 * (raws.length - p.2)
    s.setIsland fun x => { x with sins := .ofFn fun i => s.coreFilter t (p.1.getLsbD i.val) i x.sins[i] }) s

/-- Whether the core reads every input that acts on a lane closed. -/
def State.coreGood (s : State) (n : Fin 32) : Bool :=
  (List.finRange 72).all fun i => s.sinAction i == 0 || !s.inScope i n || s.sinType i == 0 ||
    (s.saf.sins[i].core && (!s.sinPulsed i || s.saf.tps[s.sinTps i].on))

/-- A cycle start of the safety core pair (R254 to R258). -/
def State.coreCycle (s : State) (raws : List (BitVec 72)) (coilHigh crc : BitVec 32) : State :=
  let s := (s.coreOutputs.coreCrc crc).coreSamples raws
  let s := s.forLanes fun s n => s.coreChecks n (coilHigh.getLsbD n.val)
  let s := s.setIsland fun x => { x with diverge := .ofFn fun i =>
    if (s.sinType i != 0 && x.sins[i].core != x.sins[i].closed) then x.diverge[i] + 1 else 0 }
  let div := (List.finRange 72).any fun i => s.saf.diverge[i] == 10
  let dem := laneMask s.coreCause
  let stk := laneMask fun n => s.saf.lanes[n].stuckOn == 3
  let sc := laneMask fun n => s.saf.lanes[n].latch &&& coreLatches == 0 && s.coreGood n && !dem.getLsbD n.val && !stk.getLsbD n.val
  let s := s.setIsland fun x => { x with scRun := true, lastCycle := some s.now, scNext := sc, demandNext := dem, stuckNext := stk,
                                         divNext := div }
  if !s.saf.armed && s.saf.cfgMatch && s.mayArm then
    ((s.note 0 32 99).setIsland fun x => { x with armed := true }).emit 2 0x26 0xFFFF 0 0xFF
  else s

end Sys2Proof.Machine
end

