-- ==== Sys2Proof/Machine/PairBase.lean ====
section
/-!
DEFINITION. The pair interlock and what every command may change of it (R492 to R504): health, release, the rise and fall of HOLD,
pair holds, frames of the pair link.
-/
namespace Sys2Proof.Machine

open Sys2Proof

/-- The pair state replaced. -/
def State.setPair (s : State) (f : Pair → Pair) : State := { s with pair := f s.pair }

/-- MCLK clocks whose group has come to hold an enabled lane, or holds none any more, change at the first even tick after s + 8
(R299); nothing before the first profile switch. -/
def State.mclkPlan (s : State) : State :=
  if !s.met.switched then s
  else (List.finRange 8).foldl (fun s (k : Fin 8) =>
    let want := allLanes.any fun n => n.val / 4 == k.val && s.laneEn n
    let planned := match (s.met.mclkDue.filter fun x => x.2.1 == k.val).getLast? with
      | some x => x.2.2
      | none => s.met.mclk.getLsbD k.val
    if want == planned then s
    else { s with met := { s.met with mclkDue := s.met.mclkDue ++ [((s.now + 8) / 2 * 2 + 2, k.val, want)] } }) s

/-- FEEDS as PAIR_STAT shows them. -/
def State.feeds (s : State) : Nat := bit s.power.feedA.present + 2 * bit s.power.feedB.present

/-- Whether the part is healthy (R502). -/
def State.healthy (s : State) : Bool :=
  s.paired && s.boot.phase == 7 && s.glb.profActiveValid && s.saf.scRun && s.saf.cfgMatch &&
    (s.pf 0x5000 0 1 == 0 || s.abc.ready) && !s.power.holdupNow && s.feeds != 0 &&
    decide (s.mgt.sensors[0] ≤ s.gradeMax) && decide (s.mgt.sensors[1] ≤ s.gradeMax)

/-- PAIR_STAT.TB. -/
def State.pairTb (s : State) : Nat := if s.pair.released then 3 else if s.pairHold then 2 else if s.pair.tbAsked then 1 else 0

/-- PAIR_STAT (Table 18-8). -/
def State.pairStat (s : State) : Nat :=
  let p := s.pair
  bit p.pri + 2 * bit p.pres + 4 * bit p.lineLow + 8 * bit p.drive + 16 * bit p.hold + 32 * bit s.healthy + 64 * bit p.linkUp +
    128 * bit p.sync + 256 * bit p.pHealthy + 512 * bit p.pHold + 1024 * s.pairTb + 4096 * s.feeds + 16384 * p.pFeeds.toNat

/-- A PAIR result (R508). -/
def State.pairResult (s : State) (detail : Nat) : State := s.emit 2 0x80 0xFFFF detail s.pairStat

/-- A frame of the pair link (R499): header, payload and CRC. -/
def pairFrame (ty seq : Nat) (payload : Bytes) : Bytes :=
  let b := [BitVec.ofNat 8 ty, 0] ++ leBytes 2 payload.length ++ leBytes 4 seq ++ zeros 8 ++ payload
  b ++ leBytes 4 (crc32 b).toNat

/-- Send a frame: those of the last stamp at which any was sent are kept. -/
def State.pairSend (s : State) (ty : Nat) (payload : Bytes) : State :=
  let f := pairFrame ty s.pair.txSeq payload
  s.setPair fun p => { p with txSeq := (p.txSeq + 1) % 2 ^ 32, sentAt := s.now, sent := if p.sentAt == s.now then p.sent ++ [f] else [f] }

/-- The pair holds end, and the lanes that only they held go on (R504, R547). -/
def State.dropPairHold (s : State) : State :=
  if s.pairHold then ((s.setPair fun p => { p with byTakeback := false, byHandover := false, byFeeds := false }).cancel .tTbwin 0).holdEnds
  else s

/-- A pair hold begins for one more reason; the first starts T_TBWIN (R504). -/
def State.takePairHold (s : State) (f : Pair → Pair) : State :=
  if s.pairHold then s.setPair f
  else ((s.setPair f).arm .tTbwin 0 (s.pf 0xF004 12 16 * ticksPerS)).forLanes State.holdBegins

/-- HOLD falls (R494, R498): every permit is withdrawn, and the lane enables end as at a profile switch with EN = 0. -/
def State.holdFall (s : State) : State :=
  if !s.pair.hold then s
  else
    let was := s.laneEn
    let s := ((s.note 0 32 101).setPair fun p => { p with hold := false, enabled := false }).cancel .tSwitch 0
    let s := s.forLanes fun s n =>
      if was n then
        let m : MetLane := s.met.lanes[n]
        let m := { m with cutAt := if m.start.isSome then some s.now else none }
        let s := { s with met := { s.met with lanes := s.met.lanes.set n m } }
        s.laneEnable n false
      else s
    s.mclkPlan.pairResult 1

/-- The part stops driving the line (R496): HOLD falls, the selector channel goes off, a PAIR_HANDOVER is done. -/
def State.pairRelease (s : State) (orderly : Bool) : State :=
  if !s.pair.drive then s
  else
    let s := s.setPair fun p => { p with drive := false, probes := 0, contend := 0, releasedAt := if orderly then some s.now else p.releasedAt }
    let s := s.holdFall
    let s := match s.selectorCh with | some c => s.auxOff c | none => s
    let s := if s.power.holdupNow then s
      else (s.flights.filter (·.opcode == 0xD8)).foldl (fun s f => s.settleFlight f stOk 0 0) s
    s.dropPairHold

/-- Whether something makes the holder release the line (Table 18-2). -/
def State.mustRelease (s : State) : Bool :=
  s.power.holdupNow || !s.lsw.hb || s.saf.dead || s.saf.cfgBad || !s.paired ||
    (match s.selectorCh with | some c => s.lsw.chans[c].st == .latched | none => false)

/-- HOLD rises once the line has been driven for 245,760 ticks with ten clean probes (R494): the selector channel goes on and
T_SWITCH starts. -/
def State.holdRise (s : State) : State :=
  if s.pair.drive && !s.pair.hold && s.pair.probes ≥ 10 && s.pair.contend == 0 && s.pair.driveFrom + 245760 ≤ s.now then
    let s := ((s.note 0 32 100).setPair fun p => { p with hold := true, tbAsked := false, released := false }).arm .tSwitch 0
      (s.pf 0xF000 10 10 * ticksPerMs)
    let s := match s.selectorCh with | some c => s.auxOn c | none => s
    s.pairResult 0
  else s

/-- Loss of health cancels T_SETTLE; its return starts it anew (R503). -/
def State.healthWatch (s : State) : State :=
  if s.healthy == s.pair.wasHealthy then s
  else if s.healthy then (s.setPair fun p => { p with wasHealthy := true }).arm .tSettle 0 (s.pf 0xF004 0 12 * ticksPerS)
  else (s.setPair fun p => { p with wasHealthy := false, settled := false }).cancel .tSettle 0

/-- A settled primary that does not hold the outlets asks for them back (R503), and starts T_TBWIN for its request (log 54). -/
def State.askTakeback (s : State) : State :=
  let p := s.pair
  if p.pri && !p.drive && !p.hold && p.settled && p.linkUp && p.sync && p.pHold && !p.mismatch && !p.tbAsked && s.healthy then
    let s := s.setPair fun p => { p with tbAsked := true, tbAt := s.now }
    ((s.pairSend 5 []).arm .tTbwin 0 (s.pf 0xF004 12 16 * ticksPerS)).pairResult 6
  else s

/-- In MODE 3 a holder with fewer feeds than a healthy partner that reports both takes a pair hold (R504). -/
def State.feedWatch (s : State) : State :=
  let low := s.pf 0xF000 0 2 == 3 && s.pair.hold && s.feeds != 3 && s.pair.pHealthy && s.pair.pFeeds == 3
  if low == s.pair.feedsLow then s
  else
    let s := s.setPair fun p => { p with feedsLow := low }
    if low then s.takePairHold fun p => { p with byFeeds := true } else s

/-- The holder sends each journal block as soon as it is complete (R500). -/
def State.sendBlocks (s : State) : State :=
  if !s.pair.hold || !s.pair.linkUp || s.abc.jseq ≤ s.pair.sentSeq then s
  else
    let bs := s.nv.journal.filter fun b => s.pair.sentSeq < b.seq
    let s := bs.foldl (fun s b => s.pairSend 2 b.bytes) s
    s.setPair fun p => { p with sentSeq := s.abc.jseq }

/-- What every command may bring about at the interlock. -/
def State.pairWatch (s : State) : State :=
  let s := if s.pair.drive && s.mustRelease then s.pairRelease false else s
  if !s.paired then s.healthWatch
  else s.holdRise.healthWatch.feedWatch.askTakeback.sendBlocks

end Sys2Proof.Machine
end

