-- ==== Sys2Proof/Machine/Reset.lean ====
section
/-!
DEFINITION. The chip reset (R80, R94) and the loss of the rails (R64): what they leave of the state.
-/
namespace Sys2Proof.Machine

open Sys2Proof

/-- What every reset of the chip leaves: MRAM and NAND, the battery island, the fuses, host memory, the queue of commands, the free
values drawn (log 4). Everything else takes its Reset value. -/
def State.volatile (s : State) : State :=
  { State.reset with nv := s.nv, island := s.island, fuses := s.fuses, hostMem := s.hostMem, pending := s.pending, freeCtr := s.freeCtr }

/-- R80: a chip reset. GLB_RST_CAUSE, GLB_COMMIT_STAT and the power and crystals stay; start-up goes on from the sampling of the straps, once
RST_N is high and CK_REF is present (log 58). -/
def State.chipReset (s : State) : State :=
  { s.volatile with
    power := { s.power with holdupNow := false },
    clocks := { ok := s.clocks.ok &&& 0x0F, onBackup := false, selfRefresh := false, pcieRef := s.clocks.pcieRef },
    boot := { Boot.reset with step := 7, rstNHigh := s.boot.rstNHigh, perstHigh := s.boot.perstHigh, perstRise := s.boot.perstRise,
                              waitRef := !s.clocks.ok.getLsbD 0 },
    glb := { Glb.reset with rstCause := s.glb.rstCause, comGen := s.glb.comGen, comKind := s.glb.comKind, comSlotB := s.glb.comSlotB,
                            torn := s.glb.torn, none := s.glb.none } }

/-- The reset that is due is taken once no commit runs (R75, R80). -/
def State.takeReset (s : State) : State := if s.chipResetDue.isSome && s.commit.isNone then s.chipReset else s

/-- R65, R66: the island is supplied from VBAT alone; below its retention limit the contents are lost. -/
def State.toVbat (s : State) : State :=
  { s with power := { s.power with onVbat := true },
           island := if s.power.vbatLost then { s.island with integrity := false } else s.island }

/-- R64: the controllers stop together and the rails discharge: nothing runs, and a commit in progress leaves a torn slot (Table 3-4). -/
def State.railsOff (s : State) : State :=
  let s := s.toVbat
  { s.volatile with
    power := { s.power with vsysUp := false, biasGood := false, railsGood := 0, starting := false, retryWait := false, holdupNow := false,
                            vsysMv := min s.power.vsysMv 5999 },
    clocks := { Clocks.reset with ok := s.clocks.ok &&& 0x08, pcieRef := s.clocks.pcieRef },
    boot := { Boot.reset with step := 0, rstNHigh := s.boot.rstNHigh, perstHigh := s.boot.perstHigh, perstRise := 0 },
    glb := { Glb.reset with rstCause := s.glb.rstCause } }

end Sys2Proof.Machine
end

