-- ==== Sys2Proof/Machine/Settle.lean ====
section
/-!
DEFINITION. What ends every command that may touch lanes: the pair interlock, the watch over the lanes, and the inverse
actions of a gang (R117).
-/
namespace Sys2Proof.Machine

open Sys2Proof

/-- Restore one member of a gang (R117): LANE_LIMIT its previous limit, done as R153 says; LSW_SET its previous commanded state (R296). -/
def State.restoreMember (s : State) (f : Flight) (u : Nat) : Inverse × State :=
  let prev := match f.prev.find? (·.1 == u) with | some p => p.2 | none => 0
  if f.opcode == 0x11 then
    if h : u < 32 then
      let s := (s.setLane ⟨u, h⟩ fun l => { l with limit := prev }).drivePilot ⟨u, h⟩
      (if s.limitWaits u then .waits else .done, s)
    else (.done, s)
  else if f.opcode == 0x70 then
    if h : u < 48 then s.restoreChannel ⟨u, h⟩ (prev == 1) else (.done, s)
  else (.done, s)

/-- Restore a member and settle it where its inverse action ends at once. The flight is looked up anew: a member before it may have changed it. -/
def State.restoreOne (s : State) (f : Flight) (u : Nat) : State :=
  let (o, s) := s.restoreMember f u
  match s.flights.find? (·.same f) with
  | none => s
  | some g =>
    if g.settled.contains u then s
    else match o with
      | .done => s.inverseEnd g u true
      | .stuck => s.inverseEnd g u false
      | .waits => s

/-- The inverse actions of a gang whose first member has failed (R117): every other member is restored at this stamp, one that failed after the first
too, and the completion is written when the last has settled. -/
def State.gangInverse (s : State) (f : Flight) : State :=
  let g := { f with invStarted := true }
  let others := f.members.filter fun u => !f.settled.contains u
  let s := s.setFlight f g
  if others.isEmpty then s.settleFlight g stCompensated 0 (maskOf g.opcode g.failed) else others.foldl (fun s u => s.restoreOne g u) s

/-- Every gang whose inverse stage has begun. -/
def State.inverses (s : State) : State :=
  (s.flights.filter fun f => f.inverse && !f.invStarted).foldl (fun s f => s.gangInverse f) s

/-- Whether an enabled lane is in another state than IDLE, DISABLED or UNAVAILABLE (R175). -/
def State.surveyDisturbed (s : State) : Bool :=
  allLanes.any fun n => s.laneEn n && !(s.lanes[n].st == .idle || s.lanes[n].st == .disabled || s.lanes[n].st == .unavailable)

/-- A survey that a lane disturbs ends at that stamp; the previous table stays (R175). -/
def State.surveyWatch (s : State) : State :=
  if s.link.survey.isSome && s.surveyDisturbed then
    let s := ({ s with link := { s.link with survey := none } } : State).setErr .vlk 0
    match s.flights.find? (·.opcode == 0x30) with
    | some f => s.settleFlight f 0x20 0 0
    | none => s
  else s

/-- The end of a command that began at s0: the lanes' watch, inverse actions, a survey disturbed, a chip reset that waits for no commit. -/
def State.finish (s0 s : State) : State := (((State.watch s0 s.pairWatch).inverses).surveyWatch).takeReset

end Sys2Proof.Machine
end

