-- ==== Sys2Proof/Machine/Arbiter.lean ====
section
/-!
DEFINITION. The counting board (R510 to R517): credit, grants, revocation, cut-off, and the protection of DRAM regions.
-/
namespace Sys2Proof.Machine

open Sys2Proof

/-- The board replaced. -/
def State.setArb (s : State) (f : Arb → Arb) : State := { s with arb := f s.arb }

/-- Requesters 0 to 2 are urgent (R510). -/
def urgent (i : Fin 16) : Bool := i.val < 3

/-- ARB_Wi.WEIGHT and LIMIT (Table 19-7). -/
def State.arbWeight (s : State) (i : Fin 16) : Nat := if urgent i then 255 else s.pf (0x10040 + 4 * i.val) 0 8
def State.arbLimit (s : State) (i : Fin 16) : Nat := if urgent i then 0xFFFF else s.pf (0x10040 + 4 * i.val) 8 16

/-- Charge or refund beats; a counter saturates at −32,768 (R511). -/
def State.arbCharge (s : State) (i : Fin 16) (beats : Int) : State :=
  s.setArb fun a => { a with credit := a.credit.set i (max (a.credit[i] - beats) (-32768)) }

/-- Whether a requester may write a DRAM data address (R517, Table 19-3): the scrubber everywhere, the others in the regions that name them
(DESIGN CHOICE, log 109: not outside every region). -/
def State.mayWrite (s : State) (i : Fin 16) (addr : Nat) : Bool :=
  let n := i.val
  let base := s.pf 0x5000 5 3 * 2 ^ 30
  if n == 15 then true
  else if base ≤ addr && addr < base + 2 ^ 30 && base != 0 then n == 1 || n == 2
  else if addr < 0x04000000 then n == 4
  else if addr < 0x08000000 then n == 10
  else if addr < 0x0C000000 then n == 5
  else if addr < 0x0D000000 then n == 10
  else if addr < 0x0E000000 then n == 4 || n == 10 || n == 11
  else if addr < 0x10000000 then n == 3
  else false

/-- The requester chosen for a target among those waiting and not barred (R512): urgent ones first, then the fullest counter,
ties to the lower number. -/
def State.arbWinner (s : State) (target : Nat) : Option ArbReq :=
  let ok := s.arb.waiting.filter fun r => r.target == target && !s.arb.barred.contains (r.requester, target)
  let urg := ok.filter fun r => urgent r.requester
  (if urg.isEmpty then ok else urg).foldl (fun best r =>
    match best with
    | none => some r
    | some b =>
      let cb := s.arb.credit[b.requester]
      let cr := s.arb.credit[r.requester]
      if cr > cb || (cr == cb && r.requester.val < b.requester.val) then some r else best) none

/-- The grant that holds a target. -/
def State.arbHolder (s : State) (target : Nat) : Option ArbReq := s.arb.grants.find? (·.target == target)

/-- Revoke the grant of a target (R513): its charge is refunded and it keeps its request. -/
def State.arbRevoke (s : State) (g : ArbReq) : State :=
  (s.arbCharge g.requester (-g.beats)).setArb fun a => { a with grants := a.grants.erase g, waiting := g :: a.waiting }

/-- Arbitrate a target: a free one goes to the winner, which is charged; an urgent request revokes a grant that is not
urgent. -/
def State.arbitrate (s : State) (target : Nat) : State :=
  let s := match s.arbHolder target with
    | some g => if !urgent g.requester && s.arb.waiting.any (fun r => r.target == target && urgent r.requester) then s.arbRevoke g else s
    | none => s
  if (s.arbHolder target).isSome then s
  else match s.arbWinner target with
    | some r => (s.arbCharge r.requester r.beats).setArb fun a => { a with waiting := a.waiting.erase r, grants := a.grants ++ [r] }
    | none => s

/-- Arbitrate every target at which a request waits. -/
def State.arbAll (s : State) : State := (s.arb.waiting.map (·.target)).eraseDups.foldl State.arbitrate s

/-- R511: a window starts: every counter is refilled, its value shown (log 49), and the bars of R515 end. -/
def execArbWindowStart (cycles : Nat) (s : State) : Host.Outcome State Fault Refusal :=
  if cycles < s.pf 0x10000 0 16 then .next s
  else
    let c : Vector Int 16 := .ofFn fun i => min (s.arb.credit[i] + s.arbWeight i) (2 * s.arbWeight i)
    .next ((s.setArb fun a => { a with credit := c, shown := c, barred := [] }).arbAll)

/-- A write becomes visible (R514): the bytes that its beats carry, 64 a beat, are in the target. -/
def Arb.store (a : Arb) (w : ArbWrite) (beats : Nat) : Arb :=
  let bytes := w.data.take (64 * beats)
  if w.dram then { a with dram := memWrite a.dram w.addr bytes } else { a with sram := memWrite a.sram w.addr bytes }

/-- The transfer that holds a target accepts its last beat: what its write buffer holds becomes visible and the target is free (R514). -/
def State.arbFinish (s : State) (target : Nat) : State :=
  match s.arbHolder target with
  | none => s
  | some g => s.setArb fun a =>
    let a := { a with grants := a.grants.erase g }
    match g.write with
    | some w => a.store w g.beats
    | none => a

/-- Whether a region refuses a write of some beats (R517): the requester must be named for every byte it writes. -/
def State.refusesWrite (s : State) (i : Fin 16) (beats : Nat) (write : Option ArbWrite) : Bool :=
  match write with
  | some w => w.dram && !((List.range (min w.data.length (64 * beats))).all fun k => s.mayWrite i (w.addr + k))
  | none => false

/-- R512 to R514, R517: a requester asks a target for a transfer; ended: the transfer that held the target has accepted its
last beat; a request of no beats only says so. A write that its region does not allow is refused and leaves the target unchanged. -/
def execArbRequest (requester : Fin 16) (target beats : Nat) (write : Option ArbWrite) (ended : Bool) (s : State) :
    Host.Outcome State Fault Refusal :=
  let t := if ended then s.arbFinish target else s
  if s.refusesWrite requester beats write then
    .next (((t.setErr .arb 16).setArb fun a => { a with protId := requester }).arbitrate target)
  else if beats == 0 then .next (t.arbitrate target)
  else .next ((t.setArb fun a => { a with waiting := a.waiting ++ [⟨requester, target, beats, write⟩] }).arbitrate target)

/-- R515: a requester that is not urgent has held a bank for more than LIMIT cycles: it is cut off and barred. -/
def execBankHogCutoff (target cycles : Nat) (s : State) : Host.Outcome State Fault Refusal :=
  match s.arbHolder target with
  | some g =>
    if urgent g.requester || cycles ≤ s.arbLimit g.requester then .next s
    else
      let i := g.requester
      let t := (s.arbRevoke g).setErr .arb i.val
      let t := t.setArb fun a => { a with hogs := a.hogs.set i (min (a.hogs[i] + 1) 0xFFFFFFFF), barred := (i, target) :: a.barred }
      .next (t.arbitrate target)
  | none => .next s

/-- R516: a requester withdraws after its grant and before its first beat: the grant lapses, costs no credit and sets no
flag; arbitration goes on in the next cycle. -/
def execGrantWithdraw (target beatsDone : Nat) (s : State) : Host.Outcome State Fault Refusal :=
  match s.arbHolder target with
  | some g =>
    if beatsDone != 0 then .next s
    else .next (((s.arbCharge g.requester (-g.beats)).setArb fun a => { a with grants := a.grants.erase g }).arbitrate target)
  | none => .next s

end Sys2Proof.Machine
end

