-- ==== Sys2Proof/Machine/LineBase.lean ====
section
/-!
DEFINITION. The site line apart from its events (R389 to R408): symbols and codewords, frames and their codes, tone choice,
neighbours and levels, the queue and the transmitter.
-/
namespace Sys2Proof.Machine

open Sys2Proof

/-- The site line replaced. -/
def State.setLine (s : State) (f : LineSt → LineSt) : State := { s with line := f s.line }

/-- LINE_CFG.EN, ROLE and REPEAT; LINE_ADDR.ADDR and NID (Table 14-9). -/
def State.lineEn (s : State) : Bool := s.glb.profActiveValid && s.pf 0xB000 0 1 == 1
def State.lineRole (s : State) : Nat := s.pf 0xB000 1 2
def State.lineRepeat (s : State) : Bool := s.pf 0xB000 4 1 == 1
def State.lineAddr (s : State) : Nat := s.pf 0xB004 0 10
def State.lineNid (s : State) : Nat := s.pf 0xB004 16 16
def State.lqMin (s : State) : Nat := s.pf 0xB01C 0 8
def State.lineHops (s : State) : Nat := s.pf 0xB010 22 3

/-- Ticks of one symbol (R391, R393). -/
abbrev lineSym : Nat := 20480

/-- LINE_TXEN rises so many ticks before the first transmitted sample, and falls as many after the last one (R389). -/
abbrev txLead : Nat := ticksPerMs

/-! ## Tone mode and band mode (R391 to R393) -/

/-- Multiplication in GF(2^8) with x^8 + x^4 + x^3 + x^2 + 1 (R392): n bits of b from the top. -/
def gfMulGo : Nat → Nat → Nat → Nat → Nat
  | 0, _, _, acc => acc
  | n + 1, a, b, acc =>
    let d := 2 * acc
    let d := if d ≥ 256 then d ^^^ 0x11D else d
    gfMulGo n a b (if hasBit b n then d ^^^ a else d)
def gfMul (a b : Nat) : Nat := gfMulGo 8 a b 0

/-- The generator with roots α^0 … α^7, its coefficients below x^8 from x^7 down. -/
def rsGen : List Nat :=
  ((List.range 8).foldl (fun (acc : List Nat × Nat) _ =>
    (List.zipWith (fun x y => x ^^^ gfMul acc.2 y) (acc.1 ++ [0]) (0 :: acc.1), gfMul acc.2 2)) ([1], 1)).1.drop 1

/-- The 8 parity bytes of a codeword (R392). -/
def rsParity (msg : List Nat) : List Nat :=
  msg.foldl (fun reg m =>
    let fb := m ^^^ reg.headD 0
    List.zipWith (fun r g => r ^^^ gfMul fb g) (reg.drop 1 ++ [0]) rsGen) (List.replicate 8 0)

/-- Codewords of a logical frame of b bytes. -/
def codewords (b : Nat) : Nat := (b + 63) / 64

/-- The coded frame: the logical bytes, then the parity bytes codeword by codeword (R392). -/
def codedFrame (bs : Bytes) : List Nat :=
  let ns := bs.map BitVec.toNat
  let c := codewords bs.length
  ns ++ ((List.range c).flatMap fun i => rsParity ((ns.zipIdx.filter fun p => p.2 % c == i).map (·.1)))

/-- Symbol values of a tone-mode transmission (R392): preamble, delimiter, four symbols a byte with bits 1:0 first. -/
def toneSymbols (bs : Bytes) : List Nat :=
  (List.replicate 8 [0, 2]).flatten ++ [1, 2, 1, 2, 3, 0, 3, 0] ++ ((codedFrame bs).flatMap fun b => [b % 4, b / 4 % 4, b / 16 % 4, b / 64])

/-- The grid tone of a symbol value in a tone set (R391): 0b00, 0b01, 0b11, 0b10 are t0 … t3. -/
def toneOf (set : List Nat) (v : Nat) : Nat := set.getD (match v with | 0 => 0 | 1 => 1 | 3 => 2 | _ => 3) 0

/-- The low n bits of a number, the highest first. -/
def bitsDown (n v : Nat) : List Bool := (List.range n).map fun i => hasBit v (n - 1 - i)

/-- CRC-10 with the polynomial 0x233 (R393), from zero over the bits in order (log 115). -/
def crc10 (bits : List Bool) : Nat :=
  bits.foldl (fun r b => if hasBit r 9 != b then (2 * r % 1024) ^^^ 0x233 else 2 * r % 1024) 0

/-- The 28 bits of frame control (R393): MOD, TMI, NSYM and their CRC-10. -/
def frameControl (modu tmi nsym : Nat) : List Bool :=
  let v := bitsDown 2 modu ++ bitsDown 4 tmi ++ bitsDown 12 nsym
  v ++ bitsDown 10 (crc10 v)

/-- The parity of the bits of a mask in a 7-bit register. -/
def tapParity (r mask : Nat) : Bool := ((List.range 7).filter fun i => hasBit (r &&& mask) i).length % 2 == 1

/-- The convolutional code of rate 1/2 and constraint length 7 with generators 0o133 and 0o171 (R393): r holds the last six bits. -/
def convEncode : Nat → List Bool → List Bool
  | _, [] => []
  | r, b :: bs =>
    let r := r / 2 + 64 * bit b
    tapParity r 0o133 :: tapParity r 0o171 :: convEncode r bs

/-- The coded bits of a logical frame in band mode: its bytes, bit 0 first (log 115), and 6 tail bits (R393). -/
def bandBits (bs : Bytes) : List Bool := convEncode 0 ((bs.flatMap fun b => (List.range 8).map b.getLsbD) ++ List.replicate 6 false)

/-- Data symbols of a band-mode transmission of b bytes on u subcarriers (R393, Table 14-1): coded bits, or four times them in
ROBUST, over the bits a symbol carries. -/
def bandSymbols (b : Nat) (m : Option ToneMap) : Nat :=
  let coded := 2 * (8 * b + 6)
  match m with
  | some t =>
    let u := ((List.range 28).filter (hasBit t.mask ·)).length
    if t.modu == 0 then ceilDiv (4 * coded) 28 else ceilDiv coded (t.modu * u)
  | none => ceilDiv (4 * coded) 28

/-! ## Impulses (R397) -/

/-- The blanked samples of a reception as spans [from, to): each run from its first sample to the 32 low samples that end it. -/
def blankSpans (thr : Nat) (high : List (Nat × Nat)) : List (Nat × Nat) := (noiseRuns 32 thr high).map fun r => (r.1, r.2 + 33)

/-- The blanked samples of symbol j. -/
def blankedIn (spans : List (Nat × Nat)) (j : Nat) : Nat :=
  spans.foldl (fun n p => n + (min p.2 (320 * j + 320) - max p.1 (320 * j))) 0

/-- Whether an impulse falls on the first n symbols: the frame is not received (Table 14-2). -/
def hitsHead (spans : List (Nat × Nat)) (n : Nat) : Bool := spans.any fun p => decide (p.1 < 320 * n)

/-- Whether a tone-mode frame of b bytes is decoded (R392, R397): in every codeword twice the errors and the erasures, the bytes with a
symbol of more than 160 blanked samples, are at most 8. -/
def toneDecodes (b : Nat) (spans : List (Nat × Nat)) (errors : List Nat) : Bool :=
  let c := codewords b
  let bad := (List.range (b + 8 * c)).filter fun j => (List.range 4).any fun i => decide (160 < blankedIn spans (24 + 4 * j + i))
  let cw (j : Nat) : Nat := if j < b then j % c else (j - b) / 8
  (List.range c).all fun i => decide (2 * errors.getD i 0 + (bad.filter fun j => cw j == i).length ≤ 8)

/-! ## Frames (R398 to R400) -/

/-- The 16 bytes of a header (Table 14-4). -/
def LineFrame.header (f : LineFrame) (nid : Nat) : Bytes :=
  leBytes 1 (f.ty + 16 * f.prio + 64 * bit f.ackReq) ++ leBytes 1 (f.hops + 16 * f.route.length) ++ leBytes 2 nid ++ leBytes 2 f.src ++
    leBytes 2 f.dst ++ leBytes 2 f.xmit ++ leBytes 2 f.next ++ leBytes 2 f.body.length ++ leBytes 2 f.seq

/-- What the MIC covers (R400). -/
def LineFrame.covered (f : LineFrame) (nid fcnt : Nat) : Bytes :=
  let h := f.header nid
  h.take 1 ++ (h.drop 2).take 6 ++ (h.drop 12).take 4 ++ f.body ++ leBytes 4 fcnt

/-- A logical frame with its counter, MIC and CRC (R399). -/
def LineFrame.logical (f : LineFrame) (nid fcnt mic : Nat) : Bytes :=
  let b := f.header nid ++ (f.route.flatMap fun r => leBytes 2 r) ++ f.body ++ leBytes 4 fcnt ++ leBytes 4 mic
  b ++ leBytes 4 (crc32 b).toNat

/-- The MIC of a frame under K_LINE. -/
def lineMic (key : Nat) (f : LineFrame) (nid fcnt : Nat) : Nat := (Config.aesCmac key (f.covered nid fcnt)).toNat % 2 ^ 32

/-- The frame of logical bytes. -/
def parseLine (b : Bytes) : LineFrame :=
  let r := field b 1 1 / 16 % 8
  { ty := field b 0 1 % 16, prio := field b 0 1 / 16 % 4, ackReq := hasBit (field b 0 1) 6, hops := field b 1 1 % 8,
    route := (List.range r).map fun i => field b (16 + 2 * i) 2, src := field b 4 2, dst := field b 6 2, xmit := field b 8 2,
    next := field b 10 2, seq := field b 14 2, body := (b.drop (16 + 2 * r)).take (field b 12 2) }

/-- Whether the length and the CRC of logical bytes are right. -/
def lineCrcOk (b : Bytes) : Bool :=
  let n := b.length
  n == 28 + 2 * (field b 1 1 / 16 % 8) + field b 12 2 && field b (n - 4) 4 == (crc32 (b.take (n - 4))).toNat

/-- FCNT and MIC of logical bytes. -/
def lineFcnt (b : Bytes) : Nat := field b (b.length - 12) 4
def lineMicIn (b : Bytes) : Nat := field b (b.length - 8) 4

/-! ## Network state -/

/-- The parent in use. -/
def State.lineParent (s : State) : Option Nat := s.line.parents.head?

/-- A NET result (Table 14-8). -/
def State.netResult (s : State) : State :=
  s.emit 11 0x04 0xFFFF s.line.st (s.line.level + 256 * s.lineParent.getD 0xFFFF + 2 ^ 24 * s.line.members.length)

/-- LINE_STAT.STATE changes. -/
def State.lineTo (s : State) (st : Nat) : State := if s.line.st == st then s else (s.setLine fun l => { l with st := st }).netResult

/-- The quality of a neighbour: the mean SNR of the last 8 frames heard from it (R407). -/
def LineNeigh.q (n : LineNeigh) : Nat := n.snrs.foldl (· + ·) 0 / max 1 n.snrs.length

/-- The neighbour of an address. -/
def State.neigh (s : State) (a : Nat) : Option LineNeigh := s.line.neigh.find? (·.addr == a)

/-- A NEIGH result (Table 14-8). -/
def State.neighResult (s : State) (n : LineNeigh) (detail : Nat) : State :=
  s.emit 11 0x05 n.addr detail (n.q + 256 * (match n.map with | some m => m.tmi | none => 0))

/-- A neighbour changed. -/
def State.setNeigh (s : State) (a : Nat) (f : LineNeigh → LineNeigh) : State :=
  s.setLine fun l => { l with neigh := l.neigh.map fun n => if n.addr == a then f n else n }

/-- A frame is heard from a node: a new neighbour displaces the entry of least q in a full table (R407); the coordinator notes
that a member is alive (R403). -/
def State.lineHear (s : State) (a snr : Nat) : State :=
  let s := if s.line.st == 3 then s.setLine fun l => { l with heard := (a, s.now) :: l.heard.filter (·.1 != a) } else s
  match s.neigh a with
  | some _ => s.setNeigh a fun n => { n with snrs := (snr :: n.snrs).take 8 }
  | none =>
    let new : LineNeigh := ⟨a, 15, [snr], none, none, none⟩
    let least := s.line.neigh.foldl (fun (best : Option LineNeigh) n => match best with | none => some n | some b => if n.q < b.q then some n else best) none
    let s := match least with
      | some n => if s.line.neigh.length < 64 then s else (s.setLine fun l => { l with neigh := l.neigh.erase n }).neighResult n 1
      | none => s
    (s.setLine fun l => { l with neigh := l.neigh ++ [new] }).neighResult new 0

/-- Insert a parent candidate by quality descending, then address ascending. -/
def insertParent : List LineNeigh → LineNeigh → List LineNeigh
  | [], n => [n]
  | x :: xs, n => if n.q > x.q || (n.q == x.q && n.addr < x.addr) then n :: x :: xs else x :: insertParent xs n

/-- Level and parent candidates (R407). -/
def State.lineLevel (s : State) : State :=
  if s.lineRole != 0 then s.setLine fun l => { l with level := 15, parents := [] }
  else if s.lineAddr == s.pf 0xB008 0 10 then s.setLine fun l => { l with level := 0, parents := [] }
  else
    let ok := s.line.neigh.filter fun n => decide (s.lqMin ≤ n.q) && decide (n.level ≤ 6)
    if ok.isEmpty then (s.setLine fun l => { l with level := 15, parents := [] }).setErr .line 3
    else
      let m := ok.foldl (fun m n => min m n.level) 6
      s.setLine fun l => { l with level := m + 1, parents := ((ok.filter (·.level == m)).foldl insertParent []).map (·.addr) }

/-- The NEXT of a unicast frame without a route (R408), and whether it goes upward. -/
def State.lineRoute (s : State) (dst : Nat) : Option (Nat × Bool) :=
  if s.lineRole != 0 then some (dst, false)
  else if (match s.neigh dst with | some n => decide (s.lqMin ≤ n.q) | none => false) then some (dst, false)
  else s.lineParent.map fun p => (p, true)

/-- The tone set LINE_TONE. -/
def State.lineTone (s : State) : List Nat := [s.pf 0xB00C 0 6, s.pf 0xB00C 8 6, s.pf 0xB00C 16 6, s.pf 0xB00C 24 6]

/-- The site line starts in STATE 1, or is off (R413, Table 14-10). -/
def State.lineStart (s : State) : State :=
  if s.lineEn then
    (s.setLine fun l => { l with tone := s.lineTone, advAt := s.now, fcnt := if l.fcnt == 0 then s.nv.links.lineEnd + 1 else l.fcnt }).lineTo 1
  else s.lineTo 0

/-- A block reset of the site line (R413), and its stop by a profile: queues, neighbours and network state go; commands in progress
complete with ABORTED; the counters and the FCNT stay. -/
def State.lineReset (s : State) : State :=
  let s := (s.cancel .tAck 0).cancel .tBeacon 0
  let l := s.line
  let s := { s with line := { LineSt.reset with st := l.st, seq := l.seq, fcnt := l.fcnt, tick := l.tick, freq := l.freq, blank := l.blank,
                                                lost := l.lost, txCount := l.txCount, rxCount := l.rxCount } }
  let s := (s.flights.filter fun f => [0xA0, 0xA1, 0xA2].contains f.opcode).foldl (fun s f => s.settleFlight f stAborted 0 0) s
  s.lineStart

/-! ## Queueing and sending -/

/-- A frame that this part originates (R398, R400, R408): the next SEQ and LINE_NET.HOPS. -/
def State.lineQueue (s : State) (ty prio : Nat) (ackReq : Bool) (dst next : Nat) (upward band : Bool) (body : Bytes) : State :=
  let q := (s.line.seq + 1) % 65536
  let f : LineFrame := ⟨ty, prio, ackReq, s.lineHops, [], s.lineAddr, dst, s.lineAddr, next, q, body⟩
  s.setLine fun l => { l with seq := q, queue := l.queue ++ [⟨f, band, none, 0, 0, upward, 0, none⟩] }

/-- A broadcast that this part originates. -/
def State.lineBroadcast (s : State) (ty prio : Nat) (band : Bool) (body : Bytes) : State :=
  s.lineQueue ty prio false 0xFFFF 0xFFFF false band body

/-- An ADVERT (Table 14-5). -/
def State.lineAdvert (s : State) : State :=
  s.lineBroadcast 1 2 false (leBytes 1 s.line.level ++ [0] ++ leBytes 2 (s.lineParent.getD 0xFFFF))

/-- Ledger reports go out three to a frame, to the root, one REPORT frame at a time (R410). -/
def State.lineReports (s : State) : State :=
  let root := s.pf 0xB008 0 10
  let busy := s.line.queue.any (fun o => o.f.ty == 5 && o.f.src == s.lineAddr) || s.line.awaiting.any (·.f.ty == 5)
  if busy || s.abc.lineOut.isEmpty || root == s.lineAddr then s
  else match s.lineRoute root with
    | none => s
    | some (next, up) =>
      let rs := s.abc.lineOut.take 3
      let s := s.setAbc fun a => { a with lineOut := a.lineOut.drop 3 }
      s.lineQueue 5 2 true root next up false (leBytes 2 rs.length ++ zeros 2 ++ rs.flatten)

/-- A TIME broadcast at each RTC second that is a multiple of TPER (R411), and the stamp of the rollover. -/
def State.lineRollover (s : State) : State :=
  let s := s.setLine fun l => { l with tick := s.now }
  let per := s.pf 0xB020 8 12
  if s.lineEn && s.pf 0xB000 5 1 == 1 && s.book.img.clkValid && per != 0 && s.island.rtcSec % per == 0 && s.line.st != 0 then
    s.lineBroadcast 6 0 false (zeros 12)
  else s

/-- The body of a TIME frame as its delimiter ends at a stamp (R411): the originator gives the second; a repeater adds the time
since the delimiter it received. -/
def State.timeBody (s : State) (o : LineOut) (delim : Nat) : Bytes :=
  match o.delimAt with
  | some d => o.f.body.take 8 ++ leBytes 4 (field o.f.body 8 4 + (delim - d) * 1000 / 24576)
  | none => leBytes 7 (s.island.rtcSec + (delim - s.line.tick) / ticksPerS) ++ zeros 5

/-- The tone map that a band-mode frame is sent with (R394, R395): ROBUST for the frames that are always so. -/
def State.mapFor (s : State) (o : LineOut) : Option ToneMap :=
  if o.f.ty == 3 || o.f.ty == 7 then (match s.neigh o.f.next with | some n => n.txMap | none => none) else none

/-- The counter value of a transmission (R400): a repeater keeps the frame's own; a new block is reserved in MRAM before its first
value is used. None: the MRAM write failed. -/
def State.takeFcnt (s : State) (o : LineOut) (storeOk : Bool) : Option Nat × State :=
  match o.fwd with
  | some c => (some c, s)
  | none =>
    let c := s.line.fcnt
    let use (s : State) : Option Nat × State := (some c, s.setLine fun l => { l with fcnt := c + 1 })
    if c ≤ s.nv.links.lineEnd then use s
    else if storeOk then use { s with nv := { s.nv with links := { s.nv.links with lineEnd := c + 4095 } } }
    else (none, s.setErr .line 7)

/-- A transmission starts (R389, R392, R393). Without K_LINE only SOUND and SOUND_RPT are sent, with a MIC that nothing states (a free
value). LINE_TXEN rises now, and the first sample follows 24,576 ticks later (R389). Answers whether it started. -/
def State.lineSend (s : State) (o : LineOut) (storeOk ack : Bool) : Bool × State :=
  let key := s.keyVal 4
  if key.isNone && !(o.f.ty == 8 || o.f.ty == 9) then (false, s)
  else if o.f.ty == 8 then
    (true, s.setLine fun l => { l with quiet := 0, tx := some ⟨o, [], s.now + txLead, s.now + txLead + 32 * lineSym, false⟩ })
  else match s.takeFcnt o storeOk with
    | (none, s) => (false, s)
    | (some c, s) =>
      let f := if o.f.ty == 6 then { o.f with body := s.timeBody o (s.now + txLead + 24 * lineSym) } else o.f
      let (mic, s) := match key with | some k => (lineMic k f s.lineNid c, s) | none => s.draw (2 ^ 32)
      let bs := f.logical s.lineNid c mic
      let n := if o.band then 16 + bandSymbols bs.length (s.mapFor o) else (toneSymbols bs).length
      (true, s.setLine fun l => { l with quiet := 0, tx := some ⟨{ o with f := f }, bs, s.now + txLead, s.now + txLead + n * lineSym, ack⟩ })

/-- The tones of the running tone-mode transmission, symbol by symbol. -/
def State.txTones (s : State) : List Nat :=
  match s.line.tx with
  | some t => if t.out.band then [] else (toneSymbols t.bytes).map (toneOf s.line.tone)
  | none => []

/-- The bits of the running band-mode transmission: its frame control and its coded data (R393); MOD and TMI are those of its tone map. -/
def State.txBandBits (s : State) : List Bool :=
  match s.line.tx with
  | some t =>
    if !t.out.band then []
    else if t.out.f.ty == 8 then frameControl 3 0 0
    else
      let m := s.mapFor t.out
      frameControl (match m with | some x => x.modu | none => 0) (match m with | some x => x.tmi | none => 0) (bandSymbols t.bytes.length m) ++ bandBits t.bytes
  | none => []

/-- LINE_TXEN: high from 24,576 ticks before the first sample to 24,576 ticks after the last one (R389); a noise measurement transmits
nothing. -/
def State.lineTxen (s : State) (at_ : Nat) : Bool :=
  s.line.tx.isSome || (match s.line.test with | some t => t.kind < 2 | none => false) || at_ < s.line.txOff

/-! ## The coordinator's tone choice (R396) -/

/-- The subcarrier nearest to a grid tone, the lower on a tie. -/
def nearestSub (t : Nat) : Nat :=
  (List.range 36).foldl (fun best i =>
    let d (i : Nat) : Nat := if 1500 * i ≥ 1200 * t then 1500 * i - 1200 * t else 1200 * t - 1500 * i
    if d i < d best then i else best) 0

/-- The quality of a grid tone over the reports. -/
def toneQ (reports : List (List Nat)) (t : Nat) : Nat :=
  match reports.map (·.getD (nearestSub t) 0) with
  | [] => 0
  | x :: xs => xs.foldl min x

/-- Four tones by R396, in ascending order. -/
def chooseTones (reports : List (List Nat)) : List Nat :=
  let pick (chosen : List Nat) : List Nat :=
    let free := (List.range 46).filter fun t => chosen.all fun c => decide (c + 2 ≤ t ∨ t + 2 ≤ c)
    match free with
    | [] => chosen
    | x :: xs => chosen ++ [xs.foldl (fun b t => if toneQ reports b < toneQ reports t then t else b) x]
  let four := pick (pick (pick (pick [])))
  (List.range 46).filter (four.contains ·)

/-- The tone map built from a SOUND's SNR per subcarrier (R395). -/
def buildMap (snrs : List Nat) (dbpsk dqpsk prevTmi : Nat) : ToneMap :=
  let data := (List.range 36).filter fun i => i % 5 != 0
  let used := (data.zipIdx).filter fun p => decide (dbpsk ≤ snrs.getD p.1 0)
  if used.length < 8 then ⟨0, 0, 0⟩
  else ⟨prevTmi % 15 + 1, if used.all (fun p => decide (dqpsk ≤ snrs.getD p.1 0)) then 2 else 1, used.foldl (fun m p => m + 2 ^ p.2) 0⟩

end Sys2Proof.Machine
end

