-- ==== Sys2Proof/Machine/BookCmd.lean ====
section
/-!
DEFINITION. The events and commands of the register book (R356 to R388).
-/
namespace Sys2Proof.Machine

open Sys2Proof

/-! ## Clock events -/

/-- R361, R372: a second of the RTC begins; the first valid one after a restore completes the outage. The elapsed-second counter
of R448 counts with it. -/
def execRtcRollover (s : State) : Host.Outcome State Fault Refusal :=
  if !s.clocks.ok.getLsbD 3 then .next s
  else
    let t := { s with island := { s.island with rtcSec := (s.island.rtcSec + 1) % 2 ^ 55, elapsed := s.island.elapsed + 1 } }
    if !t.legalOn then .next t
    else
      let t := ((t.settleRate).note 6 32 0).lineRollover
      if !t.book.img.clkValid then .next t
      else .next (match t.book.outage with
        | some (f, fSec) => t.completeOutage f fSec
        | none => t.takePoints)

/-- R371: an interval measured on the HTC ends, one nominal length after the invalid stamp or the interval before it. -/
def execNoclockIntervalEnd (s : State) : Host.Outcome State Fault Refusal :=
  let len := tblLen s.table * ticksPerS
  match s.book.noclockFrom with
  | some f =>
    if f + len ≤ s.now && s.legalOn then
      .next ((((s.gather ivNoclock).note 7 32 0).intervalEnd ivNoclock).setBook fun b => { b with noclockFrom := some (f + len) })
    else .next s
  | none => .next s

/-- Whether a step goes past MAX_STEP (R370). -/
def State.stepTooFar (s : State) (new : Nat) : Bool :=
  let old := s.island.rtcSec
  s.book.img.clkValid && decide ((if new ≥ old then new - old else old - new) > s.pf 0xA000 8 12)

/-- The step that is due first, the host's before the site line's on one stamp (Table 14-6). -/
def State.stepDue (s : State) : Option StepReq :=
  (s.book.steps.filter fun r => decide (r.due ≤ s.now)).foldl (fun best r =>
    match best with
    | none => some r
    | some b => if r.due < b.due || (r.due == b.due && r.source < b.source) then some r else best) none

/-- R360, R369: a step that is due takes effect; a BOOK_CLOCK_SET that asked for it is done. One from the site line is judged
now: ignored with LINE_CLK = 0, refused beyond MAX_STEP (R370). -/
def execClockStep (s : State) : Host.Outcome State Fault Refusal :=
  match s.stepDue with
  | some r =>
    if !s.legalOn then .next s
    else
      let u := s.setBook fun b => { b with steps := b.steps.erase r }
      if r.source == 1 && (s.pf 0xA000 1 1 == 0 || s.stepTooFar r.newSec) then .next u
      else
        let t := u.clockStep r.source r.role r.newSec
        .next (if r.source == 0 then (match t.flights.find? (·.opcode == 0x91) with
          | some f => t.settleFlight f stOk 0 0
          | none => t) else t)
  | none => .next s

/-- A billing close by command that is due one tick after its acceptance (R360, R367), and a rate switch a step left
due (R369): what the clock's tick brings the book. -/
def State.bookTick (s : State) : State :=
  if !s.legalOn then s
  else
    let due := s.book.closes.filter (· ≤ s.now)
    let s := s.setBook fun b => { b with closes := b.closes.filter fun c => decide (s.now < c) }
    let s := due.foldl (fun s _ =>
      let s := (s.note 7 32 1).billClose 1 s.island.rtcSec
      match s.flights.find? (·.opcode == 0x94) with
      | some f => s.settleFlight f stOk 0 0
      | none => s) s
    s.settleRate

/-! ## Seal, fields, case -/

/-- A TAMPER result (Table 13-12). -/
def State.tamperResult (s : State) (detail : Nat) (ended : Bool) : State := s.emit 7 0x13 0xFFFF detail (bit ended)

/-- A SEAL entry (Table 13-8). -/
def State.sealEntry (s : State) (closed : Bool) (unpowered : Bool) (sec : Nat) : State :=
  let i := s.book.img
  s.legal 0x10 ([BitVec.ofNat 8 (bit closed)] ++ leBytes 2 i.calWrites ++ leBytes 2 i.calRefused ++ (if closed then leBytes 4 s.calSum.toNat else zeros 4) ++
    [BitVec.ofNat 8 (bit unpowered)] ++ leBytes 7 sec)

/-- The seal opens or closes (R377): the entry, and at a close the counts and a fresh calibration copy (R379). -/
def State.sealTo (s : State) (isOpen unpowered : Bool) (sec : Nat) : State :=
  let s := s.sealEntry (!isOpen) unpowered sec
  let s := s.setImg fun i => { i with sealOpen := isOpen, calWrites := if isOpen then i.calWrites else 0, calRefused := if isOpen then i.calRefused else 0 }
  if isOpen then s else s.calCopy

/-- R377: SEAL_N has held its new level for 10 ms. While the book does not run the change is latched in the island. -/
def execSealChange (sealOpen : Bool) (heldMs : Nat) (s : State) : Host.Outcome State Fault Refusal :=
  if heldMs < 10 || s.island.sealOpen == sealOpen then .next s
  else
    let t := { s with island := { s.island with sealOpen := sealOpen } }
    if !t.legalOn then .next { t with island := { t.island with sealLatch := t.island.sealLatch ++ [(⟨sealOpen, t.island.rtcSec⟩ : Latched)] } }
    else .next (((t.note 2 32 0).sealTo sealOpen false t.island.rtcSec).tamperResult 0 (!sealOpen))

/-- R381: levels are the samples of MAGXk since its last change, in mV; the newest is BOOK_MAGSTATk.LEVEL, and the newest 100 decide. -/
def execMagneticFieldChange (sensor : Fin 4) (levels : List Nat) (s : State) : Host.Outcome State Fault Refusal :=
  let thr := (s.calv (0xA040 + 8 * sensor.val)).toNat
  let last := levels.drop (levels.length - 100)
  let on := s.book.img.magOn.getLsbD sensor.val
  let t := s.setBook fun b => { b with magLevel := b.magLevel.set sensor (last.getLastD b.magLevel[sensor]) }
  if s.now % 24576 != 0 || !s.legalOn then .next s
  else if last.length < 100 || thr == 0 then .next t
  else
    let peak := levels.foldl max 0
    let m : BitVec 4 := BitVec.ofNat 4 (2 ^ sensor.val)
    let lanes := s.calv (0xA044 + 8 * sensor.val)
    if !on && last.all (fun v => decide (thr ≤ v)) then
      let t := (t.note 2 32 (1 + sensor.val)).setBook fun b =>
        { b with magPeak := b.magPeak.set sensor peak, magFrom := b.magFrom.set sensor s.now,
                 magEvents := b.magEvents.set sensor (min (b.magEvents[sensor] + 1) 65535) }
      let t := t.setImg fun i => { i with magOn := i.magOn ||| m, sess := .ofFn fun n =>
        if i.sess[n].isOpen && lanes.getLsbD n.val then { i.sess[n] with magnetic := true } else i.sess[n] }
      let t := (t.legal 0x16 ([BitVec.ofNat 8 sensor.val, 0] ++ leBytes 2 peak ++ leBytes 4 0)).setErr .book 3
      .next (State.finish s (t.tamperResult (1 + sensor.val) false))
    else if on && last.all (fun v => decide (v * 16 < thr * 15)) then
      let pk := max peak s.book.magPeak[sensor]
      let t := ((t.note 2 32 (1 + sensor.val)).setImg fun i => { i with magOn := i.magOn &&& ~~~m }).legal 0x16
        ([BitVec.ofNat 8 sensor.val, 1] ++ leBytes 2 pk ++ leBytes 4 ((s.now - s.book.magFrom[sensor]) / ticksPerS))
      .next (t.tamperResult (1 + sensor.val) true)
    else .next t

/-- R382: the case opens or closes. While the book does not run openings are counted in the island. -/
def execCaseChange (caseOpen : Bool) (s : State) : Host.Outcome State Fault Refusal :=
  if s.island.caseOpen == caseOpen then .next s
  else
    let t := { s with island := { s.island with caseOpen := caseOpen, caseTrig := s.island.caseTrig || caseOpen } }
    if !t.legalOn then
      .next (if caseOpen then { t with island := { t.island with caseOpenings := t.island.caseOpenings + 1,
                                                                 caseFirst := if t.island.caseOpenings == 0 then t.island.rtcSec else t.island.caseFirst } }
             else t)
    else
      let t := ((t.note 2 32 5).setBook fun b => { b with caseOpen := caseOpen }).legal 0x17 [BitVec.ofNat 8 (bit (!caseOpen)), 0]
      .next (State.finish s ((t.setErr .book 4).tamperResult 5 (!caseOpen)))

/-! ## Commands (Table 13-11) -/

/-- An authenticated command: DENIED unless R358 lets it on; then its own action. -/
def State.bookCommand (s : State) (i : Instr) (opcode : Nat) (d : Desc) (lenOk paramOk : Bool) (act : State → State) : State :=
  s.accept i 0 opcode d (d.scope == 0) lenOk (d.unit == 0 && paramOk) fun s =>
    let (ok, s) := s.authRole opcode d
    if ok then act s else s.answer 0 opcode d stDenied

/-- The payload of a READ (Table 13-13) for a lane, or the hub. What the table gives the hub no object for is zero
(log 30). -/
def State.bookReadPayload (s : State) (u : Option (Fin 32)) : Bytes :=
  let i := s.book.img
  leBytes 9 s.now ++ s.rtc7 ++ [BitVec.ofNat 8 (bit i.sealOpen + 2 * (match u with | some n => bit (s.feedActive n) | none => 0))] ++
    [BitVec.ofNat 8 i.rate] ++ leBytes 4 i.period ++ leBytes 4 i.tblActive ++ zeros 6 ++
    (match u with
     | some n => trBytes i.tr[n] ++ mdBytes i.md[n.val] ++ i.sess[n].bytes ++ leBytes 9 i.unattr[n] ++ leBytes 9 i.magE[n] ++ leBytes 5 (s.demandNow n)
     | none => zeros 144 ++ mdBytes i.md[32] ++ zeros 82 ++
         leBytes 5 (allLanes.foldl (fun a n => a + (if s.laneEn n then s.demandNow n else 0)) 0)) ++ zeros 25

/-- R386: opcode 0x90. -/
def execBookRead (d : Desc) (s : State) : Host.Outcome State Fault Refusal :=
  let u := d.unit.toNat
  .next (s.acceptSingle (.bookRead d) 0x90 d 0 (decide (u ≤ 32) || decide (64 ≤ u ∧ u ≤ 67)) fun s =>
    if u ≤ 32 then
      (s.emit 7 0x01 u 0 d.tag.toNat (s.bookReadPayload (if h : u < 32 then some ⟨u, h⟩ else none))).answer 0 0x90 d stOk
    else
      match s.nv.bills[u - 64]? with
      | some c =>
        (s.deliver 7 { opcode := 0x11, tag := 0, unit := 0xFFFF, status := 0, detail := c.detail, stamp := c.stamp,
                       inline := BitVec.ofNat 64 c.period, payload := c.payload, outside := s.outside } false false).answer 0 0x90 d stOk
      | none => s.answer 0 0x90 d 0x25)

/-- R360, R370: opcode 0x91. -/
def execBookClockSet (d : Desc) (s : State) : Host.Outcome State Fault Refusal :=
  let new := field d.payload 32 7
  .next (s.bookCommand (.bookClockSet d) 0x91 d (d.len.toNat == 40) (decide (new < 2 ^ 55) && field d.payload 39 1 == 0) fun s =>
    let role := field d.payload 0 1
    if role == 1 && s.stepTooFar new then s.answer 0 0x91 d 0x24
    else (s.setBook fun b => { b with steps := b.steps ++ [⟨s.now + 1, new, 0, role⟩] }).launch 0 0x91 d false [] [])

/-- R362, R363: opcode 0x92. -/
def execBookTariffLoad (d : Desc) (s : State) : Host.Outcome State Fault Refusal :=
  .next (s.bookCommand (.bookTariffLoad d) 0x92 d (d.len.toNat == 416) true fun s =>
    let t := d.payload.drop 32
    if !tableOk t then s.answer 0 0x92 d 0x20
    else if field t 0 4 ≤ max s.book.img.tblActive s.book.img.tblPending then s.answer 0 0x92 d 0x21
    else
      let s := ({ s with nv := { s.nv with tblPending := some t } } : State).setImg fun i => { i with tblPending := field t 0 4 }
      s.answer 0 0x92 d stOk)

/-- A calibration write refused (R378). -/
def State.calRefuse (s : State) (d : Desc) (status inline : Nat) : State :=
  ((s.setImg fun i => { i with calRefused := (i.calRefused + 1) % 65536 }).setErr .book 5).answer 0 0x93 d status 0 inline

/-- R378: opcode 0x93. A journal past half its size (128 of 256 records, log 9) is folded into a fresh copy. -/
def execBookCalWrite (d : Desc) (s : State) : Host.Outcome State Fault Refusal :=
  let m := (d.len.toNat - 32) / 16
  .next (State.finish s (s.bookCommand (.bookCalWrite d) 0x93 d (d.len.toNat == 32 + 16 * m && decide (1 ≤ m ∧ m ≤ 64)) true fun s =>
    let es := entries16 m (d.payload.drop 32)
    if !s.book.img.sealOpen then s.calRefuse d 0x22 0
    else
      match calBad s.book.cal es with
      | some i => s.calRefuse d 0x23 i
      | none =>
        let s := es.foldl (fun s e => s.calWrite e) s
        let s := if s.nv.calJournal.length > 128 then s.calCopy else s
        s.answer 0 0x93 d stOk))

/-- R367: opcode 0x94; the close takes effect one tick later (R360). -/
def execBookBillClose (d : Desc) (s : State) : Host.Outcome State Fault Refusal :=
  .next (s.bookCommand (.bookBillClose d) 0x94 d (d.len.toNat == 32) true fun s =>
    (s.setBook fun b => { b with closes := b.closes ++ [s.now + 1] }).launch 0 0x94 d false [] [])

end Sys2Proof.Machine
end

