-- ==== Sys2Proof/Machine/LinkCore.lean ====
section
/-!
DEFINITION. The vehicle link (R160 to R188): association attempts, the matcher, message reception, and how the ledger's
decisions reach the dialogue. Answers to the vehicle are recorded as (message kind, response code); both numberings are
the model's (log 31).
-/
namespace Sys2Proof.Machine

open Sys2Proof

/-! ## Answers -/

abbrev kSap : Nat := 1
abbrev kSetup : Nat := 2
abbrev kService : Nat := 3
abbrev kAuth : Nat := 4
abbrev kParam : Nat := 5
abbrev kCable : Nat := 6
abbrev kPre : Nat := 7
abbrev kPower : Nat := 8
abbrev kDemand : Nat := 9
abbrev kStop : Nat := 10
abbrev kCert : Nat := 11
abbrev kValidate : Nat := 12
abbrev kSdp : Nat := 13
abbrev kReceipt : Nat := 14

abbrev rOk : Nat := 0
abbrev rNewSession : Nat := 1
abbrev rFailed : Nat := 2
abbrev rSequence : Nat := 3
abbrev rUnknownSession : Nat := 4
abbrev rWrongParam : Nat := 5
abbrev rCertChain : Nat := 6
abbrev rNoNegotiation : Nat := 7
abbrev rOngoing : Nat := 8
abbrev rWarning : Nat := 9
abbrev rNotRequired : Nat := 10
abbrev rSuccess : Nat := 11
abbrev rFailure : Nat := 12
abbrev rSignature : Nat := 13

/-- A field of VLK_LCFG of a lane: HLC_EN 0, BPT_EN 1, AUTH_ALLOW 3:2. -/
def State.vlcfg (s : State) (n : Fin 32) (lo w : Nat) : Nat := s.pf (0x3100 + 0x20 * n.val) lo w

/-- A vehicle-link stop (Table 6-11): STOP with its reason and timer code, and the lane's stop request. -/
def State.linkStop (s : State) (n : Fin 32) (reason : Nat) (timer : Nat := 0) : State :=
  (s.emit (laneRing n) 0x17 n.val reason timer).stopRequest n 4

/-- An answer given outside a request (a timer, a denial, a relay), encoded for the session's protocol (R184). -/
def State.say (s : State) (n : Fin 32) (kind code : Nat) (body : Bytes := []) : State :=
  s.setLink n fun l => { l with lastOut := some ⟨kind, code, body, Config.exiEncode l.proto kind code body⟩ }

/-- An answer goes out: T_SEQ awaits the next request (R185). -/
def State.reply (s : State) (n : Fin 32) (kind code : Nat) (raw : Bytes) (body : Bytes := []) : State :=
  ((s.say n kind code body).setLink n fun l => { l with lastReq := raw }).arm .tSeq n.val (s.vlkTimer 2 16)

/-! ## Frames on the pilot line (R157 to R161) -/

/-- The MAC address of modem n (R158). -/
def State.modemMac (s : State) (n : Fin 32) : BitVec 48 :=
  BitVec.ofNat 48 ((s.prof 0x3020).toNat + 2 ^ 32 * (s.prof 0x3024).toNat + n.val)

abbrev mParmCnf : Nat := 1
abbrev mAttenInd : Nat := 2
abbrev mMatchCnf : Nat := 3
abbrev mValidateCnf : Nat := 4

/-- A lane's modem sends a management message to the vehicle (R162). -/
def State.mmeSend (s : State) (n : Fin 32) (kind : Nat) (dst : BitVec 48) (run : BitVec 64) (body : Bytes := []) : State :=
  s.setLink n fun l => { l with sent := some ⟨kind, s.modemMac n, dst, run, body⟩ }

/-- The erasure runs of a frame: a run goes on until 64 consecutive samples have stayed below (R160). -/
def erasureRuns (thr : Nat) (high : List (Nat × Nat)) : List (Nat × Nat) := noiseRuns 64 thr high

/-- The samples of a run, the 64 low ones that end it with it (DEDUCED of R160, log 98). -/
def runLength (r : Nat × Nat) : Nat := r.2 + 65 - r.1

/-- What becomes of a received frame (Table 6-1). -/
inductive FrameEnd where
  | taken | undetected | abandoned | retransmit
  deriving DecidableEq, Repr

/-- A frame is received on a lane (R160, R161): an impulse on its preamble leaves it undetected; a run of more than 3,072 samples abandons it; a PB
whose CRC fails is reported in the selective acknowledgement and comes again. Every run of a detected frame is counted. -/
def State.frameIn (s : State) (n : Fin 32) (rx : PlcRx) : FrameEnd × Nat × State :=
  let runs := erasureRuns (s.pf 0x301C 0 12) rx.high
  if runs.any fun r => decide (r.1 < rx.preamble) then (.undetected, runs.length, s)
  else
    let s := s.setLink n fun l => { l with impRuns := min (l.impRuns + runs.length) 65535 }
    if runs.any fun r => decide (3072 < runLength r) then
      (.abandoned, runs.length, s.setLink n fun l => { l with lostFrames := min (l.lostFrames + 1) 65535 })
    else
      let s := s.setLink n fun l => { l with sack := rx.pbs }
      (if rx.pbs.all id then .taken else .retransmit, runs.length, s)

/-- A management message that needs its frame taken whole. -/
def State.mmeIn (s : State) (n : Fin 32) (rx : PlcRx) (act : State → State) : State :=
  if !s.laneEn n then s
  else match s.frameIn n rx with
    | (.taken, _, s) => act (s.note 11 n.val 0)
    | (_, _, s) => s

/-- Change HPHASE and report it (PHASE). -/
def State.phaseTo (s : State) (n : Fin 32) (p : Nat) : State :=
  let old := s.link.lanes[n].phase
  if old == p then s else (s.setLink n fun l => { l with phase := p }).emit (laneRing n) 0x14 n.val p old

/-- Report PROTO, TLS and AUTH (LINK). -/
def State.linkResult (s : State) (n : Fin 32) : State :=
  let l := s.link.lanes[n]
  s.emit (laneRing n) 0x12 n.val l.proto (l.tls + 256 * l.auth)

/-! ## Association -/

/-- A failed attempt (R166, Table 6-3). -/
def State.failAttempt (s : State) (n : Fin 32) : State :=
  let s := ((s.cancelLink n).leaveRuns n none).setLink n fun l => { l.drop with attempt := l.attempt + 1, resends := 0 }
  if s.link.lanes[n].attempt < s.pf 0x3004 28 2 then (s.assocTo n .waitParm).arm .tSlacInit n.val (s.vlkTimer 0 0)
  else ((s.assocTo n .failed).setLane n fun l => { l with assocFailed := true }).drivePilot n

/-- Whether a lane is a candidate for a request that arrives now (R164). -/
def State.mayJoin (s : State) (n : Fin 32) : Bool :=
  let l := s.link.lanes[n]
  (l.assoc == .waitParm || l.assoc == .sounding) && decide (l.fiveFrom ≤ s.now)

/-- The open run of a RunID and MAC. -/
def State.runOf (s : State) (runId : BitVec 64) (mac : BitVec 48) : Option Run :=
  s.link.runs.find? fun r => r.runId == runId && r.mac == mac

/-- An open run replaced. -/
def State.setRun (s : State) (seq : Nat) (f : Run → Run) : State :=
  { s with link := { s.link with runs := s.link.runs.map fun r => if r.seq == seq then f r else r } }

/-! ## The matcher (R170 to R174) -/

/-- The order key of a sound (R169). -/
def Sound.key (x : Sound) : EventKey := ⟨x.stamp, 11, x.lane, x.countdown, 0⟩

/-- The sounds that the matcher consumed up to the event that completed the sounding (R170). -/
def Run.consumed (r : Run) : List Sound :=
  match r.sealKey with
  | some k => r.sounds.filter fun x => keyLe x.key k
  | none => r.sounds

/-- The countdowns of the sounds that count (R171). -/
def Run.counted (r : Run) : List Nat :=
  (((r.consumed.filter fun x => !x.groups.isEmpty).map (·.countdown)).eraseDups).filter fun c => r.consumed.all fun x => x.countdown != c || !x.impulse

/-- The mean attenuation of a lane in 0.5 dB, 255 when it heard no counted sound (R171). -/
def Run.mean (r : Run) (j : Nat) : Nat :=
  let xs := (r.consumed.filter fun x => x.lane == j && r.counted.contains x.countdown).flatMap (·.groups)
  if xs.isEmpty then 255 else (roundDiv (2 * (xs.foldl (· + ·) 0 : Nat)) xs.length).toNat

/-- The averaged profile of the counted sounds of a lane, per group in dB. -/
def Run.profile (r : Run) (j : Nat) : List Nat :=
  let xs := r.consumed.filter fun x => x.lane == j && r.counted.contains x.countdown
  (List.range 58).map fun g => if xs.isEmpty then 0 else (roundDiv ((xs.foldl (fun a x => a + x.groups.getD g 0) 0 : Nat)) xs.length).toNat

/-- The lane of least mean, ties to the lower number. -/
def bestOf (m : Nat → Nat) : List Nat → Option Nat
  | [] => none
  | k :: ks => match bestOf m ks with
    | some b => if m k < m b || (m k == m b && k < b) then some k else some b
    | none => some k

/-- The decision of R172: DETAIL, lane, m[best], second. -/
def State.matchRun (s : State) (r : Run) : Nat × Nat × Nat × Nat :=
  let m := r.mean
  if r.counted.length < s.pf 0x3004 24 4 then (5, 0, 255, 255)
  else match bestOf m r.candidates with
    | none => (1, 0, 255, 255)
    | some b =>
      let second := match bestOf m (r.candidates.filter (· != b)) with | some k => m k | none => 255
      if m b > s.pf 0x3004 8 8 then (2, b, m b, second)
      else if second < m b + s.pf 0x3004 0 8 then (3, b, m b, second)
      else
        let xt := match s.nv.links.xt with | some c => if s.pf 0x3004 30 1 == 1 then c else [] | none => []
        let bad := !xt.isEmpty && allLanes.any fun j => s.laneEn j && j.val != b &&
          decide (m j.val + s.pf 0x3004 16 8 < m b + xt.getD (32 * b + j.val) 255)
        if bad then (4, b, m b, second) else (0, b, m b, second)

/-- A run's sounding is complete by an event (R170): the matcher decides it, from what it consumes up to that event in released order, and returns
the decision later. An event of the same stamp with a smaller key that comes to the hub later takes its place. -/
def State.decideRun (s : State) (seq : Nat) (by_ : EventKey) : State :=
  let s := s.cancel .tMnbc seq
  match s.link.runs.find? (·.seq == seq) with
  | some r =>
    let r := { r with sealKey := match r.sealKey with | some k => if keyLe k by_ then some k else some by_ | none => some by_ }
    let (det, lane, own, second) := s.matchRun r
    s.setRun seq fun _ => { r with decision := some (det, lane, own, second, r.counted.length, (List.range 32).map r.mean) }
  | none => s

/-- A new run (R163): numbered by the stamp of its first request, and at one stamp by its lane. -/
def Link.openRun (k : Link) (runId : BitVec 64) (mac : BitVec 48) (now lane : Nat) : Link :=
  let later := k.runs.filter fun r => r.bornAt == now && decide (lane < r.bornLane)
  let seq := later.foldl (fun a r => min a r.seq) (k.runSeq + 1)
  { k with runSeq := k.runSeq + 1,
           runs := k.runs.map (fun r => if later.contains r then { r with seq := r.seq + 1 } else r) ++
             [{ seq := seq, bornAt := now, bornLane := lane, sealKey := none, runId := runId, mac := mac, candidates := [], sounds := [],
                attenInd := false, decision := none }] }

/-- CM_ATTEN_CHAR.IND goes to the vehicle: the averaged profile and the sounds counted (R174). -/
def State.attenSend (s : State) (n : Fin 32) : State :=
  let l := s.link.lanes[n]
  s.mmeSend n mAttenInd l.evMac l.run (l.profile.map (BitVec.ofNat 8 ·) ++ [BitVec.ofNat 8 l.sounds])

/-- Lanes in A_SOUNDING that are candidates in no open run go back to A_WAIT_PARM (Table 6-3). -/
def State.idleCandidates (s : State) : State :=
  s.forLanes fun s n =>
    if s.link.lanes[n].assoc == .sounding && s.link.runs.all (fun r => !r.candidates.contains n.val) then s.assocTo n .waitParm else s

/-- A decision returns (R170, R173, R174): the run closes. -/
def State.returnRun (s : State) (r : Run) (det lane own second counted : Nat) (ms : List Nat) : State :=
  let s := s.note 11 32 r.seq
  let payload := ms.map (BitVec.ofNat 8 ·)
  let inline := own + 256 * second + 65536 * counted + 2 ^ 24 * (r.seq % 65536)
  let s := { s with link := { s.link with runs := s.link.runs.filter (·.seq != r.seq) } }
  if h : det = 0 ∧ lane < 32 then
    let n : Fin 32 := ⟨lane, h.2⟩
    let s := s.emit (laneRing n) 0x10 lane 0 inline payload
    let s := if s.link.lanes[n].assoc == .sounding then
        let s := ((s.leaveRuns n none).cancel .tSlacInit lane).setLink n fun l =>
          { l with run := r.runId, evMac := r.mac, resends := 0, profile := r.profile lane, own := own, second := second,
                   sounds := counted, lastResult := 0 }
        ((s.attenSend n).assocTo n .waitRsp).arm .tMatchResp lane (s.vlkTimer 1 0)
      else s
    s.idleCandidates
  else
    let ring := match bestOf id r.candidates with
      | some k => if h : k < 32 then laneRing ⟨k, h⟩ else 2
      | none => 2
    let s := s.emit ring 0x10 0xFFFF det inline payload
    let s := s.forLanes fun s n => if r.candidates.contains n.val then s.setLink n fun l => { l with lastResult := det } else s
    s.idleCandidates

/-! ## Receiving a message -/

/-- TCP is closed by the part. -/
def LinkLane.closeTcp (l : LinkLane) : LinkLane := { l with tcp := false, tls := 0 }

/-- A violation that ends the exchange with a code and a vehicle-link stop. -/
def State.refuseMsg (s : State) (n : Fin 32) (m : V2g) (cls kind code : Nat) : State :=
  ((s.violation n cls m.msg.toNat m.raw).reply n kind code m.raw).linkStop n 2

/-- Whether a lane has a connection for high-level messages. -/
def State.linked (s : State) (n : Fin 32) : Bool :=
  s.vlcfg n 0 1 == 1 && s.link.lanes[n].assoc == .matched && s.link.lanes[n].tcp

/-- A message of a kind is received (class 11 at the lane): the checks of Table 6-10 in the order header, length, schema,
repetition, sequence, session; then its own effect. allowed tells whether its phase and state allow it; an identical
repetition is one that they allow no more (log 32). -/
def State.receive (s : State) (n : Fin 32) (m : V2g) (kind : Nat) (allowed needSession : Bool) (act : State → State) : State :=
  if !s.linked n then s
  else
    let l := s.link.lanes[n]
    let s1 := s.note 11 n.val kind
    if m.codecErr then s1.setErr .vlk 2
    else if !m.headerOk || m.length > 16384 then
      let s2 := (s1.violation n (if !m.headerOk then 1 else 2) m.msg.toNat m.raw).setLink n LinkLane.closeTcp
      if l.phase ≥ 4 then s2.linkStop n 2 else s2
    else if !m.schemaOk then
      let s2 := s1.violation n 3 m.msg.toNat m.raw
      (if m.typeKnown then s2.reply n kind rFailed m.raw else s2.setLink n LinkLane.closeTcp).linkStop n 2
    else if !allowed && m.raw == l.lastReq && !m.raw.isEmpty && l.lastOut.isSome then
      (s1.violation n 6 m.msg.toNat m.raw).arm .tSeq n.val (s.vlkTimer 2 16)
    else if !allowed then s1.refuseMsg n m 4 kind rSequence
    else if needSession && m.session != l.session then s1.refuseMsg n m 5 kind rUnknownSession
    else act (s1.cancel .tSeq n.val)

/-- A parameter out of range (class 7): tolerated once a session, then refused. Answers whether the exchange goes on. -/
def State.clampOnce (s : State) (n : Fin 32) (m : V2g) (kind : Nat) (inRange : Bool) : Bool × State :=
  if inRange then (true, s)
  else if s.link.lanes[n].paramClamped then (false, s.refuseMsg n m 7 kind rWrongParam)
  else (true, (s.violation n 7 m.msg.toNat m.raw).setLink n fun l => { l with paramClamped := true })

/-! ## Identity and decision (R180) -/

/-- Whether a lane's identity has been submitted and its decision has not been announced. -/
def State.submitted (s : State) (entry : Nat) : Bool :=
  s.abc.announces.any (fun a => a.kind == 0 && a.target == entry) || s.abc.waiting.any (·.entry == entry)

/-- Whether a purse session on a lane's antenna is between its reservation request and its commit (R203). -/
def State.tokPending (s : State) (n : Fin 32) : Bool :=
  let r := s.tok.readers[n.val / 8]
  r.antenna == n.val % 8 && r.refuse == 0 && (match r.step with | some k => decide (3 ≤ k ∧ k ≤ 7) && !r.committed | none => false)

/-- Whether an identity of a lane awaits a ledger decision (R191, Table 6-12). -/
def State.identWaits (s : State) (n : Fin 32) : Bool :=
  s.link.lanes[n].identPending || s.submitted n.val || s.tokPending n

/-- The ledger's decision reaches a lane's dialogue: it governs T_AUTH; a denial in the AUTH phase is answered FAILED
with a vehicle-link stop. -/
def State.linkDecision (s : State) (n : Fin 32) (granted : Bool) : State :=
  let l := s.link.lanes[n]
  let s := (s.cancel .tAuth n.val).setLink n fun l => { l with identPending := false, authDone := l.authDone || granted }
  if !granted && !l.authDone && l.phase == 4 then (s.say n kAuth rFailed).linkStop n 1 else s

end Sys2Proof.Machine
end

