-- ==== Sys2Proof/Machine/LedgerCmd.lean ====
section
/-!
DEFINITION. The events and commands of the Abacus account ledger (R215 to R246).
-/
namespace Sys2Proof.Machine

open Sys2Proof

/-- The reader of a grant entry 32 to 35. -/
def entryReader (g : Fin 36) : Fin 4 := ⟨(g.val - 32) % 4, Nat.mod_lt _ (by decide)⟩

/-- The lane of a grant entry below 32. -/
def entryLane (g : Fin 36) : Option (Fin 32) := if h : g.val < 32 then some ⟨g.val, h⟩ else none

/-! ## Decisions -/

/-- Whether the VLK_EIM_ID of a lane has not been released yet: its submission comes after that (Table 6-12). -/
def State.eimUnreleased (s : State) (n : Fin 32) : Bool := s.flights.any fun f => f.opcode == 0x31 && f.members.contains n.val && decide (s.now ≤ f.stamp + 8)

/-- R180, R224: a lane's identity submission (class 11) or a reader's reservation request (class 10) is decided, or waits
for READY. A submission settles the VLK_EIM_ID that made it and starts T_AUTH. -/
def execLedgerAuthorise (entry : Fin 36) (ident : Bytes) (method : Fin 4) (purseT purseId purseSeq : Nat)
    (uncorrectable : List Nat) (s : State) : Host.Outcome State Fault Refusal :=
  let fresh := !s.submitted entry.val && !s.frozen
  match entryLane entry with
  | some n =>
    let l := s.link.lanes[n]
    if fresh && (s.grant entry).isNone && l.identPending && l.identity == ident && method.val != 0 && method.val != 3 && !s.eimUnreleased n then
      let t := (s.settleAll 0x31 n.val stOk 0).note 11 n.val 0
      let t := if !t.armed .tAuth n.val then t.arm .tAuth n.val (s.vlkTimer 3 0) else t
      .next (t.requestAuth ⟨entry.val, ident, method.val, 0, 0, 0, uncorrectable⟩)
    else .next s
  | none =>
    let r := s.tok.readers[entryReader entry]
    if fresh && r.awaiting && r.ident == ident && method.val == 3 && purseT == r.t && purseId == r.purseId && purseSeq == r.n then
      .next ((s.note 10 32 (entryReader entry).val).requestAuth ⟨entry.val, ident, 3, purseT, purseId, purseSeq, uncorrectable⟩)
    else .next s

/-- The DECISION result of an announcement (Table 8-6): of an entry, or of the request that got none, with the record its
key finds at this stamp. -/
def State.decisionResult (s : State) (target reason : Nat) (about : Grant) (e : Option Grant) : State :=
  let p := match e with
    | some g => s.ledgerPayload g.key (s.recAt g.slot) (some g)
    | none => s.ledgerPayload about.key (match s.lookup about.key with | some slot => s.recAt slot | none => Rec.empty) (some about)
  s.ledgerResult 0x02 target reason p

/-- DRAM is unavailable at an announcement (R226). -/
def State.lateFault (s : State) : State :=
  (if s.outside then s else s.guaranteeLost 4).setErr .abc 5

/-- What an announcement due at an entry says in the end (R226, R227): its reason and the entry it speaks of; an entry
whose grant is not announced is released. -/
def State.judgeAnnounce (s : State) (g : Fin 36) (reason : Nat) : Nat × Option Grant × State :=
  let e := s.grant g
  if s.ddrDown then (8, e, if reason == 0 then s.lateFault.release g else s.lateFault)
  else if reason != 0 then (reason, none, s)
  else match e with
    | some x => if x.stopped || x.revoked then (9, e, s.release g) else (0, e, s)
    | none => (9, none, s)

/-- The purse whose grant starts a lane's session, none where no token does (R191, R210). -/
def State.starts (s : State) (n : Fin 32) (p : Option Nat) : State := { s with tok := { s.tok with starter := s.tok.starter.set n p } }

/-- R225, R226, R227: the decision due at a lane's entry is announced: a grant reaches a lane in CONNECTED, and is released
where the lane has left it, a token's as an abandoned reservation with the orphan flag. -/
def execLedgerDecisionAnnounce (entry : Fin 36) (s : State) : Host.Outcome State Fault Refusal :=
  match entryLane entry with
  | none => .next s
  | some n =>
    match s.takeAnnounce 0 entry.val with
    | none => .next s
    | some (a, t) =>
      if t.frozen then .next s
      else
        let (reason, e, t) := (t.note 9 n.val 0).judgeAnnounce entry a.reason
        if reason != 0 then .next (State.finish s ((t.decisionResult n.val reason a.about e).linkDecision n false))
        else if t.lanes[n].st != .connected then
          let t := t.decisionResult n.val 0 a.about e
          let t := t.release entry
          .next (State.finish s (match e with
            | some x => if x.method == 3 then t.orphan x n.val else t
            | none => t))
        else
          let e := e.map fun x => { x with announced := true }
          let t := (t.setGrant entry e).decisionResult n.val 0 a.about e
          let t := t.starts n (e.bind fun x => if x.method == 3 then some x.purseId else none)
          .next (State.finish s ((t.grantLane n).linkDecision n true))

/-- R228, R237: a revocation reaches its lane, with the DECISION result REVOKED of an announcement (log 73). -/
def execLedgerRevokeAnnounce (lane : Fin 32) (s : State) : Host.Outcome State Fault Refusal :=
  match s.takeAnnounce 1 lane.val with
  | some (a, t) =>
    if t.frozen then .next s
    else
      let t := (t.note 9 lane.val 1).decisionResult lane.val 9 a.about (t.grant (laneEntry lane))
      .next (State.finish s (t.revokeLane lane))
  | none => .next s

/-- R229: a ceiling STOP reaches its lane. -/
def execLedgerStopAnnounce (lane : Fin 32) (s : State) : Host.Outcome State Fault Refusal :=
  match s.takeAnnounce 2 lane.val with
  | some (_, t) => if t.frozen then .next s else .next (State.finish s ((t.note 9 lane.val 2).stopRequest lane 5))
  | none => .next s

/-- R226: an error that the DRAM controller's retry did not correct makes DRAM unavailable, a fault of R40. -/
def execDdrAlert (recovered : Bool) (s : State) : Host.Outcome State Fault Refusal :=
  if recovered then .next (State.finish s (s.setErr .mgt 6))
  else if s.abc.ddrUnavailable then .next s
  else .next (State.finish s (((s.setAbc fun a => { a with ddrUnavailable := true }).guaranteeLost 4).setErr .mgt 7))

/-! ## Reports and persistence -/

/-- Whether the present tick is a multiple of a period. -/
def State.onMultiple (s : State) (period : Nat) : Bool := period != 0 && s.now % period == 0

/-- R237: the periodic TALLY results, for every account debited since its last one. -/
def execTallyReport (s : State) : Host.Outcome State Fault Refusal :=
  if s.onMultiple (s.pf 0x5014 0 12 * ticksPerS) && !s.frozen then .next (s.abc.debited.foldl (fun s slot => s.tally slot 0 none) s)
  else .next s

/-- R238: the pending table is flushed. -/
def execPendingFlush (s : State) : Host.Outcome State Fault Refusal :=
  if s.onMultiple (s.pf 0x5014 12 14 * ticksPerMs) && s.abc.ready && !s.frozen then .next s.flush else .next s

/-- R239: a journal block is in MRAM. -/
def execJournalBlockComplete (s : State) : Host.Outcome State Fault Refusal :=
  if s.frozen then .next s else .next (State.finish s s.blockDone)

/-- Whether the journal written since the newest complete copy exceeds JFILL % of its region (R240). -/
def State.journalFull (s : State) : Bool :=
  decide (s.pf 0x5018 8 7 * s.nv.jcap < 100 * (s.nv.journal.filter fun b => s.jStart ≤ b.seq).length)

/-- R240: a snapshot starts at a multiple of INTERVAL hours or by the journal's fill (class 14). -/
def execSnapshotStart (s : State) : Host.Outcome State Fault Refusal :=
  if (s.onMultiple (s.pf 0x5018 0 8 * 3600 * ticksPerS) || s.journalFull) && s.abc.ready && s.abc.snap.isNone && !s.frozen then
    .next ((s.note 14 32 8).startSnapshot)
  else .next s

/-- Free a deleted record whose deletion a complete copy holds (R233). -/
def State.freeSlot (s : State) (slot : Nat) : State :=
  if (s.recAt slot).state == 3 then s.putRec slot Rec.empty 2 else s

/-- Blocks of a copy area found bad: they are skipped from now on, and the reserve shrinks (R240). -/
def State.blocksBad (s : State) (area : Fin 2) (bad : List Nat) : State :=
  let fresh := bad.eraseDups.filter (!s.nv.nandBad[area].contains ·)
  let left := s.abc.reserve[area] - fresh.length
  let s := { s with nv := { s.nv with nandBad := s.nv.nandBad.set area (s.nv.nandBad[area] ++ fresh) } }
  let s := s.setAbc fun a => { a with reserve := a.reserve.set area left }
  if !fresh.isEmpty && left == 0 then s.setErr .abc 9 else s

/-- R240: the seal page of the running copy is written, or the copy has failed. Complete, it is the newest copy, frees the slots deleted before it
started, and a flush that was held goes on (R241). bad: the blocks of its area found bad while it was written; uncorrectable: the slots whose reads
met an uncorrectable error (R242). -/
def execSnapshotComplete (ok : Bool) (bad uncorrectable : List Nat) (s : State) : Host.Outcome State Fault Refusal :=
  match if s.frozen then none else s.abc.snap with
  | none => .next s
  | some c =>
    let toB := s.abc.snapB
    let t := (s.blocksBad (if toB then 1 else 0) bad).readSlots (c.image.map (·.1)) uncorrectable
    let t := t.setAbc fun a => { a with snap := none, snapDel := [], snapPct := if ok then 100 else a.snapPct }
    let fl := t.flights.find? (·.opcode == 0x53)
    if ok then
      let done := some { c with sealPage := some (c.gen, Config.sha256 c.body) }
      let t := { t with nv := if toB then { t.nv with snapB := done } else { t.nv with snapA := done } }
      let t := s.abc.snapDel.foldl State.freeSlot (t.setAbc fun a => { a with newestB := toB })
      let t := if t.abc.jheld then (t.setAbc fun a => { a with jheld := false }).flush else t
      .next (match fl with | some f => t.settleFlight f stOk 0 0 | none => t)
    else
      let t := t.setErr .abc 3
      .next (match fl with | some f => t.settleFlight f 0x28 0 0 | none => t)

/-- What the restore finds in NAND and in the journal (Table 8-9): a copy that cannot be read counts as not complete, and sets SNAP_FAIL; a journal
block whose check fails is left out. -/
def State.damaged (s : State) (badA badB : Bool) (badJournal : List Nat) : State :=
  let cut (bad : Bool) (x : Option SnapCopy) : Option SnapCopy := x.map fun c => if bad then { c with sealPage := none } else c
  let hit := (badA && s.nv.snapA.isSome) || (badB && s.nv.snapB.isSome)
  let s := { s with nv := { s.nv with snapA := cut badA s.nv.snapA, snapB := cut badB s.nv.snapB,
                                      journal := s.nv.journal.filter (!badJournal.contains ·.seq) } }
  if hit then s.setErr .abc 3 else s

/-- R244: the restore begins at start-up step 14, with PHASE 7 and DRAM ready. -/
def execLedgerRestoreStart (badA badB : Bool) (badJournal : List Nat) (s : State) : Host.Outcome State Fault Refusal :=
  if s.boot.step != 14 || s.boot.phase != 7 || !s.boot.ddrOk || s.abc.restoring || s.abc.ready || s.frozen then .next s
  else .next (((s.damaged badA badB badJournal).restoreLedger).setAbc fun a => { a with restoring := true })

/-- R244: the restore completes (class 14): READY, and the requests that waited are decided in order. A copy asked for
meanwhile starts. -/
def execLedgerReady (s : State) : Host.Outcome State Fault Refusal :=
  if !s.abc.restoring || s.frozen then .next s
  else
    let t := (s.note 14 32 9).setAbc fun a => { a with restoring := false, ready := true, waiting := [] }
    let t := s.abc.waiting.foldl State.authorise t
    .next (if t.abc.snap.isNone && t.flights.any (·.opcode == 0x53) then t.startSnapshot else t)

/-! ## Commands -/

/-- R235: opcode 0x50 on RING08, batch scope only. OK, STALE and RAISED count as success. -/
def execAbcDelta (d : Desc) (uncorrectable : List (Nat × Nat)) (s : State) : Host.Outcome State Fault Refusal :=
  let u := d.unit.toNat
  .next (s.accept (.abcDelta d uncorrectable) 8 0x50 d (d.scope == 2) (d.len.toNat == 64 * u) (decide (1 ≤ u ∧ u ≤ 1024)) fun s =>
    let (sts, s) := applyDeltas uncorrectable u 0 d.payload s
    s.answerBatch 8 0x50 d (fun c => c == 0x00 || c == 0x20 || c == 0x26) sts)

/-- The payload of a record that could not be read: a free value (log 4). -/
def State.unreadable (s : State) : Bytes × State :=
  let (v, s) := s.draw (256 ^ 64)
  (leBytes 64 v, s)

/-- R245: opcode 0x51. A record whose read meets an uncorrectable error is quarantined (R242), and the figures returned
are a free value (log 4). -/
def execAbcQuery (d : Desc) (uncorrectable : List Nat) (s : State) : Host.Outcome State Fault Refusal :=
  let k := d.param1.toNat
  .next (s.accept (.abcQuery d uncorrectable) 0 0x51 d (d.scope == 0) (d.len.toNat == 64) (d.unit == 0) fun s =>
    if !s.abc.ready then s.answer 0 0x51 d stBusy
    else match s.lookup k with
      | none => s.answer 0 0x51 d 0x22
      | some slot =>
        let s := s.readSlots (slotsOf k) uncorrectable
        let p := s.ledgerPayload k (s.recAt slot) none
        let (p, s) := if uncorrectable.contains slot then s.unreadable else (p, s)
        (s.writeHost d.addr p).answer 0 0x51 d stOk)

/-- The ORPHAN result of a list entry. -/
def State.orphanReport (s : State) (o : Orphan) : State :=
  let r := match s.lookup o.key with | some slot => s.recAt slot | none => Rec.empty
  s.ledgerResult 0x04 o.lane 0 (s.ledgerPayload o.key r (some ⟨0, 3, 0, 0, false, false, false, o.key, o.total, o.purseId, o.seq⟩))

/-- The TALLY of a resync: where the read of its record meets an uncorrectable error, the slot is quarantined (R242) and the figures are free. -/
def State.resyncTally (ues : List Nat) (s : State) (slot : Nat) : State :=
  if ues.contains slot then
    let (p, s) := (s.quarantine slot).unreadable
    s.ledgerResult 0x01 0xFFFF 3 p
  else s.tally slot 3 none

/-- R245: opcode 0x52: a TALLY for every record with UNACK above 0, an ORPHAN for every entry of the list. -/
def execAbcResync (d : Desc) (uncorrectable : List Nat) (s : State) : Host.Outcome State Fault Refusal :=
  .next (s.acceptSingle (.abcResync d uncorrectable) 0x52 d 0 (d.unit == 0) fun s =>
    if !s.abc.ready then s.answer 0 0x52 d stBusy
    else
      let slots := (s.abc.dram.filter fun p => p.2.unack > 0).map (·.1)
      let s1 := slots.foldl (State.resyncTally uncorrectable) s
      let s1 := s.nv.orphans.foldl State.orphanReport s1
      s1.answer 0 0x52 d stOk 0 (slots.length + s.nv.orphans.length))

/-- R245: opcode 0x53. Before READY the copy waits for the restore, whose image it takes. -/
def execAbcSnapshot (d : Desc) (s : State) : Host.Outcome State Fault Refusal :=
  .next (s.acceptSingle (.abcSnapshot d) 0x53 d 0 (d.unit == 0) fun s =>
    if s.abc.snap.isSome || s.flights.any (·.opcode == 0x53) then s.answer 0 0x53 d stBusy
    else
      let s := s.launch 0 0x53 d false [] []
      if s.abc.ready then (s.note 14 32 8).startSnapshot else s)

/-- R245: opcode 0x54: every entry on the key's record is revoked (R228). -/
def execAbcRevoke (d : Desc) (uncorrectable : List Nat) (s : State) : Host.Outcome State Fault Refusal :=
  .next (s.acceptSingle (.abcRevoke d uncorrectable) 0x54 d 0 (d.unit == 0) fun s =>
    let s := s.readSlots (slotsOf d.param1.toNat) uncorrectable
    let (k, s) := match s.lookup d.param1.toNat with
      | some slot => s.revokeSlot slot
      | none => (0, s)
    s.answer 0 0x54 d stOk 0 k)

end Sys2Proof.Machine
end

