-- ==== Sys2Proof/Machine/Token.lean ====
section
/-!
DEFINITION. The contactless tokens (R190 to R214): polling, the steps S0 to S9 of a purse session, collapse and re-tap,
kill, and the token commands.
-/
namespace Sys2Proof.Machine

open Sys2Proof

/-! ## Readers -/

/-- A reader replaced. -/
def State.setReader (s : State) (r : Fin 4) (f : Reader → Reader) : State :=
  { s with tok := { s.tok with readers := s.tok.readers.set r (f s.tok.readers[r]) } }

/-- The lane of a reader's antenna (R190), and of its selected one. -/
def antLane (r : Fin 4) (a : Nat) : Fin 32 := ⟨8 * r.val + a % 8, by have := Nat.mod_lt a (show 0 < 8 by decide); omega⟩
def State.readerLane (s : State) (r : Fin 4) : Fin 32 := antLane r s.tok.readers[r].antenna

/-- The grant entry of a reader (R223). -/
def readerEntry (r : Fin 4) : Fin 36 := ⟨32 + r.val, by omega⟩

/-- A token timer of TOK_TMR0 or TOK_TMR1 in ticks (Table 7-9). -/
def State.tokTimer (s : State) (k lo : Nat) : Nat := s.pf (0x4008 + 4 * k) lo 16 * ticksPerMs

/-- Whether an antenna is eligible (R191). -/
def State.eligible (s : State) (r : Fin 4) (a : Nat) : Bool :=
  let n := antLane r a
  let st := s.lanes[n].st
  (s.prof 0x4004).getLsbD n.val && (s.prof 0x4000).getLsbD r.val &&
    ((st == .connected && !s.heldNow n && !s.lanes[n].grant && !s.identWaits n) ||
      (s.pf 0x4000 6 1 == 1 && s.tok.starter[n].isSome &&
        (st == .authorised || st == .closing || st == .energised || st == .paused || st == .stopping)))

/-- The antenna a reader polls next: the first eligible one after the last (R192). -/
def State.nextAntenna (s : State) (r : Fin 4) : Option Nat :=
  ((List.range 8).map fun i => (s.tok.readers[r].lastPolled + 1 + i) % 8).find? (s.eligible r)

/-! ## Purse data (R199 to R201) -/

/-- K_P of a purse ID. -/
def State.purseKey (s : State) (id : Nat) : Option Nat :=
  (s.keyVal 2).map fun kpm => (Config.aesCmac kpm (leBytes 8 id ++ [1])).toNat

/-- The MAC of a slot: its first four bytes, as a number. -/
def State.slotMac (s : State) (id block : Nat) (body : Bytes) : Option Nat :=
  (s.purseKey id).map fun k => (Config.aesCmac k (leBytes 8 id ++ [BitVec.ofNat 8 block] ++ body)).toNat % 2 ^ 32

/-- A slot as read. -/
def State.readSlot (s : State) (id block : Nat) (b : Bytes) : Purse :=
  { seq := field b 0 4, tally := field b 4 5, hub := field b 9 3,
    valid := b.length == 16 && s.slotMac id block (b.take 12) == some (field b 12 4) }

/-- The bytes of a slot. -/
def State.slotBytes (s : State) (id block seq tally hub : Nat) : Bytes :=
  let body := leBytes 4 seq ++ leBytes 5 tally ++ leBytes 3 hub
  body ++ leBytes 4 ((s.slotMac id block body).getD 0)

/-- Slot resolution (Table 7-4): the code and the current slot. -/
def resolveSlots (p b : Purse) : Nat × Option Purse :=
  if p.valid && b.valid then
    if p == b then (0, some p)
    else if b.seq == p.seq + 1 && p.tally ≤ b.tally then (1, some b)
    else (4, none)
  else if p.valid then (2, some p)
  else if b.valid then (3, some b)
  else (5, none)

/-- The blocks a reader writes in S5 and S8, and writes back in S4. -/
def State.newBlock (s : State) (r : Fin 4) (block : Nat) : Bytes :=
  let x := s.tok.readers[r]
  s.slotBytes x.purseId block (x.n + 1) (x.t + x.g) s.hubId

def State.repairBlock (s : State) (r : Fin 4) : Bytes :=
  let x := s.tok.readers[r]
  s.slotBytes x.purseId 2 x.back.seq x.back.tally x.back.hub

/-- An identity from block 1: trailing zero bytes removed (R215). -/
def stripZeros (b : Bytes) : Bytes := (b.reverse.dropWhile (· == 0)).reverse

/-! ## Results and ends -/

/-- A token result (Tables 7-10, 7-11) from given purse figures. -/
def State.tokSay (s : State) (r : Fin 4) (antenna purseId n t g hub session opcode detail inline : Nat) : State :=
  s.emit 12 opcode (antLane r antenna).val detail inline
    (leBytes 8 purseId ++ leBytes 4 n ++ leBytes 5 t ++ leBytes 5 g ++ [BitVec.ofNat 8 antenna, BitVec.ofNat 8 r.val] ++
      leBytes 4 session ++ leBytes 3 hub ++ zeros 33)

/-- A token result of the present session, and one of a held reservation. -/
def State.tokResult (s : State) (r : Fin 4) (opcode detail inline : Nat) : State :=
  let x := s.tok.readers[r]
  s.tokSay r x.antenna x.purseId x.n x.t x.g x.hub x.sessions opcode detail inline
def State.heldResult (s : State) (r : Fin 4) (h : Held) (detail : Nat) : State :=
  s.tokSay r h.antenna h.purseId h.n h.t h.g h.hub h.session 0x05 detail (h.t + h.g)

/-- The session is over and the field goes off, its UID is forgotten (R197), and the reader polls again. -/
def State.tapOver (s : State) (r : Fin 4) : State :=
  ((s.cancel .tFsess r.val).cancel .tProv r.val).setReader r fun x =>
    { x with step := none, field := false, fieldOff := s.now, awaiting := false, refuse := 0, killHit := false, uid := [],
             rnd := [], sessKey := 0 }

/-- T_REPEAT starts for the purse on its antenna (R210); a purse whose ID was not read has none. -/
def State.repeatGuard (s : State) (r : Fin 4) : State :=
  let x := s.tok.readers[r]
  if x.purseId == 0 then s else s.arm .tRepeat (s.readerLane r).val (s.tokTimer 0 16) x.purseId

/-- REFUSED with a reason ends the session. -/
def State.refuseTap (s : State) (r : Fin 4) (reason : Nat) : State :=
  ((s.tokResult r 0x07 reason 0).repeatGuard r).tapOver r

/-- KILLED ends the session: detail 0 by this part, 1 already killed. -/
def State.killedTap (s : State) (r : Fin 4) (detail : Nat) : State :=
  ((s.tokResult r 0x08 detail 0).repeatGuard r).tapOver r

/-- Withdraw a reader's request and its entry (R227): what waits for READY or for its announcement goes with it, and
T_AUTH of the lane, for which no decision will come (log 38). -/
def State.withdraw (s : State) (r : Fin 4) (orphanFlag : Bool) (lane : Nat) : State :=
  let g := readerEntry r
  let s := (s.cancel .tAuth lane).setAbc fun a => { a with announces := a.announces.filter (fun x => !(x.kind == 0 && x.target == g.val)),
                                                           waiting := a.waiting.filter (·.entry != g.val) }
  s.abandon g orphanFlag lane

/-- Abandon the session's own reservation. -/
def State.withdrawTap (s : State) (r : Fin 4) (orphanFlag : Bool) : State := s.withdraw r orphanFlag (s.readerLane r).val

/-- Abandon a held reservation with an ABANDONED result. -/
def State.dropHeld (s : State) (r : Fin 4) (h : Held) (orphanFlag : Bool) : State :=
  let s := ((s.cancel .tRetap r.val).setReader r fun x => { x with held := none }).withdraw r orphanFlag (antLane r h.antenna).val
  s.heldResult r h (bit orphanFlag)

/-- S7 (R225): the reader's entry moves to the lane's, and the grant is announced TABLE later; an entry revoked before moves too, and is announced
as REVOKED (R227). A lane that has left CONNECTED, or holds an entry, is not charged: the reservation is abandoned with the orphan flag (R209)
and the session ends. -/
def State.commitTap (s : State) (r : Fin 4) : State :=
  let n := s.readerLane r
  let s := s.note 10 32 r.val
  match s.grant (readerEntry r) with
  | some e =>
    if s.lanes[n].st == .connected && (s.grant (laneEntry n)).isNone then
      let s := (s.setGrant (readerEntry r) none).setGrant (laneEntry n) (some { e with announced := false })
      (s.announce s.latTable 0 n.val 0).setReader r fun x => { x with committed := true, step := some 8 }
    else
      let x := s.tok.readers[r]
      ((s.withdrawTap r true).tokResult r 0x05 1 (x.t + x.g)).tapOver r
  | none => s.tapOver r

/-- What follows once the repair, if any, is done: S5, or the refusal that was due. -/
def State.afterRepair (s : State) (r : Fin 4) : State :=
  let x := s.tok.readers[r]
  if x.refuse != 0 then s.refuseTap r x.refuse
  else s.setReader r fun x => { x with step := some 5, written := true }

/-- S4 when Table 7-4 asks for a repair, else straight on (R201). -/
def State.repairOr (s : State) (r : Fin 4) (refuse : Nat) : State :=
  let s := s.setReader r fun x => { x with refuse := refuse, awaiting := false }
  let x := s.tok.readers[r]
  if x.code == 1 || x.code == 3 then s.setReader r fun x => { x with step := some 4 } else s.afterRepair r

/-- A field collapse at the step under way (Table 7-6). asStep: the step reported where S7 was still to be sent. -/
def State.collapse (s : State) (r : Fin 4) : State :=
  let x := s.tok.readers[r]
  let tear (s : State) (step state : Nat) : State :=
    ((s.setReader r fun x => { x with tears := min (x.tears + 1) 65535 }).tokResult r 0x04 step state).tapOver r
  match x.step with
  | none => s
  | some k =>
    if k ≤ 2 then s.refuseTap r 6
    else if k ≤ 4 then if x.refuse != 0 then tear s k 0 else tear (s.withdrawTap r false) k 0
    else if k ≤ 6 then
      let s := s.setReader r fun x => { x with held := some ⟨x.antenna, x.purseId, x.n, x.t, x.g, x.hub, x.sessions⟩ }
      tear (s.arm .tRetap r.val (s.tokTimer 0 0)) k 1
    else if k == 7 && !x.committed then
      let s := s.commitTap r
      if s.tok.readers[r].step.isSome then tear s 8 2 else s
    else tear s k 2

/-- Every reader's session collapses: loss of CK_RFID, block reset of the token readers (R205). -/
def State.collapseAll (s : State) : State := (List.finRange 4).foldl State.collapse s

/-- R207: reservations pending at a chip reset or at a freeze stamp are abandoned, with the orphan flag when S5 had
begun. -/
def State.dropReservations (s : State) : State :=
  (List.finRange 4).foldl (fun s r =>
    let x := s.tok.readers[r]
    let s := match x.held with | some h => s.dropHeld r h true | none => s
    match x.step with
    | some k =>
      if 3 ≤ k && k ≤ 7 && !x.committed && x.refuse == 0 then
        ((s.withdrawTap r x.written).tokResult r 0x05 (bit x.written) (x.t + x.g)).tapOver r
      else s
    | none => s) s

/-! ## Inventory (R194 to R197) -/

/-- A UID as the bits that a PICC sends in anticollision, cascade level by level, the lowest bit of each byte first; a level that is not the last
begins with the cascade tag 0x88 (Table 7-1). The BCC of each level follows from its bytes. -/
def uidBits (uid : Bytes) : List Bool :=
  let levels := if uid.length == 4 then uid else if uid.length == 7 then 0x88 :: uid else 0x88 :: (uid.take 3 ++ 0x88 :: uid.drop 3)
  levels.flatMap fun b => (List.range 8).map b.getLsbD

/-- Anticollision from bit i on: at a collision the bit is set to 1, and the PICCs with 0 there drop out (R196). -/
def anticollide : Nat → Nat → List Bytes → List Bytes
  | 0, _, us => us
  | fuel + 1, i, us =>
    let ones := us.filter fun u => (uidBits u).getD i false
    anticollide fuel (i + 1) (if ones.isEmpty then us else ones)

/-- The PICCs that an inventory round selects, in order: each is halted and the rest go on (R194); equal UIDs answer as one. -/
def inventoryFrom : Nat → List Bytes → List Bytes
  | 0, _ => []
  | fuel + 1, us =>
    match anticollide 96 0 us with
    | [] => []
    | u :: _ => u :: inventoryFrom fuel (us.filter (· != u))
def inventory (us : List Bytes) : List Bytes := inventoryFrom us.length us

/-! ## Purse commands (R198, R199) -/

/-- swap() of R199, and the exclusive OR of two blocks. -/
def swapHalves (b : Bytes) : Bytes := b.drop 8 ++ b.take 8
def xorBytes (a b : Bytes) : Bytes := a.zipWith (· ^^^ ·) b

/-- A purse command in clear: CLA, INS, P1, P2, length and data; P1 and P2 are zero (log 100). -/
def apdu (ins : Byte) (data : Bytes) : Bytes := [0xB7, ins, 0, 0, BitVec.ofNat 8 data.length] ++ data

/-- The data of KILL (Table 7-2). -/
def killMac (key id : Nat) : Nat := cmac8 key (leBytes 8 id ++ [0x4B, 0x49, 0x4C, 0x4C])

/-- What an answer says: its data; a check that fails or the status AUTH_FAIL or INTEGRITY; KILLED; BAD_BLOCK, which the part's own commands
cannot draw and after which it goes on waiting. -/
inductive Heard where
  | data (b : Bytes)
  | wrong
  | killed
  | waits
  deriving DecidableEq, Repr

def Heard.isData : Heard → Bool
  | .data _ => true
  | _ => false
def Heard.bytes : Heard → Bytes
  | .data b => b
  | _ => []

/-- An answer under the session key and the counter of its command. -/
def Reader.hear (x : Reader) (a : TokAns) : Heard :=
  if a.status == 0x7F then .killed
  else if a.status == 0x02 then .waits
  else if a.status != 0 || a.mac != cmac8 x.sessKey (a.cipher ++ [a.status]) then .wrong
  else .data (Config.cbcDecrypt x.sessKey x.cmdCtr a.cipher)

/-- A protected command as sent (R199): data in CBC under the session key with the command counter as IV, and the CMAC over all that goes before it. -/
def Reader.command (x : Reader) (ins : Byte) (data : Bytes) : Bytes :=
  let c := Config.cbcEncrypt x.sessKey x.cmdCtr data
  apdu ins (c ++ leBytes 8 (cmac8 x.sessKey ([0xB7, ins, 0, 0] ++ c)))

/-- A protected command and its answer (R199). A frame without error ends a row of RF errors (R196). -/
def State.exchange (s : State) (r : Fin 4) (ins : Byte) (data : Bytes) (a : TokAns) : Heard × State :=
  let x := s.tok.readers[r]
  (x.hear a, s.setReader r fun x => { x with sent := x.sent ++ [x.command ins data], cmdCtr := x.cmdCtr + 1, rfErrs := 0 })

/-- A reservation of the session that is not committed is withdrawn, with the orphan flag when S5 had begun. -/
def State.dropUncommitted (s : State) (r : Fin 4) : State :=
  let x := s.tok.readers[r]
  match x.step with
  | some k => if 3 ≤ k && !x.committed && x.refuse == 0 then s.withdrawTap r x.written else s
  | none => s

/-! ## Steps -/

/-- R192: a reader polls its next eligible antenna; an ATQA begins a field session and T_FSESS. -/
def execAntennaPoll (reader : Fin 4) (atqa : Bool) (s : State) : Host.Outcome State Fault Refusal :=
  let x := s.tok.readers[reader]
  if x.step.isSome || !s.clocks.ok.getLsbD 2 || s.now < x.fieldOff + ticksPerMs then .next s
  else match s.nextAntenna reader with
    | none => .next s
    | some a =>
      if atqa then
        let t := s.setReader reader fun x =>
          { x with antenna := a, lastPolled := a, field := true, step := some 0, sessions := x.sessions + 1, purseId := 0, ident := [],
                   code := 0, prim := Purse.reset, back := Purse.reset, n := 0, t := 0, g := 0, hub := 0, killHit := false,
                   awaiting := false, refuse := 0, written := false, committed := false, cmdCtr := 0, sent := [], rfErrs := 0 }
        .next (t.arm .tFsess reader.val (s.tokTimer 1 16))
      else .next (s.setReader reader fun x => { x with antenna := a, lastPolled := a, field := false, fieldOff := s.now })

/-- R194, R195: S0 ends: one PICC goes on, with the random values of its authentication drawn; two or more are refused with MULTI. -/
def execInventoryComplete (reader : Fin 4) (uids : List Bytes) (s : State) : Host.Outcome State Fault Refusal :=
  let found := inventory uids
  if s.tok.readers[reader].step != some 0 || found.isEmpty then .next s
  else
    let t := s.note 10 32 reader.val
    match found with
    | [uid] =>
      let (v, t) := t.draw (256 ^ 32)
      .next (t.setReader reader fun x => { x with step := some 1, uid := uid, rnd := leBytes 32 v })
    | _ =>
      let t := t.setReader reader fun x => { x with multi := min (x.multi + 1) 65535 }
      .next ((t.tokResult reader 0x06 (min found.length 255) 0).tapOver reader)

/-- R208: the token has answered KILLED: a reservation that is not committed is withdrawn, and the purse reported. -/
def State.answeredKilled (s : State) (r : Fin 4) : State := (s.dropUncommitted r).killedTap r 1

/-- R199: an answer that fails its check ends the session with REFUSED, reason AUTH. -/
def State.answeredWrong (s : State) (r : Fin 4) : State := (s.dropUncommitted r).refuseTap r 1

/-- A pass of the authentication (R199): the commands it sends, and the session key if the token proves the key. -/
def authPass (number : Byte) (key : Option Nat) (rndA : Bytes) (a : TokAuth) : List Bytes × Option Nat :=
  match key with
  | none => ([], none)
  | some k =>
    let rndB := Config.aesDecrypt k a.challenge
    let ok := a.status == 0 && a.proof == Config.aesEncrypt k (xorBytes rndB (swapHalves rndA))
    ([apdu 0x10 [number], apdu 0x11 (Config.aesEncrypt k rndA ++ Config.aesEncrypt k (xorBytes rndA rndB))],
      if ok then some (field (Config.aesEncrypt k (rndA.take 8 ++ rndB.drop 8)) 0 16) else none)

/-- A pass done at a reader: its commands are sent, and its session key and a fresh command counter stand. -/
def State.passDone (s : State) (r : Fin 4) (p : List Bytes × Option Nat) : State :=
  s.setReader r fun x => { x with sent := x.sent ++ p.1, sessKey := p.2.getD 0, cmdCtr := 0 }

/-- R199, R208, R210: S1 ends: the first pass and block 0, with its version and CRC (log 36), then the second pass. A missing key fails its pass. A
purse under T_REPEAT ends the session without a report. -/
def execAuthenticationComplete (reader : Fin 4) (first second : TokAuth) (block0 : TokAns) (s : State) : Host.Outcome State Fault Refusal :=
  let x := s.tok.readers[reader]
  if x.step != some 1 then .next s
  else
    let t := s.note 10 32 reader.val
    if first.status == 0x7F then .next (t.answeredKilled reader)
    else
      let p1 := authPass 0 (s.keyVal 1) (x.rnd.take 16) first
      let t := t.passDone reader p1
      if p1.2.isNone then .next (t.answeredWrong reader)
      else
        let (h, t) := t.exchange reader 0x20 [0] block0
        match h with
        | .waits => .next s
        | .killed => .next (t.answeredKilled reader)
        | .wrong => .next (t.answeredWrong reader)
        | .data b =>
          if !(b.length == 16 && field b 0 1 == 1 && (crc32 (b.take 12)).toNat == field b 12 4) then .next (t.answeredWrong reader)
          else
            let id := field b 1 8
            let t := t.setReader reader fun x => { x with purseId := id }
            if t.armed .tRepeat (t.readerLane reader).val id then .next (t.tapOver reader)
            else if second.status == 0x7F then .next (t.answeredKilled reader)
            else
              let p2 := authPass 1 (s.purseKey id) (x.rnd.drop 16) second
              let t := t.passDone reader p2
              if p2.2.isNone then .next (t.answeredWrong reader)
              else .next (t.setReader reader fun x => { x with step := some 2, killHit := s.nv.links.kill.contains id })

/-- The reservation request of S3 (R203): T_PROV, and T_AUTH of the lane. -/
def State.reserve (s : State) (r : Fin 4) : State :=
  let n := s.readerLane r
  ((s.setReader r fun x => { x with step := some 3, awaiting := true }).arm .tProv r.val (s.tokTimer 1 0)).arm .tAuth n.val (s.vlkTimer 3 0)

/-- R206: a purse returns to the antenna on which its reservation is held. -/
def State.retap (s : State) (r : Fin 4) (h : Held) (landed : Bool) : State :=
  let x := s.tok.readers[r]
  let s := (s.cancel .tRetap r.val).setReader r fun x => { x with held := none }
  if landed then
    s.setReader r fun x => { x with n := h.n, t := h.t, g := h.g, written := true, step := some 7 }
  else if x.code < 4 && x.n == h.n && x.t == h.t then
    (s.setReader r fun x => { x with g := h.g }).repairOr r 0
  else
    let s := s.dropHeld r h false
    if x.code ≥ 4 then s.refuseTap r (x.code - 2) else s.reserve r

/-- What S2 makes of the blocks read. On a lane whose session a token started, only that purse is reported, as TAP_STOP (log 37). -/
def State.slotsRead (s : State) (r : Fin 4) (block1 block2 block3 : Bytes) : State :=
  let x := s.tok.readers[r]
  let n := s.readerLane r
  let b := s.readSlot x.purseId 3 block3
  let (code, cur) := resolveSlots (s.readSlot x.purseId 2 block2) b
  let v := cur.getD Purse.reset
  let t := s.note 10 32 r.val
  if s.lanes[n].st != .connected && s.tok.starter[n].isSome then
    (if s.tok.starter[n] == some x.purseId && s.pf 0x4000 6 1 == 1 then
      (t.setReader r fun x => { x with n := v.seq, t := v.tally, hub := v.hub }).tokResult r 0x09 0 0 else t).tapOver r
  else
    let t := t.setReader r fun x => { x with ident := stripZeros (block1.take 16), prim := s.readSlot x.purseId 2 block2, back := b, code := code,
                                             n := v.seq, t := v.tally, hub := v.hub }
    let t := t.tokResult r 0x01 code v.tally
    match x.held with
    | some h =>
      if h.purseId == x.purseId && h.antenna == x.antenna then
        t.retap r h (b.valid && code < 4 && b.seq == h.n + 1 && b.tally == h.t + h.g)
      else if code ≥ 4 then t.refuseTap r (code - 2) else t.reserve r
    | none => if code ≥ 4 then t.refuseTap r (code - 2) else t.reserve r

/-- What follows the answers to the commands of a step, in order: the first that says KILLED or fails its check decides; one that says BAD_BLOCK
leaves the step as it was. -/
def State.answered (before s : State) (r : Fin 4) (hs : List Heard) (f : List Bytes → State → State) : State :=
  match hs.find? (fun h => !h.isData) with
  | some .killed => (s.note 10 32 r.val).answeredKilled r
  | some .wrong => (s.note 10 32 r.val).answeredWrong r
  | some _ => before
  | none => f (hs.map Heard.bytes) s

/-- R201, R206, R208, R210: S2 ends: blocks 1, 2 and 3 are read and the slots resolved. -/
def execSlotsResolved (reader : Fin 4) (block1 block2 block3 : TokAns) (s : State) : Host.Outcome State Fault Refusal :=
  let x := s.tok.readers[reader]
  if x.step != some 2 || x.killHit then .next s
  else
    let (h1, t) := s.exchange reader 0x20 [1] block1
    let (h2, t) := t.exchange reader 0x20 [2] block2
    let (h3, t) := t.exchange reader 0x20 [3] block3
    .next (s.answered t reader [h1, h2, h3] fun bs t => t.slotsRead reader (bs.getD 0 []) (bs.getD 1 []) (bs.getD 2 []))

/-- R208: the token answers KILL, or answers any command with KILLED. Another answer to KILL ends the session with REFUSED, reason KILLED. -/
def execKillResponse (reader : Fin 4) (answer : TokAns) (s : State) : Host.Outcome State Fault Refusal :=
  let x := s.tok.readers[reader]
  match x.step with
  | none => .next s
  | some k =>
    if k == 0 then .next s
    else
      let t := s.note 10 32 reader.val
      if answer.status == 0x7F then .next (t.answeredKilled reader)
      else if k == 2 && x.killHit then
        let (h, t) := t.exchange reader 0x30 (leBytes 8 (killMac ((s.purseKey x.purseId).getD 0) x.purseId)) answer
        .next (match h with
          | .data _ => t.killedTap reader 0
          | _ => t.refuseTap reader 9)
      else .next s

/-- R203, R204: the reservation answer (class 9) reaches the engine. A denial is the lane's ledger denial; an overflow of
the purse TALLY abandons the reservation. -/
def execReservationAnswer (reader : Fin 4) (s : State) : Host.Outcome State Fault Refusal :=
  let g := readerEntry reader
  match s.takeAnnounce 0 g.val with
  | none => .next s
  | some (a, t) =>
    if t.frozen || !t.tok.readers[reader].awaiting then .next s
    else
      let (reason, e, t) := (t.note 9 32 reader.val).judgeAnnounce g a.reason
      let t := (t.decisionResult g.val reason a.about e).cancel .tProv reader.val
      match reason, e with
      | 0, some x =>
        if t.tok.readers[reader].t + x.g > 2 ^ 40 - 1 then .next ((t.withdrawTap reader false).repairOr reader 5)
        else
          let t := (t.setReader reader fun y => { y with g := x.g }).tokResult reader 0x02 0 x.g
          .next (t.repairOr reader 0)
      | _, _ => .next (State.finish s ((t.linkDecision (t.readerLane reader) false).repairOr reader 4))

/-- R201: S4 ends: the primary slot is written with the backup's contents and reads so. -/
def execRepairComplete (reader : Fin 4) (written readBack : TokAns) (s : State) : Host.Outcome State Fault Refusal :=
  if s.tok.readers[reader].step != some 4 then .next s
  else
    let block := s.repairBlock reader
    let (h1, t) := s.exchange reader 0x21 (2 :: block) written
    let (h2, t) := t.exchange reader 0x20 [2] readBack
    .next (s.answered t reader [h1, h2] fun bs t =>
      if bs.getD 1 [] != block then s
      else
        let t := (t.note 10 32 reader.val).setReader reader fun x => { x with prim := x.back }
        (t.tokResult reader 0x0A t.tok.readers[reader].code t.tok.readers[reader].t).afterRepair reader)

/-- R202: S5 ends: the backup slot is written with SEQ n + 1 and TALLY T + G. -/
def execBackupWritten (reader : Fin 4) (answer : TokAns) (s : State) : Host.Outcome State Fault Refusal :=
  if s.tok.readers[reader].step != some 5 then .next s
  else
    let (h, t) := s.exchange reader 0x21 (3 :: s.newBlock reader 3) answer
    .next (s.answered t reader [h] fun _ t => (t.note 10 32 reader.val).setReader reader fun x => { x with step := some 6 })

/-- R202, R209: S6 ends when the backup reads as written. A lane that has left CONNECTED is not charged. -/
def execBackupVerified (reader : Fin 4) (answer : TokAns) (s : State) : Host.Outcome State Fault Refusal :=
  if s.tok.readers[reader].step != some 6 then .next s
  else
    let (h, t) := s.exchange reader 0x20 [3] answer
    .next (s.answered t reader [h] fun bs t =>
      if bs.getD 0 [] != s.newBlock reader 3 then s
      else
        let t := t.note 10 32 reader.val
        let x := t.tok.readers[reader]
        if t.lanes[t.readerLane reader].st == .connected then t.setReader reader fun x => { x with step := some 7 }
        else ((t.withdrawTap reader true).tokResult reader 0x05 1 (x.t + x.g)).tapOver reader)

/-- R202, R225: S7. -/
def execPurseCommit (reader : Fin 4) (s : State) : Host.Outcome State Fault Refusal :=
  if s.tok.readers[reader].step != some 7 || s.tok.readers[reader].committed || s.frozen then .next s else .next (s.commitTap reader)

/-- R202: S8 ends: the primary slot is written with the backup's contents. -/
def execPrimaryWritten (reader : Fin 4) (answer : TokAns) (s : State) : Host.Outcome State Fault Refusal :=
  if s.tok.readers[reader].step != some 8 then .next s
  else
    let (h, t) := s.exchange reader 0x21 (2 :: s.newBlock reader 2) answer
    .next (s.answered t reader [h] fun _ t => (t.note 10 32 reader.val).setReader reader fun x => { x with step := some 9 })

/-- R202, R210: S9 ends: the primary reads as written; COMMITTED, deselect and field off. -/
def execPrimaryVerified (reader : Fin 4) (answer : TokAns) (s : State) : Host.Outcome State Fault Refusal :=
  if s.tok.readers[reader].step != some 9 then .next s
  else
    let (h, t) := s.exchange reader 0x20 [2] answer
    .next (s.answered t reader [h] fun bs t =>
      if bs.getD 0 [] != s.newBlock reader 2 then s
      else
        let x := s.tok.readers[reader]
        (((t.note 10 32 reader.val).tokResult reader 0x03 0 (x.t + x.g)).repeatGuard reader).tapOver reader)

/-- R196, R205: the token is lost at the step under way; frameError: a frame of the token has failed its CRC or its framing, and the third in a row
ends the session with REFUSED, reason RF_ERROR. -/
def execFieldCollapse (reader : Fin 4) (frameError : Bool) (s : State) : Host.Outcome State Fault Refusal :=
  let x := s.tok.readers[reader]
  if x.step.isNone then .next s
  else if !frameError then .next ((s.note 10 32 reader.val).collapse reader)
  else if x.rfErrs < 2 then .next (s.setReader reader fun x => { x with rfErrs := x.rfErrs + 1 })
  else .next (((s.note 10 32 reader.val).dropUncommitted reader).refuseTap reader 7)

/-! ## Timers (Table 7-9) -/

/-- No answer in T_PROV: the request is withdrawn and the session ends, after a repair that is due. -/
def execTProvExpiry (reader : Fin 4) (s : State) : Host.Outcome State Fault Refusal :=
  if !s.expired .tProv reader.val then .next s
  else
    let t := s.expire .tProv reader.val
    if !t.tok.readers[reader].awaiting then .next t
    else .next ((t.withdrawTap reader false).repairOr reader 8)

/-- The session collapses at its step. -/
def execTFsessExpiry (reader : Fin 4) (s : State) : Host.Outcome State Fault Refusal :=
  if s.expired .tFsess reader.val then .next ((s.expire .tFsess reader.val).collapse reader) else .next s

/-- R206: the held reservation is abandoned with the orphan flag. -/
def execTRetapExpiry (reader : Fin 4) (s : State) : Host.Outcome State Fault Refusal :=
  if !s.expired .tRetap reader.val then .next s
  else
    let t := s.expire .tRetap reader.val
    match t.tok.readers[reader].held with
    | some h => .next (t.dropHeld reader h true)
    | none => .next t

/-- R210: the purse is accepted again on the antenna. -/
def execTRepeatExpiry (lane : Fin 32) (purse : Nat) (s : State) : Host.Outcome State Fault Refusal :=
  if s.expired .tRepeat lane.val purse then .next (s.expire .tRepeat lane.val purse) else .next s

/-! ## Commands (Table 7-12) -/

/-- Purse IDs of 8 bytes each. -/
def ids8 : Nat → Bytes → List Nat
  | 0, _ => []
  | n + 1, bs => field bs 0 8 :: ids8 n (bs.drop 8)

/-- R213: opcode 0x40 replaces the kill list in MRAM. -/
def execTokKillList (d : Desc) (s : State) : Host.Outcome State Fault Refusal :=
  let len := d.len.toNat
  .next (s.accept (.tokKillList d) 0 0x40 d (d.scope == 0) (len % 8 == 0 && len ≤ 32768) (d.unit == 0) fun s =>
    ({ s with nv := { s.nv with links := { s.nv.links with kill := ids8 (len / 8) d.payload } } } : State).answer 0 0x40 d stOk)

/-- ANT_OPEN and ANT_OVER limits in mA (Table 20-11, typical: log 27). -/
abbrev antOpenMa : Nat := 20
abbrev antOverMa : Nat := 300

/-- R213: opcode 0x41. currentMa: the driver current measured with the field on, against the limits of Table 20-11. -/
def execTokAntTest (d : Desc) (currentMa : Nat) (s : State) : Host.Outcome State Fault Refusal :=
  .next (s.accept (.tokAntTest d currentMa) 0 0x41 d (d.scope == 0) (d.len == 0) true fun s =>
    match unitLane d with
    | none => s.answer 0 0x41 d stBadUnit
    | some n =>
      let x := s.tok.readers[n.val / 8]
      if x.step.isSome && x.antenna == n.val % 8 then s.answer 0 0x41 d stBusy
      else
        let kind := if currentMa < antOpenMa then 1 else if currentMa ≥ antOverMa then 2 else 0
        let s := if kind == 1 then s.setErr .tok 1 else if kind == 2 then s.setErr .tok 2 else s
        s.answer 0 0x41 d stOk 0 (min currentMa 65535 + 65536 * kind))

end Sys2Proof.Machine
end

