-- ==== Sys2Proof/Machine/Keys.lean ====
section
/-!
DEFINITION. Keys, attestation and identity (R418 to R438): the root, tamper, the random generator, key update messages,
attestation.
-/
namespace Sys2Proof.Machine

open Sys2Proof

/-! ## Root and derived keys -/

/-- The keys replaced. -/
def State.setKeys (s : State) (f : Keys → Keys) : State := { s with keys := f s.keys }

/-- KEY_STAT.ROOT: 0 absent, 1 READY, 2 GENERATING, 3 EXHAUSTED: no root, and no fuse left to make one (log 41). -/
def State.rootStat (s : State) : Nat :=
  if s.keys.generating then 2 else if s.island.root.isSome then 1 else if s.fuses.epoch ≥ 64 then 3 else 0

/-- The epoch of every context: 0xFF in debug (R427). -/
def State.keyEpoch (s : State) : Nat := if s.keys.debug then 0xFF else s.fuses.epoch

/-- The bytes of an ASCII label. -/
def asciiBytes (l : String) : Bytes := l.toList.map fun c => BitVec.ofNat 8 c.toNat

/-- The root in use: in debug the test root (R427). -/
def State.rootInUse (s : State) : Nat :=
  if s.keys.debug then (Config.sha256 (asciiBytes "TSU-3272 TEST ROOT" ++ leBytes 8 s.fuses.dieIdD.toNat)).toNat
  else s.keys.rootReg.getD 0

/-- The KDF input of R426 for one counter value and n output bytes. -/
def kdfInput (i n : Nat) (label : String) (context : Bytes) : Bytes := beBytes 4 i ++ asciiBytes label ++ [0] ++ context ++ beBytes 4 (8 * n)

/-- The first n bytes of the counter-mode KDF with HMAC-SHA-384 as PRF (R426). -/
def kdf (key : Nat) (label : String) (context : Bytes) (n : Nat) : Bytes :=
  (((List.range (ceilDiv n 48)).flatMap fun i => beBytes 48 (Config.hmacSha384 key (kdfInput (i + 1) n label context)).toNat)).take n

/-- The context of a derived key: the D-die ID and the epoch (R426). -/
def State.keyContext (s : State) : Bytes := leBytes 8 s.fuses.dieIdD.toNat ++ leBytes 1 s.keyEpoch

/-- The order of P-521, as the curve's standard gives it. -/
def p521Order : Nat :=
  0x01FFFFFFFFFFFFFFFFFFFFFFFFFFFFFFFFFFFFFFFFFFFFFFFFFFFFFFFFFFFFFFFFFFFA51868783BF2F966B7FCC0148F709A5D03BB5C9B8899C47AEBB6FB71E91386409

/-- A derived P-521 scalar (R426). -/
def State.derivedScalar (s : State) (label : String) : Nat := beNat (kdf s.rootInUse label s.keyContext 80) % (p521Order - 1) + 1

/-- STORE (Table 15-3). -/
def State.storeKey (s : State) : Nat := beNat (kdf s.rootInUse "TSU STORE" s.keyContext 32)

/-- KEK of a key update message (R431): its ephemeral public key and its counter. -/
def State.kek (s : State) (ephemeral : Bytes) (counter : Nat) : Nat :=
  beNat (kdf (Config.ecdh (s.derivedScalar "TSU TRANSPORT") ephemeral) "KUPD" (leBytes 8 s.fuses.dieIdD.toNat ++ leBytes 8 counter) 32)

/-- The cause of a sign, as KEY_TAMP numbers it (Table 15-13). -/
def tamperCause : TamperSign → Nat
  | .mesh loop _ _ => loop.val
  | .caseSwitch => 2
  | .temperature _ _ => 3
  | .glitch _ _ => 4

/-- Whether a sign zeroises (Table 15-1), with the typical limits of Table 20-15 (log 27): two mismatches in a row, two samples below −55 °C or above
160 °C, VBAT outside 1.8 … 4.1 V or the internal supply outside its window for longer than 100 ns. -/
def State.tampered (s : State) : TamperSign → Bool
  | .mesh _ previous last => previous && last
  | .caseSwitch => s.island.caseTrig
  | .temperature previous last => [previous, last].all fun c => decide (c < -55 ∨ 160 < c)
  | .glitch vbatMv ns => decide (100 < ns) && vbatMv.all fun v => decide (v < 1800 ∨ 4100 < v)

/-- The class 2 index of a trigger (Table 15-1): 0 and 1 mesh, 2 case, 3 temperature, 4 glitch. -/
def tamperIndex (t : Nat) : Nat := match t with | 0 => 6 | 1 => 7 | 2 => 5 | 3 => 8 | _ => 9

/-- Root generation begins when a fuse is left (R419, R420). -/
def State.startRoot (s : State) : State := s.setKeys fun k => { k with generating := decide (s.fuses.epoch < 64), rootReg := none }

/-- The event zeroisation (class 2, index 10): key RAM is cleared, a key update that was under way ends with NO_ROOT, and
root generation begins (R423, R436). -/
def State.zeroised (s : State) : State :=
  let s := (s.note 2 32 10).setKeys fun k => { k with keys := [], pendingMsg := none }
  let s := match s.flights.find? (·.opcode == 0xB1) with | some f => s.settleFlight f 0x26 0 0 | none => s
  (s.setErr .key 3).startRoot

/-- R422, R423: a trigger clears the root and records its cause. The case trigger is the book's qualified opening. While the
part is not powered the cause waits in the island for step 10. -/
def execTamperTrigger (sign : TamperSign) (s : State) : Host.Outcome State Fault Refusal :=
  let c := tamperCause sign
  if !s.tampered sign then .next s
  else
    let t := { s with island := { s.island with root := none, tamp := setBitR s.island.tamp c, tampSec := s.island.rtcSec,
                                                caseTrig := s.island.caseTrig && c != 2 } }
    if s.htcLoaded then .next ((if c == 2 then t else t.note 2 32 (tamperIndex c)).zeroised)
    else .next { t with island := { t.island with unpoweredCauses := t.island.unpoweredCauses ++ [c] } }

/-- R419: the generation completes: the next epoch fuse is blown, the root drawn, both key copies zeroed, and the key-update
TALLY of the new epoch starts at 0. It needs the generator (R425). -/
def execRootGenerationComplete (s : State) : Host.Outcome State Fault Refusal :=
  if !s.keys.generating || !s.keys.rngOk then .next s
  else
    let (v, t) := s.draw (2 ^ 256)
    let t := { t with fuses := { t.fuses with epoch := t.fuses.epoch + 1 }, nv := { t.nv with keyA := none, keyB := none },
                      island := { t.island with root := some v, integrity := true, keyTally := 0 } }
    let t := t.setKeys fun k => { k with generating := false, rootReg := some v }
    .next (if t.fuses.epoch ≥ 60 then t.setErr .key 4 else t)

/-- R425: a health test of the entropy source fails. -/
def execRngHealthFail (s : State) : Host.Outcome State Fault Refusal := .next ((s.setErr .key 0).setKeys fun k => { k with rngOk := false })

/-- R425: a fresh block of 4,096 samples has passed both tests. -/
def execRngRecover (samples : Nat) (s : State) : Host.Outcome State Fault Refusal :=
  if samples ≥ 4096 then .next (s.setKeys fun k => { k with rngOk := true }) else .next s

/-! ## Copies (R429) -/

/-- The bytes of a key copy (R429): the header, and each key wrapped under STORE; the order and widths of the header's fields are the model's
(log 116). -/
def KeyCopy.bytes (c : KeyCopy) (store : Nat) : Bytes :=
  leBytes 4 0x5359454B ++ leBytes 4 c.gen ++ leBytes 8 c.counter ++ leBytes 1 c.epoch ++ zeros 15 ++
    c.keys.flatMap fun k => BitVec.ofNat 8 k.id :: Config.keyWrap store k.value

/-- The trailer of a key copy: the HMAC-SHA-256 under STORE of everything before it (R429). -/
def KeyCopy.mac (c : KeyCopy) (store : Nat) : BitVec 256 := Config.hmacSha256 store (c.bytes store)

/-- Whether a copy's trailer is valid under the root in use (R429). In debug no copy passes its check (R427). -/
def State.keyCopyOk (s : State) (c : KeyCopy) : Bool := !s.keys.debug && c.trailer == some (c.mac s.storeKey)

/-- Write a copy over the older one. -/
def State.putKeyCopy (s : State) (c : KeyCopy) : State :=
  let overB := match s.nv.keyA, s.nv.keyB with
    | some a, some b => if a.trailer.isSome && b.trailer.isSome then decide (b.gen < a.gen) else a.trailer.isSome
    | some a, none => a.trailer.isSome
    | none, _ => false
  { s with nv := if overB then { s.nv with keyB := some c } else { s.nv with keyA := some c } }

/-- The newest key copy whose trailer is valid. -/
def State.newestKeyCopy (s : State) : Option KeyCopy :=
  match s.nv.keyA.filter s.keyCopyOk, s.nv.keyB.filter s.keyCopyOk with
  | some a, some b => some (if b.gen < a.gen then a else b)
  | some a, none => some a
  | none, b => b

/-- R429: what step 10 of start-up loads; without a root, or with another epoch's, no key can be unwrapped. -/
def State.loadKeys (s : State) : State :=
  match s.newestKeyCopy with
  | some c =>
    if c.epoch != s.fuses.epoch || s.island.root.isNone then s.setErr .key 2
    else { (s.setKeys fun k => { k with keys := c.keys }) with island := { s.island with keyTally := max s.island.keyTally c.counter } }
  | none => s.setErr .key 2

/-! ## Key update messages (R430 to R433) -/

/-- Owner slots programmed, revoked, and the active one (R430). -/
def State.ownerProg (s : State) : Nat := ((List.finRange 4).map fun i => if s.fuses.owners[i].isSome then 2 ^ i.val else 0).foldl (· + ·) 0
def State.ownerActive (s : State) : Option (Fin 4) := (List.finRange 4).find? fun i => s.fuses.owners[i].isSome && !s.fuses.revoked.getLsbD i.val

/-- An entry of a message (Table 15-6). -/
structure KeyOp where
  op : Nat
  id : Nat
  body : Bytes
  deriving DecidableEq, Repr

/-- The entries of a message. -/
def keyOps : Nat → Bytes → List KeyOp
  | 0, _ => []
  | n + 1, bs => ⟨field bs 0 1, field bs 1 1, (bs.drop 8).take 88⟩ :: keyOps n (bs.drop 96)

/-- The identifiers of origin installed and generated (Table 15-4). -/
def isInstalledId (i : Nat) : Bool := 1 ≤ i && i ≤ 7
def isGeneratedId (i : Nat) : Bool := 0x10 ≤ i && i ≤ 0x12

/-- Keys in order of their identifiers, with one set or deleted. -/
def keyPut : List KeyEntry → Nat → Option Nat → List KeyEntry
  | [], i, v => match v with | some x => [⟨i, x⟩] | none => []
  | k :: ks, i, v =>
    if k.id < i then k :: keyPut ks i v
    else
      let rest := if k.id == i then ks else k :: ks
      match v with | some x => ⟨i, x⟩ :: rest | none => rest

/-- What the entries of a message have gathered so far. -/
structure KeyWork where
  keys : List KeyEntry
  prog : List (Nat × BitVec 384)
  revoke : List Nat
  lock : Bool
  generated : List Nat
  deriving DecidableEq, Repr

/-- One entry: its effect, or the status that refuses it (R432, check 8). programs: the message programs a slot. -/
def State.keyEntry (s : State) (kek slot : Nat) (programs : Bool) (w : KeyWork) (e : KeyOp) : Except Nat KeyWork :=
  let programmed (i : Nat) : Bool := (if h : i < 4 then s.fuses.owners[i].isSome else false) || w.prog.any (·.1 == i)
  match e.op with
  | 1 =>
    match Config.keyUnwrap kek e.body with
    | some (v, len) => if isInstalledId e.id && len == 16 then .ok { w with keys := keyPut w.keys e.id (some v) } else .error 0x25
    | none => .error 0x25
  | 2 => if isInstalledId e.id || isGeneratedId e.id then .ok { w with keys := keyPut w.keys e.id none, generated := w.generated.filter (· != e.id) } else .error 0x25
  | 3 => if isGeneratedId e.id then .ok { w with keys := keyPut w.keys e.id (some 0), generated := w.generated.filter (· != e.id) ++ [e.id] } else .error 0x25
  | 4 =>
    if s.keys.debug then .error 0x2A
    else if e.id < 4 && (List.range 4).all (fun i => i < e.id || !programmed i) then
      .ok { w with prog := w.prog ++ [(e.id, BitVec.ofNat 384 (field e.body 0 48))] }
    else .error 0x25
  | 5 => if programmed e.id && (e.id != slot || programs) then .ok { w with revoke := w.revoke ++ [e.id] } else .error 0x25
  | 6 => if s.keys.debug then .error 0x2A else .ok { w with lock := true }
  | _ => .error 0x25

/-- All entries in order: the work, or the index and status of the first bad one. -/
def State.keyEntries (s : State) (kek slot : Nat) (programs : Bool) : Nat → KeyWork → List KeyOp → Except (Nat × Nat) KeyWork
  | _, w, [] => .ok w
  | i, w, e :: es =>
    match s.keyEntry kek slot programs w e with
    | .ok w => s.keyEntries kek slot programs (i + 1) w es
    | .error st => .error (i, st)

/-- Generated values take free values, in order of generation. -/
def drawKeys : List Nat → List KeyEntry → State → List KeyEntry × State
  | [], ks, s => (ks, s)
  | i :: is, ks, s =>
    let (v, s) := s.draw (2 ^ 521)
    drawKeys is (keyPut ks i (some v)) s

/-- R431 to R433: opcode 0xB1. A second message while one waits for its switch completes with BUSY (log 43). -/
def execKeyUpdate (d : Desc) (s : State) : Host.Outcome State Fault Refusal :=
  .next (s.accept (.keyUpdate d) 0 0xB1 d (d.scope == 0) true (d.unit == 0) fun s =>
    let p := d.payload
    let m := field p 7 1
    let slot := field p 6 1
    let tail := 197 + 96 * m
    let owner := (p.drop tail).take 133
    let counter := field p 24 8
    let tally := if s.keys.debug then s.keys.debugCounter else s.island.keyTally
    let no (st inline : Nat) (s : State) : State := s.answer 0 0xB1 d st 0 inline
    if !(1 ≤ m && m ≤ 16) || d.len.toNat != 462 + 96 * m then no stBadLen 0 s
    else if s.rootStat == 2 || s.keys.pendingMsg.isSome then no stBusy 0 s
    else if s.rootStat != 1 then no 0x26 0 s
    else if !(if h : slot < 4 then s.fuses.owners[slot] == some (Config.sha384 owner) && !s.fuses.revoked.getLsbD slot else false) then no 0x24 0 s
    else if !Config.ecdsaVerify owner (p.take (tail + 133)) ((p.drop (tail + 133)).take 132) then no 0x20 0 (s.setErr .key 1)
    else if field p 8 8 != s.fuses.dieIdD.toNat then no 0x21 0 s
    else if field p 16 1 != s.keyEpoch then no 0x22 0 s
    else if counter ≤ tally then no 0x23 0 s
    else
      let ops := keyOps m ((p.drop 197).take (96 * m))
      let kek := s.kek ((p.drop 64).take 133) counter
      match s.keyEntries kek slot (ops.any (·.op == 4)) 0 ⟨s.keys.keys, [], [], false, []⟩ ops with
      | .error (i, st) => no st (if st == 0x25 then i else 0) s
      | .ok w =>
        if !s.keys.rngOk && !w.generated.isEmpty then no 0x29 0 s
        else
          let (ks, s) := drawKeys w.generated w.keys s
          let gen := 1 + max (match s.nv.keyA with | some c => c.gen | none => 0) (match s.nv.keyB with | some c => c.gen | none => 0)
          let s1 := s.setKeys fun k => { k with pendingMsg := some ⟨counter, ks, w.prog, w.revoke, w.lock, w.generated, s.now + 1228800, s.keys.debug⟩ }
          let s1 := if s.keys.debug then s1 else s1.putKeyCopy ⟨gen, counter, s.fuses.epoch, ks, none⟩
          s1.launch 0 0xB1 d false [] [])

/-- Settle the key update in flight. -/
def State.endKeyUpdate (s : State) (status : Nat) (payload : Bytes := []) : State :=
  let s := s.setKeys fun k => { k with pendingMsg := none }
  match s.flights.find? (·.opcode == 0xB1) with
  | some f => s.settleFlight f status 0 0 payload
  | none => s

/-- R429, R433: the new copy's trailer is written, or its write has failed. A frozen part has abandoned it. -/
def execKeyCopyWritten (ok : Bool) (s : State) : Host.Outcome State Fault Refusal :=
  match s.keys.pendingMsg with
  | some m =>
    if m.copyDone || s.frozen || m.switchAt ≤ s.now then .next s
    else if !ok then .next ((s.setErr .key 2).endKeyUpdate 0x2B)
    else
      let done (c : Option KeyCopy) : Option KeyCopy :=
        c.map fun c => if c.counter == m.counter && c.trailer.isNone then { c with trailer := some (c.mac s.storeKey) } else c
      let t := { s with nv := { s.nv with keyA := done s.nv.keyA, keyB := done s.nv.keyB } }
      .next (t.setKeys fun k => { k with pendingMsg := some { m with copyDone := true } })
  | none => .next s

/-- The 136 bytes of a generated key in the completion (R433). -/
def keyPayload (ks : List KeyEntry) (i : Nat) : Bytes :=
  let v := match ks.find? (·.id == i) with | some k => k.value | none => 0
  [BitVec.ofNat 8 i, 0, 0] ++ leBytes 133 (Config.publicKey i v)

/-- R433: the switch (class 14, index 48): the new keys are in force, the TALLY takes the counter, the fuses are blown and
the command completes; without a copy in time it is LATE. A switch at the freeze stamp is not applied (Table 15-11). -/
def execKeySwitch (s : State) : Host.Outcome State Fault Refusal :=
  match s.keys.pendingMsg with
  | some m =>
    if s.now < m.switchAt || s.frozenAt.isSome then .next s
    else
      let t := s.note 14 32 48
      if !m.copyDone then .next (t.endKeyUpdate 0x2C)
      else
        let owners := m.prog.foldl (fun (v : Vector (Option (BitVec 384)) 4) p => if h : p.1 < 4 then v.set p.1 (some p.2) else v) t.fuses.owners
        let revoked := m.revoke.foldl (fun (v : BitVec 4) i => v ||| BitVec.ofNat 4 (2 ^ i)) t.fuses.revoked
        let t := { t with fuses := { t.fuses with owners := owners, revoked := revoked, debugLock := t.fuses.debugLock || m.lock } }
        let t := t.setKeys fun k => { k with keys := m.keys, debugCounter := if k.debug then m.counter else k.debugCounter }
        let t := if t.keys.debug then t else { t with island := { t.island with keyTally := max t.island.keyTally m.counter } }
        .next (t.endKeyUpdate stOk (m.generated.flatMap (keyPayload m.keys)))
  | none => .next s

/-! ## Enrolment and attestation (R430, R434, R437) -/

/-- Opcode 0xB0. -/
def execKeyOwnerEnrol (d : Desc) (s : State) : Host.Outcome State Fault Refusal :=
  .next (s.acceptSingle (.keyOwnerEnrol d) 0xB0 d 133 (d.unit == 0) fun s =>
    if s.ownerProg != 0 then s.answer 0 0xB0 d 0x28
    else if s.keys.debug then s.answer 0 0xB0 d 0x2A
    else if s.rootStat == 2 then s.answer 0 0xB0 d stBusy
    else if s.rootStat != 1 then s.answer 0 0xB0 d 0x26
    else
      let s := { s with fuses := { s.fuses with owners := s.fuses.owners.set 0 (some (Config.sha384 (d.payload.take 133))),
                                                debugLock := s.fuses.debugLock || hasBit (dbyte d 24) 0 } }
      s.answer 0 0xB0 d stOk)

/-- The value and origin of an attestable key: none for an id that is none. -/
def State.attestKey (s : State) (id : Nat) : Option (Option Nat × Nat) :=
  if id == 0x20 then some (some (s.derivedScalar "TSU ATTEST"), 1)
  else if id == 0x22 then some (some (s.derivedScalar "TSU TRANSPORT"), 1)
  else if isInstalledId id then some (s.keyVal id, 3)
  else if isGeneratedId id then some (s.keyVal id, 2)
  else none

/-- Bytes 0 to 247 of a statement (Table 15-9). -/
def State.statement (s : State) (id origin value : Nat) (nonce : Bytes) : Bytes :=
  let flags := 1 + 2 * bit s.keys.debug + 4 * bit s.keys.retLost + 8 * bit (s.ownerProg != 0)
  let shown := if origin == 3 then leBytes 8 (cmac8 value (zeros 16)) ++ zeros 125 else leBytes 133 (Config.publicKey id value)
  leBytes 4 0x54535441 ++ leBytes 2 1 ++ leBytes 1 id ++ leBytes 1 origin ++ leBytes 1 flags ++ leBytes 1 s.keyEpoch ++
    leBytes 1 (s.ownerProg + 16 * s.fuses.revoked.toNat) ++ zeros 1 ++ leBytes 8 s.fuses.dieIdD.toNat ++ leBytes 8 s.fuses.dieIdA.toNat ++
    leBytes 8 s.fuses.asn.toNat ++ leBytes 4 s.mgt.verRun.toNat ++ leBytes 8 s.island.keyTally ++ leBytes 8 s.island.antiRollback ++
    leBytes 9 s.now ++ s.rtc7 ++ (nonce ++ zeros 32).take 32 ++ zeros 8 ++ shown ++ zeros 3

/-- Opcode 0xB2: the statement is the completion's payload. -/
def execKeyAttest (d : Desc) (s : State) : Host.Outcome State Fault Refusal :=
  let id := d.unit.toNat
  .next (s.acceptSingle (.keyAttest d) 0xB2 d 32 (s.attestKey id).isSome fun s =>
    if s.rootStat == 2 then s.answer 0 0xB2 d stBusy
    else if s.rootStat != 1 then s.answer 0 0xB2 d 0x26
    else match s.attestKey id with
      | some (some v, origin) =>
        let st := s.statement id origin v d.payload
        s.answer 0 0xB2 d stOk 0 0 (st ++ leBytes 132 (Config.ecdsaSign (s.derivedScalar "TSU ATTEST") st))
      | _ => s.answer 0 0xB2 d 0x27)

/-- KEY_PRESENT (Table 15-14). -/
def State.keyPresent (s : State) : Nat :=
  ((s.keys.keys.map (fun (k : KeyEntry) => k.id) ++ (if s.rootStat == 1 then [0x20, 0x21, 0x22] else [])).foldl (fun a i => a ||| 2 ^ (i % 16 + 8 * (i / 16))) 0)

end Sys2Proof.Machine
end

