-- ==== Sys2Proof/Machine/Mgmt.lean ====
section
/-!
DEFINITION. Management (R439 to R469): the MC's watchdog and shedding, sensors, bundles, the boot record, schedules, trial
and confirmation, the log commands.
-/
namespace Sys2Proof.Machine

open Sys2Proof

/-- The management state replaced. -/
def State.setMgt (s : State) (f : Mgt → Mgt) : State := { s with mgt := f s.mgt }

/-- An UPD result on RING02 (R468). -/
def State.upd (s : State) (detail : Nat) (version : Reg) : State := s.emit 2 0x60 0xFFFF detail version.toNat

/-- The activation hold is taken, or released (R461, R547). -/
def State.takeHold (s : State) : State :=
  if s.mgt.hold then s else (s.setMgt fun m => { m with hold := true }).forLanes State.holdBegins
def State.dropHold (s : State) : State :=
  if s.mgt.hold then (s.setMgt fun m => { m with hold := false }).holdEnds else s

/-! ## Watchdog, shedding, sensors -/

/-- The opcodes that the MC handles and that may be in flight (R441). -/
def mcOpcodes : List Nat := [0xC0, 0xC1, 0xC2, 0xC3, 0xC5]

/-- Complete every flight of some opcodes with ABORTED. -/
def State.abortOps (s : State) (ops : List Nat) : State :=
  (s.flights.filter fun f => ops.contains f.opcode).foldl (fun s f => s.settleFlight f stAborted 0 0) s

/-- The shedding level at a queue fill of 1,024 entries (Table 16-1): a level is entered at its fill and left 10 points
below. -/
def shedLevel (now fill : Nat) : Nat :=
  let at_ (l e : Nat) : Bool := fill * 100 ≥ 1024 * e || (now ≥ l && fill * 100 > 1024 * (e - 10))
  if at_ 4 95 then 4 else if at_ 3 85 then 3 else if at_ 2 70 then 2 else if at_ 1 50 then 1 else 0

/-- Export the event records that shedding has deferred (Table 16-1). -/
def State.exportEvents (s : State) : State :=
  (s.mgt.elog.filter fun e => s.mgt.eexp < e.eseq).foldl (fun s e =>
    (s.setMgt fun m => { m with eexp := e.eseq }).emit 13 0x02 0xFFFF 0 e.eseq e.bytes) s

/-- The nine limit conditions of Table 16-2 on a sample: warning and critical of two dies, five rails. -/
def State.limitHits (s : State) (v : Vector Int 10) : List Bool :=
  let g := s.gradeMax
  let rail (x nom : Int) : Bool := decide (100 * x < 95 * nom) || decide (105 * nom < 100 * x)
  [decide (g - 100 < v[0]), decide (g < v[0]), decide (g - 100 < v[1]), decide (g < v[1]), rail v[3] 800, rail v[4] 5000,
   rail v[5] 3300, rail v[6] 1800, rail v[7] 1200]

/-- The MGT_ERR bit of a limit condition. -/
def limitBit (i : Nat) : Nat := if i == 0 || i == 2 then 3 else if i == 1 || i == 3 then 4 else 5

/-- R443: hardware samples the sensors every 245,760 ticks; a condition that has held for two samples sets its bit. The
readings are refreshed with it, once per second at shedding level 3. What the memory controllers found since sets its bit at the same instant
(Table 16-10; log 110); so does the mains frequency in mHz that LINE_ZC has given, 0 while it is idle (R390; log 115). -/
def execSensorSample (values : List Int) (memory : MemorySigns) (mains : Nat) (s : State) : Host.Outcome State Fault Refusal :=
  if s.now % 245760 != 0 || !s.htcLoaded || values.length != 10 then .next s
  else
    let v : Vector Int 10 := .ofFn fun i => values.getD i.val 0
    let hits := s.limitHits v
    let s := { s with line := { s.line with freq := mains } }
    let t := if s.mgt.shed < 3 || s.now % ticksPerS == 0 then s.setMgt fun m => { m with sensors := v } else s
    let t := t.setMgt fun m => { m with limits := .ofFn fun i => if hits.getD i.val false then min (m.limits[i] + 1) 2 else 0 }
    let t := (List.range 9).foldl (fun t i => if (t.mgt.limits.toList.getD i 0) ≥ 2 then t.setErr .mgt (limitBit i) else t) t
    .next (State.finish s ([(memory.corrected, 6), (memory.uncorrectable, 7), (memory.mram, 8)].foldl
      (fun t (on, b) => if on then t.setErr .mgt b else t) t))

/-! ## The boot record and bundles (R455 to R459) -/

/-- Whether staging is allowed (R459), and whether a profile write is (R459). -/
def State.mayStage (s : State) : Bool := s.nv.boot.state == 0 || s.nv.boot.state == 1 || s.nv.boot.state == 5
def State.updating (s : State) : Bool := 1 ≤ s.nv.boot.state && s.nv.boot.state ≤ 4

/-- The image entries of a bundle: type, offset, length, SHA-384. -/
def bundleImages (b : Bytes) : List (Nat × Nat × Nat × Nat) :=
  (List.range (field b 6 2)).map fun i => (field b (64 + 64 * i) 1, field b (68 + 64 * i) 4, field b (72 + 64 * i) 4, field b (76 + 64 * i) 48)

/-- The bytes of the first image of a type. -/
def bundleImage (b : Bytes) (ty : Nat) : Option Bytes :=
  ((bundleImages b).find? (·.1 == ty)).map fun (_, off, len, _) => (b.drop off).take len

/-- Whether a bundle is valid (R455). -/
def bundleValid (b : Bytes) : Bool :=
  let es := bundleImages b
  b.length ≤ 67108864 && b.length ≥ 196 && field b 0 4 == 0x534E4F4E && field b 4 2 == 1 && 3 ≤ es.length && es.length ≤ 8 &&
    Config.ecdsaVerify Config.bundleKey (b.take (b.length - 132)) (b.drop (b.length - 132)) &&
    es.all (fun (_, off, len, sha) => off + len ≤ b.length && (Config.sha384 ((b.drop off).take len)).toNat == sha) &&
    [1, 2, 3].all (fun ty => (es.filter (·.1 == ty)).length == 1) && field b 11 1 ≤ 63

/-- The layout of a 64-byte profile header (DESIGN CHOICE, log 47): magic 0–3, index 4–5, format 6–7, lowest bundle 8–11,
generation 12–15, body length 16–19, SHA-256 20–51, zero 52–63. -/
def slotOfBytes (b : Bytes) : ProfSlot :=
  { magic := BitVec.ofNat 32 (field b 0 4), index := field b 4 2, format := field b 6 2, minBundle := BitVec.ofNat 32 (field b 8 4),
    gen := field b 12 4, length := field b 16 4, digest := BitVec.ofNat 256 (field b 20 32), body := b.drop 64 }
def ProfSlot.bytes (p : ProfSlot) : Bytes :=
  leBytes 4 p.magic.toNat ++ leBytes 2 p.index ++ leBytes 2 p.format ++ leBytes 4 p.minBundle.toNat ++ leBytes 4 p.gen ++
    leBytes 4 p.length ++ leBytes 32 p.digest.toNat ++ zeros 12 ++ p.body

/-- The magic of a profile header (R89). -/
abbrev profMagic : Reg := 0x464F5250

/-- Whether a slot is empty: every byte of its header is zero (R90). -/
def ProfSlot.isEmpty (p : ProfSlot) : Bool :=
  p.magic == 0 && p.index == 0 && p.format == 0 && p.minBundle == 0 && p.gen == 0 && p.length == 0 && p.digest == 0

/-- New-format copies of the profiles that are not empty (R459): none when one of them is not accepted. -/
def State.convertAll (s : State) (b : Bytes) : Option (List (Nat × ProfSlot)) :=
  match bundleImage b 4 with
  | none => none
  | some conv =>
    if s.mgt.runFormat < field b 18 2 then none
    else (List.finRange 4).foldr (fun i acc =>
      match acc with
      | none => none
      | some l =>
        let p := s.nv.profiles[i]
        if p.isEmpty then some l
        else (Config.convertProfile conv p.bytes).map fun c => (i.val, slotOfBytes c) :: l) (some [])

/-- R456: opcode 0xC0 on RING14: one chunk. -/
def execMgtBundle (d : Desc) (s : State) : Host.Outcome State Fault Refusal :=
  let off := dparam d 24 4
  let flags := dbyte d 28
  let last := hasBit flags 0
  let stage := hasBit flags 1
  .next (s.accept (.mgtBundle d) 14 0xC0 d (d.scope == 0) true (d.unit == 0) fun s =>
    let no (st : Nat) (s : State) : State := s.answer 14 0xC0 d st
    if !((s.boot.phase == 5 && !stage) || (s.boot.phase == 7 && stage)) then no stBadScope s
    else
      let have_ := match s.mgt.download with | some x => x.bytes | none => []
      if (match s.mgt.download with | some x => x.last | none => false) then no stBusy s
      else if off != have_.length then no 0x23 (s.setMgt fun m => { m with download := none })
      else
        let bytes := have_ ++ d.payload.take d.len.toNat
        if !last then no stOk (s.setMgt fun m => { m with download := some ⟨bytes, stage, false⟩ })
        else if stage && (s.mgt.trial || !s.mayStage) then no stBusy (s.setMgt fun m => { m with download := none })
        else
          let s := s.setMgt fun m => { m with download := some ⟨bytes, stage, true⟩ }
          let s := if stage then s else { s with boot := { s.boot with phase := 6 } }
          s.launch 14 0xC0 d false [] [])

/-- Settle the bundle command that awaits verification. -/
def State.endBundle (s : State) (status : Nat) : State :=
  let s := s.setMgt fun m => { m with download := none }
  match s.flights.find? (·.opcode == 0xC0) with
  | some f => s.settleFlight f status 0 0
  | none => s

/-! ## Schedules (R460, R461) -/

/-- A schedule is cancelled: the hold is released and the state returns to 1. -/
def State.cancelSched (s : State) : State :=
  (s.setBoot fun b => { b with state := 1, sched := none }).dropHold

/-- Whether a schedule body is well formed (R460). -/
def schedOk (b : Bytes) : Bool :=
  b.length == 64 && (field b 0 1 == 1 || field b 0 1 == 2) && field b 1 1 ≤ 1 && field b 2 2 == 0 && field b 25 3 == 0 &&
    60 ≤ field b 28 4 && field b 28 4 ≤ 86400 && field b 32 32 == 0

/-- Take a schedule body: only for the staged version; answers whether it was taken. -/
def State.takeSched (s : State) (b : Bytes) : Bool × State :=
  let v : Reg := BitVec.ofNat 32 (field b 4 4)
  let st := s.nv.boot.state
  if v != s.nv.boot.cand || !(st == 1 || st == 2) || (field b 0 1 == 2 && st != 2) then (false, s.upd 5 v)
  else if field b 0 1 == 2 then (true, s.cancelSched)
  else
    let htc := field b 1 1 == 1
    let sc : Schedule := ⟨htc, v, BitVec.ofNat 64 (field b 8 8), if htc then field b 16 9 else field b 16 7, field b 28 4, none⟩
    (true, ((s.dropHold).setBoot fun r => { r with state := 2, sched := some sc }).upd 1 v)

/-- A schedule taken from elsewhere is passed to the partner (R505). -/
def State.relaySched (s : State) (ok : Bool) (source : Nat) (b : Bytes) : State :=
  if ok && source != 2 && s.paired && s.pair.linkUp then s.pairSend 4 b else s

/-- A schedule from the site line or the partner (R460): class 14, taken at once, or after shedding level 4. -/
def State.peerSched (s : State) (b : Bytes) (source : Nat) : State :=
  if s.mgt.shed ≥ 4 then s.setMgt fun m => { m with schedWait := m.schedWait ++ [(b, source)] }
  else if schedOk b then (let (ok, s) := s.takeSched b; s.relaySched ok source b) else s.upd 5 (BitVec.ofNat 32 (field b 4 4))

/-- Handle the schedules that waited for shedding level 4 to end. -/
def State.runSchedWait (s : State) : State :=
  s.mgt.schedWait.foldl (fun s (p : Bytes × Nat) =>
    let (ok, s) := s.takeSched p.1
    let s := s.relaySched ok p.2 p.1
    if p.2 == 0 then (match s.flights.find? (·.opcode == 0xC1) with
      | some f => s.settleFlight f (if ok then stOk else 0x24) 0 0
      | none => s) else s) (s.setMgt fun m => { m with schedWait := [] })

/-- R467: opcode 0xC1. A body that is not well formed is BAD_UNIT. -/
def execMgtUpdSchedule (d : Desc) (s : State) : Host.Outcome State Fault Refusal :=
  let b := d.payload.take 64
  .next (State.finish s (s.accept (.mgtUpdSchedule d) 0 0xC1 d (d.scope == 0) (d.len.toNat == 64) (d.unit == 0 && schedOk b) fun s =>
    if s.mgt.shed ≥ 4 then (s.setMgt fun m => { m with schedWait := m.schedWait ++ [(b, 0)] }).launch 0 0xC1 d false [] []
    else
      let (ok, s) := s.takeSched b
      let s := s.relaySched ok 0 b
      s.answer 0 0xC1 d (if ok then stOk else 0x24)))

/-- R461, R467: opcode 0xC2. -/
def execMgtUpdCancel (d : Desc) (s : State) : Host.Outcome State Fault Refusal :=
  .next (State.finish s (s.acceptSingle (.mgtUpdCancel d) 0xC2 d 0 (d.unit == 0) fun s =>
    if s.nv.boot.state != 2 then s.answer 0 0xC2 d 0x24 else s.cancelSched.answer 0 0xC2 d stOk))

/-- R461: the scheduled time arrives (class 14, index 57), in RTC form at a rollover: every lane acts as if HELD were 1. A holder of a pair waits for the HEALTH
in which its partner reports the version as confirmed (R505). -/
def execScheduledTimeReached (s : State) : Host.Outcome State Fault Refusal :=
  match s.nv.boot.sched with
  | none => .next s
  | some c =>
    let due := if c.htcForm then decide (c.time ≤ s.now) else s.book.img.clkValid && s.line.tick == s.now && decide (c.time ≤ s.island.rtcSec)
    let due := due && (!s.paired || !s.pair.hold || s.pair.pConf == c.version)
    if s.nv.boot.state != 2 || c.reachedAt.isSome || !due then .next s
    else .next (State.finish s (((s.note 14 32 57).setBoot fun b => { b with sched := some { c with reachedAt := some s.now } }).takeHold))

/-- R461: the first quiescent point after the scheduled time (class 14, index 58): the candidate is armed and the part resets
with a reset commit at this stamp. -/
def execUpdateActivation (s : State) : Host.Outcome State Fault Refusal :=
  match s.nv.boot.sched with
  | none => .next s
  | some c =>
    let late := match c.reachedAt with
      | some r => decide (r + c.window * ticksPerS < s.now)
      | none => true
    if s.nv.boot.state != 2 || late || !s.quiescent || s.frozenAt.isSome || s.commit.any (fun x => x.kind != 1) then .next s
    else .next ((((s.note 14 32 58).setBoot fun b => { b with state := 3 }).upd 2 c.version).requestChipReset 2)

/-- The window of a schedule whose time was reached is over (R461). -/
def State.windowDue (s : State) : Bool :=
  match s.nv.boot.sched with
  | some c => s.nv.boot.state == 2 && (match c.reachedAt with | some r => decide (r + c.window * ticksPerS ≤ s.now) | none => false)
  | none => false

/-- R461: no quiescent point came within the window. -/
def execScheduleWindowExpiry (s : State) : Host.Outcome State Fault Refusal :=
  if !s.windowDue then .next s else .next (State.finish s ((s.noteTimeout 50).cancelSched.setErr .mgt 14))

/-! ## Trial and confirmation (R462 to R465) -/

/-- Whether a source with the chip-reset reaction has its sticky bit set. -/
def State.anyResetSource (s : State) : Bool := (List.range 448).any fun src => regField (s.frs src) 0 3 == 4 && s.sticky src

/-- R462: confirmation (class 14, index 59). C becomes the version that runs. -/
def execConfirmationRequest (s : State) : Host.Outcome State Fault Refusal :=
  let enabled := allLanes.any s.laneEn
  let ok := s.mgt.trial && (!enabled || s.saf.armed) && (s.pf 0x5000 0 1 == 0 || s.abc.ready) && s.saf.scRun && !s.anyResetSource
  if !ok || s.frozen then .next s
  else
    let v := s.mgt.verRun
    let old := s.nv.boot.conf
    let t := (s.note 14 32 59).cancel .tConfirm 0
    let t := t.setBoot fun b => { b with conf := v, cand := 0, state := 0, sched := none, confFormat := s.mgt.runFormat }
    let t := { t with island := { t.island with antiRollback := max t.island.antiRollback v.toNat },
                      fuses := { t.fuses with level := max t.fuses.level (v.toNat / 2 ^ 24) } }
    let t := t.setMgt fun m => { m with trial := false, copyDue := !s.nv.shadow.isEmpty }
    .next ((t.legal 0x21 (leBytes 4 v.toNat ++ leBytes 4 old.toNat ++ leBytes 1 t.fuses.level)).upd 3 v)

/-- R462: the shadow profiles have replaced their old-format slots; the shadow region is free. -/
def execProfileCopyComplete (s : State) : Host.Outcome State Fault Refusal :=
  if !s.mgt.copyDue then .next s
  else
    let ps := s.nv.shadow.foldl (fun (v : Vector ProfSlot 4) p => if h : p.1 < 4 then v.set p.1 { p.2 with gen := v[p.1].gen + 1 } else v) s.nv.profiles
    .next ({ s with nv := { s.nv with profiles := ps, shadow := [] } }.setMgt fun m => { m with copyDue := false })

/-- R463: the trial fails: state 5, TRIAL_END, and the activation hold is taken again. -/
def execTConfirmExpiry (s : State) : Host.Outcome State Fault Refusal :=
  if !s.expired .tConfirm 0 then .next s
  else
    let t := (s.expire .tConfirm 0).setBoot fun b => { b with state := 5 }
    let t := (t.setErr .mgt 12).legal 0x22 (leBytes 4 t.mgt.verRun.toNat ++ [0])
    let t := (t.setMgt fun m => { m with trial := false, trialEnded := true }).upd 4 t.mgt.verRun
    .next (State.finish s t.takeHold)

/-- R463: at the first quiescent point the part resets to return to C; the shadow region is discarded. -/
def execTrialEndReset (s : State) : Host.Outcome State Fault Refusal :=
  if !s.mgt.trialEnded || !s.quiescent || s.chipResetDue.isSome then .next s
  else .next (({ s with nv := { s.nv with shadow := [] } } : State).requestChipReset 2)

/-! ## Log and profile commands (Table 16-9) -/

/-- R454: opcode 0xC3: the stored entries of the LSEQ range are written to RING13 again. -/
def execMgtLogRead (d : Desc) (s : State) : Host.Outcome State Fault Refusal :=
  let n := d.param0.toNat
  let first := d.param1.toNat
  .next (s.acceptSingle (.mgtLogRead d) 0xC3 d 0 (d.unit == 0 && decide (1 ≤ n ∧ n ≤ 4096)) fun s =>
    let es := s.nv.llog.entries.filter fun e => first ≤ e.lseq.toNat && e.lseq.toNat < first + n
    let s := es.foldl (fun s e => s.emit 13 0x01 0xFFFF 0 e.lseq.toNat e.bytes) s
    s.answer 0 0xC3 d stOk 0 es.length)

/-- R454: opcode 0xC4, with role UTILITY. -/
def execMgtLogAck (d : Desc) (s : State) : Host.Outcome State Fault Refusal :=
  .next (s.accept (.mgtLogAck d) 0 0xC4 d (d.scope == 0) (d.len.toNat == 40) (d.unit == 0) fun s =>
    let (ok, s) := s.authRole 0xC4 d
    let v := field d.payload 32 8
    let last := match s.nv.llog.entries.getLast? with | some e => e.lseq.toNat | none => s.nv.llog.ack.toNat
    if !ok then s.answer 0 0xC4 d stDenied
    else if v < s.nv.llog.ack.toNat || last < v then s.answer 0 0xC4 d 0x25
    else ({ s with nv := { s.nv with llog := { s.nv.llog with ack := BitVec.ofNat 64 v } } } : State).answer 0 0xC4 d stOk)

/-- R467: opcode 0xC5: the image is stored; its header is written with the magic. -/
def execMgtProfWrite (d : Desc) (s : State) : Host.Outcome State Fault Refusal :=
  let len := d.len.toNat
  .next (s.accept (.mgtProfWrite d) 0 0xC5 d (d.scope == 0) (decide (64 ≤ len ∧ len ≤ 65536)) (decide (d.unit.toNat < 4)) fun s =>
    let staging := match s.mgt.download with | some x => x.stage && x.last | none => false
    if s.updating || staging then s.answer 0 0xC5 d stBusy
    else if h : d.unit.toNat < 4 then
      let p := { slotOfBytes (d.payload.take len) with magic := profMagic }
      ({ s with nv := { s.nv with profiles := s.nv.profiles.set d.unit.toNat p } } : State).answer 0 0xC5 d stOk
    else s.answer 0 0xC5 d stBadUnit)

end Sys2Proof.Machine
end

