-- ==== Sys2Proof/Machine/Epd.lean ====
section
/-!
DEFINITION. The bistable display ports (R470 to R488): changed lines, waveforms and their adjustment, rails, the recovery
clear, interruptions, the front light and the UART.
-/
namespace Sys2Proof.Machine

open Sys2Proof

/-- A display port replaced. -/
def State.setEpd (s : State) (p : Fin 4) (f : EpdPort → EpdPort) : State := { s with epd := s.epd.set p (f s.epd[p]) }

/-- A profile field of a port's block (Table 17-4). -/
def State.epdPf (s : State) (p : Fin 4) (off lo w : Nat) : Nat := s.pf (0xE100 + 0x80 * p.val + off) lo w

/-- EN, WIDTH and HEIGHT of a port. -/
def State.epdEn (s : State) (p : Fin 4) : Bool := s.glb.profActiveValid && s.epdPf p 0 0 1 == 1
def State.epdWidth (s : State) (p : Fin 4) : Nat := s.epdPf p 0 1 11
def State.epdHeight (s : State) (p : Fin 4) : Nat := s.epdPf p 0 12 10

/-- A signed byte of a profile register. -/
def signedByte (v : Nat) : Int := if v < 128 then v else (v : Int) - 256

/-! ## Waveforms (R475 to R478) -/

/-- The codes of transition g0 → g1 in a table (R475). -/
def waveCodes (t : Bytes) (g0 g1 : Nat) : List Nat :=
  let i := 16 * g0 + g1
  (List.range (min (field t i 1) 64)).map fun f => field t (256 + 16 * i + f / 4) 1 / 4 ^ (f % 4) % 4

/-- The adjustment of R476 by u − 8 frames. -/
def waveAdjust (c : List Nat) (u : Nat) : List Nat :=
  let drives (f : Nat) : Bool := c.getD f 0 == 1 || c.getD f 0 == 2
  match (List.range c.length).reverse.find? drives with
  | none => c
  | some last =>
    let x := c.getD last 0
    let run := ((c.take (last + 1)).reverse.takeWhile (· == x)).length
    if 8 ≤ u then c.take (last + 1) ++ List.replicate (u - 8) x ++ c.drop (last + 1)
    else c.take (last + 1 - min (8 - u) (run - 1)) ++ c.drop (last + 1)

/-- The uniformity value of a pixel: 8 until the map is loaded (R473). -/
def EpdPort.unifAt (e : EpdPort) (row x : Nat) : Nat :=
  match e.unif with
  | some m => (m.getD row []).getD x 8
  | none => 8

/-- The pixels of a changed line: stored grey, target and uniformity value. -/
def EpdPort.pixels (e : EpdPort) (l : EpdLine) : List (Nat × Nat × Nat) :=
  (List.zip l.old l.new).zipIdx.map fun ((a, b), x) => (a, b, e.unifAt l.row x)

/-- A temperature reading is a signed byte (R477). -/
def epdReading (t : Int) : Int := (BitVec.ofInt 8 t).toInt

/-- The band that the thresholds give a reading (R477). -/
def State.epdBand (s : State) (p : Fin 4) (t : Int) : Nat :=
  let th (k : Nat) : Int := signedByte (if k < 4 then s.epdPf p 0x14 (8 * k) 8 else s.epdPf p 0x18 (8 * (k - 4)) 8)
  match (List.range 7).find? (fun k => decide (t < th k)) with
  | some k => k
  | none => 7

/-- The table of a port for a band and a mode; empty when none is stored: every frame count is 0. -/
def State.waveOf (s : State) (p : Fin 4) (band mode : Nat) : Bytes :=
  match s.nv.links.waves.find? (·.1 == 24 * p.val + 3 * band + mode) with
  | some w => w.2
  | none => []

/-- Frames of an update: the longest adjusted sequence (R476); none when a transition used has no waveform (R478). -/
def EpdPort.framesOf (e : EpdPort) (t : Bytes) (lines : List EpdLine) : Option Nat :=
  let px := (lines.map e.pixels).flatten
  if px.any fun (a, b, _) => a != b && field t (16 * a + b) 1 == 0 then none
  else some (px.foldl (fun m (a, b, u) => max m (waveAdjust (waveCodes t a b) u).length) 0)

/-- The bytes of a changed line in frame f (R471): four pixels a byte; an ended sequence gives 0b00. -/
def EpdPort.lineCodes (e : EpdPort) (t : Bytes) (f : Nat) (l : EpdLine) : Bytes :=
  let cs := (e.pixels l).map fun (a, b, u) => (waveAdjust (waveCodes t a b) u).getD f 0
  (List.range ((cs.length + 3) / 4)).map fun k =>
    BitVec.ofNat 8 (cs.getD (4 * k) 0 + 4 * cs.getD (4 * k + 1) 0 + 16 * cs.getD (4 * k + 2) 0 + 64 * cs.getD (4 * k + 3) 0)

/-! ## Updates -/

/-- The earliest unsettled EPD_UPDATE of a port: that of its running or next update. -/
def State.epdFlight (s : State) (p : Fin 4) : Option Flight :=
  s.flights.find? fun f => f.opcode == 0xD0 && f.arg == p.val

/-- Complete the update that a port runs, when it is a command's. -/
def State.epdComplete (s : State) (p : Fin 4) (pass : Option Nat) (status inline : Nat) : State :=
  if pass.isSome then s
  else match s.epdFlight p with
    | some f => s.settleFlight f status 0 inline
    | none => s

/-- INLINE of a completed update (Table 17-3): changed lines, F, band, reading. -/
def epdInline (lines frames band : Nat) (reading : Int) : Nat :=
  lines + 2 ^ 16 * frames + 2 ^ 24 * band + 2 ^ 32 * (reading % 256).toNat

/-- Pixel values of a row as an update's targets in a mode (R474). -/
def monoTarget (mode g : Nat) : Nat := if mode == 1 then (if g < 8 then 0 else 15) else g

/-- The changed lines of a job against the stored image (R474). -/
def State.changedLines (s : State) (p : Fin 4) (j : EpdJob) : List EpdLine :=
  let img := (s.epd[p].image).getD []
  if j.mode == 2 then
    (List.range (s.epdHeight p)).map fun r => ⟨r, img.getD r [], List.replicate (s.epdWidth p) 15⟩
  else
    (j.pixels.zipIdx.map fun (px, i) => (⟨j.y0 + i, img.getD (j.y0 + i) [], px.map (monoTarget j.mode)⟩ : EpdLine)).filter
      fun l => l.old != l.new

/-- A whole-panel CLEAR from a grey taken as held (R483). -/
def State.clearLines (s : State) (p : Fin 4) (g : Nat) : List EpdLine :=
  (List.range (s.epdHeight p)).map fun r => ⟨r, List.replicate (s.epdWidth p) g, List.replicate (s.epdWidth p) 15⟩

/-- An update starts: its temperature is read (R478). -/
def State.epdBegin (s : State) (p : Fin 4) (pass : Option Nat) (mode : Nat) (lines : List EpdLine) : State :=
  s.setEpd p fun e => { e with stage := .reading, since := s.now, run := some ⟨pass, mode, lines, 0, 0, 0, 0, 0⟩ }

/-- The next queued update of a port that is not DIRTY; one with no changed line completes OK (R474). Its band and reading
are stated by nothing: free values (log 48). -/
def State.epdNextJob (p : Fin 4) : Nat → State → State
  | 0, s => s
  | n + 1, s =>
    match s.epd[p].jobs with
    | [] => s
    | j :: rest =>
      let s := s.setEpd p fun e => { e with jobs := rest }
      let ls := s.changedLines p j
      if ls.isEmpty then
        let (band, s) := s.draw 8
        let (temp, s) := s.draw 256
        State.epdNextJob p n (s.epdComplete p none stOk (epdInline 0 0 band temp))
      else s.epdBegin p none j.mode ls

/-- What a port that runs nothing does next: the recovery clear of a DIRTY port unless it was refused (R483), else the next
queued update. -/
def State.epdNext (s : State) (p : Fin 4) : State :=
  let e := s.epd[p]
  if !e.on || e.run.isSome || !(e.stage == .rest || e.stage == .idle) then s
  else if e.dirty then (if e.refusedAt.isNone then s.epdBegin p (some 0) 2 (s.clearLines p 0) else s)
  else State.epdNextJob p (e.jobs.length + 1) s

/-- The stage of a port between updates: powered for T_IDLE, or at rest. -/
def State.epdBetween (s : State) (p : Fin 4) : State :=
  s.setEpd p fun e => { e with stage := if e.vcomEn then .idle else .rest, since := s.now, run := none }

/-- A refused update (R478, R480): a recovery clear leaves the port DIRTY and is retried later. -/
def State.epdRefuse (s : State) (p : Fin 4) (r : EpdRun) (status : Nat) : State :=
  let s := s.epdComplete p r.pass status 0
  let s := s.setEpd p fun e => { e with refusedAt := if r.pass.isSome then some s.now else e.refusedAt }
  (s.epdBetween p).epdNext p

/-- CLEARED rises: the duty last commanded takes effect (R481). -/
def State.epdCleared (s : State) (p : Fin 4) : State :=
  s.setEpd p fun e =>
    { e with dirty := false, cleared := true, duty := e.req, refusedAt := none,
             image := some (List.replicate (s.epdHeight p) (List.replicate (s.epdWidth p) 15)) }

/-- An update ends normally (R474): the image takes its targets; the first pass of a recovery clear is followed by the
second, and the second ends it (R483). -/
def State.epdEnd (s : State) (p : Fin 4) (r : EpdRun) : State :=
  match r.pass with
  | some 0 => s.epdBegin p (some 1) 2 (s.clearLines p 15)
  | some _ => ((s.epdCleared p).epdBetween p).epdNext p
  | none =>
    let s := s.setEpd p fun e =>
      { e with image := e.image.map fun img => r.lines.foldl (fun m (l : EpdLine) => m.set l.row l.new) img }
    let s := s.epdComplete p none stOk (epdInline r.lines.length r.frames r.band r.reading)
    (s.epdBetween p).epdNext p

/-- The valid entries of EPD_PSCRk in ascending k: address, register and value of each write to the PMIC (R479). -/
def State.epdScript (s : State) (p : Fin 4) : List (Nat × Nat × Nat) :=
  (List.range 16).filterMap fun k =>
    if s.epdPf p (0x40 + 4 * k) 31 1 == 1 then some (s.epdPf p (0x40 + 4 * k) 0 7, s.epdPf p (0x40 + 4 * k) 8 8, s.epdPf p (0x40 + 4 * k) 16 8)
    else none

/-- The script of a started port goes to its PMIC while PMIC_EN is low (R479). -/
def State.epdWriteScript (s : State) (p : Fin 4) : State :=
  let e := s.epd[p]
  if e.on && !e.pmicEn && e.script.isNone then s.setEpd p fun e => { e with script := some (s.epdScript p) } else s

/-- A port starts (R479, R482): DIRTY, its image unknown; its script is written to the PMIC, once PMIC_EN is low, and its clear begins. -/
def State.epdStart (s : State) (p : Fin 4) : State :=
  let s := s.setEpd p fun e =>
    { e with on := true, dirty := true, cleared := false, image := none, unif := none, duty := 0, refusedAt := none, script := none }
  (s.epdWriteScript p).epdNext p

/-- Every enabled port that is not started starts, once PHASE is 7 (R482). -/
def State.epdStartAll (s : State) : State :=
  (List.finRange 4).foldl (fun s p => if s.boot.phase == 7 && s.epdEn p && !s.epd[p].on then s.epdStart p else s) s

/-! ## Frame timing (R471) -/

/-- HTC ticks of n SDCLK periods, rounded up: SDCLK is 800 MHz / (2 × (SDCLK_DIV + 1)). -/
def State.sdclkTicks (s : State) (p : Fin 4) (n : Nat) : Nat :=
  ceilDiv (n * (2 * (s.epdPf p 0x04 0 5 + 1)) * ticksPerMs) 800000

/-- SDCLK periods of a row: a line time when it is driven, 8 when it is skipped. -/
def State.epdRowClocks (s : State) (p : Fin 4) (driven : Bool) : Nat :=
  if driven then s.epdWidth p / 4 + s.epdPf p 0x04 8 8 else 8

/-- SDCLK periods of a frame's first n rows, of which those that the update changes are driven. -/
def State.epdClocks (s : State) (p : Fin 4) (lines : List EpdLine) (n : Nat) : Nat :=
  ((List.range n).map fun y => s.epdRowClocks p (lines.any (·.row == y))).sum

/-- The stamp at which a frame of an update starts: 1/FRATE apart, counted from the first. -/
def State.epdFrameStart (s : State) (p : Fin 4) (r : EpdRun) : Nat :=
  r.start + ceilDiv (r.frame * ticksPerS) (if s.epdPf p 0x04 16 1 == 1 then 85 else 50)

/-- The stamp at which that frame's last row ends. -/
def State.epdFrameEnd (s : State) (p : Fin 4) (r : EpdRun) : Nat :=
  s.epdFrameStart p r + s.sdclkTicks p (s.epdClocks p r.lines (s.epdHeight p))

/-- The rows of a frame as they are driven: the codes of each changed line, nothing for a skipped row. -/
def State.epdRows (s : State) (p : Fin 4) (r : EpdRun) : List (Option Bytes) :=
  let e := s.epd[p]
  let t := s.waveOf p r.band r.mode
  (List.range (s.epdHeight p)).map fun y => (r.lines.find? (·.row == y)).map (e.lineCodes t r.frame)

/-- The rows that are driven of the frame in progress when it ends at the end of the current line (R484); those of the last frame when none is
in progress. -/
def State.epdCutRows (s : State) (p : Fin 4) (r : EpdRun) : List (Option Bytes) :=
  if s.now < s.epdFrameStart p r then s.epd[p].rows
  else (s.epdRows p r).zipIdx.map fun (row, y) =>
    if s.epdFrameStart p r + s.sdclkTicks p (s.epdClocks p r.lines y) ≤ s.now then row else none

/-- Whether a port drives its panel: from the first frame's start on. -/
def State.epdDrives (s : State) (p : Fin 4) : Bool :=
  s.epd[p].stage == .driving ||
    (s.epd[p].stage == .ready && (match s.epd[p].run with | some r => decide (r.start ≤ s.now) | none => false))

/-- An interruption (R484): what runs is dropped with a status, or with no completion; a port that is driving ends its frame, its
image is unknown and it is DIRTY; VCOM_EN falls at once and PMIC_EN 1 ms later. -/
def State.epdInterrupt (s : State) (p : Fin 4) (status : Option Nat) : State :=
  let e := s.epd[p]
  let rows := match e.run with
    | some r => if s.epdDrives p then s.epdCutRows p r else e.rows
    | none => e.rows
  let drives := s.epdDrives p
  let s := match e.run, status with
    | some r, some st => s.epdComplete p r.pass st 0
    | _, _ => s
  let s := if drives then
      (s.setEpd p fun e => { e with rows := rows, image := none, dirty := true, refusedAt := some s.now }).setErr (.epd p) 3
    else if (match e.run with | some r => r.pass.isSome | none => false) then s.setEpd p fun e => { e with refusedAt := some s.now }
    else s
  s.setEpd p fun e =>
    { e with run := none, vcomEn := false, stage := if e.pmicEn then .down else .rest,
             since := if e.stage == .down then e.since else s.now }

/-- The updates of a port that were accepted and have not started complete with ABORTED. -/
def State.epdDropJobs (s : State) (p : Fin 4) : State :=
  let s := s.setEpd p fun e => { e with jobs := [] }
  (s.flights.filter fun f => f.opcode == 0xD0 && f.arg == p.val).foldl (fun s f => s.settleFlight f stAborted 0 0) s

/-- Every port interrupted by an MC watchdog reset or a block reset (R484). -/
def State.epdAbortAll (s : State) : State :=
  (List.finRange 4).foldl (fun s p => (s.epdInterrupt p (some stAborted)).epdDropJobs p) s

/-- A block reset of the display ports (R484): the duty is 0 and CLEARED is clear; each enabled port starts anew (R482). -/
def State.epdBlockReset (s : State) : State :=
  let s := s.epdAbortAll
  let s := (List.finRange 4).foldl (fun s p => s.setEpd p fun e => { e with on := false, duty := 0, cleared := false }) s
  s.epdStartAll

/-- The rails of a port are switched on (R480). -/
def State.epdPowerUp (s : State) (p : Fin 4) : State :=
  let e := s.epd[p]
  if e.vcomEn then s.setEpd p fun e => { e with stage := .driving, since := s.now, run := e.run.map fun r => { r with start := s.now } }
  else if e.pwrgood then
    s.setEpd p fun e => { e with pmicEn := true, vcomEn := true, stage := .ready, since := s.now,
                                 run := e.run.map fun r => { r with start := s.now + ticksPerMs } }
  else s.setEpd p fun e => { e with pmicEn := true, stage := .powering, since := s.now }

/-- R477, R478: the temperature read of a starting update ends; ok is whether it succeeded within three tries. -/
def execEpdTemperatureRead (port : Fin 4) (ok : Bool) (temp : Int) (s : State) : Host.Outcome State Fault Refusal :=
  let e := s.epd[port]
  match e.run with
  | none => .next s
  | some r =>
    if e.stage != .reading then .next s
    else
      let s := if ok then s.setEpd port fun e => { e with temp := some (epdReading temp, s.now) } else s.setErr (.epd port) 1
      match s.epd[port].temp with
      | none => .next ((s.setErr (.epd port) 2).epdRefuse port r 0x21)
      | some (t, at_) =>
        if at_ + 60 * ticksPerS < s.now then .next ((s.setErr (.epd port) 2).epdRefuse port r 0x21)
        else if t < signedByte (s.epdPf port 0x0C 0 8) || signedByte (s.epdPf port 0x0C 8 8) < t then .next (s.epdRefuse port r 0x22)
        else
          let band := s.epdBand port t
          match e.framesOf (s.waveOf port band r.mode) r.lines with
          | none => .next ((s.setErr (.epd port) 5).epdRefuse port r 0x24)
          | some 0 =>
            let r := { r with band := band, reading := t }
            .next ((s.setEpd port fun e => { e with band := band, lines := r.lines.length, run := some r }).epdEnd port r)
          | some n =>
            let r := { r with band := band, reading := t, frames := n }
            .next ((s.setEpd port fun e => { e with band := band, lines := r.lines.length, frame := 0, run := some r }).epdPowerUp port)

/-- R478: a status reading, once per second while the rails are powered. -/
def execEpdStatusTempRead (port : Fin 4) (ok : Bool) (temp : Int) (s : State) : Host.Outcome State Fault Refusal :=
  if !s.epd[port].pmicEn then .next s
  else if ok then .next (s.setEpd port fun e => { e with temp := some (epdReading temp, s.now) })
  else .next (s.setErr (.epd port) 1)

/-- T_PG of a port that waits for PWRGOOD is reached (R480). -/
def State.pgExpiry (s : State) (p : Fin 4) : Nat := s.epd[p].since + s.epdPf p 0x0C 16 8 * ticksPerMs
def State.pgDue (s : State) (p : Fin 4) : Bool := s.epd[p].stage == .powering && s.epd[p].run.isSome && decide (s.pgExpiry p ≤ s.now)

/-- T_IDLE of a powered port without an update is reached (R480); the wait of 60 s for the next try of a refused recovery clear (R483). -/
def State.idleDue (s : State) (p : Fin 4) : Bool :=
  s.epd[p].stage == .idle && decide (s.epd[p].since + s.epdPf p 0x10 0 16 * ticksPerMs ≤ s.now)
def State.retryDue (s : State) (p : Fin 4) : Bool :=
  match s.epd[p].refusedAt with
  | some r => decide (r + 60 * ticksPerS ≤ s.now)
  | none => false

/-- R480: PWRGOOD rises: a port that waits for it raises VCOM_EN; the first frame starts 1 ms later. A rise after the stamp at which T_PG expires
comes too late (R35). -/
def execEpdPwrgoodRise (port : Fin 4) (s : State) : Host.Outcome State Fault Refusal :=
  .next (s.setEpd port fun e =>
    if e.stage == .powering && decide (s.now ≤ s.pgExpiry port) then
      { e with pwrgood := true, vcomEn := true, stage := .ready, since := s.now, run := e.run.map fun r => { r with start := s.now + ticksPerMs } }
    else { e with pwrgood := true })

/-- R480: PWRGOOD is not high within T_PG: PMIC_EN falls, RAIL is set, the update completes with 0x25. -/
def execEpdTPgExpiry (port : Fin 4) (s : State) : Host.Outcome State Fault Refusal :=
  let e := s.epd[port]
  match e.run with
  | none => .next s
  | some r =>
    if !s.pgDue port then .next s
    else .next ((((s.noteTimeout 53).setEpd port fun e => { e with pmicEn := false }).setErr (.epd port) 0).epdRefuse port r 0x25)

/-- R480: PWRGOOD falls while the rails are powered: the port powers down, its update completes with 0x25, it is DIRTY. -/
def execEpdPwrgoodFall (port : Fin 4) (s : State) : Host.Outcome State Fault Refusal :=
  let e := s.epd[port]
  let t := s.setEpd port fun e => { e with pwrgood := false }
  if !e.vcomEn then .next t
  else .next ((t.epdInterrupt port (some 0x25)).setEpd port fun e =>
    { e with dirty := true, image := none, refusedAt := if e.refusedAt.isSome then e.refusedAt else some s.now })

/-- R471, R474: a frame has been driven, its last row ended; after the last frame the update ends. -/
def execEpdFrame (port : Fin 4) (s : State) : Host.Outcome State Fault Refusal :=
  let e := s.epd[port]
  match e.run with
  | none => .next s
  | some r =>
    if !(e.stage == .ready || e.stage == .driving) || s.now < s.epdFrameEnd port r then .next s
    else
      let r' := { r with frame := r.frame + 1 }
      let s := s.setEpd port fun e =>
        { e with stage := .driving, rows := s.epdRows port r, frame := min r'.frame (r.frames - 1), run := some r' }
      if r'.frame < r.frames then .next s else .next (s.epdEnd port r')

/-- R480: T_IDLE after the last update VCOM_EN falls. -/
def execEpdTIdleExpiry (port : Fin 4) (s : State) : Host.Outcome State Fault Refusal :=
  if !s.idleDue port then .next s
  else .next ((s.noteTimeout 54).setEpd port fun e => { e with vcomEn := false, stage := .down, since := s.now })

/-- R480, R484: 1 ms after VCOM_EN has fallen PMIC_EN falls. -/
def execEpdPmicOff (port : Fin 4) (s : State) : Host.Outcome State Fault Refusal :=
  let e := s.epd[port]
  if e.stage != .down || s.now < e.since + ticksPerMs then .next s
  else
    let t := s.setEpd port fun e =>
      { e with pmicEn := false, stage := .rest, since := s.now, refusedAt := if e.jobs.isEmpty then e.refusedAt else none }
    .next ((t.epdWriteScript port).epdNext port)

/-- R483: 60 s after a refused recovery clear it is attempted again. -/
def execEpdClearRetry (port : Fin 4) (s : State) : Host.Outcome State Fault Refusal :=
  if !s.retryDue port then .next s
  else .next (((s.noteTimeout 55).setEpd port fun e => { e with refusedAt := none }).epdNext port)

/-! ## Commands (R486) -/

/-- Run an action on the port that UNIT names, or complete with PORT_OFF. -/
def State.onPort (s : State) (ring opcode : Nat) (d : Desc) (act : Fin 4 → State → State) : State :=
  if h : d.unit.toNat < 4 then
    if s.epdEn ⟨d.unit.toNat, h⟩ then act ⟨d.unit.toNat, h⟩ s else s.answer ring opcode d 0x20
  else s.answer ring opcode d stBadUnit

/-- The port of a request, port 0 for an invalid UNIT. -/
def portOf (d : Desc) : Fin 4 := if h : d.unit.toNat < 4 then ⟨d.unit.toNat, h⟩ else 0

/-- Rows of pixels from their bytes: pixel x in byte x div 2, even x in bits 3:0. -/
def pixelRows (width : Nat) (b : Bytes) (rows : Nat) : List (List Nat) :=
  (List.range rows).map fun r => (List.range width).map fun x => field b (r * (width / 2) + x / 2) 1 / 16 ^ (x % 2) % 16

/-- Whether an update runs or is queued on a port (R478). -/
def State.epdBusy (s : State) (p : Fin 4) : Bool := s.epd[p].run.isSome || !s.epd[p].jobs.isEmpty

/-- R474: opcode 0xD0 on RING15. The parameters of a port that is off are not looked at. -/
def execEpdUpdate (d : Desc) (s : State) : Host.Outcome State Fault Refusal :=
  let p := portOf d
  let y0 := d.param0.toNat % 65536
  let y1 := d.param0.toNat / 65536
  let mode := dbyte d 24
  let off := decide (d.unit.toNat < 4) && !s.epdEn p
  let rowsOk := mode == 2 || decide (y0 ≤ y1 ∧ y1 < s.epdHeight p)
  let len := if mode == 2 then 0 else (y1 - y0 + 1) * (s.epdWidth p / 2)
  .next (s.accept (.epdUpdate d) 15 0xD0 d (d.scope == 0) (off || !rowsOk || d.len.toNat == len)
      (decide (d.unit.toNat < 4) && (off || (decide (mode ≤ 2) && rowsOk))) fun s =>
    s.onPort 15 0xD0 d fun p s =>
      let j : EpdJob := ⟨y0, y1, mode, if mode == 2 then [] else pixelRows (s.epdWidth p) d.payload (y1 - y0 + 1)⟩
      let s := s.launch 15 0xD0 d false [] [] p.val
      (s.setEpd p fun e => { e with jobs := e.jobs ++ [j], refusedAt := none }).epdNext p)

/-- R475: opcode 0xD1: a table is stored in MRAM. -/
def execEpdWaveLoad (d : Desc) (s : State) : Host.Outcome State Fault Refusal :=
  let band := dbyte d 24
  let mode := dbyte d 25
  .next (s.accept (.epdWaveLoad d) 0 0xD1 d (d.scope == 0) (d.len.toNat == 4352)
      (decide (d.unit.toNat < 4) && decide (band < 8) && decide (mode < 3)) fun s =>
    s.onPort 0 0xD1 d fun p s =>
      if s.epdBusy p then s.answer 0 0xD1 d stBusy
      else
        let k := 24 * p.val + 3 * band + mode
        let ws := s.nv.links.waves.filter (·.1 != k)
        let ws := ws.filter (·.1 < k) ++ (k, d.payload.take 4352) :: ws.filter (k < ·.1)
        ({ s with nv := { s.nv with links := { s.nv.links with waves := ws } } } : State).answer 0 0xD1 d stOk)

/-- R473: opcode 0xD2 on RING15: the uniformity map. -/
def execEpdUnifLoad (d : Desc) (s : State) : Host.Outcome State Fault Refusal :=
  let p := portOf d
  let len := s.epdHeight p * (s.epdWidth p / 2)
  .next (s.accept (.epdUnifLoad d) 15 0xD2 d (d.scope == 0) (!s.epdEn p || d.len.toNat == len) (decide (d.unit.toNat < 4)) fun s =>
    s.onPort 15 0xD2 d fun p s =>
      if s.epdBusy p then s.answer 15 0xD2 d stBusy
      else (s.setEpd p fun e => { e with unif := some (pixelRows (s.epdWidth p) d.payload (s.epdHeight p)) }).answer 15 0xD2 d stOk)

/-- R481: opcode 0xD3: the duty is recorded; it is in force once CLEARED is 1. -/
def execEpdFl (d : Desc) (s : State) : Host.Outcome State Fault Refusal :=
  let duty := dparam d 24 2
  .next (s.acceptSingle (.epdFl d) 0xD3 d 0 (decide (d.unit.toNat < 4) && decide (duty ≤ 1000)) fun s =>
    s.onPort 0 0xD3 d fun p s =>
      (s.setEpd p fun e => { e with req := duty, duty := if e.cleared then duty else e.duty }).answer 0 0xD3 d stOk)

/-- Ticks that n bytes take on a port's UART: ten bits each at BAUD (R487). -/
def State.uartTicks (s : State) (p : Fin 4) (n : Nat) : Nat :=
  ceilDiv (n * 10 * ticksPerS) (if s.epdPf p 0x10 16 1 == 1 then 921600 else 115200)

/-- R486: opcode 0xD4: the command completes when its last byte is sent, behind those of earlier commands. -/
def execEpdUartSend (d : Desc) (s : State) : Host.Outcome State Fault Refusal :=
  let len := d.len.toNat
  .next (s.accept (.epdUartSend d) 0 0xD4 d (d.scope == 0) (decide (1 ≤ len ∧ len ≤ 256)) (decide (d.unit.toNat < 4)) fun s =>
    s.onPort 0 0xD4 d fun p s =>
      let fin := max s.now s.epd[p].txFree + s.uartTicks p len
      (s.setEpd p fun e => { e with txFree := fin }).launch 0 0xD4 d false [] [] fin)

/-- The EPD_UART_SEND commands whose last byte is sent by now. -/
def State.uartDone (s : State) : State :=
  (s.flights.filter fun f => f.opcode == 0xD4 && f.arg ≤ s.now).foldl (fun s f => s.settleFlight f stOk 0 0) s

/-- UART results of up to 64 bytes each (R487). -/
def State.uartChunks (p : Fin 4) (idle : Bool) : Nat → State → State
  | 0, s => s
  | n + 1, s =>
    let rx := s.epd[p].rx
    if rx.length ≥ 64 || (idle && !rx.isEmpty) then
      let c := rx.take 64
      State.uartChunks p idle n ((s.setEpd p fun e => { e with rx := e.rx.drop 64 }).emit 2 0x70 0xFFFF p.val c.length c)
    else s

/-- R487: bytes arrive on a port's UART, and idleUs pass with none: those beyond 256 held are lost; results are issued at 64
held bytes or after 2 ms. -/
def execEpdUartRxFlush (port : Fin 4) (bytes : List (BitVec 8)) (idleUs : Nat) (s : State) : Host.Outcome State Fault Refusal :=
  let rx := s.epd[port].rx ++ bytes
  let t := if rx.length > 256 then s.setErr (.epd port) 4 else s
  .next (State.uartChunks port (decide (2000 ≤ idleUs)) 5 (t.setEpd port fun e => { e with rx := rx.take 256 }))

end Sys2Proof.Machine
end

