-- ==== Sys2Proof/Machine/Bundle.lean ====
section
/-!
DEFINITION. The verification of a bundle and the start of its images (R456 to R459, R482).
-/
namespace Sys2Proof.Machine

open Sys2Proof

/-- R456, R458, R462: the images of an accepted bundle start and PHASE is 7; it runs as confirmed when its version is C, else
as a trial with T_CONFIRM. The activation hold is released, unless a reached schedule still waits for its quiescent point, and the
display ports start (R482). -/
def State.startBundle (s : State) (b : Bytes) : State :=
  let v : Reg := BitVec.ofNat 32 (field b 8 4)
  let c := s.nv.boot.conf
  let kind := if v == c then (if s.mgt.bootKind == 2 then 2 else 0) else 1
  let s := { s with boot := { s.boot with phase := 7, failCode := 0, step := max s.boot.step 14 } }
  let s := s.setMgt fun m => { m with mcRun := true, verRun := v, runFormat := field b 16 2, trial := v != c }
  let s := s.legal 0x03 (leBytes 4 v.toNat ++ [BitVec.ofNat 8 kind] ++ leBytes 4 c.toNat)
  let s := if v != c then s.arm .tConfirm 0 (s.pf 0xD000 0 12 * ticksPerS) else s
  let s := if s.nv.boot.state == 0 && !s.nv.shadow.isEmpty then s.setMgt fun m => { m with copyDue := true } else s
  (if s.nv.boot.state == 2 then s else s.dropHold).epdStartAll

/-- R456, R459: the verification of a bundle completes. A start-up bundle that is refused sets FAIL_CODE and PHASE 5, with the
statuses of staging (log 45). Staging pauses at shedding level 4. -/
def execBundleVerified (s : State) : Host.Outcome State Fault Refusal :=
  match s.mgt.download with
  | none => .next s
  | some x =>
    let v : Reg := BitVec.ofNat 32 (field x.bytes 8 4)
    let low := decide (v.toNat < s.island.antiRollback)
    let fail (code : Byte) (st : Nat) : State :=
      ({ s with boot := { s.boot with phase := 5, failCode := code } } : State).endBundle st
    if !x.last then .next s
    else if !x.stage then
      if !bundleValid x.bytes then .next (fail 0x10 0x20)
      else if low then .next (fail 0x11 0x21)
      else .next (State.finish s ((s.startBundle x.bytes).endBundle stOk))
    else if s.mgt.shed ≥ 4 then .next s
    else if !bundleValid x.bytes then .next (s.endBundle 0x20)
    else if low then .next (s.endBundle 0x21)
    else
      let take (sh : List (Nat × ProfSlot)) : State :=
        let t := (s.setBoot fun b => { b with cand := v, state := 1, sched := none, candFormat := field x.bytes 16 2 })
        (({ t with nv := { t.nv with shadow := sh } } : State).endBundle stOk).upd 0 v
      if field x.bytes 16 2 == s.mgt.runFormat then .next (take [])
      else match s.convertAll x.bytes with
        | some sh => .next (take sh)
        | none => .next (((s.setBoot fun b => { b with state := 0 }).setErr .mgt 13).endBundle 0x22)

end Sys2Proof.Machine
end

