-- ==== Sys2Proof/Machine/Line.lean ====
section
/-!
DEFINITION. The events and commands of the site line (R389 to R417).
-/
namespace Sys2Proof.Machine

open Sys2Proof

/-! ## Receptions (R397 to R400, R406, R408) -/

/-- An ACK is due 12 ms after the end of the frame it acknowledges (R406). -/
def State.scheduleAck (s : State) (rx : LineRx) (f : LineFrame) : State :=
  let q := (s.line.seq + 1) % 65536
  let a : LineFrame := ⟨2, 0, false, s.lineHops, [], s.lineAddr, f.xmit, s.lineAddr, f.xmit, q, leBytes 2 f.src ++ leBytes 2 f.seq⟩
  s.setLine fun l => { l with seq := q, acks := l.acks ++ [(rx.fin + 12 * ticksPerMs, ⟨a, rx.band, none, 0, 0, false, 0, none⟩)] }

/-- Queue a repeated copy of a frame (R408): HOPS_LEFT is lowered and XMIT set. -/
def State.lineForward (s : State) (rx : LineRx) (f : LineFrame) (next : Nat) (up : Bool) (route : List Nat) : State :=
  let g := { f with hops := f.hops - 1, xmit := s.lineAddr, next := next, route := route }
  s.setLine fun l => { l with queue := l.queue ++ [⟨g, rx.band, some (lineFcnt rx.bytes), 0, 0, up, 0, some (rx.start + 24 * lineSym)⟩] }

/-- What a repeater does with a unicast frame whose NEXT it is (R408). -/
def State.lineRepeatUnicast (s : State) (rx : LineRx) (f : LineFrame) : State :=
  if !s.lineRepeat || s.lineRole != 0 || f.hops == 0 then s
  else if f.route != [] then
    let rest := f.route.drop 1
    s.lineForward rx f (rest.headD f.dst) false rest
  else match s.lineRoute f.dst with
    | some (next, up) => s.lineForward rx f next up []
    | none => s

/-- A broadcast is repeated once (R408). -/
def State.lineRepeatBroadcast (s : State) (rx : LineRx) (f : LineFrame) : State :=
  if !s.lineRepeat || s.lineRole != 0 || f.hops == 0 || s.line.repeated.contains (f.src, f.seq) then s
  else (s.setLine fun l => { l with repeated := (f.src, f.seq) :: l.repeated }).lineForward rx f 0xFFFF false []

/-- Deliver a frame to this node (R400): above the counter of its source, else REPLAY; not among the last 16 from it. -/
def State.lineDeliver (s : State) (rx : LineRx) (f : LineFrame) (act : LineFrame → State → State) : State :=
  let c := lineFcnt rx.bytes
  let seen := match s.nv.links.lineSeen.find? (·.1 == f.src) with | some p => some p.2 | none => none
  let last := match s.line.rxSeqs.find? (·.1 == f.src) with | some p => p.2 | none => []
  let dup := last.contains f.seq
  if (match seen with | some m => decide (c ≤ m) | none => false) then s.setErr .line 1
  else if dup then s
  else
    let s := { s with nv := { s.nv with links := { s.nv.links with
        lineSeen := (f.src, c) :: s.nv.links.lineSeen.filter (·.1 != f.src) } } }
    act f (s.setLine fun l =>
      { l with rxCount := (l.rxCount + 1) % 65536, rxSeqs := (f.src, (f.seq :: last).take 16) :: l.rxSeqs.filter (·.1 != f.src) })

/-- Whether a (SRC, SEQ) pair is among the last 16 delivered. -/
def State.lineDup (s : State) (f : LineFrame) : Bool :=
  match s.line.rxSeqs.find? (·.1 == f.src) with | some p => p.2.contains f.seq | none => false

/-- A reception: muted, hit in its head, lost, of another network, from a reserved address, of another type (no such event), with a wrong MIC, or taken (R397 to R400). An
ACK follows when this node is NEXT of a frame with ACKREQ that is delivered, forwarded or a duplicate. -/
def State.lineReceive (s : State) (rx : LineRx) (tys : List Nat) (act : LineFrame → State → State) : State :=
  let f := parseLine rx.bytes
  let me := s.lineAddr
  let spans := blankSpans (s.pf 0xB018 0 16) rx.high
  if s.line.st == 0 || s.lineTxen rx.start || rx.fin < rx.start || s.now < rx.fin then s
  else
    let s := s.setLine fun l => { l with blank := min (l.blank + spans.length) 0xFFFF }
    let good := lineCrcOk rx.bytes && (rx.band || toneDecodes rx.bytes.length spans rx.errors) &&
      decide (f.body.length ≤ if rx.band then 1024 else 256)
    if hitsHead spans (if rx.band then 16 else 24) then s
    else if !good then s.setLine fun l => { l with lost := min (l.lost + 1) 0xFFFF }
    else if field rx.bytes 2 2 != s.lineNid || f.src == me || f.src ≥ 1024 || !tys.contains f.ty then s
    else
      let micOk := match s.keyVal 4 with
        | some k => lineMic k f s.lineNid (lineFcnt rx.bytes) == lineMicIn rx.bytes
        | none => f.ty == 9
      if !micOk then (if (s.keyVal 4).isSome then s.setErr .line 0 else s)
      else
        let s := s.lineHear f.xmit rx.snr
        let s := if s.line.st == 5 then s.lineLevel else s
        let dup := s.lineDup f
        if f.dst == 0xFFFF then ((s.lineDeliver rx f act).lineRepeatBroadcast rx f)
        else if f.next != me then s
        else if f.dst == me then
          let t := s.lineDeliver rx f act
          if f.ackReq && (dup || t.line.rxCount != s.line.rxCount) then t.scheduleAck rx f else t
        else
          let t := s.lineRepeatUnicast rx f
          if f.ackReq then t.scheduleAck rx f else t

/-- An RX result (Table 14-8). -/
def State.rxResult (s : State) (rx : LineRx) (f : LineFrame) : State :=
  s.emit 11 0x01 f.src f.ty (f.seq + 2 ^ 16 * (s.lineHops - f.hops) + 2 ^ 24 * rx.snr) (f.header s.lineNid ++ f.body)

/-- R416: a DATA frame is delivered as an RX result, or forwarded; REPORT and DSTAT frames pass through a repeater in the same
way and give no result. -/
def execDataReceived (f : LineRx) (s : State) : Host.Outcome State Fault Refusal :=
  .next (s.lineReceive f [3, 5, 11] fun g s => let s := s.note 14 32 41; if g.ty == 3 then s.rxResult f g else s)

/-- R409: the entries of a DELTA for this node's own address are applied in body order; a DSTAT and a DELTA_STAT say how. -/
def execDeltaReceived (f : LineRx) (uncorrectable : List (Nat × Nat)) (s : State) : Host.Outcome State Fault Refusal :=
  .next (s.lineReceive f [4] fun g s =>
    let m := field g.body 0 2
    if g.dst != s.lineAddr || m == 0 || g.body.length != 4 + 64 * m || s.frozen then s
    else
      let s := s.note 12 32 16
      let busy := !s.abc.ready || s.abc.jheld || s.pf 0x5000 0 1 == 0
      let (sts, s) := if busy then (List.replicate m stBusy, s) else applyDeltas uncorrectable m 0 (g.body.drop 4) s
      let bs := sts.map (BitVec.ofNat 8 ·)
      let s := s.emit 11 0x02 g.src (bit busy) (m + 2 ^ 16 * g.seq) bs
      match s.lineRoute g.src with
      | some (next, up) => s.lineQueue 11 1 false g.src next up false (leBytes 2 g.seq ++ leBytes 2 m ++ bs)
      | none => s)

/-- R411: a TIME frame from TSRC asks for a clock step when it differs enough, or when the clock is invalid. -/
def execTimeReceived (f : LineRx) (s : State) : Host.Outcome State Fault Refusal :=
  .next (s.lineReceive f [6] fun g s =>
    let s := s.note 14 32 41
    let us := (s.now - (f.start + 24 * lineSym)) * 1000 / 24576
    let t := field g.body 0 7 + (field g.body 8 4 + us) / 1000000
    let rtc := s.island.rtcSec
    let diff := if t ≥ rtc then t - rtc else rtc - t
    if g.src != s.pf 0xB008 16 10 then s.emit 11 0x03 g.src 2 t
    else if s.pf 0xB020 0 6 ≤ diff || !s.book.img.clkValid then
      (s.setBook fun b => { b with steps := b.steps ++ [⟨s.now + 1, t, 1, 1⟩] }).emit 11 0x03 g.src 1 t
    else s.emit 11 0x03 g.src 0 t)

/-- R412: a SCHEDULE passes its body to management. -/
def execScheduleReceived (f : LineRx) (s : State) : Host.Outcome State Fault Refusal :=
  .next (State.finish s (s.lineReceive f [7] fun g s =>
    ((s.note 14 32 40).rxResult f g).peerSched (g.body.take 64) 1))

/-- R406: an ACK for the frame that waits cancels T_ACK; a LINE_SEND is done when its first hop acknowledges. -/
def execLineAckReceived (f : LineRx) (s : State) : Host.Outcome State Fault Refusal :=
  .next (s.lineReceive f [2] fun g s =>
    let s := s.note 14 32 41
    match s.line.awaiting with
    | none => s
    | some o =>
      if field g.body 0 2 != o.f.src || field g.body 2 2 != o.f.seq then s
      else
        let s := (s.cancel .tAck 0).setLine fun l => { l with awaiting := none }
        match s.flights.find? fun x => x.opcode == 0xA0 && x.arg == o.f.seq && o.f.src == s.lineAddr with
        | some x => s.settleFlight x stOk 0 0
        | none => s)

/-- R407: an ADVERT gives a neighbour's level; level and parent follow. -/
def execAdvertReceived (f : LineRx) (s : State) : Host.Outcome State Fault Refusal :=
  .next (s.lineReceive f [1] fun g s =>
    let s := s.note 14 32 41
    let s := s.setNeigh g.xmit fun n => { n with level := field g.body 0 1 }
    let s := if s.lineRole == 0 && s.line.st == 1 then s.lineTo 5 else s
    s.lineLevel)

/-- R404, R402: what a beacon of this network does to a member, a recovering node or another coordinator. -/
def State.takeBeacon (s : State) (rx : LineRx) (g : LineFrame) : State :=
  let b := g.body
  let n := field b 4 1
  let ms := (List.range n).map fun i => field b (24 + 2 * i) 2
  let listed := ms.any fun m => m % 1024 == s.lineAddr
  let bp := field b 19 1
  let life := (s.pf 0xB010 16 3 * bp * 100 + 250) * ticksPerMs
  let s := s.setLine fun l =>
    { l with beaconNo := field b 0 4, members := ms, tone := (List.range 4).map fun i => field b (5 + i) 1, bp := bp, slot := field b 20 1,
             beaconAt := some rx.start, soundReq := field b 17 2, quiet := l.quiet + 1 }
  let s := s.arm .tBeacon 0 (rx.start + life - s.now)
  if listed then (s.setLine fun l => { l with unlisted := none }).lineTo 2
  else
    let join (s : State) : State :=
      (s.setLine fun l => { l with unlisted := some 0 }).lineQueue 10 3 false g.src g.src false true [BitVec.ofNat 8 (s.pf 0xB000 3 1)]
    let s := s.lineTo 1
    match s.line.unlisted with
    | none => join s
    | some k => if k + 1 < 3 then s.setLine fun l => { l with unlisted := some (k + 1) } else join (s.setErr .line 5)

/-- R404: a beacon. A coordinator that hears one from a lower address steps down. -/
def execBeaconReceived (f : LineRx) (s : State) : Host.Outcome State Fault Refusal :=
  .next (s.lineReceive f [0] fun g s =>
    let s := s.note 14 32 41
    if s.lineRole == 0 then s
    else if s.line.st == 3 then (if g.src < s.lineAddr then (s.setErr .line 8).takeBeacon f g else s)
    else s.takeBeacon f g)

/-- R395: a SOUND of another node gives a tone map for it; with at least 8 symbols left a SOUND_RPT answers it, a member's to
the coordinator when a beacon had asked for the SOUND. -/
def execSoundReceived (src : Nat) (snrs : List Nat) (high : List (Nat × Nat)) (s : State) : Host.Outcome State Fault Refusal :=
  let spans := blankSpans (s.pf 0xB018 0 16) high
  let symbols := ((List.range 16).filter fun j => blankedIn spans (16 + j) == 0).length
  if s.line.st == 0 || s.lineTxen s.now || src == s.lineAddr || src ≥ 1024 then .next s
  else
    let s := s.setLine fun l => { l with blank := min (l.blank + spans.length) 0xFFFF }
    if hitsHead spans 16 then .next s
    else
    let s := s.note 14 32 41
    if symbols < 8 then .next s
    else
      let s := s.lineHear src (snrs.foldl (· + ·) 0 / max 1 snrs.length)
      let prev := match s.neigh src with
        | some n => (match n.map, n.prevMap with | some m, some p => if m.tmi == 0 then p.tmi else m.tmi | some m, none => m.tmi | none, _ => 0)
        | none => 0
      let m := buildMap snrs (s.pf 0xB018 16 8) (s.pf 0xB018 24 8) prev
      let s := s.setNeigh src fun n => { n with prevMap := n.map, map := some m }
      let s := match s.neigh src with | some n => s.neighResult n 2 | none => s
      let body := (List.range 36).map (fun i => BitVec.ofNat 8 (snrs.getD i 0)) ++ leBytes 1 m.tmi ++ leBytes 1 m.modu ++ leBytes 4 m.mask
      let dst := if s.line.st == 2 && s.line.soundReq == src then (s.line.members.headD src) % 1024 else src
      .next (match s.lineRoute dst with
        | some (next, up) => s.lineQueue 9 2 false dst next up true body
        | none => s)

/-- R396: a SOUND_RPT gives the map for frames to its sender, counts for a LINE_SOUND, and lets the coordinator choose the tone
set, with an effective beacon number 2 beyond the current one. -/
def execSoundRptReceived (f : LineRx) (s : State) : Host.Outcome State Fault Refusal :=
  .next (s.lineReceive f [9] fun g s =>
    let s := s.note 14 32 41
    let m : ToneMap := ⟨field g.body 36 1, field g.body 37 1, field g.body 38 4⟩
    let s := s.setNeigh g.src fun n => { n with txMap := some m }
    let s := s.setLine fun l => { l with sounding := l.sounding.map fun p => if s.now ≤ p.1 + 2000 * ticksPerMs then (p.1, p.2 + 1) else p }
    if s.line.st != 3 then s
    else
      let rs := (g.src, (List.range 36).map fun i => field g.body i 1) :: s.line.reports.filter (·.1 != g.src)
      let set := chooseTones (rs.map (·.2))
      s.setLine fun l => { l with reports := rs, nextTone := if set == l.tone then l.nextTone else some (set, l.beaconNo + 2) })

/-- R403: a JOIN is added to the list of the next beacon. -/
def execJoinReceived (f : LineRx) (s : State) : Host.Outcome State Fault Refusal :=
  .next (s.lineReceive f [10] fun g s =>
    let s := s.note 14 32 41
    let e := g.src + 0x8000 * (field g.body 0 1 % 2)
    if s.line.st != 3 || s.line.members.any (fun m => m % 1024 == g.src) then s
    else s.setLine fun l => { l with joins := l.joins.filter (fun m => m % 1024 != g.src) ++ [e] })

/-! ## The line's own times (R402 to R407) -/

/-- The transmission ends: T_ACK starts where an ACK is asked for; a frame that needs none is done (R406, R415). -/
def execLineFrameTransmitEnd (s : State) : Host.Outcome State Fault Refusal :=
  match s.line.tx with
  | none => .next s
  | some t =>
    if s.now < t.stop then .next s
    else
      let o := t.out
      let s := s.setLine fun l => { l with tx := none, txOff := t.stop + ticksPerMs, txCount := (l.txCount + 1) % 65536 }
      if o.f.ackReq && !t.ack then
        .next ((s.setLine fun l => { l with awaiting := some { o with sends := o.sends + 1, toNext := o.toNext + 1 } }).arm .tAck 0
          (s.pf 0xB014 0 10 * ticksPerMs))
      else if o.f.ty == 8 then
        .next (if s.flights.any (·.opcode == 0xA1) && s.line.sounding.isNone then s.setLine fun l => { l with sounding := some (t.stop, 0) } else s)
      else match s.flights.find? fun x => x.opcode == 0xA0 && x.arg == o.f.seq && o.f.src == s.lineAddr && !t.ack with
        | some x => .next (s.settleFlight x stOk 0 0)
        | none => .next s

/-- The queued frame that goes first: the lowest PRIO, then the oldest (R405). -/
def pickFrame (q : List LineOut) : Option LineOut :=
  q.foldl (fun (b : Option LineOut) o => match b with | none => some o | some x => if o.f.prio < x.f.prio then some o else b) none

/-- The contention period after the last beacon (R402). -/
def State.inContention (s : State) : Bool :=
  match s.line.beaconAt with
  | none => false
  | some b =>
    decide (b + (250 + s.line.members.length * s.line.slot * 10) * ticksPerMs ≤ s.now) &&
      decide (s.now + 100 * ticksPerMs ≤ b + s.line.bp * 100 * ticksPerMs)

/-- Whether the node may contend (R402, R404, R405). -/
def State.mayContend (s : State) : Bool :=
  match s.line.st with
  | 1 => s.lineRole == 0 || s.inContention
  | 2 => s.inContention
  | 3 => s.inContention
  | 4 => true
  | 5 => true
  | _ => false

/-- Whether the transmitter is free for a frame of its own: no frame, ACK wait or test runs. -/
def State.lineIdle (s : State) : Bool := s.line.tx.isNone && s.line.awaiting.isNone && s.line.test.isNone

/-- A node that is not listed in a beaconed network sends nothing but JOIN (R403). -/
def State.sendable (s : State) : List LineOut :=
  if s.line.st == 1 && s.lineRole != 0 then s.line.queue.filter (·.f.ty == 10) else s.line.queue

/-- The ticks without a carrier (R405), of the span that the readings cover: a carrier is energy at CS_THR above the noise floor or a band-mode
preamble. -/
def State.idleFor (s : State) (span : Nat) (readings : List CarrierReading) : Nat :=
  ((readings.filter fun r => decide (s.pf 0xB01C 8 8 ≤ r.excess) || r.preamble).map (·.ago)).foldl min span

/-- R405: a frame starts when the medium has had no carrier for 20 ms, the windows before the frame's priority and its backoff slots, which
nothing states (a free value); LINE_TXEN rises before it (R389). storeOk: an FCNT reservation reaches MRAM. -/
def execMediumAccess (span : Nat) (readings : List CarrierReading) (storeOk : Bool) (s : State) : Host.Outcome State Fault Refusal :=
  let idle := s.idleFor span readings + txLead
  if !s.lineIdle || !s.mayContend then .next s
  else
    let t := s.lineReports
    match pickFrame t.sendable with
    | none => .next t
    | some o =>
      let (slot, t) := t.draw (if o.sends == 0 then 8 else 4)
      if idle < (20 + 40 * o.f.prio + 5 * slot) * ticksPerMs then .next t
      else
        let (ok, u) := t.lineSend o storeOk false
        .next (if ok then u.setLine fun l => { l with queue := l.queue.erase o } else u)

/-- R406: an ACK is due 12 ms after the frame it acknowledges; it is sent without contention, LINE_TXEN rising before it (R389). -/
def execAckTransmit (storeOk : Bool) (s : State) : Host.Outcome State Fault Refusal :=
  match s.line.acks with
  | [] => .next s
  | (due, o) :: rest =>
    if s.now + txLead < due || s.line.tx.isSome then .next s
    else
      let t := s.setLine fun l => { l with acks := rest }
      .next (t.lineSend o storeOk true).2

/-- R406: T_ACK expires: the frame contends again, upward to the next parent candidate after two tries, or is dropped. -/
def execTAckExpiry (s : State) : Host.Outcome State Fault Refusal :=
  if !s.expired .tAck 0 then .next s
  else
    let s := s.expire .tAck 0
    match s.line.awaiting with
    | none => .next s
    | some o =>
      let s := s.setLine fun l => { l with awaiting := none }
      if o.sends ≤ s.pf 0xB010 19 3 then
        let ps := s.line.parents
        let k := (o.cand + 1) % max 1 ps.length
        let o := if o.upward && 2 ≤ o.toNext && !ps.isEmpty then
            { o with cand := k, toNext := 0, f := { o.f with next := ps.getD k o.f.next } } else o
        .next (s.setLine fun l => { l with queue := o :: l.queue })
      else
        let s := s.setErr .line 6
        match s.flights.find? fun x => x.opcode == 0xA0 && x.arg == o.f.seq && o.f.src == s.lineAddr with
        | some x => .next (s.settleFlight x 0x20 0 0)
        | none => .next s

/-- A beacon of this coordinator (R402): silent members go, joining nodes are appended, an announced tone set takes effect. Which member
SOUND_REQ names is stated by nothing: a free value. -/
def State.beacon (s : State) (storeOk : Bool) : State :=
  let me := s.lineAddr
  let bp := s.pf 0xB010 0 8
  let slot := s.pf 0xB010 8 8
  let l := s.line
  let limit := 10 * bp * 100 * ticksPerMs
  let own := me + 0x8000 * s.pf 0xB000 3 1
  let rest := (l.members.filter fun m => m % 1024 != me).filter fun m =>
    match l.heard.find? (·.1 == m % 1024) with
    | some p => decide (s.now ≤ p.2 + limit)
    | none => decide (l.beaconAt.isNone)
  let ms := (own :: rest ++ l.joins).take 16
  let num := if l.beaconAt.isNone then l.beaconNo else (l.beaconNo + 1) % 2 ^ 32
  let tone := match l.nextTone with | some (t, at_) => if at_ ≤ num then t else l.tone | none => l.tone
  let next := match l.nextTone with | some (t, at_) => if num < at_ then some (t, at_) else none | none => none
  let (k, s) := s.draw (ms.length + 1)
  let req := if k == 0 then 0xFFFF else (ms.getD k own) % 1024
  let nt : List Nat := match next with | some p => p.1 | none => tone
  let body := leBytes 4 num ++ leBytes 1 ms.length ++ tone.flatMap (leBytes 1) ++ nt.flatMap (leBytes 1) ++
    leBytes 4 (match next with | some p => p.2 | none => 0) ++ leBytes 2 req ++ leBytes 1 bp ++ leBytes 1 slot ++ zeros 3 ++ ms.flatMap (leBytes 2)
  let heard := ms.map fun m => match l.heard.find? (·.1 == m % 1024) with | some p => p | none => (m % 1024, s.now)
  let s := s.setLine fun l =>
    { l with members := ms, joins := [], beaconNo := num, tone := tone, nextTone := next, bp := bp, slot := slot, beaconAt := some (s.now + txLead),
             soundReq := req, heard := heard, reports := if req == 0xFFFF then l.reports else [] }
  let q := (s.line.seq + 1) % 65536
  let f : LineFrame := ⟨0, 0, false, s.lineHops, [], me, 0xFFFF, me, 0xFFFF, q, body⟩
  ((s.setLine fun l => { l with seq := q }).lineSend ⟨f, true, none, 0, 0, false, 0, none⟩ storeOk false).2

/-- R402: the coordinator's beacon period; a ROLE 2 node that has heard no beacon begins with its first one. -/
def execBeaconPeriod (storeOk : Bool) (s : State) : Host.Outcome State Fault Refusal :=
  let first := s.line.st == 1 && s.lineRole == 2 && s.line.beaconAt.isNone
  let due := match s.line.beaconAt with | some b => decide (b + s.pf 0xB010 0 8 * 100 * ticksPerMs ≤ s.now + txLead) | none => true
  if s.line.tx.isSome || s.line.test.isSome || !(first || (s.line.st == 3 && due)) then .next s
  else .next (((if first then s.lineTo 3 else s)).beacon storeOk)

/-- This node's place in the member list. -/
def State.lineIndex (s : State) : Option Nat := s.line.members.findIdx? fun m => m % 1024 == s.lineAddr

/-- R402, R403: a member's slot opens: the SOUND asked for, its queued frame, or an ADVERT after four quiet periods. -/
def execMemberSlot (storeOk : Bool) (s : State) : Host.Outcome State Fault Refusal :=
  match s.lineIndex, s.line.beaconAt with
  | some i, some b =>
    let from_ := b + (250 + i * s.line.slot * 10) * ticksPerMs
    if !(s.line.st == 2 || s.line.st == 3) || !s.lineIdle || s.now + txLead < from_ || from_ + s.line.slot * 10 * ticksPerMs ≤ s.now + txLead then .next s
    else
      let send (s : State) (o : LineOut) : State :=
        let (ok, u) := s.lineSend o storeOk false
        if ok then u.setLine fun l => { l with queue := l.queue.erase o } else u
      if s.line.soundReq == s.lineAddr then
        let s := s.setLine fun l => { l with soundReq := 0xFFFF }
        let f : LineFrame := ⟨8, 3, false, s.lineHops, [], s.lineAddr, 0xFFFF, s.lineAddr, 0xFFFF, s.line.seq, []⟩
        .next (s.lineSend ⟨f, true, none, 0, 0, false, 0, none⟩ storeOk false).2
      else
        let s := s.lineReports
        match pickFrame s.line.queue with
        | some o => .next (send s o)
        | none =>
          if s.line.quiet < 4 then .next s
          else
            let s := s.lineAdvert
            match pickFrame s.line.queue with
            | some o => .next (send s o)
            | none => .next s
  | _, _ => .next s

/-- R404: T_BEACON expires: the member recovers by itself. -/
def execTBeaconExpiry (s : State) : Host.Outcome State Fault Refusal :=
  if !s.expired .tBeacon 0 then .next s
  else
    let t := s.expire .tBeacon 0
    if t.line.st == 2 then .next ((t.lineTo 4).setErr .line 2) else .next t

/-- R404: a recovering candidate becomes coordinator when its turn comes: itself first in the list, the old coordinator out. -/
def execCoordinatorTakeover (s : State) : Host.Outcome State Fault Refusal :=
  match s.lineIndex, s.line.beaconAt with
  | some i, some b =>
    let r := (((s.line.members.take i).drop 1).filter fun m => hasBit m 15).length
    let wait := (s.pf 0xB010 16 3 + r + 1) * s.line.bp * 100 * ticksPerMs
    if s.line.st != 4 || s.pf 0xB000 3 1 == 0 || i == 0 || s.now < b + wait then .next s
    else
      let me := s.line.members.getD i 0
      let rest := (s.line.members.drop 1).filter (· != me)
      let t := s.setLine fun l =>
        { l with members := me :: rest, heard := rest.map (fun m => (m % 1024, s.now)), joins := [], reports := [] }
      .next (t.lineTo 3)
  | _, _ => .next s

/-- T_ADV of a node of an open network is reached (R407). -/
def State.advDue (s : State) : Bool :=
  s.lineRole == 0 && (s.line.st == 1 || s.line.st == 5) && decide (s.line.advAt + s.pf 0xB014 10 12 * ticksPerS ≤ s.now)

/-- R407: in an open network the node sends an ADVERT every T_ADV. -/
def execTAdvExpiry (s : State) : Host.Outcome State Fault Refusal :=
  if !s.advDue then .next s
  else
    let t := (((s.noteTimeout 51).setLine fun l => { l with advAt := s.now }).lineTo 5).lineLevel
    .next t.lineAdvert

/-! ## Commands (R415) -/

/-- R415: opcode 0xA0 on RING10. -/
def execLineSend (d : Desc) (s : State) : Host.Outcome State Fault Refusal :=
  let ty := dbyte d 20
  let fl := dbyte d 21
  let prio := fl % 4
  let band := hasBit fl 3
  let dst := d.unit.toNat
  .next (s.accept (.lineSend d) 10 0xA0 d (d.scope == 0) (decide (d.len.toNat ≤ if band then 1024 else 256))
      (s.lineEn && decide (dst < 1024 ∨ dst = 0xFFFF) && decide (fl < 16) && (prio != 0 || ty != 3)) fun s =>
    let listed := s.lineRole == 0 || s.lineIndex.isSome
    let ack := hasBit fl 2 && dst != 0xFFFF
    let go (next : Nat) (up : Bool) (s : State) : State :=
      let s := s.lineQueue ty prio ack dst next up band (d.payload.take d.len.toNat)
      s.launch 10 0xA0 d false [] [] s.line.seq
    if ty != 3 && ty != 7 then s.answer 10 0xA0 d 0x22
    else if !listed then s.answer 10 0xA0 d 0x23
    else if dst == 0xFFFF then go 0xFFFF false s
    else if s.lineRole == 0 && s.line.level == 15 && (s.neigh dst).isNone then s.answer 10 0xA0 d 0x21
    else match s.lineRoute dst with
      | some (next, up) => go next up s
      | none => go dst false s)

/-- R415: opcode 0xA1: a SOUND is sent; a second one meanwhile is BUSY. -/
def execLineSound (d : Desc) (s : State) : Host.Outcome State Fault Refusal :=
  .next (s.acceptSingle (.lineSound d) 0xA1 d 0 (s.lineEn && d.unit == 0) fun s =>
    if s.flights.any (·.opcode == 0xA1) then s.answer 0 0xA1 d stBusy
    else (s.launch 0 0xA1 d false [] []).lineBroadcast 8 3 true [])

/-- The reports that a LINE_SOUND gathers are over, 2,000 ms after its SOUND (R415). -/
def State.soundDue (s : State) : Bool :=
  match s.line.sounding with
  | some (at_, _) => decide (at_ + 2000 * ticksPerMs ≤ s.now)
  | none => false

/-- R415: 2,000 ms after the SOUND the command completes with the reports received. -/
def execLineSoundWindowEnd (s : State) : Host.Outcome State Fault Refusal :=
  if !s.soundDue then .next s
  else
    let t := (s.noteTimeout 52).setLine fun l => { l with sounding := none }
    match s.line.sounding, s.flights.find? (·.opcode == 0xA1) with
    | some (_, n), some x => .next (t.settleFlight x stOk 0 n)
    | _, _ => .next t

/-- R415: opcode 0xA2: a tone, the band sequence or a noise measurement, without regard to R405; a transmission begins 24,576 ticks after
LINE_TXEN has risen (R389). -/
def execLineTest (d : Desc) (s : State) : Host.Outcome State Fault Refusal :=
  let kind := dbyte d 24
  let tone := dbyte d 25
  let ms := dparam d 26 2
  .next (s.acceptSingle (.lineTest d) 0xA2 d (if kind == 2 then 36 else 0)
      (s.lineEn && d.unit == 0 && decide (kind ≤ 2) && (kind != 0 || decide (tone ≤ 45)) && decide (1 ≤ ms ∧ ms ≤ 60000) && s.line.st != 3) fun s =>
    if s.line.test.isSome then s.answer 0 0xA2 d stBusy
    else (s.setLine fun l => { l with test := some ⟨kind, tone, s.now + (if kind < 2 then txLead else 0) + ms * ticksPerMs⟩ }).launch 0 0xA2 d false [] [] d.addr.toNat)

/-- R415: the test's duration elapses; a noise measurement gives 36 bytes at ADDR. -/
def execLineTestEnd (noise : List Nat) (s : State) : Host.Outcome State Fault Refusal :=
  match s.line.test with
  | none => .next s
  | some t =>
    if s.now < t.until_ then .next s
    else
      let s := s.setLine fun l => { l with test := none, txOff := if t.kind < 2 then t.until_ + ticksPerMs else l.txOff }
      match s.flights.find? (·.opcode == 0xA2) with
      | none => .next s
      | some x =>
        let s := if t.kind == 2 then s.writeHost (BitVec.ofNat 64 x.arg) ((List.range 36).map fun i => BitVec.ofNat 8 (noise.getD i 0)) else s
        .next (s.settleFlight x stOk 0 0)

/-- One entry of the neighbour table as LINE_NEIGH_READ gives it. -/
def LineNeigh.bytes (n : LineNeigh) : Bytes :=
  let m : ToneMap := n.map.getD ⟨0, 0, 0⟩
  leBytes 2 n.addr ++ leBytes 1 n.level ++ leBytes 1 n.q ++ leBytes 1 m.tmi ++ leBytes 1 m.modu ++ leBytes 4 m.mask ++ zeros 6

/-- R415: opcode 0xA3: 64 entries of 16 bytes at ADDR. -/
def execLineNeighRead (d : Desc) (s : State) : Host.Outcome State Fault Refusal :=
  .next (s.acceptSingle (.lineNeighRead d) 0xA3 d 1024 (s.lineEn && d.unit == 0) fun s =>
    let b := s.line.neigh.flatMap LineNeigh.bytes
    (s.writeHost d.addr ((b ++ zeros 1024).take 1024)).answer 0 0xA3 d stOk)

end Sys2Proof.Machine
end

