-- ==== Sys2Proof/Machine/MeterBase.lean ====
section
/-!
DEFINITION. Cycles and chains of the intake (R310, R318, R319) and captures (R323, R324), with what a cycle end gives the
energy engine, the register book, the residual readings and the captures.
-/
namespace Sys2Proof.Machine

open Sys2Proof

/-! ## Captures -/

/-- The channels of a capture's mask. -/
def Capture.width (c : Capture) : Nat := ((List.range 8).filter fun i => c.mask.getLsbD i).length

/-- The samples of one recorded cycle in time order, masked channels ascending, 4 bytes each. -/
def CapCycle.bytes (c : CapCycle) : Bytes :=
  (List.range c.count).flatMap fun i => c.samples.flatMap fun ys => leInt 4 (ys.getD i 0)

/-- The payload of a capture result (Table 11-9). -/
def Capture.payload (cap : Capture) (d : Nat) : Bytes :=
  let post := cap.postCount
  let total := cap.cycles.foldl (fun a c => a + c.count) 0
  leBytes 9 (match cap.cycles with | c :: _ => c.first | [] => 0) ++ [BitVec.ofNat 8 cap.lane.val, cap.mask, BitVec.ofNat 8 cap.source] ++
    leBytes 2 cap.cycles.length ++ [BitVec.ofNat 8 (if cap.onEvent then cap.cycles.length - post else 0)] ++
    [BitVec.ofNat 8 (if cap.onEvent then cap.trigBit.getD 0 else 0xFF)] ++
    leBytes 9 (if cap.onEvent then cap.trigStamp else cap.accepted) ++ leBytes 4 total ++ leBytes 4 d ++ zeros 31 ++
    (cap.cycles.flatMap fun c => leBytes 9 c.first ++ leBytes 4 c.len ++ leBytes 2 c.count ++ [c.flags]) ++
    (cap.cycles.flatMap CapCycle.bytes)

/-- The flight of a capture slot. -/
def State.captureFlight (s : State) (i : Fin 4) : Option Flight := s.flights.find? fun f => f.opcode == 0x78 && f.arg == i.val

/-- End a capture with a status; its slot is free again. -/
def State.endCapture (s : State) (i : Fin 4) (status : Nat) : State :=
  let s := (s.setCapture i none).cancel .tTrig i.val
  match s.captureFlight i with
  | some f => s.settleFlight f status 0 0
  | none => s

/-- A capture takes a cycle end; with its last POST cycle it writes its result and completes (R323, R324). -/
def State.captureCycle (s : State) (c : Cycle) (i : Fin 4) : State :=
  match s.met.captures[i] with
  | some cap =>
    if cap.lane != c.lane then s
    else
      let cap := recordCycle cap c
      let s := s.setCapture i (some cap)
      if cap.postCount < cap.post then s
      else
        (s.emit 6 0x01 cap.lane.val 0 cap.tag.toNat (cap.payload (s.groupDelay cap.lane (s.met.lanes[cap.lane].begin / 128)))).endCapture i stOk
  | none => s

/-! ## The end of a cycle -/

/-- The nominal start of the cycle after the one in progress (R312, R313, R319). -/
def State.nextBegin (s : State) (n : Fin 32) : Nat :=
  match s.cutTick n with
  | some x => 128 * x
  | none => s.met.lanes[n].begin + s.met.lanes[n].len

/-- The issue stamp after which no sample belongs to the cycle: a cut cycle holds the samples before the cut. -/
def State.lastIssue (s : State) (n : Fin 32) : Nat :=
  match s.cutTick n with
  | some x => x + 3644
  | none => s.now

/-- The issue stamps of the cycle's samples, ascending. -/
def State.issues (s : State) (n : Fin 32) : List Nat :=
  let m := s.met.lanes[n]
  let qs := gridPositions (s.isDc n) m.begin m.len (s.gridN n (m.begin / 128))
  let qs := match s.cutTick n with | some x => qs.filter fun q => 8 * q < x | none => qs
  qs.map issueOf

/-- The cycle in progress ends with the samples issued up to a stamp (R318): the detectors, the energy engine, the
register book, the captures and the residual readings take it. Nothing is taken after a freeze (R68). -/
def State.endCycle (s : State) (n : Fin 32) (wins : List BitWindow) (upTo next : Nat) : State :=
  if s.frozen then s
  else
    let c := s.buildCycle n wins upTo
    if c.count == 0 then s.setMet n fun m => { m with begin := next }
    else
      let s := (s.note 5 n.val 0).detect c
      let s := if s.legalOn then
          let (incs, s) := s.energyCycle c
          s.bookCycle n incs (BitVec.ofNat 8 c.flags)
        else s
      let s := (List.finRange 4).foldl (fun s i => s.captureCycle c i) s
      let s := (s.residual n c.residuals).isoWatch n
      s.nextCycle c next

/-! ## Chains (R310) -/

/-- The nominal start of a chain's first cycle, in 2^-16 intervals (R312, R313). -/
def firstBegin (dc : Bool) (start : Nat) : Nat :=
  if dc then ceilDiv (start + 32768) 491520 * 491520 * 128 else ceilDiv (start + 32768) 512 * 65536

/-- The residual windows of a lane are empty from now, and its DC point timers cancelled (R263). -/
def State.resRestart (s : State) (n : Fin 32) : State :=
  s.setSaf n fun l => { l with pointFrom := s.now, resSq := 0, resSum := 0, resW := 0 }

/-- A lane's chain starts: tracker in ACQUIRE with the nominal period and its first boundary still to come (log 74), cycles from zero, detectors and residual windows
empty, the newest calibration in force, the energy residues zero (R340). -/
def State.chainStart (s : State) (n : Fin 32) : State :=
  let s := s.setNrg n fun l => { l with res := .replicate 4 ⟨0, 0, 0⟩, cycles := 0 }
  let s := s.setMet n fun _ =>
    let b := firstBegin (s.isDc n) s.now
    let p := nominalPeriod (s.calv (metLcalOff n))
    { MetLane.reset with start := some s.now, begin := b, len := if s.isDc n then 62914560 else p,
                         tracker := { Tracker.reset with trk := 0, period := p, nextJ := ceilDiv (s.now + 32768) 512, decided := some b },
                         next3 := ceilDiv (s.now + 32768) 512, shownPeriod := p }
  s.resRestart n

/-- A lane's chain stops: its channels read zero from now. -/
def State.chainStop (s : State) (n : Fin 32) : State :=
  (s.setMet n fun _ => MetLane.reset).resRestart n

end Sys2Proof.Machine
end

