-- ==== Sys2Proof/Machine/Pair.lean ====
section
/-!
DEFINITION. The events and commands of redundant pairs (R489 to R508).
-/
namespace Sys2Proof.Machine

open Sys2Proof

/-! ## The interlock -/

/-- R492, R495: the sample on a probe's last tick; a probe begins at window start + 512 × s and lasts 491 ticks, once per
window. A low sample is contention: HOLD falls, a secondary releases at the first, a primary at the third in a row. -/
def execPairProbe (low : Bool) (s : State) : Host.Outcome State Fault Refusal :=
  let win := s.now / 24576
  let at_ := s.now % 24576
  if !s.pair.drive || s.pair.probeWin == some win || at_ % 512 != 490 || 40 ≤ at_ / 512 then .next s
  else
    let t := s.setPair fun p => { p with probeWin := some win }
    if low then
      let t := (t.note 0 32 102).setPair fun p => { p with contend := p.contend + 1, probes := 0 }
      let t := ((t.setErr .pair 0).pairResult 2).holdFall
      .next (State.finish s (if !t.pair.pri || t.pair.contend ≥ 3 then t.pairRelease false else t))
    else .next (State.finish s (t.setPair fun p => { p with probes := p.probes + 1, contend := 0 }))

/-- R493: PAIR_HOLD_N changes its level. -/
def execPairHoldLineChange (low : Bool) (s : State) : Host.Outcome State Fault Refusal :=
  .next (State.finish s (s.setPair fun p =>
    { p with lineLow := low, highFrom := if low then none else some s.now, releasedAt := if low && !p.drive then none else p.releasedAt }))

/-- T_FREE (R493): 2 ms for the primary, else 5 ms. -/
def State.tFree (s : State) : Nat := if s.pair.pri then 49152 else 122880

/-- Whether the line is free for a claim by this part (R493, R504). -/
def State.mayClaim (s : State) : Bool :=
  s.paired && !s.pair.drive && s.healthy && s.pair.releasedAt.isNone &&
    (match s.pair.highFrom with | some t => decide (t + s.tFree ≤ s.now) | none => false)

/-- R493: the line is free and a healthy part begins to drive it. -/
def execTFreeExpiry (s : State) : Host.Outcome State Fault Refusal :=
  if !s.mayClaim then .next s
  else .next (State.finish s (((s.noteTimeout (TimerKind.base .tFree)).note 0 32 103).setPair fun p =>
    { p with drive := true, driveFrom := s.now, probes := 0, contend := 0, lineLow := true, highFrom := none, released := false }))

/-- R498: T_SWITCH has run after HOLD rose: the lane enables take effect as at a profile switch with EN = 1. -/
def execTSwitchExpiry (s : State) : Host.Outcome State Fault Refusal :=
  if !s.expired .tSwitch 0 then .next s
  else
    let t := s.expire .tSwitch 0
    if !t.pair.hold then .next t
    else
      let t := t.setPair fun p => { p with enabled := true }
      let t := t.forLanes fun t n => if t.laneEn n then (t.laneEnable n true).chainStart n else t
      .next (State.finish s t.mclkPlan)

/-! ## The link -/

/-- A good frame arrives: T_LINK starts anew while the link is up (R499). -/
def State.goodFrame (s : State) : State :=
  if s.pair.linkUp then s.arm .tLink 0 (s.pf 0xF008 0 8 * ticksPerMs) else s

/-- Whether frames of the link are taken: MODE 1 or 3, the MC runs. -/
def State.pairLinkOn (s : State) : Bool := s.paired && s.mgt.mcRun

/-- The sync of a part that does not hold (R501): every block up to the one named is joined, none missing. -/
def State.syncCheck (s : State) : State :=
  let p := s.pair
  let now_ := p.linkUp && !p.mismatch && !p.gap && p.pHold && !p.hold && decide (p.pDone ≤ p.joined)
  if now_ && !p.sync then ((s.note 14 32 66).setPair fun p => { p with sync := true }).pairResult 5
  else s.setPair fun p => { p with sync := now_ }

/-- The 64 bytes of HEALTH (Table 18-3). -/
def State.healthPayload (s : State) : Bytes :=
  let p := s.pair
  let b8 := bit s.healthy + 2 * bit p.hold + 4 * bit s.quiescent + 8 * bit p.sync + 16 * bit s.power.feedA.present +
    32 * bit s.power.feedB.present + 64 * bit p.pri
  leBytes 8 s.fuses.dieIdD.toNat ++ leBytes 1 b8 ++ leBytes 1 (s.pf 0xF000 0 2) ++ leBytes 3 s.hubId ++ zeros 3 ++
    leBytes 4 s.mgt.verRun.toNat ++ leBytes 4 s.nv.boot.conf.toNat ++ leBytes 8 s.abc.jseq ++ zeros 32

/-- R499: HEALTH is sent every 245,760 ticks. -/
def execHealthSend (s : State) : Host.Outcome State Fault Refusal :=
  if !s.pairLinkOn || s.now % 245760 != 0 then .next s else .next (s.pairSend 1 s.healthPayload)

/-- R499: a HEALTH frame: the link is up from the first one; MODE and HUB.ID are compared; of two parts with the same PRI the one
with the lower D-die ID acts as primary. -/
def execHealthReceived (crcOk : Bool) (payload : List (BitVec 8)) (s : State) : Host.Outcome State Fault Refusal :=
  if !s.pairLinkOn || !crcOk || payload.length != 64 then .next s
  else
    let b := field payload 8 1
    let up := s.pair.linkUp
    let t := s.setPair fun p => { p with linkUp := true }
    let t := if up then t else ((t.note 14 32 64).pairResult 3)
    let t := (t.goodFrame).note 14 32 65
    let bad := decide (field payload 9 1 != t.pf 0xF000 0 2) || decide (field payload 10 3 != t.hubId)
    let t := if bad then t.setErr .pair 2 else t
    let same := t.pair.pri == hasBit b 6
    let t := t.setPair fun p =>
      { p with mismatch := bad, pHealthy := hasBit b 0, pHold := hasBit b 1, pSync := hasBit b 3, pFeeds := BitVec.ofNat 2 (b / 16 % 4),
               pVer := BitVec.ofNat 32 (field payload 16 4), pConf := BitVec.ofNat 32 (field payload 20 4), pDone := field payload 24 8,
               pri := if same then decide (s.fuses.dieIdD.toNat < field payload 0 8) else p.pri,
               tbAsked := p.tbAsked && hasBit b 1 }
    .next (State.finish s t.syncCheck)

/-- Join a journal entry into the ledger (R500, R244) and journal the result as this part's own change. -/
def State.joinEntry (s : State) (e : JEntry) : State :=
  if e.kind == 0 then s.putRec e.slot (joinRec (s.recAt e.slot) e.image) else s.putRec e.slot Rec.empty e.kind

/-- R500: a journal block of the partner is a class 12 event, index 24: each entry is joined and the block acknowledged. A block
that does not follow the last one joined has left the holder's journal: SYNC_GAP (R501). -/
def execJournalFrameReceived (crcOk : Bool) (payload : List (BitVec 8)) (s : State) : Host.Outcome State Fault Refusal :=
  match jblockOfBytes payload with
  | none => .next s
  | some b =>
    if !s.pairLinkOn || !crcOk || s.frozen || !s.abc.ready then .next s
    else
      let t := (s.goodFrame).note 12 32 24
      let t := b.entries.foldl State.joinEntry t
      let gap := decide (t.pair.joined + 1 < b.seq)
      let t := if gap then (t.setErr .pair 3).setPair fun p => { p with gap := true }
        else t.setPair fun p => { p with joined := max p.joined b.seq }
      .next (State.finish s ((t.pairSend 3 (leBytes 8 t.pair.joined)).syncCheck))

/-- R500: a JACK names the last block that the partner has joined. -/
def execJackReceived (crcOk : Bool) (payload : List (BitVec 8)) (s : State) : Host.Outcome State Fault Refusal :=
  if !s.pairLinkOn || !crcOk || payload.length != 8 then .next s
  else .next (s.goodFrame.setPair fun p =>
    { p with acked := field payload 0 8,
             bulkTx := p.bulkTx.filter fun c => decide (field payload 0 8 + 1 < c.jStart) })

/-- The DRAM image as a copy of the snapshot format (R240): S is now, J_START the block that follows the last one completed. -/
def State.bulkCopy (s : State) : SnapCopy :=
  let c : SnapCopy := ⟨0, s.now, s.abc.jseq + 1, s.abc.dram, none⟩
  { c with sealPage := some (0, Config.sha256 c.body) }

/-- The image goes out as BULK frames (R501, Table 18-3): the page index, then the page. -/
def State.sendBulk (s : State) : State :=
  let c := s.bulkCopy
  c.pages.zipIdx.foldl (fun s x => s.pairSend 7 (leBytes 4 x.2 ++ x.1)) (s.setPair fun p => { p with bulkTx := some c })

/-- R500, R501: every 100 ms the holder sends every block after the last one acknowledged again; when that one has left its
journal it sends its DRAM image as BULK pages. -/
def execJournalResend (s : State) : Host.Outcome State Fault Refusal :=
  if !s.pairLinkOn || !s.pair.hold || !s.pair.linkUp || s.now % 2457600 != 0 || s.abc.jseq ≤ s.pair.acked then .next s
  else
    let bs := s.nv.journal.filter fun b => s.pair.acked < b.seq
    let gone := match bs with | b :: _ => decide (s.pair.acked + 1 < b.seq) | [] => true
    let t := if gone && s.pair.bulkTx.isNone then s.sendBulk else s
    .next (bs.foldl (fun t b => t.pairSend 2 b.bytes) t)

/-- One 32-byte unit of a snapshot body (R240): an occupancy mask of the next group of 64 buckets, or the image of the next
occupied slot, which is joined. -/
def State.bulkUnit (s : State) (u : Bytes) : State :=
  match s.pair.bulkRx with
  | none => s
  | some (g, slots, j, page) =>
    match slots with
    | x :: rest =>
      (s.joinEntry ⟨x, 0, s.now, recOfBytes u, true⟩).setPair fun p => { p with bulkRx := some (g, rest, j, page) }
    | [] =>
      if g ≥ 131072 then s
      else
        let m := field u 0 32
        s.setPair fun p => { p with bulkRx := some (g + 1, ((List.range 256).filter (hasBit m ·)).map (256 * g + ·), j, page) }

/-- The 32-byte units of page data. -/
def units32 : Nat → Bytes → List Bytes
  | 0, _ => []
  | n + 1, b => b.take 32 :: units32 n (b.drop 32)

/-- R501: a page of the holder's image in the snapshot format: its header gives J_START (its place: log 102), each record of its body is joined, and
after the last group the blocks from J_START follow. -/
def execBulkReceived (crcOk : Bool) (payload : List (BitVec 8)) (s : State) : Host.Outcome State Fault Refusal :=
  if !s.pairLinkOn || !crcOk || payload.length != 2052 || s.frozen || !s.abc.ready || s.pair.hold then .next s
  else
    let i := field payload 0 4
    let d := (payload.drop 4).take 2016
    let t := s.goodFrame
    if i == 0 then .next (t.setPair fun p => { p with bulkRx := some (0, [], field d 17 8, 1) })
    else match s.pair.bulkRx with
      | none => .next t
      | some (_, _, _, page) =>
        if i != page then .next t
        else
          let t := (units32 63 d).foldl State.bulkUnit t
          match t.pair.bulkRx with
          | some (g, slots, j, pg) =>
            if g ≥ 131072 && slots.isEmpty then
              let t := t.setPair fun p => { p with bulkRx := none, gap := false, joined := max p.joined (j - 1) }
              .next (State.finish s ((t.pairSend 3 (leBytes 8 t.pair.joined)).syncCheck))
            else .next (t.setPair fun p => { p with bulkRx := some (g, slots, j, pg + 1) })
          | none => .next t

/-- R505: a schedule of the partner is taken as a schedule from the host (class 14, index 67). -/
def execPairScheduleReceived (crcOk : Bool) (payload : List (BitVec 8)) (s : State) : Host.Outcome State Fault Refusal :=
  if !s.pairLinkOn || !crcOk then .next s
  else .next (State.finish s ((s.goodFrame.note 14 32 67).peerSched payload 2))

/-- R504: TAKEBACK puts a pair hold on every lane of the holder. -/
def execTakebackReceived (crcOk : Bool) (s : State) : Host.Outcome State Fault Refusal :=
  if !s.pairLinkOn || !crcOk then .next s
  else if !s.pair.hold then .next s.goodFrame
  else .next (State.finish s (s.goodFrame.takePairHold fun p => { p with byTakeback := true }))

/-- R504: the holder has released the line. -/
def execReleasedReceived (crcOk : Bool) (s : State) : Host.Outcome State Fault Refusal :=
  if !s.pairLinkOn || !crcOk then .next s
  else .next ((s.goodFrame.setPair fun p => { p with tbAsked := false, pHold := false }).cancel .tTbwin 0)

/-- R499: no good frame within T_LINK: the link is lost. -/
def execTLinkExpiry (s : State) : Host.Outcome State Fault Refusal :=
  if !s.expired .tLink 0 then .next s
  else
    let t := (s.expire .tLink 0).note 14 32 64
    let t := t.setPair fun p => { p with linkUp := false, sync := false, pHealthy := false, pHold := false, pSync := false, bulkRx := none, bulkTx := none }
    .next (State.finish s ((t.setErr .pair 1).pairResult 4))

/-! ## Handover and takeback -/

/-- R503: the part has stayed healthy for T_SETTLE; a primary asks for the outlets. -/
def execTSettleExpiry (s : State) : Host.Outcome State Fault Refusal :=
  if !s.expired .tSettle 0 then .next s
  else .next (State.finish s ((s.expire .tSettle 0).setPair fun p => { p with settled := p.wasHealthy }))

/-- R503: TAKEBACK is sent again every second until the line is released. -/
def execTakebackResend (s : State) : Host.Outcome State Fault Refusal :=
  if !s.pair.tbAsked || !s.pair.linkUp || s.now < s.pair.tbAt + ticksPerS then .next s
  else .next ((s.setPair fun p => { p with tbAt := s.now }).pairSend 5 [])

/-- R504: at a quiescent point under a pair hold, with a healthy partner whose sync is complete, the holder releases the line. -/
def execPairRelease (s : State) : Host.Outcome State Fault Refusal :=
  if !s.pairHold || !s.pair.drive || !s.quiescent || !s.pair.linkUp || !s.pair.pHealthy || !s.pair.pSync then .next s
  else
    let t := (s.pairRelease true).pairSend 6 []
    .next (State.finish s (t.setPair fun p => { p with released := true }))

/-- R504: T_TBWIN expires: the pair hold ends with TB_MISS, a PAIR_HANDOVER completes with 0x21; a takeback that this part has
asked for restarts its T_SETTLE. -/
def execTTbwinExpiry (s : State) : Host.Outcome State Fault Refusal :=
  if !s.expired .tTbwin 0 then .next s
  else
    let t := s.expire .tTbwin 0
    if t.pairHold then
      let t := (t.dropPairHold.setErr .pair 5).pairResult 7
      .next (State.finish s ((t.flights.filter (·.opcode == 0xD8)).foldl (fun t f => t.settleFlight f 0x21 0 0) t))
    else if t.pair.tbAsked then
      .next (State.finish s ((t.setPair fun p => { p with tbAsked := false, settled := false }).arm .tSettle 0 (s.pf 0xF004 0 12 * ticksPerS)))
    else .next t

/-- A release is 1 s old (R504). -/
def State.reclaimDue (s : State) : Bool :=
  match s.pair.releasedAt with
  | some r => decide (r + ticksPerS ≤ s.now)
  | none => false

/-- R504: neither part has claimed within 1 s of a release: the former holder claims again by R493. -/
def execReclaimTimeout (s : State) : Host.Outcome State Fault Refusal :=
  if !s.reclaimDue then .next s
  else .next ((s.noteTimeout 49).setPair fun p => { p with releasedAt := none, released := false })

/-- R507: opcode 0xD8. -/
def execPairHandover (d : Desc) (s : State) : Host.Outcome State Fault Refusal :=
  .next (State.finish s (s.acceptSingle (.pairHandover d) 0xD8 d 0 (d.unit == 0) fun s =>
    let p := s.pair
    if !p.hold || !p.linkUp || !p.pHealthy || !p.pSync then s.answer 0 0xD8 d 0x20
    else (s.launch 0 0xD8 d false [] []).takePairHold fun p => { p with byHandover := true }))

/-- The pair hold of PAIR_HANDOVER ends; the commands complete with ABORTED (R507, R441). -/
def State.cancelHandover (s : State) : State :=
  let s := s.abortOps [0xD8]
  if s.pair.byTakeback || s.pair.byFeeds then s.setPair fun p => { p with byHandover := false }
  else if s.pair.byHandover then s.dropPairHold else s

/-- R507: opcode 0xD9. -/
def execPairHandoverCancel (d : Desc) (s : State) : Host.Outcome State Fault Refusal :=
  .next (State.finish s (s.acceptSingle (.pairHandoverCancel d) 0xD9 d 0 (d.unit == 0) fun s =>
    if !s.pair.byHandover then s.answer 0 0xD9 d 0x22
    else s.cancelHandover.answer 0 0xD9 d stOk))

end Sys2Proof.Machine
end

