-- ==== Sys2Proof/Machine/McFaults.lean ====
section
/-!
DEFINITION. The management core's watchdog and its shedding levels (R441, R442).
-/
namespace Sys2Proof.Machine

open Sys2Proof

/-- R441: the MC's watchdog expires: MC_WDOG is set, the MC's queued work is discarded, every command that it handles completes with
ABORTED; the displays are interrupted (R484), a PAIR_HANDOVER's hold is released, a download starts again. -/
def execMcWatchdogExpiry (s : State) : Host.Outcome State Fault Refusal :=
  if !s.mgt.mcRun && s.mgt.download.isNone then .next s
  else
    let t := s.setErr .mgt 2
    let t := (t.abortOps mcOpcodes).cancelHandover.epdAbortAll
    let t := t.setMgt fun m => { m with download := none, schedWait := [], nmi := [] }
    let t := if t.boot.phase == 6 then { t with boot := { t.boot with phase := 5 } } else t
    .next (State.finish s t)

/-- R442: the fill of the MC's work queue changes: entering level 4 sets SHED; below level 3 the deferred event records are exported,
below level 4 the schedules that waited are handled. -/
def execShedLevelChange (fill : Nat) (s : State) : Host.Outcome State Fault Refusal :=
  let old := s.mgt.shed
  let new := shedLevel old (min fill 1024)
  let t := s.setMgt fun m => { m with shed := new }
  let t := if new == 4 && old < 4 then t.setErr .mgt 15 else t
  let t := if 3 ≤ old && new < 3 then t.exportEvents else t
  let t := if old == 4 && new < 4 then t.runSchedWait else t
  .next (State.finish s t)

end Sys2Proof.Machine
end

