-- ==== Sys2Proof/Machine/Meter.lean ====
section
/-!
DEFINITION. The events and commands of the sample intake (R299 to R327).
-/
namespace Sys2Proof.Machine

open Sys2Proof

/-- R299: a clock of a group starts, or is held low, at the tick set for it; a start restarts the chains of the group's
enabled lanes (R310). -/
def execMclkStartStop (group : Fin 8) (s : State) : Host.Outcome State Fault Refusal :=
  match s.met.mclkDue.find? fun x => x.2.1 == group.val && x.1 ≤ s.now with
  | none => .next s
  | some x =>
    let on := x.2.2
    let m : BitVec 8 := BitVec.ofNat 8 (2 ^ group.val)
    let t := { s with met := { s.met with mclkDue := s.met.mclkDue.erase x, mclk := if on then s.met.mclk ||| m else s.met.mclk &&& ~~~m } }
    .next (State.finish s (if on then t.forLanes fun t n => if n.val / 4 == group.val && t.laneEn n then t.chainStart n else t else t))

/-- R310: RUN rises 32,768 ticks after the chain's start. -/
def execChainRun (lane : Fin 32) (s : State) : Host.Outcome State Fault Refusal :=
  match s.met.lanes[lane].start with
  | some st => if st + 32768 ≤ s.now && !s.met.lanes[lane].run then .next (s.setMet lane fun m => { m with run := true }) else .next s
  | none => .next s

/-- R302: a stream of a processed channel becomes stuck with its 2,048th equal bit, or clears with a bit of the other value (level), at the issue of a
stage-3 output that R310 does not discard. -/
def execStreamStuckChange (lane : Fin 32) (ch : Fin 8) (stuck level : Bool) (equalBits : Nat) (s : State) : Host.Outcome State Fault Refusal :=
  let k := s.met.lanes[lane].chans[ch]
  let nominal := s.now - 2525
  if !(s.met.lanes[lane].start.any fun st => decide (st + 32768 ≤ nominal)) || !channelUsed (s.laneMode lane) ch.val || k.stuck == stuck || (stuck && equalBits < 2048) || (!stuck && level == k.stuckLevel) ||
      s.now % 512 != 477 || s.frozen then .next s
  else
    let time := s.now - (s.groupDelay lane nominal - 1120)
    let t := (s.note 5 lane.val (40 + ch.val)).setChan lane ch fun c =>
      if stuck then { c with stuck := true, stuckLevel := level, spells := c.spells ++ [(time, none)] }
      else { c with stuck := false, spells := c.spells.map fun p => (p.1, some (p.2.getD time)) }
    let t := if stuck then t.setErr (.met lane) ch.val else t
    .next (t.laneResult lane 0x42 ch.val (bit (!stuck) + 256 * bit (if stuck then level else k.stuckLevel)))

/-- An uncorrectable error in a bead that the legal path reads (R40): the first record outside the guarantee names it, and its source is LEGAL_UE
(Table 16-10). The error has no row of its own: it comes with the cycle that reads the bead (log 110). -/
def State.legalUe (s : State) : State := (s.guaranteeLost 1).setErr .mgt 1

/-- R318: a whole cycle ends at the issue stamp of its last sample. wins holds the bits of the lane's eight channels,
refWins those of the voltage channels that the tracker reads. A cycle cut by a fall of the pair's HOLD ends there as a partial one (R319, R498). -/
def execCycleEnd (lane : Fin 32) (wins refWins : List BitWindow) (ue : Bool) (s : State) : Host.Outcome State Fault Refusal :=
  if !s.met.lanes[lane].run || s.frozen then .next s
  else
    let t := (if ue then s.legalUe else s).placeCycle lane refWins
    match s.met.lanes[lane].cutAt with
    | some x => .next (State.finish s ((t.endCycle lane wins x (t.nextBegin lane)).chainStop lane))
    | none =>
    if (t.cutTick lane).isNone && (t.issues lane).getLast? == some s.now then
      .next (State.finish s (t.endCycle lane wins s.now (t.nextBegin lane)))
    else .next s

/-- R316: the tracker decides a cycle boundary, at the issue stamp of the first sample of the cycle that begins there. -/
def execTrackingChange (lane : Fin 32) (refWins : List BitWindow) (s : State) : Host.Outcome State Fault Refusal :=
  if s.met.lanes[lane].run && !s.isDc lane && (s.leader lane).isNone && !s.frozen && (s.issues lane).head? == some s.now then
    .next (State.finish s (s.trackDecide lane refWins))
  else .next s

/-- R321: the samples of a channel since its last one taken go through its envelope; the newest is issued now. -/
def execEnvelopeEvent (lane : Fin 32) (ch : Fin 8) (samples : List Int) (s : State) : Host.Outcome State Fault Refusal :=
  if !s.met.lanes[lane].run || !channelUsed (s.laneMode lane) ch.val || samples.isEmpty || s.frozen then .next s
  else
    let due := (s.issues lane).drop s.met.lanes[lane].chans[ch].envDone
    let t := samples.zipIdx.foldl (fun t p => t.envSample lane ch p.1 (due.getD p.2 s.now)) s
    .next (State.finish s (t.setChan lane ch fun c => { c with envDone := c.envDone + samples.length }))

/-- R319: a change of MET_GCALk cuts the lane's cycle; the partial cycle ends at the issue stamp of its last sample and the
next begins at the tick of the change. A change of MET_LCAL or MET_SHn_c is taken up where the next cycle begins, with the
end of the cycle before it. -/
def execCalChangeEffect (lane : Fin 32) (wins refWins : List BitWindow) (s : State) : Host.Outcome State Fault Refusal :=
  if !s.met.lanes[lane].run || s.frozen then .next s
  else
    let t := s.placeCycle lane refWins
    match t.cutTick lane with
    | some x =>
      if (t.issues lane).getLast?.getD x == s.now then .next (State.finish s (t.endCycle lane wins (t.lastIssue lane) (128 * x))) else .next s
    | none => .next s

/-- R323: T_TRIG of a capture expires before its trigger. -/
def execTTrigExpiry (slot : Fin 4) (s : State) : Host.Outcome State Fault Refusal :=
  if !s.expired .tTrig slot.val then .next s else .next ((s.expire .tTrig slot.val).endCapture slot 0x22)

/-! ## Commands (Table 11-8) -/

/-- A lane that is enabled with its chain running. -/
def State.metLane (s : State) (d : Desc) : Option (Fin 32) :=
  match unitLane d with
  | some n => if s.lanes[n].st != .disabled && s.met.lanes[n].run then some n else none
  | none => none

/-- Whether a capture's ranges hold. -/
def captureRanges (d : Desc) : Bool :=
  decide (dbyte d 21 ≤ 1) && decide (dbyte d 22 ≤ 16) && decide (1 ≤ dbyte d 23 ∧ dbyte d 23 ≤ 64) && decide (dbyte d 24 ≤ 1) && dbyte d 27 == 0 &&
    dparam d 30 2 == 0

/-- The three cases of BAD_CAPTURE. -/
def State.badCapture (s : State) (n : Fin 32) (d : Desc) : Bool :=
  let mask := dbyte d 20
  let chans := (List.range 8).filter (hasBit mask)
  let bound := if dbyte d 21 == 0 then s.gridN n (s.met.lanes[n].begin / 128) else if s.isDc n then 960 else 1067
  mask == 0 || chans.any (fun c => !channelUsed (s.laneMode n) c) || (dbyte d 22 != 0 && dbyte d 24 == 0) ||
    decide ((dbyte d 22 + dbyte d 23) * chans.length * bound > 1048576)

/-- R323: opcode 0x78. -/
def execMetCapture (d : Desc) (s : State) : Host.Outcome State Fault Refusal :=
  .next (s.acceptSingle (.metCapture d) 0x78 d 0 (captureRanges d) fun s =>
    match s.metLane d with
    | none => s.answer 0 0x78 d stBadUnit
    | some n =>
      if s.badCapture n d then s.answer 0 0x78 d 0x20
      else
        match (List.finRange 4).find? fun i => (s.met.captures[i]).isNone with
        | none => s.answer 0 0x78 d stBusy
        | some i =>
          let t := s.setCapture i (some
            { lane := n, tag := d.tag, mask := BitVec.ofNat 8 (dbyte d 20), source := dbyte d 21, pre := dbyte d 22, post := dbyte d 23,
              onEvent := dbyte d 24 == 1, evMask := BitVec.ofNat 16 (dparam d 25 2), accepted := s.now, trigStamp := 0, trigBit := none,
              trigSample := 0, cycles := [] })
          let t := if dbyte d 24 == 1 && dparam d 28 2 != 0 then t.arm .tTrig i.val (dparam d 28 2 * ticksPerS) else t
          t.launch 0 0x78 d false [n.val] [] i.val)

/-- R323: opcode 0x79; it names a running capture of the unit's lane by its TAG. -/
def execMetCaptureCancel (d : Desc) (s : State) : Host.Outcome State Fault Refusal :=
  .next (s.acceptSingle (.metCaptureCancel d) 0x79 d 0 true fun s =>
    match s.metLane d with
    | none => s.answer 0 0x79 d stBadUnit
    | some n =>
      match (List.finRange 4).find? fun i => match s.met.captures[i] with
        | some c => c.tag.toNat == dparam d 24 2 && c.lane == n
        | none => false with
      | some i => (s.endCapture i 0x21).answer 0 0x79 d stOk
      | none => s.answer 0 0x79 d 0x23)

/-- FREQ in mHz: 0 in DC mode or before the chain runs. -/
def State.freqShown (s : State) (n : Fin 32) : Nat :=
  if s.isDc n || !s.met.lanes[n].run then 0 else freqOf s.met.lanes[n].shownPeriod

/-- The payload of MET_READ (Table 11-10), as after the last cycle end (R325). -/
def State.metReadPayload (s : State) (n : Fin 32) : Bytes :=
  let m := s.met.lanes[n]
  leBytes 9 m.lastSample ++ leBytes 4 m.cyc ++ leBytes 4 m.shownPeriod ++ leBytes 2 (s.freqShown n) ++
    [BitVec.ofNat 8 (m.shownTrk + 4 * bit m.run)] ++ zeros 12 ++
    ((List.finRange 8).flatMap fun c =>
      if channelUsed (s.laneMode n) c.val then
        let k := m.chans[c]
        leBytes 4 k.rms ++ leBytes 4 k.aggRms ++ leInt 4 k.pkmax ++ leInt 4 k.pkmin ++ leBytes 4 k.shownEnv
      else zeros 20)

/-- R323, R325: opcode 0x7A. -/
def execMetRead (d : Desc) (s : State) : Host.Outcome State Fault Refusal :=
  .next (s.acceptSingle (.metRead d) 0x7A d 192 true fun s =>
    match s.metLane d with
    | some n => (s.writeHost d.addr (s.metReadPayload n)).answer 0 0x7A d stOk
    | none => s.answer 0 0x7A d stBadUnit)

/-- R323: opcode 0x7B, the coefficients of the three filters. -/
def execMetCoefRead (d : Desc) (s : State) : Host.Outcome State Fault Refusal :=
  .next (s.acceptSingle (.metCoefRead d) 0x7B d 4296 (d.unit == 0) fun s =>
    (s.writeHost d.addr ((stage2Taps ++ stage3Taps ++ resamplerH).flatMap (leInt 4))).answer 0 0x7B d stOk)

end Sys2Proof.Machine
end

