-- ==== Sys2Proof/Machine/Power.lean ====
section
/-!
DEFINITION. Feeds, rails, battery supply, hold-up, commits, clocks and the resets of the chip (R58 to R80).
-/
namespace Sys2Proof.Machine

open Sys2Proof

/-- The power state replaced. -/
def State.setPower (s : State) (f : Power → Power) : State := { s with power := f s.power }

/-- A feed: 0 VIN_A, 1 VIN_B. -/
def State.feed (s : State) (i : Fin 2) : Feed := if i == 0 then s.power.feedA else s.power.feedB
def State.setFeed (s : State) (i : Fin 2) (x : Feed) : State :=
  s.setPower fun p => if i == 0 then { p with feedA := x } else { p with feedB := x }

/-- Whether the event sequencer stamps events: from step 9 of start-up (R81). -/
def State.stamps (s : State) : Bool := s.htcLoaded

/-! ## Feeds (R58 to R60) -/

/-- R58: the ideal diode compares VIN with VSYS: on above the forward threshold of 20 mV, off below the reverse threshold of 15 mV (log 27); off
while the feed is absent. -/
def execIdealDiodeChange (feed : Fin 2) (vinMv vsysMv : Nat) (s : State) : Host.Outcome State Fault Refusal :=
  let f := s.feed feed
  let on := f.present && (if vsysMv + 20 < vinMv then true else if vinMv + 15 < vsysMv then false else f.fetOn)
  .next ((s.setFeed feed { f with fetOn := on }).setPower fun p => { p with vsysMv := vsysMv })

/-- R60, R491: a feed change as an event: an absent feed sets its LOST bit; in pair MODE 2 or 3 also PAIR_ERR.FEED, and every change gives
a result. -/
def State.feedEvent (s : State) (i : Fin 2) : State :=
  let present := (s.feed i).present
  let s := s.note 1 32 (1 + i.val)
  let s := if present then s else s.setErr .pwr (1 + i.val)
  let dual := s.pf 0xF000 0 2 ≥ 2
  let s := if dual && !present then s.setErr .pair 4 else s
  if dual then s.pairResult 8 else s

/-- R59: VIN within 8.8 V to 61.0 V makes the feed present, with 0.4 V of hysteresis at each limit. The rule does not say to which side it lies: here
a feed is lost below 8.4 V or above 61.0 V and comes back from 8.8 V to 60.6 V (log 81). -/
def feedPresent (was : Bool) (vinMv : Nat) : Bool :=
  if was then 8400 ≤ vinMv && vinMv ≤ 61000 else 8800 ≤ vinMv && vinMv ≤ 60600

/-- R59, R60: a feed becomes present or absent; before step 9 of start-up nothing is stamped (R81). -/
def execFeedPresenceChange (feed : Fin 2) (vinMv : Nat) (s : State) : Host.Outcome State Fault Refusal :=
  let f := s.feed feed
  let p := feedPresent f.present vinMv
  if p == f.present then .next s
  else
    let t := s.setFeed feed ⟨p, p && f.fetOn⟩
    .next (if t.stamps then State.finish s (t.feedEvent feed) else t)

/-! ## Rails (R61 to R64) -/

/-- R61, R81: VSYS rises above 8.5 V with the rails down: the power-on reset. GLB_RST_CAUSE and GLB_COMMIT_STAT are cleared, then POR is set
(R94). Nothing starts while the controllers are locked out (R62). -/
def execPowerOn (s : State) : Host.Outcome State Fault Refusal :=
  if s.power.vsysUp || s.power.lockedOut then .next s
  else
    let t := s.railsOff
    .next { t with power := { t.power with vsysUp := true, attempts := 0, vsysMv := 8500 }, boot := { t.boot with step := 1 },
                   glb := { t.glb with rstCause := 1 } }

/-- R81 step 2: the A-die bias is good; REG4 and the CK_RFID oscillator start. -/
def execBiasGood (s : State) : Host.Outcome State Fault Refusal :=
  if !s.power.vsysUp || s.power.biasGood || s.boot.step != 1 then .next s
  else .next { s with power := { s.power with biasGood := true, starting := true }, boot := { s.boot with step := 2 } }

/-- R61, R81 steps 3 to 7: the rails become good in the order of Table 3-1; with VDD_IO33 the battery island moves to it (R65); with the last
one the crystals are stable and the internal power-on reset is released. -/
def execRailPowerGood (rail : Fin 5) (s : State) : Host.Outcome State Fault Refusal :=
  if !s.power.starting || s.power.railsGood != rail.val then .next s
  else
    let t := s.setPower fun p => { p with railsGood := rail.val + 1, starting := rail != 4, onVbat := p.onVbat && rail != 1,
                                          attempts := if rail == 4 then 0 else p.attempts }
    let t := { t with boot := { t.boot with step := 3 + rail.val } }
    .next (if rail == 4 then { t with clocks := { t.clocks with ok := t.clocks.ok ||| 0x07 } } else t)

/-- R62: a rail has missed power-good within 3.0 ms: all controllers stop; after the third failed attempt they stay off. -/
def execRailStartTimeout (rail : Fin 5) (s : State) : Host.Outcome State Fault Refusal :=
  if !s.power.starting || s.power.railsGood != rail.val then .next s
  else .next { s.toVbat with power := { s.toVbat.power with railsGood := 0, starting := false, retryWait := true,
                                                                  attempts := s.power.attempts + 1,
                                                                  lockedOut := decide (3 ≤ s.power.attempts + 1) },
                             boot := { s.boot with step := 2 } }

/-- R62: the 100 ms have passed: the sequence starts again, unless three attempts have failed. -/
def execRailRetryWaitEnd (s : State) : Host.Outcome State Fault Refusal :=
  if !s.power.retryWait then .next s
  else .next (s.setPower fun p => { p with retryWait := false, starting := !p.lockedOut })

/-- R64: VSYS has fallen below V_SYS_MIN. -/
def execVsysBelowMin (s : State) : Host.Outcome State Fault Refusal := .next (if s.power.vsysUp then s.railsOff else s)

/-- R62: VSYS has fallen below 4.0 V, and so below V_SYS_MIN: the lockout ends. -/
def execVsysBelowRestartFloor (s : State) : Host.Outcome State Fault Refusal :=
  let t := if s.power.vsysUp then s.railsOff else s
  .next (t.setPower fun p => { p with lockedOut := false, attempts := 0, vsysMv := 3999 })

/-! ## The battery island's supply (R65, R66) -/

/-- R65, R66: VBAT_LOW below 2.6 V; below the retention limit (1.9 V, typical, log 27) the island's contents are lost as soon as VBAT alone
supplies it, now or later. -/
def execVbatLowChange (vbatMv : Nat) (s : State) : Host.Outcome State Fault Refusal :=
  let low := decide (vbatMv < 2600)
  let t := s.setPower fun p => { p with vbatLow := low, vbatLost := decide (vbatMv < 1900) }
  let t := if low && !s.power.vbatLow && t.stamps then t.setErr .pwr 0 else t
  .next (if t.power.onVbat then t.toVbat else t)

/-- R65: the island runs from VDD_IO33 while that is above 3.0 V. -/
def execBatteryIslandSwitchover (vddIo33Mv : Nat) (s : State) : Host.Outcome State Fault Refusal :=
  .next (if vddIo33Mv ≤ 3000 then s.toVbat else s.setPower fun p => { p with onVbat := false })

/-! ## Hold-up and commits (R67 to R78) -/

/-- V_HU in mV (Table 3-16). -/
def State.vHu (s : State) : Nat := 50 * s.glb.holdupThresh.toNat

/-- R67, R68, R84: VSYS_SNS has stayed below V_HU for 50 µs: hold-up at stamp F. Every coil enable is withdrawn, the displays are interrupted
(R484) with no completion, the pair line is released, and from step 10 on a hold-up commit starts. Before step 7, with the internal power-on reset not
released, nothing detects it (log 82). -/
def execHoldupDetect (vsysMv heldUs : Nat) (s : State) : Host.Outcome State Fault Refusal :=
  let s := s.setPower fun p => { p with vsysMv := vsysMv }
  if s.boot.step < 7 || s.power.holdupNow || vsysMv ≥ s.vHu || heldUs < 50 then .next s
  else
    let t := s.setPower fun p => { p with holdupNow := true }
    let t := if t.stamps then t.note 1 32 0 else t
    let t := (List.finRange 4).foldl (fun t p => t.epdInterrupt p none) t
    .next (State.finish s (t.startCommit 2 none))

/-- The image that a commit writes (Table 3-2). -/
def State.commitImage (s : State) (c : Commit) : CommitImage :=
  { kind := c.kind, profile := s.glb.profActive.toNat, gen := c.gen, freeze := c.freeze, rtcSec := s.island.rtcSec,
    rtcValid := s.book.img.clkValid, dieId := s.fuses.dieIdD, bundle := s.mgt.verRun, accs := s.nrg.accs,
    book := { s.book.img with debitEn := s.pf 0xA000 0 1 == 1 },
    abacus := s.abcImage,
    pulses := (List.finRange 8).map fun k => (s.nrg.pulses[k].carry, s.nrg.pulses[k].sched.length, s.altSel k) }

/-- R207: at the freeze stamp the reservations still pending are abandoned, stamped F. -/
def State.dropAt (s : State) (f : Nat) : State :=
  let t := ({ s with htc := BitVec.ofNat 72 f, frozenAt := none } : State).dropReservations
  { t with htc := s.htc, frozenAt := s.frozenAt }

/-- R68: the record holds the state at F: it is captured before anything later than F is applied. -/
def State.shadowCapture (s : State) : State :=
  match s.commit with
  | some c =>
    if c.shadow.isNone && !c.bodyDone then
      let t := if c.kind == 1 then s else s.dropAt c.freeze
      { t with commit := some { c with shadow := some (t.commitImage c) } }
    else s
  | none => s

/-- A commit slot replaced. -/
def State.putSlot (s : State) (slotB : Bool) (x : CommitSlot) : State :=
  { s with nv := if slotB then { s.nv with slotB := some x } else { s.nv with slotA := some x } }

/-- R69: the body of the record is written; the trailer write begins. -/
def execCommitBodyWritten (s : State) : Host.Outcome State Fault Refusal :=
  let s := s.shadowCapture
  match s.commit with
  | none => .next s
  | some c =>
    if c.bodyDone then .next s
    else .next ({ s with commit := some { c with bodyDone := true, shadow := none } }.putSlot c.slotB
      ⟨commitMagic, commitFormat, c.gen, c.freeze, c.shadow, none⟩)

/-- R69, R75: the trailer, the generation repeated and the digest, is written: the record is valid. A chip reset that waits for it follows. -/
def execCommitTrailerWritten (s : State) : Host.Outcome State Fault Refusal :=
  match s.commit with
  | none => .next s
  | some c =>
    if !c.bodyDone then .next s
    else
      let done (x : Option CommitSlot) : Option CommitSlot := x.map fun y => { y with trailer := y.image.map CommitImage.trailer }
      let t := { s with nv := if c.slotB then { s.nv with slotB := done s.nv.slotB } else { s.nv with slotA := done s.nv.slotA },
                        glb := { s.glb with comGen := BitVec.ofNat 24 c.gen, comKind := BitVec.ofNat 3 c.kind, comSlotB := c.slotB },
                        commit := none }
      .next t.takeReset

/-- R76: a checkpoint starts at each multiple of INTERVAL seconds (class 14), once on a stamp. -/
def execCheckpointStart (s : State) : Host.Outcome State Fault Refusal :=
  let i := s.glb.ckptInterval.toNat
  let taken (x : Option CommitSlot) : Bool := match x with | some y => y.freeze == s.now | none => false
  if i == 0 || s.now % (i * ticksPerS) != 0 || !s.legalOn || s.commit.isSome || s.frozenAt.isSome || taken s.nv.slotA || taken s.nv.slotB then .next s
  else .next ((s.note 14 32 0).startCommit 1 none)

/-- R77: VSYS has stayed at or above V_HU + 1.0 V for 100 ms: once the hold-up commit is complete the part resets. A hold-up that made no commit
(R84) just ends. -/
def execHoldupRecover (vsysMv heldMs : Nat) (s : State) : Host.Outcome State Fault Refusal :=
  let s := s.setPower fun p => { p with vsysMv := vsysMv }
  if !s.power.holdupNow || vsysMv < s.vHu + 1000 || heldMs < 100 || s.commit.isSome then .next s
  else if s.frozenAt.isSome then .next ({ s with glb := { s.glb with rstCause := setBitR s.glb.rstCause 4 } } : State).chipReset
  else .next (s.setPower fun p => { p with holdupNow := false })

/-! ## Resets of the chip (R80) -/

/-- R80: RST_N is low for at least 1 µs: a reset commit if the legal path runs, then a reset that lasts while RST_N is low. -/
def execRstNAssert (lowUs : Nat) (s : State) : Host.Outcome State Fault Refusal :=
  if lowUs < 1 then .next s
  else
    let t := { s with boot := { s.boot with rstNHigh := false } }
    .next (if s.boot.step < 7 then t else (t.requestChipReset 1).takeReset)

/-- R80: RST_N rises; the straps are sampled 0.5 ms later (R82). -/
def execRstNRelease (s : State) : Host.Outcome State Fault Refusal := .next { s with boot := { s.boot with rstNHigh := true } }

/-! ## Clocks (R79) -/

/-- A clock of GLB_CLK_STAT is lost: its OK bit falls and its LOST bit, a fault source, is set. -/
def State.clockLost (s : State) (b : Nat) : State :=
  ({ s with clocks := { s.clocks with ok := s.clocks.ok &&& ~~~(BitVec.ofNat 8 (2 ^ b)) } } : State).setErr .clk b
def State.clockBack (s : State) (b : Nat) : State :=
  { s with clocks := { s.clocks with ok := s.clocks.ok ||| BitVec.ofNat 8 (2 ^ b) } }

/-- The clock-failure commit and the chip reset that follows it. -/
def State.clockFailure (s : State) : State :=
  let s := { s with glb := { s.glb with rstCause := setBitR s.glb.rstCause 5 }, chipResetDue := some (s.chipResetDue.getD 5) }
  (s.startCommit 4 (some 5))

/-- R79, R40: CK_REF is lost: the PLLs run from the backup oscillator, DRAM refreshes itself and so is unavailable, and the clock-failure
commit and a chip reset follow; start-up then waits for CK_REF. -/
def execCkRefLoss (s : State) : Host.Outcome State Fault Refusal :=
  if !s.clocks.ok.getLsbD 0 then .next s
  else if s.boot.step < 8 then .next (s.clockLost 0)
  else
    let t := (if s.boot.ddrOk then s.guaranteeLost 4 else s).clockLost 0
    let t := { t with clocks := { t.clocks with onBackup := true, selfRefresh := true } }
    .next (State.finish s t.clockFailure)

/-- R79: CK_REF is present again. -/
def execCkRefReturn (s : State) : Host.Outcome State Fault Refusal :=
  let t := s.clockBack 0
  .next { t with boot := { t.boot with waitRef := false } }

/-- R79, R40: CK_MET is lost: the HTC stops, every coil enable is withdrawn, and the clock-failure commit with F at the last HTC value and a chip
reset follow; before step 9 of start-up, with no legal path, the reset alone. -/
def execCkMetLoss (s : State) : Host.Outcome State Fault Refusal :=
  if !s.clocks.ok.getLsbD 1 then .next s
  else if s.boot.step < 7 then .next (s.clockLost 1)
  else
    .next (State.finish s ((if s.stamps then s.guaranteeLost 0 else s).clockLost 1).clockFailure)

/-- R79, R205: CK_RFID is lost: the readers stop. -/
def execCkRfidLoss (s : State) : Host.Outcome State Fault Refusal :=
  if !s.clocks.ok.getLsbD 2 then .next s
  else .next (State.finish s (((s.clockLost 2).setErr .tok 0).collapseAll))

/-- R79: CK_RFID returns and the readers go on. -/
def execCkRfidReturn (s : State) : Host.Outcome State Fault Refusal := .next (s.clockBack 2)

/-- R79, R371, R448: CK_RTC is lost: the wall clock is invalid and no elapsed time is given. -/
def execCkRtcLoss (s : State) : Host.Outcome State Fault Refusal :=
  if !s.clocks.ok.getLsbD 3 then .next s
  else
    let t := s.clockLost 3
    let t := { t with island := { t.island with rtcValid := false, elapsedOk := false } }
    .next (State.finish s (if t.legalOn then t.clockInvalid else t))

/-- R79, R448: CK_RTC is present again and the elapsed-second counter gives elapsed time. -/
def execCkRtcReturn (s : State) : Host.Outcome State Fault Refusal :=
  let t := s.clockBack 3
  .next { t with island := { t.island with elapsedOk := true } }

/-- R79, R40: a PLL loses lock: 0 SYS, 1 SC, 2 PLC, 3 DDR, in the bit order of GLB_CLK_STAT. Without the DDR PLL, DRAM is unavailable. -/
def execPllLockLoss (pll : Fin 4) (s : State) : Host.Outcome State Fault Refusal :=
  let b := 4 + pll.val
  if !s.clocks.ok.getLsbD b then .next s
  else
    .next (State.finish s ((if pll == 3 && s.boot.ddrOk then s.guaranteeLost 4 else s).clockLost b))

/-- R79: a PLL locks again. -/
def execPllRelock (pll : Fin 4) (s : State) : Host.Outcome State Fault Refusal :=
  .next (if s.boot.step < 8 then s else s.clockBack (4 + pll.val))

/-- R40: a frame of the inter-die bridge fails its check. -/
def execBridgeFrameError (s : State) : Host.Outcome State Fault Refusal :=
  .next (State.finish s ((if s.stamps then s.guaranteeLost 3 else s).setErr .mgt 0))

end Sys2Proof.Machine
end

