-- ==== Sys2Proof/Machine/Profile.lean ====
section
/-!
DEFINITION. Profiles: the checks of a load (R90), the claims (R518, R519), the request and the switch (R91, R92, R520).
-/
namespace Sys2Proof.Machine

open Sys2Proof

/-! ## The checks of a load (R90) -/

/-- A register of a profile, or its Reset value, and a field of it. -/
def profOf (m : RegMap) (off : Nat) : Reg := regGet (rowsReset profRows off) m off
def pfOf (m : RegMap) (off lo w : Nat) : Nat := regField (profOf m off) lo w

/-- The settings of a body: offset and value, eight bytes each (log 47). A register outside the profile must be zero; none when a value is out
of range. -/
def profMap : Nat → Bytes → RegMap → Option RegMap
  | 0, _, m => some m
  | n + 1, bs, m =>
    let off := field bs 0 4
    let v : Reg := BitVec.ofNat 32 (field bs 4 4)
    match profRows.find? (·.has off) with
    | some r => if r.ok v then profMap n (bs.drop 8) (regPut r.resetVal m off v) else none
    | none => if v == 0 then profMap n (bs.drop 8) m else none

/-- A strictly increasing list. -/
def rising : List Int → Bool
  | a :: b :: rest => decide (a < b) && rising (b :: rest)
  | _ => true

/-- Whether lane n is DC in a profile, and what R133, R263, R264, R265, R267 forbid a lane. -/
def dcIn (m : RegMap) (n : Fin 32) : Bool := pfOf m (laneOff n) 1 2 == 2
def laneOkIn (m : RegMap) (n : Fin 32) : Bool :=
  let lcfg (lo : Nat) : Nat := pfOf m (0x6400 + 0x20 * n.val) lo 1
  (!dcIn m n || (pfOf m (laneOff n) 3 2 == 1 && lcfg 0 == 0 && lcfg 2 == 0 && lcfg 4 == 0)) &&
    (lcfg 3 == 0 || pfOf m (laneOff n + 0x10) 8 12 != 0)

/-- R262: a DUAL pair. -/
def dualOkIn (m : RegMap) (j : Fin 36) : Bool :=
  let a : Nat := 0x6100 + 8 * j.val
  let b : Nat := a + 4
  let same (lo w : Nat) : Bool := pfOf m a lo w == pfOf m b lo w
  (pfOf m a 0 3 != 2 && pfOf m b 0 3 != 2) || (same 0 3 && !same 3 2 && same 5 2 && same 8 4 && same 12 3)

/-- R472, Table 17-4: a display port. -/
def epdOkIn (m : RegMap) (p : Fin 4) : Bool :=
  let f (off lo w : Nat) : Nat := pfOf m (0xE100 + 0x80 * p.val + off) lo w
  let t (v : Nat) : Int := signedByte v
  let inRange (x : Int) : Bool := decide (-40 ≤ x) && decide (x ≤ 85)
  let tmin := t (f 0x0C 0 8)
  let tmax := t (f 0x0C 8 8)
  let ths := [t (f 0x14 0 8), t (f 0x14 8 8), t (f 0x14 16 8), t (f 0x14 24 8), t (f 0x18 0 8), t (f 0x18 8 8), t (f 0x18 16 8)]
  let frate := if f 0x04 16 1 == 1 then 85 else 50
  let frame := f 0 12 10 * (f 0 1 11 / 4 + f 0x04 8 8) * (2 * (f 0x04 0 5 + 1)) * frate
  f 0 1 11 % 4 == 0 && inRange tmin && inRange tmax && decide (tmin < tmax) && rising ths && (f 0 0 1 == 0 || decide (frame ≤ 760000000))

/-- The fields whose ranges depend on one another, over the chapters (ERR = 2). -/
def crossOk (m : RegMap) : Bool :=
  let f := pfOf m
  let dcp := (List.range 4).filterMap fun k => if f (0x6010 + 4 * k) 31 1 == 1 then some (f (0x6010 + 4 * k) 0 13 : Int) else none
  let tone := [f 0xB00C 0 6, f 0xB00C 8 6, f 0xB00C 16 6, f 0xB00C 24 6]
  let shunt := f 0x6028 20 6
  allLanes.all (laneOkIn m) && (List.finRange 36).all (dualOkIn m) && (List.finRange 4).all (epdOkIn m) &&
    f 0x3020 0 5 == 0 && (f 0x5000 0 1 == 0 || f 0x5004 0 24 != 0) && decide (f 0x500C 0 32 ≤ f 0x5008 0 32) &&
    f 0x5010 0 16 % 125 == 0 && f 0x5010 16 16 % 125 == 0 && decide (f 0x5010 16 16 ≤ f 0x5010 0 16) &&
    decide (f 0x6020 12 12 ≤ f 0x6020 0 12) && rising dcp && (shunt == 0 || decide (32 ≤ shunt)) &&
    (List.range 8).all (fun j => f (0x7200 + 16 * j) 20 1 == f (0x7208 + 16 * j) 20 1) &&
    (f 0xF000 0 2 % 2 == 0 || (decide (32 ≤ f 0xF000 4 6) && decide (f 0xF000 4 6 ≤ 47))) &&
    (f 0xB000 0 1 == 0 || f 0xB004 16 16 != 0) && decide (250 + 10 * 16 * f 0xB010 8 8 + 1000 ≤ 100 * f 0xB010 0 8) &&
    decide (f 0xB018 16 8 ≤ f 0xB018 24 8) && (List.range 3).all (fun i => decide (tone.getD i 0 + 2 ≤ tone.getD (i + 1) 0)) &&
    (List.range 448).all fun s => f (0xD400 + 4 * s) 0 3 != 3 || f (0xD400 + 4 * s) 4 3 != 7 || s / 32 == 2 || s / 32 == 8

/-! ## Claims (R518, R519) -/

/-- ARB_CLAIM of a broken rule. -/
def claimWord (kind index a b : Nat) : Reg := BitVec.ofNat 32 (kind + 16 * index + 4096 * a + 65536 * b + 2 ^ 20)

/-- The first claim rule that a profile breaks, in the order of Table 19-4 and in ascending index; the fitted DRAM is 8 GiB (Table 3-7). -/
def brokenClaim (m : RegMap) : Option Reg :=
  let sel := if pfOf m 0xF000 0 2 % 2 == 1 then pfOf m 0xF000 4 6 else 0
  let shunt := pfOf m 0x6028 20 6
  let chan := ((List.range 16).map (32 + ·)).findSome? fun c =>
    if shunt == c && sel == c then some (claimWord 1 c 2 3)
    else if (shunt == c || sel == c) && pfOf m (0x7200 + 8 * (c - 32)) 20 1 == 1 then some (claimWord 2 c (if shunt == c then 2 else 3) 0)
    else none
  let can := (List.range 4).findSome? fun k =>
    let dcs := allLanes.filter fun n => n.val / 8 == k && dcIn m n
    let addrs := dcs.map fun n => pfOf m (laneOff n + 0x10) 0 6
    if dcs.isEmpty then none
    else if pfOf m (0x2060 + 0x400 * k) 0 1 == 0 then some (claimWord 3 k 4 0)
    else if addrs.eraseDups.length != addrs.length then some (claimWord 3 k 4 4)
    else none
  let base := pfOf m 0x5000 5 3
  let led := if pfOf m 0x5000 0 1 == 1 && (base < 1 || 8 < base + 1) then some (claimWord 4 base 5 0) else none
  chan.or (can.or led)

/-! ## Loading -/

/-- What a load finds: the settings, or GLB_PROF_STAT.ERR and ARB_CLAIM. -/
inductive Load where
  | ok (m : RegMap)
  | err (code : Nat) (claim : Reg)
  deriving DecidableEq, Repr

/-- The stored profile of an index: during a trial the shadow region's (R459). -/
def State.storedProfile (s : State) (i : Fin 4) : ProfSlot :=
  if s.nv.boot.state == 4 then (match s.nv.shadow.find? (·.1 == i.val) with | some p => p.2 | none => s.nv.profiles[i]) else s.nv.profiles[i]

/-- The bundle that a load is held against: the running one, else the one that MGT_BOOTREQ names, none when it names none (log 60). -/
def State.bundleFor (s : State) : Option (Reg × Nat) :=
  if s.mgt.verRun != 0 then some (s.mgt.verRun, s.mgt.runFormat)
  else if s.mgt.bootKind == 3 then none
  else if s.nv.boot.state == 4 then some (s.mgt.bootVer, s.nv.boot.candFormat)
  else some (s.mgt.bootVer, s.nv.boot.confFormat)

/-- R90: the checks of a load, the empty check first, then the header, the format, the values, the bundle, the claims. -/
def State.checkProfile (s : State) (i : Fin 4) : Load :=
  let p := s.storedProfile i
  let b := s.bundleFor
  if p.isEmpty then .err 5 0
  else if p.magic != profMagic || p.index != i.val || p.format == 0 || p.length != p.body.length || Config.sha256 p.body != p.digest then .err 1 0
  else if (match b with | some x => x.2 != p.format | none => false) then .err 2 0
  else match (if p.length % 8 == 0 then profMap (p.length / 8) p.body [] else none) with
    | none => .err 2 0
    | some m =>
      if !crossOk m then .err 2 0
      else if (match b with | some x => decide (x.1.toNat < p.minBundle.toNat) | none => false) then .err 3 0
      else match brokenClaim m with
        | some c => .err 4 c
        | none => .ok m

/-! ## The switch (R92) -/

/-- The release of the pair line by a switch to MODE 0 or 2 (Table 18-2): the lanes follow their EN bits of the new profile at once. -/
def State.pairLeave (s : State) : State :=
  let s := ((((s.cancel .tSwitch 0).cancel .tLink 0).cancel .tSettle 0).cancel .tTbwin 0).dropPairHold
  let held := s.pair.hold
  let s := if held then s.note 0 32 101 else s
  let s := (s.flights.filter (·.opcode == 0xD8)).foldl (fun s f => s.settleFlight f stOk 0 0) s
  let s := s.setPair fun p => { p with drive := false, hold := false, enabled := false, probes := 0, contend := 0, linkUp := false, sync := false,
                                       wasHealthy := false, settled := false, tbAsked := false, released := false }
  if held then s.pairResult 1 else s

/-- R260: an input whose TYPE or TPS changes starts anew: it reads open, which counts for its ACTION; UNUSED reads closed. Another keeps its
filtered state, unless its supply is off (R259). One that reads open or is faulted under the new settings holds latch 0 (Table 9-2; log 72). -/
def State.sinRestart (s0 s : State) (i : Fin 72) : State :=
  let anew := s0.sinType i != s.sinType i || s0.sinTps i != s.sinTps i
  let was := s0.sinReads i
  let s := s.setSin i fun x =>
    { x with closed := if anew then s.sinType i == 0 else x.closed && (!s.sinPulsed i || s.saf.tps[s.sinTps i].on),
             core := if anew then s.sinType i == 0 else x.core, coreRun := if anew then 0 else x.coreRun }
  let s := if s.sinReads i == was then s else s.sinResult i
  (if s.sinGood i then s else s.sinAct i).pairCheck i

/-- A test-pulsed supply enabled by the switch begins to drive; one disabled goes off. -/
def State.tpsSwitch (s0 s : State) (k : Fin 4) : State :=
  let en := s.pf 0x6000 k.val 1 == 1
  if (s0.pf 0x6000 k.val 1 == 1) == en then s
  else s.setTps k fun t => { t with on := en && !t.fault, first := none, last := none, lowSeen := none, highSeen := none }

/-- The safety island takes its configuration (R249, R257, R258, R263): ARMED falls, the CRC is that of the new section, every DC point timer is
cancelled, and T_AUTORST starts where the last input that held a latch now reads closed. -/
def State.safSwitch (s0 s : State) : State :=
  let s := s.disarm 0xFF
  let s := s.setIsland fun x => { x with cfgBad := false, cfgMatch := false, crc := crc32 s.safBytes, crcCount := 0,
                                         lanes := x.lanes.map fun l => { l with pointFrom := s.now } }
  let s := (List.finRange 4).foldl (fun s k => State.tpsSwitch s0 s k) s
  ((List.finRange 72).foldl (fun s i => State.sinRestart s0 s i) s).autoRst

/-- R285, R520: the auxiliary channels at a switch: a channel newly claimed goes off, its LSW_SET ends, RETRY_LEFT is loaded; the RETRIES of the new
profile for every channel in OFF; a shunt pulse on a channel that is released ends; a new selector takes over while the part holds. -/
def State.claimSwitch (s0 s : State) : State :=
  let s := if s0.shuntCh != s.shuntCh && s.saf.shuntUntil.isSome then
      let s := s.setIsland fun x => { x with shuntUntil := none }
      (match s0.shuntCh with | some c => s.auxOff c | none => s)
    else s
  let s := if s0.selectorCh != s.selectorCh then (match s0.selectorCh with | some c => s.auxOff c | none => s) else s
  let s := (List.finRange 16).foldl (fun s m =>
    let c := auxCh m
    let retries := s.acfg2 c 8 3
    if s.claimed c && !s0.claimed c then ((s.endSet c).auxOff c).setCh c fun ch => { ch with left := retries }
    else if s.lsw.chans[c].st == .off then s.setCh c fun ch => { ch with left := retries }
    else s) s
  if s0.selectorCh != s.selectorCh && s.pair.hold then (match s.selectorCh with | some c => s.auxOn c | none => s) else s

/-- R346: an output that takes its alternative function drops what it had scheduled. -/
def State.altSwitch (s0 s : State) : State :=
  (List.finRange 8).foldl (fun s k => if s.altSel k && !s0.altSel k then s.setPulse k fun p => { p with sched := [] } else s) s

/-- R319, R320: a lane whose MET_LCFG or thresholds alone change starts a new aggregation block; samples issued up to the switch keep the old ones. -/
def State.blockRestart (s0 s : State) (n : Fin 32) : State :=
  let o := 0x8104 + 0x20 * n.val
  if [o, o + 4, o + 8].all (fun x => s0.prof x == s.prof x) then s
  else s.setMet n fun m => { m with blockCyc := 0, blockCnt := 0, chans := m.chans.map fun c => { c with blockSq := 0 },
                                    thrOld := m.thrOld ++ [(s.now, [s0.prof o, s0.prof (o + 4), s0.prof (o + 8)])] }

/-- The display ports at a switch (R482; log 48): one that is disabled ends what runs, one whose panel changes starts anew, one that is enabled
starts. -/
def State.epdSwitch (s0 s : State) : State :=
  let s := (List.finRange 4).foldl (fun s p =>
    if s0.epd[p].on && (!s.epdEn p || s0.epdWidth p != s.epdWidth p || s0.epdHeight p != s.epdHeight p) then
      ((s.epdInterrupt p (some stAborted)).epdDropJobs p).setEpd p fun e =>
        if s.epdEn p then { e with on := false } else { e with on := false, duty := 0, req := 0, cleared := false }
    else s) s
  s.epdStartAll

/-- The site line at a switch: it starts anew when its role, network or tone set changes (log 52). -/
def State.lineSwitch (s0 s : State) : State :=
  let same (o : Nat) : Bool := s0.prof o == s.prof o
  if s0.lineEn == s.lineEn && (!s.lineEn || (same 0xB000 && same 0xB004 && same 0xB008 && same 0xB00C)) then s
  else if s0.lineEn then s.lineReset else s.lineStart

/-- The lanes whose mode or enable in effect differs. -/
def laneChanges (s0 s : State) (n : Fin 32) : Bool := s0.laneEn n != s.laneEn n || s0.laneMode n != s.laneMode n

/-- R92: the switch to the settings of profile i at this stamp. The cycle in progress of a lane whose mode or enable changes ends under the old
settings with the modulator bits given for it (R319); then every chapter takes the new settings. -/
def State.switchTo (s : State) (i : BitVec 2) (m : RegMap) (cut : List (Fin 32 × List BitWindow × List BitWindow)) : State :=
  let old := s
  let leaves := s.paired && pfOf m 0xF000 0 2 % 2 == 0
  let joins := !s.paired && pfOf m 0xF000 0 2 % 2 == 1
  let took (s : State) : State :=
    let s := if leaves then s.pairLeave else s
    let s := if joins then s.setPair fun p => { p with enabled := false } else s
    { s with cfg := m, glb := { s.glb with profActive := i, profActiveValid := true, profErr := 0 } }
  let new := took s
  let s := s.forLanes fun s n =>
    if laneChanges old new n && s.met.lanes[n].start.isSome then
      let s := match cut.find? (·.1 == n) with
        | some (_, wins, ref) => (s.placeCycle n ref).endCycle n wins s.now (s.nextBegin n)
        | none => s
      s.chainStop n
    else s
  let s := took s
  let s := { s with boot := { s.boot with profOk := true }, met := { s.met with switched := true } }
  let s := s.forLanes fun s n => (s.setLane n fun l => { l with limit := s.lanePf n 4 0 10 }).drivePilot n
  let s := s.forLanes fun s n => if old.laneEn n != s.laneEn n then s.laneEnable n (s.laneEn n) else s
  let s := s.forLanes fun s n => if laneChanges old s n then (if s.laneEn n then s.chainStart n else s) else State.blockRestart old s n
  let s := s.forLanes fun s n => if laneChanges old s n then s.testEnd n else s
  let s := State.altSwitch old (State.claimSwitch old (State.safSwitch old s.mclkPlan))
  let s := State.epdSwitch old (State.lineSwitch old s)
  let mode := s.pf 0xF000 0 2
  if 2 ≤ mode && !(old.glb.profActiveValid && 2 ≤ old.pf 0xF000 0 2) then
    [s.power.feedA, s.power.feedB].foldl (fun s f => if f.present then s else (s.setErr .pair 4).pairResult 8) s
  else s

/-- A load of a profile: ARB_CLAIM is cleared first; a failed load leaves the active profile in force (R90, R91, R519). -/
def State.loadProfile (s : State) (i : BitVec 2) (cut : List (Fin 32 × List BitWindow × List BitWindow)) : State :=
  let s := { s with arb := { s.arb with claim := 0 } }
  match s.checkProfile i.toFin with
  | .ok m => s.switchTo i m cut
  | .err code claim => { s with glb := { s.glb with profErr := BitVec.ofNat 4 code }, arb := { s.arb with claim := claim } }

/-! ## Rows -/

/-- R91: GLB_PROF_REQ with GO = 1 (class 14). A request for the active profile discards the pending one. -/
def execProfileRequest (index : BitVec 2) (s : State) : Host.Outcome State Fault Refusal :=
  let s := s.note 14 32 0
  if s.glb.profActiveValid && s.glb.profActive == index then .next { s with glb := { s.glb with profPendingValid := false } }
  else .next { s with glb := { s.glb with profPending := index, profPendingValid := true } }

/-- R91: GLB_PROF_REQ with CANCEL = 1. -/
def execProfileCancel (s : State) : Host.Outcome State Fault Refusal :=
  .next { s with glb := { s.glb with profPendingValid := false } }

/-- R91, R92: the pending profile is loaded at the first quiescent point (class 14), not before the load of step 11 (Table 3-7); nothing is applied
after a freeze (R68). -/
def execProfileSwitch (cut : List (Fin 32 × List BitWindow × List BitWindow)) (s : State) : Host.Outcome State Fault Refusal :=
  if !s.glb.profPendingValid || s.boot.step < 11 || !s.quiescent || s.frozen then .next s
  else
    let t := (s.note 14 32 0).loadProfile s.glb.profPending cut
    .next (State.finish s { t with glb := { t.glb with profPendingValid := false } })

/-- R90, R81 step 11: the profile that the straps select is loaded at start-up. -/
def execStartupProfileLoad (s : State) : Host.Outcome State Fault Refusal :=
  if s.boot.step != 10 then .next s
  else
    let t := s.loadProfile s.boot.straps []
    .next (State.finish s { t with boot := { t.boot with step := 11, phase := 4 } })

/-- R522: opcode 0xE0: a stored profile is checked as a load would, and nothing changes. -/
def execArbClaimCheck (d : Desc) (s : State) : Host.Outcome State Fault Refusal :=
  .next (s.acceptSingle (.arbClaimCheck d) 0xE0 d 0 (decide (d.unit.toNat < 4)) fun s =>
    match s.checkProfile (BitVec.ofNat 2 d.unit.toNat).toFin with
    | .ok _ => s.answer 0 0xE0 d stOk
    | .err 4 claim => s.answer 0 0xE0 d 0x20 0 claim.toNat
    | .err code _ => s.answer 0 0xE0 d 0x21 0 code)

end Sys2Proof.Machine
end

