-- ==== Sys2Proof/Machine/Startup.lean ====
section
/-!
DEFINITION. Start-up from the sampling of the straps to the endpoint and DRAM (R81 to R87, Table 3-7).
-/
namespace Sys2Proof.Machine

open Sys2Proof

/-- Start-up stops: PHASE 0xF with its FAIL_CODE (Table 3-14). -/
def State.bootFail (s : State) (code : Byte) : State := { s with boot := { s.boot with phase := 0xF, failCode := code } }

/-- Whether CHECK of a die ID is correct (R93). -/
def dieOk (id : BitVec 64) : Bool := id.toNat % 16384 == crc14 id

/-! ## Step 8 -/

/-- R82, R427: the straps, PAIR_PRI and JTAG_TRST_N are sampled once RST_N is high and CK_REF present; debug is fixed. -/
def execStrapSample (prof : BitVec 2) (pairPri trstHigh : Bool) (s : State) : Host.Outcome State Fault Refusal :=
  if s.boot.step != 7 || !s.boot.rstNHigh || !s.clocks.ok.getLsbD 0 then .next s
  else .next { s with boot := { s.boot with straps := prof, strapsTaken := true, pairPri := pairPri, trstHigh := trstHigh, phase := 1, step := 8 },
                      pair := { s.pair with pri := pairPri },
                      keys := { s.keys with debug := trstHigh && !s.fuses.debugLock } }

/-! ## Step 9 -/

/-- The newest valid commit slot (R70). -/
def Nv.newestSlot (nv : Nv) : Option CommitSlot :=
  if nv.newestB then nv.slotB else match nv.slotA with | some a => if a.valid then some a else none | none => none

/-- The header of a torn record: not valid, with a generation above the newest valid record's (R70). -/
def Nv.tornSlot (nv : Nv) : Option CommitSlot :=
  match nv.newestSlot with
  | some v => [nv.slotA, nv.slotB].findSome? fun x => x.bind fun y => if !y.valid && v.gen < y.gen then some y else none
  | none => none

/-- R85, R88: a blank MRAM directory: the fixed regions are written, the directory and every byte of the profile slots as zero. -/
def State.blankRegions (s : State) : State :=
  if s.nv.dir.isNone then
    { s with nv := { s.nv with dir := some ⟨Config.dirMagic, Config.mramCapacity, Config.mramRegions⟩, profiles := .replicate 4 ProfSlot.reset } }
  else s

/-- R26, R78, R85: the commit record is chosen, the HTC loaded, GLB_COMMIT_STAT set. -/
def State.chooseRecord (s : State) : State :=
  let newest := s.nv.newestSlot
  let torn := s.nv.tornSlot.isSome
  let s := { s with boot := { s.boot with torn := torn } }
  let s := { s with htc := match newest with | some v => BitVec.ofNat 72 (v.freeze + 1) | none => 0, htcLoaded := true, outside := false }
  match newest with
  | some v => { s with glb := { s.glb with torn := s.glb.torn || torn, none := false, comGen := BitVec.ofNat 24 v.gen, comSlotB := s.nv.newestB,
                                           comKind := match v.image with | some i => BitVec.ofNat 3 i.kind | none => 0 } }
  | none => { s with glb := { s.glb with none := true } }

/-- The boot ROM's entries on the record: TORN or FIRST_START (Table 16-5). -/
def State.recordEntries (s : State) : State :=
  match s.nv.newestSlot, s.nv.tornSlot with
  | some v, some t => s.legal 0x02 (leBytes 9 v.freeze ++ leBytes 9 t.freeze)
  | some _, none => s
  | none, _ => s.legal 0x01 (leBytes 8 s.fuses.dieIdD.toNat)

/-- R66, R421, R465: an island whose integrity check fails has lost its contents: a zeroisation with cause RETENTION, and the
anti-rollback TALLY rebuilt from the level fuses. -/
def State.retentionCheck (s : State) : State :=
  if s.island.integrity then s
  else
    let floor := s.fuses.level * 2 ^ 24
    let s := { s with
      island := { s.island with root := none, integrity := true, tamp := setBitR s.island.tamp 5, rtcSec := 0, rtcValid := false, elapsed := 0,
                                elapsedOk := false, tampSec := 0, sealLatch := [], caseOpenings := 0, caseFirst := 0, keyTally := 0,
                                antiRollback := floor, unpoweredCauses := s.island.unpoweredCauses ++ [5] },
      keys := { s.keys with retLost := true } }
    s.legal 0x04 (leBytes 4 floor)

/-- R458: MGT_BOOTREQ, and what a start-up makes of the candidate's state. -/
def State.bootRecord (s : State) : State :=
  let b := s.nv.boot
  if b.state == 3 then (s.setBoot fun b => { b with state := 4 }).setMgt fun m => { m with bootKind := 1, bootVer := b.cand }
  else if b.state == 4 then
    let s := ({ s with nv := { s.nv with shadow := [] } } : State).setBoot fun b => { b with state := 5 }
    let s := (s.legal 0x22 (leBytes 4 b.cand.toNat ++ [1])).upd 4 b.cand
    s.setMgt fun m => { m with bootKind := 2, bootVer := b.conf }
  else if b.conf == 0 then s.setMgt fun m => { m with bootKind := 3, bootVer := 0 }
  else s.setMgt fun m => { m with bootKind := 0, bootVer := b.conf }

/-- R461, R462: a schedule reached before the reset keeps the activation hold until its bundle runs. -/
def State.bootHold (s : State) : State :=
  let reached := match s.nv.boot.sched with | some c => c.reachedAt.isSome | none => false
  s.setMgt fun m => { m with hold := reached && (s.nv.boot.state == 2 || s.nv.boot.state == 4) }

/-- R418, R420: the derivation engine takes the root, or its generation begins. -/
def State.bootRoot (s : State) : State :=
  match s.island.root with
  | some r => s.setKeys fun k => { k with rootReg := some r }
  | none => s.startRoot

/-- R81: feed and battery states that exist at step 9, as events of the first HTC value. -/
def State.bootFeeds (s : State) : State :=
  let s := (s.feedEvent 0).feedEvent 1
  if s.power.vbatLow then s.setErr .pwr 0 else s

/-- R81 step 9: ROM digest, SRAM, bridge, fuses and die IDs are checked. A failure stops start-up with its FAIL_CODE; else MRAM is read, the record
chosen and the HTC loaded. -/
def execBootSelfTestDone (failCode : Byte) (modems : Bool) (s : State) : Host.Outcome State Fault Refusal :=
  if s.boot.step != 8 then .next s
  else if failCode != 0 then .next (s.bootFail failCode)
  else if !dieOk s.fuses.dieIdD || !dieOk s.fuses.dieIdA then .next (s.bootFail 3)
  else
    let t := { s with clocks := { s.clocks with ok := s.clocks.ok ||| 0xF2 },
                      boot := { s.boot with errOutReleased := true, phase := 2, step := 9 },
                      keys := { s.keys with rngOk := true } }
    let t := t.blankRegions.chooseRecord
    let t := match t.nv.newestSlot.bind (·.image) with
      | some i => t.setImg fun b => { b with clkValid := i.book.clkValid && t.island.rtcValid && t.island.integrity }
      | none => t
    let t := if modems then t else t.setErr .vlk 1
    .next (t.recordEntries.retentionCheck.bootRecord.bootHold.bootRoot.bootFeeds)

/-! ## Step 10 -/

/-- The pulse outputs of the record (R347): pending pulses start one by one, 2 × WIDTH apart, from the next HTC multiple of 24,576. -/
def State.restorePulses (s : State) (ps : List (Nat × Nat × Bool)) : State :=
  let first := (s.now / 24576 + 1) * 24576
  (List.finRange 8).foldl (fun s k =>
    match ps[k.val]? with
    | some (carry, n, _) => s.setPulse k fun p =>
        { p with carry := carry, sched := (List.range n).map fun j => first + 2 * j * s.pulseWidth k }
    | none => s) s

/-- R371, R372: a clock that is invalid at the restore: NOCLOCK intervals run from the restore stamp. -/
def State.noclockStart (s : State) : State :=
  let s := ((s.setImg fun i => { i with clkValid := false }).setErr .book 1).gather ivNoclock
  let s := s.setBook fun b => { b with noclockFrom := some s.now }
  s.setImg fun i => { i with rate := s.rateByTable }

/-- R72: every register of the record at its value at F. A magnetic field that stood at F is timed from the restore (log 114). -/
def State.restoreImage (s : State) (i : CommitImage) : State :=
  let s := { s with nrg := { s.nrg with accs := i.accs }, book := { s.book with img := i.book, magFrom := .replicate 4 s.now } }.restoreAbc i.abacus
  if i.book.clkValid && s.island.rtcValid then s.setBook fun b => { b with outage := some (i.freeze, i.rtcSec) }
  else if i.book.clkValid then s.clockInvalid
  else s.noclockStart

/-- R85: the legal path starts from zero, its clock not yet set. -/
def State.firstStart (s : State) : State :=
  (s.setBook fun b => { b with img := { BookImage.reset with ivStart := s.now } }).noclockStart

/-- R363: with no valid table the book says so. -/
def State.tariffCheck (s : State) : State :=
  match s.nv.tblActive with
  | some _ => s
  | none => (s.legal 0x1B (leBytes 4 0)).setErr .book 7

/-- R377: the seal changes latched while unpowered, opened then closed. -/
def State.sealCatchUp (s : State) : State :=
  let latch := s.island.sealLatch
  let latch := if latch.isEmpty && s.book.img.sealOpen != s.island.sealOpen then [(⟨s.island.sealOpen, s.island.rtcSec⟩ : Latched)] else latch
  let s := { s with island := { s.island with sealLatch := [] } }
  ((latch.filter (·.opened)) ++ latch.filter (!·.opened)).foldl (fun s l => (s.note 2 32 0).sealTo l.opened true l.sec) s

/-- R382: the openings of the case while unpowered. -/
def State.caseCatchUp (s : State) : State :=
  let s := s.setBook fun b => { b with caseOpen := s.island.caseOpen }
  if s.island.caseOpenings == 0 then s
  else
    let n := s.island.caseOpenings
    let s := { s with island := { s.island with caseOpenings := 0 } }
    ((s.note 2 32 5).legal 0x17 ([0, 1] ++ leBytes 2 (min n 65535))).setErr .book 4

/-- R423: the zeroisations that occurred while the part was unpowered, after the book's own records. RETENTION (5) has no trigger event. -/
def State.tamperCatchUp (s : State) : State :=
  let cs := s.island.unpoweredCauses
  let s := cs.foldl (fun s c => ((if c == 5 then s else s.note 2 32 (tamperIndex c)).note 2 32 10).setErr .key 3) s
  { s with island := { s.island with unpoweredCauses := [] } }

/-- R258: the weld and off-path latches kept in MRAM. -/
def State.latchesBack (s : State) : State :=
  s.forLanes fun s n =>
    let w := if s.nv.links.weld.getLsbD n.val then (0x40 : BitVec 9) else 0
    let o := if s.nv.links.offpath.getLsbD n.val then (0x80 : BitVec 9) else 0
    { s with saf := { s.saf with lanes := s.saf.lanes.set n { s.saf.lanes[n] with latch := s.saf.lanes[n].latch ||| w ||| o } } }

/-- R81 step 10: the legal path is restored in hardware and runs; MCLK0 to MCLK7 start. -/
def execLegalPathRestored (s : State) : Host.Outcome State Fault Refusal :=
  if s.boot.step != 9 || s.boot.phase != 2 || s.power.holdupNow || s.chipResetDue.isSome then .next s
  else
    let img := s.nv.newestSlot.bind (·.image)
    let t := { s with boot := { s.boot with restoreOk := true, phase := 3, step := 10 }, met := { s.met with mclk := 0xFF } }
    let t := match img with | some i => t.restoreImage i | none => t.firstStart
    let t := t.calLoad
    let t := match img with | some i => t.restorePulses i.pulses | none => t
    .next (t.tariffCheck.sealCatchUp.caseCatchUp.loadKeys.tamperCatchUp.latchesBack)

/-! ## Steps 12 and 13 -/

/-- R83: the endpoint accepts configuration requests, once PCIE_PERST_N is high. -/
def execEndpointReady (width speed : BitVec 2) (s : State) : Host.Outcome State Fault Refusal :=
  if s.boot.step < 8 || !s.boot.perstHigh then .next s
  else .next { s with hif := { s.hif with configReady := true, linkUp := true, width := width, speed := speed },
                      clocks := { s.clocks with pcieRef := true },
                      boot := { s.boot with step := if s.boot.step == 11 then 12 else s.boot.step } }

/-- R81 step 13: DRAM is trained and its ECC initialised, or its training has failed. -/
def execDramReady (trained : Bool) (s : State) : Host.Outcome State Fault Refusal :=
  if s.boot.step < 11 || s.boot.ddrOk || s.boot.phase == 0xF then .next s
  else if trained then .next { s with boot := { s.boot with ddrOk := true, phase := 5, step := 13 }, clocks := { s.clocks with selfRefresh := false } }
  else .next (s.bootFail 6)

end Sys2Proof.Machine
end

