-- ==== Sys2Proof/Machine/ReadRegs.lean ====
section
/-!
DEFINITION. What a read of BAR0 returns (R10 to R12, R94 to R100, R126, R127 and the register rule of each chapter): the word of every register, and
the configuration space.
-/
namespace Sys2Proof.Machine

open Sys2Proof

/-! ## Configuration space -/

/-- Table 4-1. -/
structure ConfigSpace where
  vendor : BitVec 16
  device : BitVec 16
  revision : Byte
  classCode : BitVec 24
  subsysVendor : BitVec 16
  subsys : BitVec 16
  functions : Nat
  bar0Bytes : Nat
  bar0Prefetchable : Bool
  otherBars : Reg
  interruptPin : Byte
  powerStates : List String
  msixVectors : Nat
  errorReporting : Bool
  serial : BitVec 64
  maxPayload : Nat
  maxReadRequest : Nat
  extendedTag : Bool
  aspmL1 : Bool
  aspmL0s : Bool
  deriving DecidableEq, Repr

/-- The configuration values that the endpoint presents (R95). -/
def State.configSpace (s : State) : ConfigSpace :=
  { vendor := 0x1C3B, device := 0x3272, revision := 0xB1, classCode := 0x118000, subsysVendor := s.fuses.subsysVendor, subsys := s.fuses.subsys,
    functions := 1, bar0Bytes := 128 * 1024, bar0Prefetchable := false, otherBars := 0, interruptPin := 0, powerStates := ["D0", "D3hot"],
    msixVectors := 32, errorReporting := true, serial := s.fuses.asn, maxPayload := 256, maxReadRequest := 512, extendedTag := true,
    aspmL1 := true, aspmL0s := false }

/-! ## Offsets -/

/-- To-device rings (Table 4-3). -/
def toDevice (n : Fin 16) : Bool := [0, 8, 10, 14, 15].contains n.val

/-- Offsets of base, base + stride, … -/
def unitAt (off base stride count : Nat) : Option Nat :=
  if base ≤ off && (off - base) % stride == 0 && (off - base) / stride < count then some ((off - base) / stride) else none

/-- Index of 32, 4. -/
def fin32 (k : Nat) : Fin 32 := ⟨k % 32, Nat.mod_lt _ (by decide)⟩
def fin4 (k : Nat) : Fin 4 := ⟨k % 4, Nat.mod_lt _ (by decide)⟩

/-- The error register at an offset, for those whose bits stand in it as in State (Tables 4-12 to 19-8). -/
def errRegAt (off : Nat) : Option ErrReg :=
  match off with
  | 0x1008 => some .hif
  | 0x3044 => some .vlk
  | 0x4044 => some .tok
  | 0x5140 => some .abc
  | 0x60A4 => some .saf
  | 0x7044 => some .lsw
  | 0x9004 => some .nrg
  | 0xA008 => some .book
  | 0xB054 => some .line
  | 0xC040 => some .key
  | 0xD008 => some .mgt
  | 0xF044 => some .pair
  | 0x10080 => some .arb
  | _ =>
    match unitAt off 0x2068 0x400 4 with
    | some k => some (.pmcan (fin4 k))
    | none =>
      match unitAt off 0x2038 0x80 32 with
      | some n => some (.lane (fin32 n))
      | none =>
        match unitAt off 0x8114 0x20 32 with
        | some n => some (.met (fin32 n))
        | none => (unitAt off 0xE12C 0x80 4).map fun p => .epd (fin4 p)

/-- The 64-bit value of which an offset is the low half, with its high half's offset (R126, R388, R438; log 57). -/
def State.pairValue (s : State) (off : Nat) : Option (Nat × Nat) :=
  let h (v : Nat) : Option (Nat × Nat) := some (off + 4, v)
  match off with
  | 0x0004 => h s.fuses.asn.toNat
  | 0x000C => h s.fuses.dieIdD.toNat
  | 0x0014 => h s.fuses.dieIdA.toNat
  | 0x3020 => h ((s.prof 0x3020).toNat + 2 ^ 32 * (s.prof 0x3024).toNat)
  | 0x5110 => h s.abc.jseq
  | 0x511C => h s.abc.rseq
  | 0xA00C => h s.island.rtcSec
  | 0xA018 => h s.book.img.lastClose
  | 0xA028 => h (s.pendActivate.getD 0)
  | 0xC00C => h s.island.tampSec
  | 0xC014 => h s.island.keyTally
  | 0xC01C => h s.island.antiRollback
  | 0xD024 => h (match s.nv.boot.sched with | some c => c.ident.toNat | none => 0)
  | 0xD030 => h s.nv.llog.lseq.toNat
  | 0xD038 => h s.nv.llog.ack.toNat
  | 0xF048 => h s.pair.joined
  | _ =>
    match unitAt off 0x310C 0x20 32 with
    | some n => h s.link.lanes[fin32 n].evMac.toNat
    | none => (unitAt off 0x9110 0x20 8).bind fun k => h s.nrg.pulses[(⟨k % 8, Nat.mod_lt _ (by decide)⟩ : Fin 8)].carry


/-! ## Words of the status registers, page by page. Reserved bits and offsets have no term here: they read zero (R11, R12). -/

/-- The low w bits of a value at bit lo. -/
def at_ (lo w v : Nat) : Nat := v % 2 ^ w * 2 ^ lo

/-- Bit i is set where p holds, for i below n. -/
def bitsOf (n : Nat) (p : Nat → Bool) : Nat := (List.range n).foldl (fun a i => a + bit (p i) * 2 ^ i) 0

/-- A signed value in w bits (R6). -/
def signedIn (w : Nat) (v : Int) : Nat := (v % (2 ^ w : Nat)).toNat

/-- An element of a vector, for an index below its length. -/
def vget {α : Type} {n : Nat} (v : Vector α n) (d : α) (i : Nat) : α := v.toList.getD i d

/-- The second half of a pair as last latched, else as it is now (R126; log 113). -/
def State.hiHalf (s : State) (off now : Nat) : Nat :=
  match s.glb.latched.find? (·.1 == off) with
  | some p => p.2.toNat
  | none => now / 2 ^ 32 % 2 ^ 32

/-- GLB (Tables 3-10 to 3-21, 4-9). HOLDUP compares the last VSYS with V_HU. -/
def State.readGlb (s : State) (off : Nat) : Nat :=
  let g := s.glb
  match off with
  | 0x00 => 0x3272 * 2 ^ 16 + 0xB1 * 2 ^ 8 + at_ 4 4 s.fuses.variant.toNat
  | 0x04 => s.fuses.asn.toNat % 2 ^ 32
  | 0x08 => s.hiHalf 0x08 s.fuses.asn.toNat
  | 0x0C => s.fuses.dieIdD.toNat % 2 ^ 32
  | 0x10 => s.hiHalf 0x10 s.fuses.dieIdD.toNat
  | 0x14 => s.fuses.dieIdA.toNat % 2 ^ 32
  | 0x18 => s.hiHalf 0x18 s.fuses.dieIdA.toNat
  | 0x20 => g.rstCause.toNat
  | 0x28 => s.boot.phase.toNat + at_ 8 8 s.boot.failCode.toNat + at_ 16 1 (bit s.boot.restoreOk) + at_ 17 1 (bit s.boot.profOk) +
      at_ 18 1 (bit s.boot.ddrOk)
  | 0x2C => bit s.power.feedA.present + 2 * bit s.power.feedB.present + 4 * bit s.power.feedA.fetOn + 8 * bit s.power.feedB.fetOn +
      16 * bit (decide (s.power.vsysMv < s.vHu)) + 32 * bit s.power.vbatLow + 64 * bit s.power.onVbat + 128 * bit s.lsw.uv +
      at_ 16 1 (bit (s.errs.pwr.getLsbD 1)) + at_ 17 1 (bit (s.errs.pwr.getLsbD 2)) + at_ 18 1 (bit (s.errs.pwr.getLsbD 0))
  | 0x30 => g.holdupThresh.toNat
  | 0x34 => g.ckptInterval.toNat
  | 0x38 => g.comGen.toNat + at_ 24 3 g.comKind.toNat + at_ 27 1 (bit g.comSlotB) + at_ 28 1 (bit s.commit.isSome) + at_ 29 1 (bit g.torn) +
      at_ 30 1 (bit g.none)
  | 0x3C => s.clocks.ok.toNat + at_ 8 1 (bit s.clocks.onBackup) + at_ 16 8 s.errs.clk.toNat
  | 0x40 => g.profActive.toNat + at_ 2 1 (bit g.profActiveValid) + at_ 4 2 g.profPending.toNat + at_ 6 1 (bit g.profPendingValid) +
      at_ 8 2 s.boot.straps.toNat + at_ 12 4 g.profErr.toNat
  | 0x48 => s.htc.toNat % 2 ^ 32
  | 0x4C => g.htcLatch.toNat / 2 ^ 32 % 2 ^ 32
  | 0x50 => g.htcLatch.toNat / 2 ^ 64
  | 0x54 => g.scratch.toNat
  | _ => 0

/-- Whether a to-device ring's intake is held because the area that takes its completions is full (R108). -/
def State.spillHeld (s : State) (n : Fin 16) : Bool :=
  match n.val with
  | 0 => s.spill[1].full || s.spill[7].full
  | 8 => s.spill[9].full
  | _ => toDevice n && s.spill[1].full

/-- HIF_RINGn's block (Tables 4-14 to 4-16). -/
def State.readRing (s : State) (n : Fin 16) (k : Nat) : Nat :=
  let r := s.hif.rings[n]
  match k with
  | 0x00 => r.base.toNat % 2 ^ 32
  | 0x04 => r.base.toNat / 2 ^ 32
  | 0x08 => bit r.en + at_ 4 4 r.log2size.toNat + at_ 8 5 r.vec.toNat + at_ 13 1 (bit r.irqEn) + at_ 16 3 r.pstride.toNat
  | 0x0C => (if toDevice n then r.cons else r.prod).toNat + at_ 16 1 (bit (s.ringRun n)) + at_ 17 1 (bit r.err) + at_ 18 1 (bit (s.spillHeld n)) +
      at_ 19 1 (bit r.phase) + at_ 20 4 r.errCode.toNat + at_ 24 8 (min 255 (s.spill[n].used * 256 / spillCap))
  | 0x10 => r.pbase.toNat % 2 ^ 32
  | 0x14 => r.pbase.toNat / 2 ^ 32
  | _ => 0

/-- HIF (Tables 4-10 to 4-17) and the MSI-X table (log 6). HIF_DBn is WO. -/
def State.readHif (s : State) (off : Nat) : Nat :=
  if off == 0x1000 then bit s.hif.run
  else if off == 0x1004 then s.hif.width.toNat + at_ 2 2 s.hif.speed.toNat + 16 * bit s.hif.bme + 32 * bit s.hif.d3
  else if 0x1200 ≤ off && off < 0x1400 then s.readRing ⟨(off - 0x1200) / 32 % 16, Nat.mod_lt _ (by decide)⟩ (off % 32)
  else if 0x1400 ≤ off && off < 0x1480 then
    let e := s.hif.vecs[fin32 ((off - 0x1400) / 4)]
    e.count.toNat + at_ 16 12 e.time.toNat
  else if 0x1800 ≤ off && off < 0x1A00 then
    let e := s.hif.vecs[fin32 ((off - 0x1800) / 16)]
    match off % 16 with
    | 0 => e.addr.toNat % 2 ^ 32
    | 4 => e.addr.toNat / 2 ^ 32
    | 8 => e.data.toNat
    | _ => bit e.masked
  else if off == 0x1A00 then bitsOf 32 fun v => (s.hif.vecs[fin32 v]).pba
  else 0

/-- Lane n's block (Tables 5-18 to 5-24). -/
def State.readLane (s : State) (n : Fin 32) (k : Nat) : Nat :=
  let l := s.lanes[n]
  match k with
  | 0x20 => l.st.code + 16 * bit (s.heldNow n) + 32 * bit l.grant + 64 * bit (s.digitalOn n) + 128 * bit l.forced + at_ 8 4 l.target.code +
      at_ 16 16 l.sess.toNat
  | 0x24 =>
    let (on, d) := match l.form with | .pwm d => (true, d) | _ => (false, 0)
    l.pilot.code + 8 * bit on + at_ 4 10 d + at_ 16 8 (signedIn 8 l.vhi) + at_ 24 8 (signedIn 8 l.vlo)
  | 0x28 => min l.rc 4095 + at_ 12 3 (s.ratingShown n)
  | 0x2C => s.laneGate n
  | 0x30 => l.dc.state + at_ 8 8 l.dc.faultCode.toNat + at_ 16 16 l.dc.vOut.toNat
  | 0x34 => l.dc.iOut.toNat + at_ 16 8 l.dc.temp.toNat + at_ 24 8 l.dc.seqEcho.toNat
  | 0x64 =>
    if n.val % 8 == 0 then
      let p := s.pmcan[fin4 (n.val / 8)]
      p.tec.toNat + at_ 8 8 p.rec_.toNat + at_ 16 2 p.estate.toNat
    else 0
  | _ => 0

/-- VLK (Tables 6-17 to 6-21). VLK_LVIOL's read clears its COUNT and has a row of its own. -/
def State.readVlk (s : State) (off : Nat) : Nat :=
  if off == 0x3040 then bit s.nv.links.xt.isSome + 2 * bit s.link.survey.isSome + at_ 8 8 (min 32 s.link.runs.length)
  else if 0x3100 ≤ off && off < 0x3500 then
    let n := fin32 ((off - 0x3100) / 0x20)
    let l := s.link.lanes[n]
    match off % 0x20 with
    | 0x04 => l.assoc.code + at_ 4 2 l.proto + at_ 6 2 l.tls + at_ 8 2 l.auth + at_ 10 4 l.phase + at_ 14 1 (bit l.bpt) + at_ 16 3 l.lastResult +
        at_ 20 2 l.attempt
    | 0x08 => min 255 l.own + at_ 8 8 (min 255 l.second) + at_ 16 4 l.sounds
    | 0x0C => l.evMac.toNat % 2 ^ 32
    | 0x10 => s.hiHalf off l.evMac.toNat
    | 0x14 => l.impRuns + at_ 16 16 l.lostFrames
    | 0x18 => l.viol + at_ 16 8 l.violLast
    | _ => 0
  else if 0x3C00 ≤ off && off < 0x4000 then
    let k := (off - 0x3C00) / 4
    let c (j : Nat) : Nat := match s.nv.links.xt with | some t => t.getD (4 * k + j) 255 | none => 255
    c 0 + at_ 8 8 (c 1) + at_ 16 8 (c 2) + at_ 24 8 (c 3)
  else 0

/-- TOK (Tables 7-15, 7-16). -/
def State.readTok (s : State) (off : Nat) : Nat :=
  let rd (k : Nat) : Reader := s.tok.readers[fin4 k]
  if off == 0x4040 then min 4096 s.nv.links.kill.length + at_ 16 4 (bitsOf 4 fun k => (rd k).step.isSome) + at_ 20 4 (bitsOf 4 fun k => (rd k).held.isSome)
  else if 0x4100 ≤ off && off < 0x4180 then
    let r := rd ((off - 0x4100) / 0x20)
    match off % 0x20 with
    | 0x00 => at_ 0 3 r.antenna + 8 * bit r.field + at_ 4 4 (r.step.getD 15) + at_ 16 16 r.sessions
    | 0x04 => r.tears + at_ 16 16 r.multi
    | _ => 0
  else 0

/-- ABC (Tables 8-14, 8-15). -/
def State.readAbc (s : State) (off : Nat) : Nat :=
  let a := s.abc
  let count (p : Rec → Bool) : Nat := (a.dram.filter fun r => p r.2).length
  match off with
  | 0x5100 => bit a.ready + 2 * bit a.restoring + 4 * bit a.snap.isSome + 8 * bit a.newestB + 16 * bit a.jheld + at_ 8 7 a.snapPct +
      at_ 15 7 a.quarantine.length
  | 0x5104 => count fun r => r.state == 1 || r.state == 2
  | 0x5108 => count fun r => r.state == 3
  | 0x510C => a.capRec
  | 0x5110 => a.jseq % 2 ^ 32
  | 0x5114 => s.hiHalf off a.jseq
  | 0x5118 => at_ 0 7 a.pend.length + at_ 8 6 (a.grants.toList.filter (·.isSome)).length
  | 0x511C => a.rseq % 2 ^ 32
  | 0x5120 => s.hiHalf off a.rseq
  | _ =>
    if 0x5200 ≤ off && off < 0x5440 then
      match a.grants.toList.getD ((off - 0x5200) / 16) none with
      | none => 0
      | some e => match off % 16 with
        | 0 => at_ 0 25 e.slot + at_ 25 2 e.method + at_ 27 1 (bit e.stopped) + at_ 28 1 (bit e.announced) + 2 ^ 29
        | 4 => min e.g (2 ^ 32 - 1)
        | 8 => min e.d (2 ^ 32 - 1)
        | _ => 0
    else 0

/-- SAF (Tables 9-15, 9-17). HSS_OSC: the HSS runs on its own oscillator while CK_MET is lost (R249; log 113). -/
def State.readSaf (s : State) (off : Nat) : Nat :=
  let sin (base : Nat) (p : Fin 72 → Bool) : Nat :=
    bitsOf 32 fun i => if h : base + i < 72 then p ⟨base + i, h⟩ else false
  let tps (p : Tps → Bool) : Nat := bitsOf 4 fun k => p s.saf.tps[fin4 k]
  let faulty (i : Fin 72) : Bool := s.saf.sins[i].faulty
  match off with
  | 0x6080 => bit s.saf.armed + 2 * bit s.saf.scRun + 4 * bit s.saf.cfgMatch + 8 * bit (!s.clocks.ok.getLsbD 1) + at_ 4 4 (tps (·.on)) +
      at_ 8 4 (tps (·.fault))
  | 0x6084 => s.saf.crc.toNat
  | 0x6088 => sin 0 s.sinReads
  | 0x608C => sin 32 s.sinReads
  | 0x6090 => sin 64 s.sinReads
  | 0x6094 => sin 0 faulty
  | 0x6098 => sin 32 faulty
  | 0x609C => sin 64 faulty
  | 0x60A0 => bitsOf 32 fun n => (s.saf.lanes[fin32 n]).latch != 0
  | _ =>
    if 0x6400 ≤ off && off < 0x6800 then
      let n := fin32 ((off - 0x6400) / 0x20)
      let l := s.saf.lanes[n]
      match off % 0x20 with
      | 0x10 => bit (s.hssPermit n) + 2 * bit l.scPermit + 4 * bit (s.permitLine n) + 8 * bit l.tested + at_ 8 9 l.latch.toNat + at_ 20 2 l.iso.toNat
      | 0x14 => min l.acRms 65535 + at_ 16 16 (signedIn 16 l.dcMean)
      | 0x18 => min l.rp 65535 + at_ 16 16 (min l.rn 65535)
      | _ => 0
    else 0

/-- LSW (Tables 10-10, 10-12, 10-13). -/
def State.readLsw (s : State) (off : Nat) : Nat :=
  if off == 0x7040 then
    min s.lsw.vls 4095 + at_ 12 1 (bit s.lsw.uv) + at_ 13 1 (bit s.lsw.hb) +
      at_ 16 16 (bitsOf 16 fun m => (vget s.lsw.chans Chan.reset (32 + m)).cmd)
  else if 0x7400 ≤ off && off < 0x74C0 then
    let c := vget s.lsw.chans Chan.reset ((off - 0x7400) / 4)
    c.st.code + at_ 4 3 c.cause + at_ 8 3 c.left + at_ 11 1 (bit c.openLoad) + at_ 12 1 (bit c.underload) + at_ 16 13 (min c.cur 8191)
  else if 0x7500 ≤ off && off < 0x7530 then
    let q := vget s.lsw.quads Quad.reset ((off - 0x7500) / 4)
    signedIn 8 q.temp + at_ 8 1 (bit q.warn) + at_ 9 1 (bit q.therm) + at_ 16 16 q.count
  else 0

/-- MET (Tables 11-12, 11-16). -/
def State.readMet (s : State) (off : Nat) : Nat :=
  if off == 0x8000 then s.met.mclk.toNat
  else if 0x8100 ≤ off && off < 0x8500 then
    let n := fin32 ((off - 0x8100) / 0x20)
    let m := s.met.lanes[n]
    match off % 0x20 with
    | 0x10 => at_ 0 16 (s.freqShown n) + at_ 16 2 m.shownTrk + at_ 18 1 (bit m.run) + at_ 19 1 (bit m.following)
    | 0x18 => m.shownPeriod
    | 0x1C => m.cyc % 2 ^ 32
    | _ => 0
  else 0

/-- NRG (Tables 12-12, 12-14). -/
def State.readNrg (s : State) (off : Nat) : Nat :=
  if off == 0x9000 then
    bitsOf 8 (fun k => (vget (s.nrg.pulses.map (·.active)) false k)) + at_ 8 1 (s.pf 0x9008 0 1) + at_ 9 1 (s.pf 0x9008 1 1)
  else if 0x9100 ≤ off && off < 0x9200 then
    let p := s.nrg.pulses[(⟨(off - 0x9100) / 0x20 % 8, Nat.mod_lt _ (by decide)⟩ : Fin 8)]
    match off % 0x20 with
    | 0x10 => p.carry % 2 ^ 32
    | 0x14 => s.hiHalf off p.carry
    | 0x18 => p.count % 2 ^ 32
    | 0x1C => p.sched.length
    | _ => 0
  else 0

/-- BOOK (Tables 13-14 to 13-17). -/
def State.readBook (s : State) (off : Nat) : Nat :=
  let b := s.book
  match off with
  | 0xA004 => bit b.img.sealOpen + 2 * bit b.img.clkValid + at_ 2 3 b.img.rate + 32 * bit s.nv.tblPending.isSome + 64 * bit b.noclockFrom.isSome +
      128 * bit b.calOk + at_ 8 4 b.img.magOn.toNat + at_ 12 1 (bit b.caseOpen)
  | 0xA00C => s.island.rtcSec % 2 ^ 32
  | 0xA010 => s.hiHalf off s.island.rtcSec
  | 0xA014 => b.img.period
  | 0xA018 => b.img.lastClose % 2 ^ 32
  | 0xA01C => s.hiHalf off b.img.lastClose
  | 0xA020 => match s.nv.tblActive with | some t => field t 0 4 | none => 0
  | 0xA024 => match s.nv.tblPending with | some t => field t 0 4 | none => 0
  | 0xA028 => s.pendActivate.getD 0 % 2 ^ 32
  | 0xA02C => s.hiHalf off (s.pendActivate.getD 0)
  | 0xA030 => s.calSum.toNat
  | 0xA034 => at_ 0 16 b.img.calWrites + at_ 16 16 b.img.calRefused
  | 0xA038 => b.calGen % 2 ^ 32
  | _ =>
    if 0xA060 ≤ off && off < 0xA070 then
      let k := fin4 ((off - 0xA060) / 4)
      at_ 0 13 b.magLevel[k] + at_ 16 16 (min b.magEvents[k] 65535)
    else if 0xA100 ≤ off && off < 0xA300 then
      let n := fin32 ((off - 0xA100) / 16)
      let r := b.img.sess[n]
      match off % 16 with
      | 0 => bit r.isOpen + 2 * bit (s.feedActive n) + 4 * bit r.flagged + 8 * bit r.magnetic
      | 4 => min r.charged (2 ^ 32 - 1)
      | 8 => min (s.demandNow n / 1000) (2 ^ 32 - 1)
      | _ => 0
    else 0

/-- LINE (Table 14-10). -/
def State.readLine (s : State) (off : Nat) : Nat :=
  let l := s.line
  match off with
  | 0xB040 => at_ 0 3 l.st + at_ 4 4 l.level + at_ 8 10 (s.lineParent.getD 0) + at_ 18 1 (bit s.lineParent.isSome) + at_ 19 5 l.members.length +
      at_ 24 8 l.neigh.length
  | 0xB044 => (List.range 4).foldl (fun a i => a + at_ (8 * i) 6 (l.tone.getD i 0)) 0
  | 0xB048 => at_ 0 16 l.freq
  | 0xB04C => min l.blank 65535 + at_ 16 16 (min l.lost 65535)
  | 0xB050 => l.txCount % 65536 + at_ 16 16 l.rxCount
  | _ => 0

/-- KEY (Tables 15-13, 15-14). -/
def State.readKey (s : State) (off : Nat) : Nat :=
  match off with
  | 0xC000 => s.rootStat + 4 * bit s.keys.debug + 8 * bit s.keys.rngOk + 16 * bit s.keys.retLost + at_ 8 7 s.fuses.epoch +
      at_ 15 1 (bit s.fuses.debugLock)
  | 0xC004 => s.island.tamp.toNat
  | 0xC008 => s.ownerProg + at_ 4 4 s.fuses.revoked.toNat + (match s.ownerActive with | some i => at_ 8 2 i.val + 2 ^ 10 | none => 0)
  | 0xC00C => s.island.tampSec % 2 ^ 32
  | 0xC010 => s.hiHalf off s.island.tampSec
  | 0xC014 => s.island.keyTally % 2 ^ 32
  | 0xC018 => s.hiHalf off s.island.keyTally
  | 0xC01C => s.island.antiRollback % 2 ^ 32
  | 0xC020 => s.hiHalf off s.island.antiRollback
  | 0xC024 => s.keyPresent
  | _ => 0

/-- Seconds left of T_CONFIRM, a second begun counting whole (log 113); 0 when no trial runs. -/
def State.confirmLeft (s : State) : Nat :=
  match s.timers.find? (·.isOne .tConfirm 0 0) with
  | some t => ceilDiv (t.expiry - s.now) ticksPerS
  | none => 0

/-- MGT (Tables 16-10 to 16-12). -/
def State.readMgt (s : State) (off : Nat) : Nat :=
  let chain (i : Nat) : Nat := s.nv.llog.chain.toNat / 2 ^ (32 * i) % 2 ^ 32
  match off with
  | 0xD004 => bit s.mgt.mcRun + at_ 1 3 s.mgt.shed + at_ 4 3 s.nv.boot.state + 128 * bit s.mgt.hold + at_ 8 12 s.confirmLeft
  | 0xD010 => s.mgt.bootKind.toNat
  | 0xD014 => s.mgt.bootVer.toNat
  | 0xD018 => s.mgt.verRun.toNat
  | 0xD01C => s.nv.boot.conf.toNat
  | 0xD020 => s.nv.boot.cand.toNat
  | 0xD024 => (match s.nv.boot.sched with | some c => c.ident.toNat | none => 0) % 2 ^ 32
  | 0xD028 => s.hiHalf off (match s.nv.boot.sched with | some c => c.ident.toNat | none => 0)
  | 0xD030 => s.nv.llog.lseq.toNat % 2 ^ 32
  | 0xD034 => s.hiHalf off s.nv.llog.lseq.toNat
  | 0xD038 => s.nv.llog.ack.toNat % 2 ^ 32
  | 0xD03C => s.hiHalf off s.nv.llog.ack.toNat
  | 0xD040 => min s.nv.llog.lost (2 ^ 32 - 1)
  | 0xD044 => chain 0
  | 0xD048 => chain 1
  | 0xD04C => chain 2
  | 0xD050 => chain 3
  | 0xD054 => s.mgt.eseq % 2 ^ 32
  | 0xD058 => min s.mgt.edrop (2 ^ 32 - 1)
  | _ =>
    if 0xD100 ≤ off && off < 0xD128 then signedIn 16 (vget s.mgt.sensors 0 ((off - 0xD100) / 4))
    else if 0xD200 ≤ off && off < 0xD238 then bitsOf 32 fun b => s.sticky (32 * ((off - 0xD200) / 4) + b)
    else 0

/-- EPD_PSTAT.STATE (Table 17-5): what the rails do, else DIRTY or idle (DESIGN CHOICE, log 113: the table does not say which of two wins). -/
def State.epdStateCode (s : State) (p : Fin 4) : Nat :=
  let e := s.epd[p]
  match e.stage with
  | .powering => 2
  | .ready => if s.epdDrives p then 3 else 2
  | .driving => 3
  | .down => 4
  | _ => if !e.on then 0 else if e.dirty then 5 else 1

/-- EPD (Table 17-5). -/
def State.readEpd (s : State) (off : Nat) : Nat :=
  if 0xE100 ≤ off && off < 0xE300 then
    let e := s.epd[fin4 ((off - 0xE100) / 0x80)]
    match off % 0x80 with
    | 0x20 => s.epdStateCode (fin4 ((off - 0xE100) / 0x80)) + 8 * bit e.cleared + at_ 4 3 e.band + at_ 8 8 (match e.temp with | some (t, _) => signedIn 8 t | none => 0) +
        at_ 16 1 (bit e.pwrgood)
    | 0x24 => at_ 0 7 e.frame + at_ 8 10 e.lines
    | 0x28 => at_ 0 10 e.duty + at_ 16 10 e.req
    | _ => 0
  else 0

/-- PAIR (Table 18-8). -/
def State.readPair (s : State) (off : Nat) : Nat :=
  match off with
  | 0xF040 => s.pairStat
  | 0xF048 => s.pair.joined % 2 ^ 32
  | 0xF04C => s.hiHalf off s.pair.joined
  | 0xF050 => s.pair.pVer.toNat
  | 0xF054 => s.pair.pConf.toNat
  | _ => 0

/-- ARB (Tables 19-6 to 19-8); the weights and limits of requesters 0 to 2 are fixed. -/
def State.readArb (s : State) (off : Nat) : Nat :=
  let i : Fin 16 := ⟨off / 4 % 16, Nat.mod_lt _ (by decide)⟩
  if off == 0x10004 then s.arb.claim.toNat
  else if 0x10040 ≤ off && off < 0x1004C then 255 + at_ 8 16 0xFFFF
  else if off == 0x10084 then s.arb.protId.val
  else if 0x10100 ≤ off && off < 0x10140 then signedIn 16 s.arb.shown[i]
  else if 0x10180 ≤ off && off < 0x101C0 then min s.arb.hogs[i] (2 ^ 32 - 1)
  else 0

/-- The pages of Table 4-2. -/
def State.readPage (s : State) (off : Nat) : Nat :=
  match off / 0x1000 with
  | 0x0 => s.readGlb off | 0x1 => s.readHif off
  | 0x2 => s.readLane (fin32 ((off - 0x2000) / 0x80)) (off % 0x80)
  | 0x3 => s.readVlk off | 0x4 => s.readTok off | 0x5 => s.readAbc off | 0x6 => s.readSaf off | 0x7 => s.readLsw off
  | 0x8 => s.readMet off | 0x9 => s.readNrg off | 0xA => s.readBook off | 0xB => s.readLine off | 0xC => s.readKey off
  | 0xD => s.readMgt off | 0xE => s.readEpd off | 0xF => s.readPair off | 0x10 => s.readArb off
  | _ => 0

/-- The word that a read of a BAR0 register returns, on every page at any time (R10 to R12, R86): an error register's sticky bits, the active value of a
profile field, the calibration value in force, or the page's own; WO fields, reserved bits and reserved offsets read zero. -/
def State.readReg (s : State) (off : Nat) : Reg :=
  if off % 4 != 0 then 0
  else match errRegAt off with
    | some r => s.err r
    | none =>
      if profRows.any (·.has off) then s.prof off
      else if calRows.any (·.has off) then s.calv off
      else BitVec.ofNat 32 (s.readPage off)

/-- The bytes of a word that a request enables (R100). -/
def enabled (be : BitVec 4) (v : Reg) : Reg :=
  BitVec.ofNat 32 ((List.range 4).foldl (fun a i => if be.getLsbD i then a + v.toNat / 2 ^ (8 * i) % 256 * 2 ^ (8 * i) else a) 0)

/-- ABC_STAT.SNAP_PCT while a copy runs: a free value that never falls (DESIGN CHOICE, log 103). -/
def State.snapProgress (s : State) : State :=
  if s.abc.snap.isNone then s
  else
    let (p, t) := s.draw (100 - s.abc.snapPct)
    t.setAbc fun a => { a with snapPct := a.snapPct + p }

/-- The value of a read, as the request enables it, kept for the host (the model's own field). -/
def State.answerRead (s : State) (be : BitVec 4) (v : Reg) : State := { s with glb := { s.glb with readData := enabled be v } }

/-- A second half latched, offsets rising (R126). -/
def latchPut : RegMap → Nat → Reg → RegMap
  | [], off, v => [(off, v)]
  | (o, x) :: m, off, v => if o < off then (o, x) :: latchPut m off v else if o == off then (off, v) :: m else (off, v) :: (o, x) :: m

/-- A read of VLK_LVIOL clears the whole of COUNT, however many bytes it enables (R10, R100). -/
def State.readLviol (s : State) (lane : Fin 32) (be : BitVec 4) : State :=
  (s.answerRead be (s.readReg (0x3118 + 0x20 * lane.val))).setLink lane fun l => { l with viol := 0 }

/-- A well-formed read of a register: a read of GLB_HTC0 latches all 72 bits of the HTC and one of a low half the high half (R126); VLK_LVIOL's clears
COUNT. -/
def State.readAt (s : State) (off : Nat) (be : BitVec 4) : State :=
  let s := if off == 0x5100 then s.snapProgress else s
  match unitAt off 0x3118 0x20 32 with
  | some n => s.readLviol (fin32 n) be
  | none =>
    let t := s.answerRead be (s.readReg off)
    if off == 0x48 then { t with glb := { t.glb with htcLatch := s.htc } }
    else match s.pairValue off with
      | some (hi, v) => { t with glb := { t.glb with latched := latchPut t.glb.latched hi (BitVec.ofNat 32 (v / 2 ^ 32)) } }
      | none => t

/-- A read that crosses a 4-byte boundary has no effect but HIF_ERR.ACCESS (R100); what it returns is stated by nothing: a free value (log 113). -/
def State.readBad (s : State) : State :=
  let (v, t) := (s.setErr .hif 0).draw (2 ^ 32)
  { t with glb := { t.glb with readData := BitVec.ofNat 32 v } }

end Sys2Proof.Machine
end

