-- ==== Sys2Proof/Machine/HostIf.lean ====
section
/-!
DEFINITION. The endpoint, the rings, the register pages and the block resets (R10 to R13, R80, R86, R95 to R110, R119, R120, R126, R182).
-/
namespace Sys2Proof.Machine

open Sys2Proof

/-! ## Block resets (R80, R182, R205, R413, R484) -/

/-- R182: a block reset of a session core: its lanes in CONNECTED … STOPPING get a vehicle-link stop, lose their association and link, and the
commands in progress for them complete with ABORTED. -/
def State.coreReset (s : State) (core : Fin 4) : State :=
  let inSession (n : Fin 32) : Bool :=
    [LaneSt.connected, .authorised, .closing, .energised, .paused, .stopping].contains s.lanes[n].st
  let ns := allLanes.filter fun n => n.val / 8 == core.val && inSession n
  let s := (s.flights.filter fun f => [0x11, 0x12, 0x31, 0x61, 0x62].contains f.opcode && ns.any fun n => f.members.contains n.val).foldl
    (fun s f => s.settleFlight f stAborted 0 0) s
  ns.foldl (fun s n =>
    let s := ((s.linkStop n 4).cancelLink n).leaveRuns n none
    (s.setLink n fun l => l.drop).assocTo n .off) s

/-- One block of GLB_RST_CAUSE.BLOCK: 0 to 3 SC0 to SC3, 4 token readers, 5 site line, 6 display ports. -/
def State.blockReset (s : State) (b : Nat) : State :=
  let s := { s with glb := { s.glb with rstCause := setBitR s.glb.rstCause (8 + b) } }
  match b with
  | 0 => s.coreReset 0
  | 1 => s.coreReset 1
  | 2 => s.coreReset 2
  | 3 => s.coreReset 3
  | 4 => s.collapseAll
  | 5 => s.lineReset
  | _ => s.epdBlockReset

/-- The blocks that a mask of GLB_RST_CTL names. -/
def State.blockResets (s : State) (mask : Nat) : State :=
  (List.range 7).foldl (fun s b => if hasBit mask b then s.blockReset b else s) s

/-- A write of GLB_RST_CTL (Table 3-13): it acts only with its KEY; the blocks first, then the chip with a reset commit. -/
def State.resetControl (s : State) (val : Reg) (chip block : Bool) : State :=
  if regField val 16 16 != 0xA5C3 then s
  else
    let t := if block then s.blockResets (regField val 8 7) else s
    State.finish s (if chip && val.getLsbD 0 then t.requestChipReset 2 else t)

/-- R80: GLB_RST_CTL.CHIP; the BLOCK bits of the same write act too. -/
def execChipResetRequest (val : BitVec 32) (s : State) : Host.Outcome State Fault Refusal := .next (s.resetControl val true true)

/-- R80: GLB_RST_CTL.BLOCK; the CHIP bit of the same write acts too. -/
def execBlockResetRequest (val : BitVec 32) (s : State) : Host.Outcome State Fault Refusal := .next (s.resetControl val true true)

/-! ## The endpoint (R79, R83, R98, R109) -/

/-- R79: the PCIe reference is lost and the link goes down; configuration is done anew when it returns (log 58). -/
def execPcieRefclkLoss (s : State) : Host.Outcome State Fault Refusal :=
  .next { s with clocks := { s.clocks with pcieRef := false }, hif := { s.hif with linkUp := false, configReady := false, bme := false, d3 := false, msixEn := false, funcMask := false } }

/-- A ring is set up again: its first held result, of which slots may have carried a part, is written from its beginning (log 77). -/
def Spill.restart (sp : Spill) : Spill := { sp with held := sp.held.map fun h => { h with sent := 0 } }
def State.restartHeld (s : State) : State := { s with spill := s.spill.map Spill.restart }

/-- R80, R109: PCIE_PERST_N resets the endpoint and clears the HIF page. Spill areas and accepted commands stay; fetched descriptors that were
not accepted are forgotten with their rings. -/
def execPciePerst (s : State) : Host.Outcome State Fault Refusal :=
  let s := s.restartHeld
  .next { s with hif := Hif.reset, errs := { s.errs with hif := 0 }, waiting := [],
                 boot := { s.boot with perstHigh := false },
                 glb := { s.glb with rstCause := setBitR s.glb.rstCause 6 } }

/-- R83: PCIE_PERST_N rises. -/
def execPciePerstRelease (s : State) : Host.Outcome State Fault Refusal :=
  .next { s with boot := { s.boot with perstHigh := true, perstRise := s.now } }

/-- R98: Bus Master Enable or D3hot changes: it affects the host interface alone. The row carries MSI-X Enable and Function Mask too, which configuration
requests set beside them (R119); vectors that are pending and no longer held back send their messages (log 6). -/
def execPcieEndpointStateChange (bme d3 msixEn funcMask : Bool) (s : State) : Host.Outcome State Fault Refusal :=
  let t : State := { s with hif := { s.hif with bme := bme, d3 := d3, msixEn := msixEn, funcMask := funcMask } }
  .next { t with hif := { t.hif with vecs := t.hif.vecs.map (Vec.release t.msixOn) } }

/-! ## Rings (R102 to R110) -/

/-- R102: EN set from 0 to 1: both indices 0, the expected phase 1, every slot free, ERR cleared. -/
def Ring.enable (r : Ring) : Ring :=
  if r.en then r else { r with en := true, prod := 0, cons := 0, phase := true, slots := [], skip := 0, err := false, errCode := 0 }

/-- R102: EN cleared: descriptors written and not accepted are forgotten. -/
def State.ringDisable (s : State) (n : Fin 16) : State :=
  { s.setRing n (fun r => { r with en := false, skip := 0 }) with waiting := s.waiting.filter fun w => w.ring != n.val }

/-- R102: a ring's EN goes from 0 to 1; 1 again changes nothing. -/
def State.ringEnable (s : State) (n : Fin 16) : State :=
  if s.hif.rings[n].en then s else (s.setRing n Ring.enable).setSpill n Spill.restart

/-- R102. -/
def execRingEnable (ring : Fin 16) (s : State) : Host.Outcome State Fault Refusal := .next (s.ringEnable ring)

/-- R102. -/
def execRingDisable (ring : Fin 16) (s : State) : Host.Outcome State Fault Refusal := .next (s.ringDisable ring)

/-- R127: HIF_CTL.RUN. -/
def execHifCtlRun (run : Bool) (s : State) : Host.Outcome State Fault Refusal := .next { s with hif := { s.hif with run := run } }

/-- Descriptors of a refused chain that have arrived are consumed unused (R106). -/
def Ring.skipArrived (r : Ring) : Ring :=
  let k := min r.skip r.fill
  { r with cons := r.cons + BitVec.ofNat 16 k, skip := r.skip - k }

/-- R104: HIF_DBn sets the host's index, or is refused with DB_RANGE. -/
def State.doorbell (s : State) (n : Fin 16) (x : BitVec 16) : State :=
  let r := s.hif.rings[n]
  if toDevice n then
    if (x - r.cons).toNat > r.size then s.setErr .hif 2
    else s.setRing n fun r => Ring.skipArrived { r with prod := x }
  else if (x - r.cons).toNat > (r.prod - r.cons).toNat then s.setErr .hif 2
  else s.setRing n fun r => { r with cons := x, slots := r.slots.drop (x - r.cons).toNat }

/-- R104. -/
def execRingDoorbell (ring : Fin 16) (index : BitVec 16) (s : State) : Host.Outcome State Fault Refusal := .next (s.doorbell ring index)

/-- R113: opcode 0x00 completes with OK at its stamp. -/
def execCommandNop (d : Desc) (s : State) : Host.Outcome State Fault Refusal :=
  .next (s.acceptSingle (.commandNop d) 0x00 d 0 true fun s => s.answer 0 0x00 d stOk)

/-- The opcodes that each to-device ring carries (Table 4-6 and the owning chapters). -/
def ringOpcodes (n : Nat) : List Nat :=
  match n with
  | 0 => [0x00, 0x10, 0x11, 0x12, 0x13, 0x14, 0x30, 0x31, 0x32, 0x33, 0x40, 0x41, 0x51, 0x52, 0x53, 0x54, 0x60, 0x61, 0x62, 0x63, 0x70, 0x71,
          0x78, 0x79, 0x7A, 0x7B, 0x80, 0x81, 0x90, 0x91, 0x92, 0x93, 0x94, 0xA1, 0xA2, 0xA3, 0xB0, 0xB1, 0xB2, 0xC1, 0xC2, 0xC3, 0xC4, 0xC5,
          0xD1, 0xD3, 0xD4, 0xD8, 0xD9, 0xE0]
  | 8 => [0x50]
  | 10 => [0xA0]
  | 14 => [0xC0]
  | 15 => [0xD0, 0xD2]
  | _ => []

/-- R113: a reserved or undefined opcode completes with BAD_OPCODE; nothing else of its descriptor is judged. -/
def execUndefinedOpcode (ring : Fin 16) (d : Desc) (s : State) : Host.Outcome State Fault Refusal :=
  if !toDevice ring || (ringOpcodes ring.val).contains d.opcode.toNat then .next s
  else .next (s.arrive (.undefinedOpcode ring d) ring d.count (s.mustWait ring d) fun s =>
    (s.note (if ring == 8 then 12 else 13) 32 ring.val).complete ring.val d.opcode.toNat d.tag d.irq 0xFFFF stBadOpcode 0 0)

/-- Whether a chain that is never accepted has to wait before it is fetched: its ring stands still or PHASE is not 7 (R86, R98). -/
def State.chainWaits (s : State) (ring : Fin 16) : Bool := !s.ringRun ring || (s.boot.phase != 7 && ring != 14)

/-- R106: the 16th descriptor of a chain still has CHAIN = 1: CHAIN_ERR with OPCODE, TAG and IRQ of the first, and the rest descriptors that end the
chain are consumed unused as they arrive. It is no acceptance, so FENCE and a held source do not stop it; descriptors before it on the ring do. -/
def execChainErr (ring : Fin 16) (d : Desc) (rest : Nat) (s : State) : Host.Outcome State Fault Refusal :=
  if !toDevice ring then .next s
  else .next (s.arrive (.chainErr ring d rest) ring 16 (s.chainWaits ring) fun s =>
    (s.setRing ring fun r => Ring.skipArrived { r with skip := rest }).complete ring.val d.opcode.toNat d.tag d.irq 0xFFFF stChainErr 0 0)

/-- R110: a descriptor fetch fails: the ring stops. -/
def execRingFetchError (ring : Fin 16) (code : Fin 4) (s : State) : Host.Outcome State Fault Refusal :=
  if !toDevice ring || !s.ringRun ring then .next s
  else .next ((s.setRing ring fun r => { r with err := true, errCode := BitVec.ofNat 4 (code.val + 1) }).setErr .hif 3)

/-! ## Spill areas (R108) -/

/-- R108: slots have become free: a gap result for what was dropped, then the held results; intake goes on once the area has room. -/
def execSpillDrain (ring : Fin 16) (s : State) : Host.Outcome State Fault Refusal :=
  if toDevice ring || !s.ringRun ring then .next s
  else
    let sp := s.spill[ring]
    let gap := gapResult sp s.outside
    let s := s.pour ring sp.work
    let s := if sp.dropped > 0 && s.spill[ring].held.isEmpty && s.hif.rings[ring].room gap then
        (s.ringWrite ring gap false).setSpill ring fun sp => { sp with dropped := 0, dropStamp := 0 }
      else s
    .next (s.setSpill ring fun sp => { sp with full := sp.full && (decide (spillCap ≤ sp.used) || !sp.behind.isEmpty) })

/-! ## Interrupts (R119, R120) -/

/-- The oldest pending result of a vector has waited TIME µs (R120). -/
def State.vectorDue (s : State) (v : Fin 32) : Bool :=
  s.hif.vecs[v].waiting != 0 && decide (s.hif.vecs[v].oldest + ticksUs s.hif.vecs[v].time.toNat ≤ s.now)

/-- R120: the oldest pending result of a vector has waited TIME µs. -/
def execVectorModerationTimeout (vec : Fin 32) (s : State) : Host.Outcome State Fault Refusal :=
  if !s.vectorDue vec then .next s else .next ((s.noteTimeout 56).fire vec)

/-! ## Time limits and release (R31 to R36) -/

/-- R34: the time limit that an opcode names on a command expires: TIMEOUT, as a failed member of a gang. -/
def execCommandTimeLimitExpiry (opcode : Byte) (unit : Nat) (s : State) : Host.Outcome State Fault Refusal :=
  if !s.expired .tCommand unit opcode.toNat then .next s
  else .next (State.finish s ((s.expire .tCommand unit opcode.toNat).memberFail opcode.toNat unit stTimeout))

/-- Insert a key in the order of R29. -/
def keyInsert (k : EventKey) : List EventKey → List EventKey
  | [] => [k]
  | x :: xs => if keyLe k x then k :: x :: xs else x :: keyInsert k xs

/-- R31: every event stamped with a tick, the expiries that took effect on it among them (class 15), is released together, in key order, 8 ticks
later. -/
def execEventRelease (tick : Nat) (s : State) : Host.Outcome State Fault Refusal :=
  if s.now < tick + 8 then .next s
  else
    .next { s with seq := { s.seq with waiting := s.seq.waiting.filter (·.stamp != tick), lastTick := tick,
                                       released := (s.seq.waiting.filter (·.stamp == tick)).foldr keyInsert [] } }

/-! ## Register writes (R10 to R13, R86, R100) -/

/-- A write of ones clears (W1C). -/
def State.clearErr (s : State) (r : ErrReg) (mask : Reg) : State := { s with errs := s.errs.put r (s.err r &&& ~~~mask) }

/-- R448: clearing RESET_STORM discards the stored values; elapsed time counts again when CK_RTC runs. -/
def State.stormClear (s : State) : State :=
  { s.setBoot (fun b => { b with resets := [] }) with island := { s.island with elapsedOk := s.clocks.ok.getLsbD 3 } }

/-- GLB registers with W1C or RW fields of their own (Tables 3-12, 3-13, 3-15 to 3-21, 4-9). GLB_HOLDUP and GLB_CKPT judge the whole word, so that
a write with a reserved bit set is out of range there; elsewhere reserved bits are dropped (log 80). -/
def State.writeGlb (s : State) (off : Nat) (v : Reg) : State :=
  let g := s.glb
  match off with
  | 0x20 => { s with glb := { g with rstCause := g.rstCause &&& ~~~(v &&& 0x7F7F) } }
  | 0x24 => s.resetControl v true true
  | 0x2C => s.clearErr .pwr (BitVec.ofNat 32 (regField v 18 1 + 2 * regField v 16 1 + 4 * regField v 17 1))
  | 0x30 => if 140 ≤ v.toNat && v.toNat ≤ 800 then { s with glb := { g with holdupThresh := BitVec.ofNat 10 v.toNat } } else s
  | 0x34 => if v.toNat ≤ 3600 then { s with glb := { g with ckptInterval := BitVec.ofNat 12 v.toNat } } else s
  | 0x38 => if v.getLsbD 29 then { s with glb := { g with torn := false } } else s
  | 0x3C => s.clearErr .clk (BitVec.ofNat 32 (regField v 16 8))
  | 0x44 =>
    if v.getLsbD 30 && v.getLsbD 31 then s
    else if v.getLsbD 30 then { s with glb := { g with profPendingValid := false } }
    else if v.getLsbD 31 then (match execProfileRequest (BitVec.ofNat 2 (regField v 0 2)) s with | .next t => t | _ => s)
    else s
  | 0x54 => { s with glb := { g with scratch := v } }
  | _ => s

/-- HIF_RINGn_CTL (Table 4-15, R102). -/
def State.writeRingCtl (s : State) (n : Fin 16) (v : Reg) : State :=
  let r := s.hif.rings[n]
  let size := regField v 4 4
  let size := if 4 ≤ size && size ≤ 12 then BitVec.ofNat 4 size else r.log2size
  let new : Ring := { r with log2size := size, vec := BitVec.ofNat 5 (regField v 8 5), irqEn := v.getLsbD 13,
                             pstride := BitVec.ofNat 3 (regField v 16 3) }
  if r.en then
    let s := if new == r then s else s.setErr .hif 1
    if v.getLsbD 0 then s else s.ringDisable n
  else
    let s := s.setRing n fun _ => new
    if v.getLsbD 0 then s.ringEnable n else s

/-- The low or high half of a 64-bit register. -/
def putHalf (x : BitVec 64) (hi : Bool) (v : Reg) : BitVec 64 :=
  if hi then BitVec.ofNat 64 (x.toNat % 2 ^ 32 + v.toNat * 2 ^ 32) else BitVec.ofNat 64 (x.toNat / 2 ^ 32 * 2 ^ 32 + v.toNat)

/-- HIF registers (Tables 4-10 to 4-17) and the MSI-X table; an entry that is unmasked sends the message that was pending (log 6). The bits 11:0 of
BASE_LO that shall be zero are stored as written (log 80). -/
def State.writeHif (s : State) (off : Nat) (v : Reg) : State :=
  if off == 0x1000 then { s with hif := { s.hif with run := v.getLsbD 0 } }
  else if 0x1040 ≤ off && off < 0x1080 then s.doorbell ⟨(off - 0x1040) / 4 % 16, Nat.mod_lt _ (by decide)⟩ (BitVec.ofNat 16 v.toNat)
  else if 0x1200 ≤ off && off < 0x1400 then
    let n : Fin 16 := ⟨(off - 0x1200) / 32 % 16, Nat.mod_lt _ (by decide)⟩
    let k := off % 32
    if k == 8 then s.writeRingCtl n v
    else if k == 0 || k == 4 || k == 16 || k == 20 then
      if s.hif.rings[n].en then s.setErr .hif 1
      else s.setRing n fun r =>
        if k < 16 then { r with base := putHalf r.base (k == 4) v } else { r with pbase := putHalf r.pbase (k == 20) v }
    else s
  else if 0x1400 ≤ off && off < 0x1480 then
    s.setVec (fin32 ((off - 0x1400) / 4)) fun e => { e with count := BitVec.ofNat 8 (regField v 0 8), time := BitVec.ofNat 12 (regField v 16 12) }
  else if 0x1800 ≤ off && off < 0x1A00 then
    s.setVec (fin32 ((off - 0x1800) / 16)) fun e =>
      match off % 16 with
      | 0 => { e with addr := putHalf e.addr false v }
      | 4 => { e with addr := putHalf e.addr true v }
      | 8 => { e with data := v }
      | _ =>
        Vec.release s.msixOn { e with masked := v.getLsbD 0 }
  else s

/-- R10, R86, R100: a host write. A request of fewer than four byte enables, or one that crosses a 4-byte boundary, has no effect and sets
HIF_ERR.ACCESS, before PHASE 7 on any page too (log 80); before PHASE 7 only the GLB and HIF pages take writes. Profile fields are RO; a register with a row of its own acts as that row. -/
def execRegisterWrite (off : BitVec 17) (be : BitVec 4) (val : BitVec 32) (crosses : Bool) (s : State) : Host.Outcome State Fault Refusal :=
  let o := off.toNat
  if be != 0xF || crosses || o % 4 != 0 then .next (s.setErr .hif 0)
  else if s.boot.phase != 7 && 0x2000 ≤ o then .next s
  else match errRegAt o with
    | some r =>
      let t := s.clearErr r val
      .next (if r == .mgt && val.getLsbD 11 then t.stormClear else t)
    | none =>
      if o < 0x1000 then .next (s.writeGlb o val)
      else if o < 0x2000 then .next (s.writeHif o val)
      else if o == 0xC004 then .next { s with island := { s.island with tamp := s.island.tamp &&& ~~~val } }
      else .next s

/-! ## Register reads (R10 to R12, R100, R126, R388, R438) -/

/-- R10 to R12, R100, R126: a read of a register; of a low half it latches the rest. -/
def execLatchedPairRead (off : BitVec 17) (be : BitVec 4) (crosses : Bool) (s : State) : Host.Outcome State Fault Refusal :=
  if crosses || off.toNat % 4 != 0 then .next s.readBad else .next (s.readAt off.toNat be)

/-- R10, R100: a read of VLK_LVIOL returns COUNT and LAST; COUNT is RC and goes to 0. -/
def execVlkLviolRead (lane : Fin 32) (be : BitVec 4) (crosses : Bool) (s : State) : Host.Outcome State Fault Refusal :=
  if crosses then .next s.readBad else .next (s.readLviol lane be)

/-! ## Internal queues (R121 to R125) -/

/-- A queue replaced. -/
def State.setQueue (s : State) (q : Fin 16) (f : IQueue → IQueue) : State := { s with queues := s.queues.set q (f s.queues[q]) }

/-- R122 to R125: a producer's word: discarded to an end mark while a drop is in force, returned to a reader that stalls, queued, or held with its
producer while the queue is full. -/
def IQueue.put (q : IQueue) (w : BitVec 64) (e : Bool) : IQueue :=
  if q.discarding > 0 then { q with discarding := q.discarding - bit e, notices := q.notices + bit e }
  else if q.readerWaits then { q with readerWaits := false, lastRead := w, midPacket := !e, notices := q.notices + bit e }
  else if q.depth ≤ q.words.length then (if q.writerWaits.isSome then q else { q with writerWaits := some (w, e) })
  else { q with words := q.words ++ [(w, e)], packets := q.packets + bit e, notices := q.notices + bit e }

/-- A producer that stalls writes its word once there is room. -/
def IQueue.resume (q : IQueue) : IQueue :=
  match q.writerWaits with
  | some (w, e) => if q.words.length < q.depth then IQueue.put { q with writerWaits := none } w e else q
  | none => q

/-- R123: a consumer takes the oldest word, or stalls on an empty queue. -/
def IQueue.get (q : IQueue) : IQueue :=
  match q.words with
  | [] => { q with readerWaits := true }
  | (w, e) :: rest => IQueue.resume { q with words := rest, lastRead := w, midPacket := !e, packets := q.packets - bit e }

/-- R124: the rest of the packet begun, or at a packet boundary the whole next packet, goes; what has not arrived goes as it arrives. -/
def IQueue.drop (q : IQueue) : IQueue :=
  let rest := q.words.dropWhile (!·.2)
  match rest with
  | [] => IQueue.resume { q with words := [], midPacket := false, discarding := q.discarding + 1 }
  | _ :: tail => IQueue.resume { q with words := tail, midPacket := false, packets := q.packets - 1 }

/-- R122, R125. -/
def execQueueWordWrite (queue : Fin 16) (word : BitVec 64) (endMark : Bool) (s : State) : Host.Outcome State Fault Refusal :=
  .next (s.setQueue queue fun q => q.put word endMark)

/-- R123. -/
def execQueueWordRead (queue : Fin 16) (s : State) : Host.Outcome State Fault Refusal := .next (s.setQueue queue IQueue.get)

/-- R124. -/
def execQueueDropRemainder (queue : Fin 16) (s : State) : Host.Outcome State Fault Refusal := .next (s.setQueue queue IQueue.drop)

end Sys2Proof.Machine
end

