-- ==== Sys2Proof/Machine/Lanes.lean ====
section
/-!
DEFINITION. The events and commands of the outlet lanes (R128 to R155).
-/
namespace Sys2Proof.Machine

open Sys2Proof

/-! ## Pilot and proximity -/

/-- The class of a sample (Table 5-3), plateaus in 0.01 V; the low plateau counts only while PWM is on. -/
def pilotClass (pwm : Bool) (v : Int × Int) : Pilot :=
  if v.1 < 150 then .e
  else if pwm && v.2 > -1040 then .x
  else if v.1 ≥ 1050 then .a
  else if v.1 ≥ 750 then .b
  else if v.1 ≥ 450 then .c
  else .d

/-- The sum of a level over the ticks a … b of a wave that is at tick pos; its last level holds on. -/
def waveSum : Wave → Nat → Nat → Nat → Int
  | [], _, _, _ => 0
  | [(_, v)], pos, a, b => v * ((b + 1 - max a pos : Nat) : Int)
  | (n, v) :: w, pos, a, b => v * ((min (b + 1) (pos + n) - max a pos : Nat) : Int) + waveSum w (pos + n) a b

/-- The mean level over the ticks a … b of a period, truncated toward zero (R15). -/
def waveMean (w : Wave) (a b : Nat) : Int := tdivNat (waveSum w 0 a b) (b + 1 - a)

/-- The sample of a period under a form (R134): the two plateau means while PWM is on, else the level at tick 12,288. -/
def plateaus (f : PilotForm) (w : Wave) : Int × Int :=
  match f with
  | .pwm d =>
    let h := highTicks d
    (waveMean w 492 (h - 124), waveMean w (h + (24576 - h) / 4) (h + 3 * (24576 - h) / 4 - 1))
  | _ => (waveMean w 12288 12288, 0)

/-- The tick of a period at which the pilot sample is taken (R134). -/
def sampleTick (f : PilotForm) : Nat :=
  match f with
  | .pwm d => highTicks d + 3 * (24576 - highTicks d) / 4 - 1
  | _ => 12288

/-- A volt reading in 0.1 V from one in 0.01 V, truncated toward zero (R15). -/
def tenthV (v : Int) : Int := Int.tdiv v 10

/-- What the vehicle link notes of a pilot change: B-to-C changes (R168), the pilot that T_CPSTATE awaits (R185), and on a lane with digital
communication energy asked for before the grant or before the POWER phase (class 10 of R186). On a DC lane the pilot after the grant comes before
CableCheck by R179 and breaches nothing (DEDUCED, log 97). -/
def State.pilotLink (s : State) (n : Fin 32) (old new : Pilot) : State :=
  let asks := new == .c || (new == .d && s.lanePf n 0 5 1 == 1)
  if !asks then s
  else
    let s := s.cancel .tCpstate n.val
    let s := if old == .b && new == .c then s.setLink n fun l => { l with toggles := l.toggles ++ [s.now] } else s
    let ph := s.link.lanes[n].phase
    if s.digitalOn n && s.pf (0x3100 + 0x20 * n.val) 0 1 == 1 && (!s.lanes[n].grant || (!s.isDc n && ph < 8)) then s.violation n 10 0 [] else s

/-- The form under which the sample of the period that began at p is taken, with its tick: the form in force at that tick, which is the present one
or, where it came into force later, the one before it. -/
def Lane.sampleOf (l : Lane) (p : Nat) : Option (PilotForm × Nat) :=
  let due (f : PilotForm) (from_ : Nat) : Bool := f != .minus12 && decide (from_ ≤ p + sampleTick f) && (!f.isPwm || decide (from_ ≤ p))
  if due l.form l.formFrom then some (l.form, p + sampleTick l.form)
  else if decide (p < l.formFrom) && due l.formWas 0 && decide (p + sampleTick l.formWas < l.formFrom) then some (l.formWas, p + sampleTick l.formWas)
  else none

/-- A sample is taken (R134, R135): LANE_CP shows its plateaus, and its class counts on or starts a new count. -/
def Lane.takeSample (l : Lane) (f : PilotForm) (t : Nat) (w : Wave) : Lane :=
  let v := plateaus f w
  let cl := pilotClass f.isPwm v
  { l with vhi := tenthV v.1, vlo := if f.isPwm then tenthV v.2 else l.vlo, runClass := cl,
           runCount := if l.runClass == cl then min (l.runCount + 1) 3 else 1, sampled := some t }

/-- The sample of the period that began at p, unless it has been taken. -/
def Lane.samplePeriod (l : Lane) (p : Nat) (w : Wave) : Lane :=
  match l.sampleOf p with
  | some (f, t) => if l.sampled == some t || w.isEmpty then l else l.takeSample f t w
  | none => l

/-- A form that waits for this period start comes into force; steady levels asked for before it are overtaken (R130). -/
def Lane.startPeriod (l : Lane) (now : Nat) : Lane :=
  match l.next with
  | some f => if l.nextFrom < now then { l.takeForm f now with next := none, drives := [] } else l
  | none => l

/-- Whether a form takes effect at this period start. -/
def Lane.takesNext (l : Lane) (now : Nat) : Bool := l.next.isSome && decide (l.nextFrom < now)

/-- RATING from Rc in Ω (Table 5-4). -/
def ratingOf (rc : Nat) : Nat :=
  if rc > 4500 then 0
  else if 1100 ≤ rc && rc ≤ 2460 then 1
  else if 400 ≤ rc && rc ≤ 936 then 2
  else if 164 ≤ rc && rc ≤ 308 then 3
  else if 80 ≤ rc && rc ≤ 140 then 4
  else 5

/-- Whether a lane reads proximity (R136, R137). -/
def State.ppRead (s : State) (n : Fin 32) : Bool := s.lanePf n 0 6 1 == 0 && (!s.isDc n || s.lanePf n 0 7 1 == 0)

/-- A proximity sample (R136): LANE_PP.RC shows it, and its rating counts on or starts a new count. Equal samples are samples of equal rating
(DESIGN CHOICE, log 91). -/
def Lane.takePp (l : Lane) (rc now : Nat) : Lane :=
  let r := ratingOf rc
  if l.ppSampled == some now then l
  else { l with rc := min rc 4095, ppClass := r, ppCount := if l.ppClass == r then min (l.ppCount + 1) 3 else 1, ppSampled := some now }

/-- What a lane takes from its sense inputs at a period start: the pilot sample of the period that ends, and the proximity sample of a 10 ms
instant. The instants are the HTC multiples of 245,760 (DESIGN CHOICE, log 91). -/
def State.takeSense (s : State) (x : LaneSense) : State :=
  let s := s.setLane x.lane fun l => l.samplePeriod (s.now - 24576) x.cps
  match x.rc with
  | some rc => if s.ppRead x.lane && s.now % 245760 == 0 then s.setLane x.lane fun l => l.takePp rc s.now else s
  | none => s

/-- The mean currents of the load switches over the 24,576 ticks that end, in mA (Table 10-12; log 92). -/
def State.takeLoads (s : State) (loads : List (Fin 48 × Nat)) : State :=
  { s with lsw := { s.lsw with chans := loads.foldl (fun v e => v.set e.1 { v[e.1] with cur := min e.2 8191 }) s.lsw.chans } }

/-- R130, R134: a period starts. The samples of the period that ends are taken where no pilot event took them, starts of PWM and new duties asked for
before it take effect, and LANE_LIMIT commands that waited for them are done. -/
def execPwmPeriodStart (sense : List LaneSense) (loads : List (Fin 48 × Nat)) (s : State) : Host.Outcome State Fault Refusal :=
  if s.now % 24576 != 0 then .next s
  else
    let t := (sense.foldl State.takeSense s).takeLoads loads
    .next (State.finish s (t.forLanes fun t n =>
      if t.lanes[n].takesNext s.now then (t.setLane n fun l => l.startPeriod s.now).memberDone 0x11 n.val else t))

/-- R135: the third consecutive sample of one class qualifies a new pilot state (class 3, index 0), at the tick of that sample; cps is the period
up to it. -/
def execPilotStateChange (lane : Fin 32) (cps : Wave) (s : State) : Host.Outcome State Fault Refusal :=
  let old := s.lanes[lane]
  if s.now % 24576 != sampleTick old.form then .next s
  else
    let t := s.setLane lane fun l => l.samplePeriod (s.now - s.now % 24576) cps
    let l := t.lanes[lane]
    let p := l.runClass
    if l.sampled != some s.now || l.runCount < 3 || l.pilot == p then .next t
    else
      let t := ((t.note 3 lane.val 0).setLane lane fun l => { l with pilot := p }).laneResult lane 0x01 p.code (l.pilot.code + 256 * l.form.duty)
      .next (State.finish s ((t.pilotLink lane l.pilot p).pilotEvent lane p))

/-- R136: the third equal sample qualifies a new rating (class 3, index 1). -/
def execProximityRatingChange (lane : Fin 32) (ohms : Nat) (s : State) : Host.Outcome State Fault Refusal :=
  if !s.ppRead lane || s.now % 245760 != 0 then .next s
  else
    let t := s.setLane lane fun l => l.takePp ohms s.now
    let l := t.lanes[lane]
    if l.ppCount < 3 || l.rating == l.ppClass then .next t
    else
      let t := (t.note 3 lane.val 1).setLane lane fun l => { l with rating := l.ppClass }
      let t := (t.laneResult lane 0x02 (t.ratingShown lane) (min ohms 65535)).drivePilot lane
      let st := t.lanes[lane].st
      .next (State.finish s (if s.ratingValid lane && !t.ratingValid lane then
          (if st == .closing || st == .energised || st == .stopping then t.faultWith lane 12 2 else t)
        else State.rest 8 t lane))

/-! ## Feedback and timers -/

/-- R144, R145: the level of FBA, or of FBB, changes (class 4, index 0 or 1). -/
def execContactorFeedbackChange (lane : Fin 32) (mirror high : Bool) (s : State) : Host.Outcome State Fault Refusal :=
  let l := s.lanes[lane]
  if (if mirror then l.fbbHigh else l.fbaHigh) == high then .next s
  else
    let t := (s.note 4 lane.val (bit mirror)).setLane lane fun l => if mirror then { l with fbbHigh := high } else { l with fbaHigh := high }
    .next (State.finish s t)

/-- Table 5-6: CLOSING, T_CLOSE expiry. -/
def execTCloseExpiry (lane : Fin 32) (s : State) : Host.Outcome State Fault Refusal :=
  if !s.expired .tClose lane.val then .next s
  else
    let t := s.expire .tClose lane.val
    .next (State.finish s (if t.lanes[lane].st == .closing then ((t.laneErr lane 7).setLane lane fun l => { l with grant := false }).openTo lane .ended 7 else t))

/-- Table 5-6: T_FB expiry in CLOSING and in OPENING. -/
def execTFbExpiry (lane : Fin 32) (s : State) : Host.Outcome State Fault Refusal :=
  if !s.expired .tFb lane.val then .next s
  else
    let t := s.expire .tFb lane.val
    let l := t.lanes[lane]
    .next (State.finish s (match l.st with
      | .closing => t.faultWith lane 13 3
      | .opening =>
        if l.target == .disabled then State.rest 8 ((t.laneErr lane 4).enterPlain lane .disabled l.endCause) lane
        else
          let t := if l.target == .fault then t else t.setLane lane fun l => { l with causes := 0 }
          State.rest 8 ((t.enterPlain lane .fault 13).laneErr lane 4) lane
      | _ => t))

/-- Table 5-6: STOPPING, T_STOP expiry. -/
def execTStopExpiry (lane : Fin 32) (s : State) : Host.Outcome State Fault Refusal :=
  if !s.expired .tStop lane.val then .next s
  else
    let t := s.expire .tStop lane.val
    .next (State.finish s (if t.lanes[lane].st == .stopping then (t.laneErr lane 8).openTo lane .ended 8 true else t))

/-- R143: automatic recovery from FAULT. -/
def execTFaultHoldExpiry (lane : Fin 32) (s : State) : Host.Outcome State Fault Refusal :=
  if !s.expired .tFaultHold lane.val then .next s
  else
    let t := s.expire .tFaultHold lane.val
    let l := t.lanes[lane]
    let recovers := l.st == .fault && t.lanePf lane 0 11 1 == 1 && l.causes != 0 && l.causes &&& 0xFFFFFFF8 == 0
    .next (State.finish s (if recovers then t.enter lane .idle 17 else t))

/-- R152: no STATUS frame within T_MOD. -/
def execTModExpiry (lane : Fin 32) (s : State) : Host.Outcome State Fault Refusal :=
  if !s.expired .tMod lane.val then .next s
  else .next (State.finish s ((s.expire .tMod lane.val).moduleBad lane 9))

/-! ## Power modules -/

/-- The controller of a lane (R149). -/
def laneCtl (n : Fin 32) : Fin 4 := ⟨n.val / 8, by omega⟩

/-- The error counts of a controller after a frame, and its state: error-passive from 128 on (R150; PRESUMED of ISO 11898-1, log 93). -/
def State.pmcanCounts (s : State) (k : Fin 4) (tec rec_ : Nat) : State :=
  let passive := decide (128 ≤ tec) || decide (128 ≤ rec_)
  let s := { s with pmcan := s.pmcan.set k ⟨BitVec.ofNat 8 tec, BitVec.ofNat 8 (min rec_ 255), if passive then 1 else 0⟩ }
  if passive then s.setErr (.pmcan k) 1 else s

/-- R151: the periodic SETPOINT of a lane. txErrors attempts fail before it is sent: each adds 8 to TEC, the frame takes 1 off. Attempts that take TEC
to 256 are the controller's bus-off instead. -/
def execSetpointSend (lane : Fin 32) (txErrors : Nat) (s : State) : Host.Outcome State Fault Refusal :=
  let c := s.pmcan[laneCtl lane]
  let tec := c.tec.toNat + 8 * txErrors
  if s.now % 245760 != 30720 * (lane.val % 8) || decide (256 ≤ tec) then .next s
  else
    let t := s.sendSetpoint lane
    .next (State.finish s (if t.lanes[lane].dc.seqTx == s.lanes[lane].dc.seqTx then t else t.pmcanCounts (laneCtl lane) (tec - 1) c.rec_.toNat))

/-- The DC lane that a module address names on a controller. -/
def State.moduleLane (s : State) (k : Fin 4) (addr : Nat) : Option (Fin 32) :=
  allLanes.find? fun n => laneCtl n == k && s.laneEn n && s.isDc n && s.lanePf n 0x10 0 6 == addr

/-- REC after a frame that rxErrors failed receptions came before: each adds 1, the frame takes 1 off; above 127 it goes to a value from 119 to 127
that the standard leaves open (R150; log 93). -/
def State.received (s : State) (k : Fin 4) (rxErrors : Nat) : State :=
  let c := s.pmcan[k]
  let r := c.rec_.toNat + rxErrors
  if r ≤ 127 then s.pmcanCounts k c.tec.toNat (r - 1)
  else
    let s := s.pmcanCounts k c.tec.toNat r
    let (v, s) := s.draw 9
    s.pmcanCounts k c.tec.toNat (119 + v)

/-- R152: a STATUS frame of 16 bytes, which rxErrors failed receptions came before. -/
def execPmcanStatusFrame (ctl : Fin 4) (modAddr : BitVec 6) (bytes : List (BitVec 8)) (rxErrors : Nat) (s : State) : Host.Outcome State Fault Refusal :=
  if s.pf (0x2060 + 0x400 * ctl.val) 0 1 == 0 || s.pmcan[ctl].estate == 2 || bytes.length != 16 then .next s
  else
    match s.moduleLane ctl modAddr.toNat with
    | none => .next (s.received ctl rxErrors)
    | some n =>
      let s := s.received ctl rxErrors
      let m := field bytes 0 1
      let old := s.lanes[n].dc.state
      let t := s.setLane n fun l => { l with dc := { l.dc with
        state := m % 16, seqEcho := bytes.getD 1 0, vOut := BitVec.ofNat 16 (field bytes 2 2), iOut := BitVec.ofNat 16 (field bytes 4 2),
        faultCode := bytes.getD 6 0, temp := bytes.getD 7 0 } }
      let t := t.arm .tMod n.val (t.pf (0x2060 + 0x400 * ctl.val) 5 8 * ticksPerMs)
      let t := if old == m % 16 then t else t.laneResult n 0x06 (m % 16) (field bytes 2 2 + 65536 * field bytes 4 2)
      let t := t.modOffChange n (m == 0 || m == 1)
      .next (State.finish s (if m == 0x0F then (t.note 4 n.val 3).moduleBad n 10 else t))

/-- R150, R152: txErrors failed attempts take TEC to 256, which is bus-off: module lost on each of the controller's DC lanes. The standard leaves the
count shown open (log 29). -/
def execPmcanBusOff (ctl : Fin 4) (txErrors : Nat) (s : State) : Host.Outcome State Fault Refusal :=
  if s.pf (0x2060 + 0x400 * ctl.val) 0 1 == 0 || s.pmcan[ctl].estate == 2 || decide (s.pmcan[ctl].tec.toNat + 8 * txErrors < 256) then .next s
  else
    let (tec, t) := s.draw 256
    let t := { t with pmcan := t.pmcan.set ctl { t.pmcan[ctl] with tec := BitVec.ofNat 8 tec, estate := 2 } }
    let t := (t.setErr (.pmcan ctl) 1).setErr (.pmcan ctl) 0
    .next (State.finish s (t.forLanes fun t n =>
      if laneCtl n == ctl && t.laneEn n && t.isDc n then (t.note 4 n.val 3).moduleBad n 9 else t))

/-- R150: automatic recovery returns the controller to error-active with its counts at zero. -/
def execPmcanBusOffRecovery (ctl : Fin 4) (s : State) : Host.Outcome State Fault Refusal :=
  if s.pmcan[ctl].estate == 2 then .next { s with pmcan := s.pmcan.set ctl Pmcan.reset } else .next s

/-! ## Commands (Table 5-11) -/

/-- Whether a unit is a lane that is not DISABLED. -/
def State.laneUsable (s : State) (u : Nat) : Bool := if h : u < 32 then s.lanes[u].st != .disabled else false

/-- Apply an operation to a unit that is a lane. -/
def State.onLane (s : State) (u : Nat) (f : State → Fin 32 → State) : State := if h : u < 32 then f s ⟨u, h⟩ else s

/-- LANE_ADMIT on a lane (R547): a hold acts on a lane already in CONNECTED only while a hold over the hub keeps that lane held. -/
def State.setAdmit (s : State) (n : Fin 32) (hold : Bool) : State :=
  let joins := hold && s.lanes[n].st == .connected && s.hubHold
  let s := s.setLane n fun l => { l with admitHold := hold, held := l.held || joins }
  if !hold && s.lanes[n].held then s.unhold n else s

/-- A command over one lane or a gang of lanes that is done at acceptance. -/
def State.laneCommand (s : State) (d : Desc) (opcode : Nat) (pre : State → Nat → Bool) (act : State → Nat → State) : State :=
  if d.scope == 0 then
    if pre s d.unit.toNat then (act s d.unit.toNat).answer 0 opcode d stOk else s.answer 0 opcode d stBadUnit
  else
    let us := maskUnits d.param0 0
    match gangCheck opcode us (fun u => decide (u < 32)) (fun _ => false) (pre s) with
    | some (st, m) => s.answer 0 opcode d st 0 m
    | none => (us.foldl act s).answer 0 opcode d stOk

/-- R153: opcode 0x10. -/
def execLaneAdmit (d : Desc) (s : State) : Host.Outcome State Fault Refusal :=
  let v := dbyte d 24
  .next (State.finish s (s.accept (.laneAdmit d) 0 0x10 d (decide (d.scope.toNat ≤ 1)) (d.len == 0) (decide (v ≤ 1)) fun s =>
    s.laneCommand d 0x10 State.laneUsable fun s u => s.onLane u fun s n => s.setAdmit n (v == 1)))

/-- LANE_LIMIT on a lane: done at acceptance unless a PWM that is shown will change its duty; with digital communication in force the vehicle link
has it as the maximum current (R153). -/
def State.setLimit (s : State) (n : Fin 32) (i : Nat) : Bool × State :=
  let s := (s.setLane n fun l => { l with limit := i }).drivePilot n
  let s := if s.digitalOn n && s.link.lanes[n].maxCur != 0 then s.setLink n fun l => { l with maxCur := s.offer n } else s
  (!s.limitWaits n.val, s)

/-- Whether LANE_LIMIT may act on a unit. -/
def State.limitOk (s : State) (u i : Nat) : Bool :=
  if h : u < 32 then s.lanes[u].st != .disabled && !s.isDc ⟨u, h⟩ && decide (60 ≤ i ∧ i ≤ 800) else false

/-- R153: opcode 0x11. -/
def execLaneLimit (d : Desc) (s : State) : Host.Outcome State Fault Refusal :=
  let i := dparam d 24 2
  .next (State.finish s (s.accept (.laneLimit d) 0 0x11 d (decide (d.scope.toNat ≤ 2)) (if d.scope == 2 then batchLen d else d.len == 0) true fun s =>
    match d.scope.toNat with
    | 0 =>
      if h : d.unit.toNat < 32 then
        if s.limitOk d.unit.toNat i then
          let n : Fin 32 := ⟨d.unit.toNat, h⟩
          let (done, t) := s.setLimit n i
          if done then t.answer 0 0x11 d stOk else t.launch 0 0x11 d false [n.val] [(n.val, s.lanes[n].limit)]
        else s.answer 0 0x11 d stBadUnit
      else s.answer 0 0x11 d stBadUnit
    | 1 =>
      let us := maskUnits d.param0 0
      match gangCheck 0x11 us (fun u => decide (u < 32)) (fun _ => false) (fun u => s.limitOk u i) with
      | some (st, m) => s.answer 0 0x11 d st 0 m
      | none =>
        let prev := us.map fun u => (u, if h : u < 32 then s.lanes[u].limit else 0)
        us.foldl (fun t u => t.onLane u fun t n =>
          let (done, t) := t.setLimit n i
          if done then t.memberDone 0x11 u else t) (s.launch 0 0x11 d true us prev)
    | _ =>
      let (sts, t) := runBatch (fun s u p =>
        if s.limitOk u (p % 65536) then (stOk, s.onLane u fun s n => (s.setLimit n (p % 65536)).2) else (stBadUnit, s)) (unitEntries d) s
      t.endBatch 0x11 d sts t.limitWaits))

/-- Whether LANE_STOP may act on a unit. -/
def State.stopOk (s : State) (u : Nat) : Bool :=
  if h : u < 32 then
    match s.lanes[u].st with
    | .connected | .authorised | .closing | .energised | .paused | .stopping => true
    | .opening => s.lanes[u].target == .paused
    | _ => false
  else false

/-- Whether LANE_STOP is done on a lane (R153). -/
def State.stopDone (s : State) (u : Nat) : Bool :=
  if h : u < 32 then s.lanes[u].st == .ended || s.lanes[u].st == .idle || s.lanes[u].st == .fault || s.lanes[u].st == .disabled else true

/-- R153: opcode 0x12. -/
def execLaneStop (d : Desc) (s : State) : Host.Outcome State Fault Refusal :=
  .next (State.finish s (s.accept (.laneStop d) 0 0x12 d (d.scope == 0 || d.scope == 2)
    (if d.scope == 2 then batchLen d else d.len == 0) (d.scope == 2 || d.param1 == 0) fun s =>
    if d.scope == 0 then
      if s.stopOk d.unit.toNat then
        (s.launch 0 0x12 d false [d.unit.toNat] []).onLane d.unit.toNat fun s n => s.stopRequest n 3
      else s.answer 0 0x12 d stBadUnit
    else
      let (sts, t) := runBatch (fun s u _ => if s.stopOk u then (stOk, s.onLane u fun s n => s.stopRequest n 3) else (stBadUnit, s)) (unitEntries d) s
      t.endBatch 0x12 d sts fun u => t.laneUsable u && !t.stopDone u))

/-- Whether LANE_SERVICE may act on a unit: out on a quiet lane, in on an UNAVAILABLE one. -/
def State.serviceOk (s : State) (out : Bool) (u : Nat) : Bool :=
  if h : u < 32 then s.lanes[u].st != .disabled && (if out then s.quiet ⟨u, h⟩ else s.lanes[u].st == .unavailable) else false

/-- R153: opcode 0x13. -/
def execLaneService (d : Desc) (s : State) : Host.Outcome State Fault Refusal :=
  let v := dbyte d 24
  .next (State.finish s (s.accept (.laneService d) 0 0x13 d (decide (d.scope.toNat ≤ 1)) (d.len == 0) (decide (v ≤ 1)) fun s =>
    s.laneCommand d 0x13 (fun s u => s.serviceOk (v == 1) u) fun s u => s.onLane u fun s n =>
      if v == 1 then (if s.lanes[n].st == .unavailable then s else s.enter n .unavailable 15) else s.enter n .idle 15))

/-- Whether LANE_CLEAR may act on a unit. -/
def State.clearOk (s : State) (u : Nat) : Bool := if h : u < 32 then s.lanes[u].st == .fault else false

/-- R153: opcode 0x14. -/
def execLaneClear (d : Desc) (s : State) : Host.Outcome State Fault Refusal :=
  .next (State.finish s (s.accept (.laneClear d) 0 0x14 d (d.scope == 0 || d.scope == 2)
    (if d.scope == 2 then batchLen d else d.len == 0) (d.scope == 2 || d.param1 == 0) fun s =>
    if d.scope == 0 then
      if s.clearOk d.unit.toNat then (s.onLane d.unit.toNat fun s n => s.enter n .idle 17).answer 0 0x14 d stOk
      else s.answer 0 0x14 d stBadUnit
    else
      let (sts, t) := runBatch (fun s u _ => if s.clearOk u then (stOk, s.onLane u fun s n => s.enter n .idle 17) else (stBadUnit, s)) (unitEntries d) s
      t.endBatch 0x14 d sts fun _ => false))

end Sys2Proof.Machine
end

