-- ==== Sys2Proof/Machine/LoadSwitch.lean ====
section
/-!
DEFINITION. The commands of the load switch channels (R276 to R298). Thresholds are the typical values of the
characteristics (log 27).
-/
namespace Sys2Proof.Machine

open Sys2Proof

/-- R278: the enable rises. In CLOSING the lane starts T_FB (Table 5-6); a pending weld check is not made (R267). -/
def execCoilEnableRise (ch : Fin 32) (s : State) : Host.Outcome State Fault Refusal :=
  if s.lanes[ch].coil || !s.coilEnable ch then .next s
  else
    let t := ((s.chNote (coilCh ch)).setLane ch fun l => { l with coil := true }).cancel .tWeld ch.val
    let c := t.lsw.chans[coilCh ch]
    let t := if c.st == .off && !c.tripped then t.chTo (coilCh ch) .start else t
    let t := if t.lanes[ch].st == .closing then t.arm .tFb ch.val (t.lanePf ch 0xC 0 10 * ticksPerMs) else t
    .next (State.finish s t)

/-- R278, R267: the enable falls; the driver switches off and, on an AC lane with WELD_VCHK, T_WELD starts. -/
def execCoilEnableFall (ch : Fin 32) (s : State) : Host.Outcome State Fault Refusal :=
  if !s.lanes[ch].coil || s.coilEnable ch then .next s
  else
    let t := (s.chNote (coilCh ch)).setLane ch fun l => { l with coil := false }
    let t := t.setCh (coilCh ch) fun c => { c with tripped := false }
    let t := if t.lsw.chans[coilCh ch].driving then t.chTo (coilCh ch) .off else t
    let t := if !t.isDc ch && t.safLcfg ch 4 1 == 1 then t.arm .tWeld ch.val (t.pf 0x6028 0 10 * ticksPerMs) else t
    .next (State.finish s t)

/-- R278: the pull-in window ends. -/
def execPullInEnd (ch : Fin 32) (s : State) : Host.Outcome State Fault Refusal :=
  let c := s.lsw.chans[coilCh ch]
  if c.st == .start && c.since + s.ccfg (coilCh ch) 0 8 * ticksPerMs ≤ s.now then
    .next ((s.chNote (coilCh ch)).chTo (coilCh ch) .on)
  else .next s

/-- R281, R282: held is the ticks of the START short, or the economiser periods at the cycle limit in ON. A trip whose enable is already false is
not counted (Table 10-3). -/
def execCoilTrip (ch : Fin 32) (held : Nat) (s : State) : Host.Outcome State Fault Refusal :=
  let c := s.lsw.chans[coilCh ch]
  let trips := s.coilEnable ch && ((c.st == .start && decide (held ≥ 49152)) || (c.st == .on && decide (held ≥ 32)))
  if trips then
    let n := min (c.left + 1) 3
    let t := (s.chNote (coilCh ch)).setCh (coilCh ch) fun x => { x with cause := if c.st == .start then 4 else 5, left := n, tripped := true }
    let t := t.setErr .lsw 0
    .next (t.chTo (coilCh ch) (if n == 3 then .latched else .off))
  else .next s

/-- R282: ten seconds in ON reset the count. -/
def execCoilTripsReset (ch : Fin 32) (s : State) : Host.Outcome State Fault Refusal :=
  let c := s.lsw.chans[coilCh ch]
  if c.st == .on && c.since + 245760000 ≤ s.now then .next (s.setCh (coilCh ch) fun x => { x with left := 0 }) else .next s

/-- R283: the inrush window ends. -/
def execInrushEnd (m : Fin 16) (s : State) : Host.Outcome State Fault Refusal :=
  let c := s.lsw.chans[auxCh m]
  if c.st == .start && c.since + s.acfg (auxCh m) 0 6 * ticksPerMs ≤ s.now then
    .next (State.finish s ((s.chNote (auxCh m)).chOn (auxCh m)))
  else .next s

/-- R284, R285: cause 0 SHORT_START, 1 SHORT, 2 OVERLOAD, with the least current over, and the ticks for which, its condition has held. -/
def execAuxTrip (m : Fin 16) (cause : Fin 3) (currentMa held : Nat) (s : State) : Host.Outcome State Fault Refusal :=
  let c := s.lsw.chans[auxCh m]
  let met : Bool := match cause.val with
    | 0 => c.st == .start && decide (held ≥ 49152)
    | 1 => c.st == .on && decide (held ≥ 24576)
    | _ => c.st == .on && decide (s.acfg (auxCh m) 8 11 ≤ currentMa) && decide (held ≥ s.acfg2 (auxCh m) 0 8 * 10 * ticksPerMs)
  if met then .next (State.finish s (s.auxTrip (auxCh m) (cause.val + 1))) else .next s

/-- R285, R291: a retry, unless a latch or a supply hold keeps the channel. -/
def execTRetryExpiry (m : Fin 16) (s : State) : Host.Outcome State Fault Refusal :=
  if !s.expired .tRetry (auxCh m).val then .next s
  else
    let t := s.expire .tRetry (auxCh m).val
    let c := t.lsw.chans[auxCh m]
    if c.st == .retryWait then .next ((t.setCh (auxCh m) fun x => { x with left := x.left - 1 }).chTo (auxCh m) .start) else .next t

/-- R285: ten seconds in ON restore the retries. -/
def execAuxRetriesReset (m : Fin 16) (s : State) : Host.Outcome State Fault Refusal :=
  let c := s.lsw.chans[auxCh m]
  if c.st == .on && c.since + 245760000 ≤ s.now then
    .next (s.setCh (auxCh m) fun x => { x with left := s.acfg2 (auxCh m) 8 3 })
  else .next s

/-- Whether a channel's open-load source is connected and enabled (R287). -/
def State.olActive (s : State) (c : Fin 48) : Bool :=
  (if c.val < 32 then s.ccfg c 18 1 == 1 else s.acfg c 19 1 == 1) &&
    (s.lsw.chans[c].st == .off || s.lsw.chans[c].st == .latched || s.lsw.chans[c].st == .retryWait)

/-- R287: the output has stayed above or below V_OL for 10 ms. -/
def execOpenLoadChange (ch : Fin 48) (above : Bool) (held : Nat) (s : State) : Host.Outcome State Fault Refusal :=
  if s.olActive ch && held ≥ 245760 && s.lsw.chans[ch].openLoad != above then
    let t := ((s.chNote ch).setCh ch fun c => { c with openLoad := above }).emit (chRing ch) 0x31 ch.val 0 (bit above)
    .next (if above then t.setErr .lsw 7 else t)
  else .next s

/-- R288: under 50 mA for 100 ms in ON. -/
def execUnderloadSet (m : Fin 16) (currentMa held : Nat) (s : State) : Host.Outcome State Fault Refusal :=
  let c := s.lsw.chans[auxCh m]
  if c.st == .on && currentMa < 50 && held ≥ 2457600 && !c.underload then
    .next (((s.chNote (auxCh m)).setCh (auxCh m) fun x => { x with underload := true, cur := currentMa }).emit (chRing (auxCh m)) 0x31
      (auxCh m).val 1 1)
  else .next s

/-- An LS_QUAD result (Table 10-6) with its event. -/
def State.quadResult (s : State) (q : Fin 12) (what : Nat) (temp : Int) : State :=
  (s.note 4 32 (80 + q.val)).emit 2 0x32 0xFFFF q.val (what + 256 * (temp % 65536).toNat)

/-- A quad's sensor is sampled every 6,144 ticks (R289); the instants are the HTC multiples of that (DESIGN CHOICE, log 94). -/
def State.quadTick (s : State) : Bool := s.now % 6144 == 0

/-- A sample of a quad's sensor: TEMP, and WARN against T_WARN (R289). -/
def State.quadSample (s : State) (q : Fin 12) (temp : Int) : State :=
  let w := decide (temp > s.pf 0x7000 8 8)
  let t := s.setQuad q fun x => { x with temp := temp }
  if w == s.lsw.quads[q].warn then t else (t.setQuad q fun x => { x with warn := w }).quadResult q (if w then 0 else 1) temp

/-- R289: WARN follows the sensor against T_WARN. -/
def execThermalWarnChange (q : Fin 12) (temp : Int) (s : State) : Host.Outcome State Fault Refusal :=
  if s.quadTick then .next (s.quadSample q temp) else .next s

/-- T_SD and T_HYS in °C (typical). -/
abbrev tSd : Int := 175
abbrev tHys : Int := 15

/-- R289, R291: the sensor exceeds T_SD; the channels that no supply hold keeps enter THERMAL, LATCHED ones stay. -/
def execThermalLatchSet (q : Fin 12) (temp : Int) (s : State) : Host.Outcome State Fault Refusal :=
  if s.quadTick && decide (temp > tSd) && !s.lsw.quads[q].therm then
    let t := ((s.quadSample q temp).setQuad q fun x => { x with therm := true, count := min (x.count + 1) 65535 }).setErr .lsw 2
    let t := t.quadResult q 2 temp
    let t := (quadChans q).foldl (fun t c =>
      if t.lsw.chans[c].st == .latched || t.lsw.chans[c].st == .supply then t else (t.chTo c .thermal).chFails c) t
    .next (State.finish s t)
  else .next s

/-- R289, R290: the sensor falls below T_SD − T_HYS. -/
def execThermalLatchClear (q : Fin 12) (temp : Int) (s : State) : Host.Outcome State Fault Refusal :=
  if s.quadTick && decide (temp < tSd - tHys) && s.lsw.quads[q].therm then
    let t := ((s.quadSample q temp).setQuad q fun x => { x with therm := false }).quadResult q 3 temp
    let t := (quadChans q).foldl (fun t c => if t.lsw.chans[c].st == .thermal then t.chRestart c else t) t
    .next (State.finish s t)
  else .next s

/-- An LS_SUPPLY result. -/
def State.supplyResult (s : State) (what : Nat) : State := s.emit 2 0x33 0xFFFF what s.lsw.vls

/-- R292: VLS below 7.5 V for 20 µs. -/
def execVlsUndervoltage (vlsMv heldUs : Nat) (s : State) : Host.Outcome State Fault Refusal :=
  if vlsMv < 7500 && heldUs ≥ 20 && !s.lsw.uv then
    let t := (s.note 1 32 3).setLsw fun l => { l with vls := min (vlsMv / 10) 4095, uv := true, restart := none, restarted := [] }
    .next (State.finish s ((t.setErr .lsw 3).supplyResult 0).allSupply)
  else .next s

/-- R292: VLS above 8.5 V for 10 ms; the quads restart one after another from this stamp. -/
def execVlsRestart (vlsMv held : Nat) (s : State) : Host.Outcome State Fault Refusal :=
  if vlsMv > 8500 && held ≥ 245760 && s.lsw.uv then
    .next (((s.note 1 32 3).setLsw fun l => { l with vls := min (vlsMv / 10) 4095, uv := false, restart := some s.now, restarted := [] }).supplyResult 2)
  else .next s

/-- R292: quad q at the restart stamp plus q ms. -/
def execQuadRestart (q : Fin 12) (s : State) : Host.Outcome State Fault Refusal :=
  match s.lsw.restart with
  | some r =>
    if r + q.val * 24576 ≤ s.now && !s.lsw.restarted.contains q.val then
      let t := s.setLsw fun l => { l with restarted := l.restarted ++ [q.val], restart := if l.restarted.length ≥ 11 then none else l.restart }
      .next (State.finish s (if t.lsw.hb then t.quadRestart q else t))
    else .next s
  | none => .next s

/-- R60, Table 10-7: VLS below 80 % of nominal for 10 ms. -/
def execVlsLowSet (vlsMv held : Nat) (s : State) : Host.Outcome State Fault Refusal :=
  let nom := if s.pf 0x7000 0 1 == 1 then 24000 else 12000
  if vlsMv * 10 < nom * 8 && held ≥ 245760 then
    .next (((s.note 1 32 4).setLsw fun l => { l with vls := min (vlsMv / 10) 4095 }).setErr .lsw 5)
  else .next s

/-- R293: no heartbeat edge for 5 ms: every commanded state is off, so no retry and no shunt pulse goes on. -/
def execHeartbeatLost (silentUs : Nat) (s : State) : Host.Outcome State Fault Refusal :=
  if silentUs ≥ 5000 && s.lsw.hb then
    let t := (s.note 0 32 104).setLsw fun l => { l with hb := false, hbLost := true }
    let t := ((t.setErr .lsw 4).supplyResult 1).allSupply
    let t := (List.finRange 16).foldl (fun t m => (t.setCh (auxCh m) fun c => { c with cmd := false }).cancel .tRetry (auxCh m).val) t
    .next (State.finish s (t.setIsland fun x => { x with shuntUntil := none }))
  else .next s

/-- A quad whose heartbeat hold ends (R293): a coil channel enters OFF and comes back when its enable rises. -/
def State.quadReturn (s : State) (q : Fin 12) : State :=
  (quadChans q).foldl (fun s c => if s.lsw.chans[c].st == .supply && c.val < 32 && !s.lsw.quads[q].therm then s.chTo c .off else s) s

/-- R293: the heartbeat returns and the channels enter OFF, unless a supply hold or a thermal latch keeps them. The first heartbeat after a chip
reset is no return from a loss and no event (DEDUCED, log 95). -/
def execHeartbeatReturn (s : State) : Host.Outcome State Fault Refusal :=
  if s.lsw.hb then .next s
  else
    let t := (if s.lsw.hbLost then s.note 0 32 104 else s).setLsw fun l => { l with hb := true, hbLost := false }
    let t := (List.finRange 12).foldl (fun t q => if t.supplyHold q then t else (t.quadReturn q).quadRestart q) t
    .next (State.finish s t)

/-! ## Commands (Table 10-5) -/

/-- The auxiliary channel of a unit. -/
def unitAux (u : Nat) : Option (Fin 48) := if h : 32 ≤ u ∧ u < 48 then some ⟨u, h.2⟩ else none

/-- The partner of an exclusive pair (R286). -/
def exclPartner (c : Fin 48) : Fin 48 := if c.val % 2 == 0 then ⟨(c.val + 1) % 48, Nat.mod_lt _ (by decide)⟩ else ⟨c.val - 1, by omega⟩

/-- Whether LSW_SET on is allowed on a channel now (R286, Table 10-5). -/
def State.auxReady (s : State) (c : Fin 48) (on : Bool) : Bool :=
  !on || (s.lsw.chans[c].st != .latched &&
    (s.acfg c 20 1 == 0 ||
      (!s.lsw.chans[exclPartner c].driving &&
        (match s.lsw.chans[exclPartner c].offAt with | some t => decide (t + 491520 ≤ s.now) | none => true))))

/-- Set one channel: answers whether the command is done at acceptance. Off loads RETRY_LEFT (R285). -/
def State.auxSet (s : State) (c : Fin 48) (on : Bool) : Bool × State :=
  if on then
    if s.lsw.chans[c].st == .on then (true, s.setCh c fun x => { x with cmd := true }) else (false, s.auxOn c)
  else (true, ((s.chNote c).auxOff c).setCh c fun x => { x with left := s.acfg2 c 8 3 })

/-- LSW_SET off ends an earlier LSW_SET on that has not reached ON (R296). -/
def State.offEnds (s : State) (c : Fin 48) (on : Bool) : State := if on then s else s.endSet c

/-- Whether an LSW_SET on waits for its channel. -/
def State.setWaits (s : State) (u : Nat) : Bool := match unitAux u with | some c => s.lsw.chans[c].cmd && s.lsw.chans[c].st != .on | none => false

/-- The mark of a batch entry whose channel has not reached ON. -/
abbrev stWaits : Nat := 0x100

/-- The statuses of a batch's entries: an entry that waits for ON is ended by a later entry off of its channel (R296), else it goes on waiting. -/
def lateOff : List ((Nat × Nat) × (Nat × Nat)) → List (Nat × Nat)
  | [] => []
  | ((u, st), _) :: es =>
    (u, if st == stWaits then (if es.any fun e => e.1 == (u, stOk) && e.2.2 % 256 == 0 then stAborted else stOk) else st) :: lateOff es

/-- R296: opcode 0x70. -/
def execLswSet (d : Desc) (s : State) : Host.Outcome State Fault Refusal :=
  let on := dbyte d 24 == 1
  let okVal := dbyte d 24 ≤ 1
  let pre (s : State) (u : Nat) : Nat :=
    match unitAux u with
    | none => stBadUnit
    | some c => if s.claimed c then stDenied else if !s.auxReady c on then stBadUnit else stOk
  .next (State.finish s (s.accept (.lswSet d) 0 0x70 d (d.scope.toNat ≤ 2)
    (if d.scope == 2 then batchLen d else d.len == 0) (d.scope == 2 || okVal) fun s =>
    match d.scope.toNat with
    | 0 =>
      match unitAux d.unit.toNat with
      | none => s.answer 0 0x70 d stBadUnit
      | some c =>
        if pre s d.unit.toNat != stOk then s.answer 0 0x70 d (pre s d.unit.toNat)
        else
          let prev := bit s.lsw.chans[c].cmd
          let (done, t) := (s.offEnds c on).auxSet c on
          if done then t.answer 0 0x70 d stOk else t.launch 0 0x70 d false [c.val] [(c.val, prev)]
    | 1 =>
      let mask := d.param0
      let us := maskUnits mask 32
      match gangCheck 0x70 us (fun u => decide (u < 48)) (fun u => pre s u == stDenied) (fun u => pre s u == stOk) with
      | some (st, m) => s.answer 0 0x70 d st 0 m
      | none =>
        let prev := us.map fun u => (u, match unitAux u with | some c => bit s.lsw.chans[c].cmd | none => 0)
        let t := us.foldl (fun t u => match unitAux u with | some c => t.offEnds c on | none => t) s
        let t := t.launch 0 0x70 d true us prev
        us.foldl (fun t u => match unitAux u with
          | some c => let (done, t) := t.auxSet c on
                      if done then t.memberDone 0x70 u else t
          | none => t) t
    | _ =>
      let (sts, t) := runBatch (fun s u p =>
        let on := p % 256 == 1
        match unitAux u with
        | none => (stBadUnit, s)
        | some c =>
          if p % 256 > 1 then (stBadUnit, s)
          else if s.claimed c then (stDenied, s)
          else if !s.auxReady c on then (stBadUnit, s)
          else
            let (done, t) := (s.offEnds c on).auxSet c on
            (if done then stOk else stWaits, t)) (unitEntries d) s
      t.endBatch 0x70 d (lateOff (sts.zip (unitEntries d))) t.setWaits))

/-- Clear one channel (Table 10-5). A channel that leaves LATCHED under a supply hold or a thermal latch shows that (R291, R292; log 71). -/
def State.chClear (s : State) (c : Fin 48) : State :=
  let s := s.setCh c fun x => { x with left := if c.val < 32 then 0 else s.acfg2 c 8 3 }
  if s.lsw.chans[c].st == .latched then
    s.chTo c (if s.supplyHold (chQuad c) then .supply else if s.lsw.quads[chQuad c].therm then .thermal else .off)
  else s

/-- R296: opcode 0x71. -/
def execLswClear (d : Desc) (s : State) : Host.Outcome State Fault Refusal :=
  .next (State.finish s (s.accept (.lswClear d) 0 0x71 d (d.scope == 0 || d.scope == 2)
    (if d.scope == 2 then batchLen d else d.len == 0) (d.scope == 2 || d.param1 == 0) fun s =>
    if d.scope == 0 then
      if h : d.unit.toNat < 48 then (s.chClear ⟨d.unit.toNat, h⟩).answer 0 0x71 d stOk else s.answer 0 0x71 d stBadUnit
    else
      let (sts, t) := runBatch (fun s u _ => if h : u < 48 then (stOk, s.chClear ⟨u, h⟩) else (stBadUnit, s)) (unitEntries d) s
      t.endBatch 0x71 d sts fun _ => false))

end Sys2Proof.Machine
end

