-- ==== Sys2Proof/Machine/SafetyIsland.lean ====
section
/-!
DEFINITION. The events and commands of the safety island (R247 to R275).
-/
namespace Sys2Proof.Machine

open Sys2Proof

/-! ## Safety inputs and supplies -/

/-- R260: an input changes state after its filter count. -/
def execSinStateChange (sin : Fin 72) (level : Bool) (equalSamples : Nat) (s : State) : Host.Outcome State Fault Refusal :=
  if s.sinType sin == 0 || s.now % 6144 != 0 || s.sinBlankedAt s.now sin || s.saf.sins[sin].closed == level ||
      equalSamples < s.sinNeeds sin level then .next s
  else
    let t := s.setSin sin fun x => { x with closed := level }
    let t := (t.pairCheck sin).sinResult sin
    .next (State.finish s (if t.sinReads sin then t.autoRst else t.sinAct sin))

/-- A fault of an input (R261, R262): 1 CROSS, 2 STUCK, 3 DISC, with its error bit; one not recorded yet is an event with a result, and counts for the
ACTION. -/
def State.sinFault (s : State) (i : Fin 72) (code errBit : Nat) (f : Sin → Sin) : State :=
  let x := s.saf.sins[i]
  let was := if code == 1 then x.cross else if code == 2 then x.stuck else x.disc
  let t := (s.setSin i f).setErr .saf errBit
  if was then t else (t.sinSay i code).sinAct i

/-- R261: STUCK is judged 6,144 ticks after the start of the input's own pulse, CROSS when the sample 24,576 ticks after
the start of another supply's pulse is in. -/
def execSinPulseFault (sin : Fin 72) (tps : Fin 4) (before sample after : Bool) (s : State) : Host.Outcome State Fault Refusal :=
  if !s.sinPulsed sin || !s.sinReads sin || !s.saf.tps[tps].on then .next s
  else if tps == s.sinTps sin then
    if s.pulsePhase tps.val == 6144 && sample then
      .next (State.finish s (s.sinFault sin 2 5 fun x => { x with stuck := true, stuckAt := s.now }))
    else .next s
  else if s.pulsePhase tps.val == 24576 && before && after && !sample then
    .next (State.finish s (s.sinFault sin 1 4 fun x => { x with cross := true, crossAt := s.now }))
  else .next s

/-- R259: a pulse of an enabled supply begins, with what its readback will show: the lowest voltage during the pulse, the voltage 24,576 ticks after
its start, and the ticks spent at the current limit by then (logs 1, 104). Each is judged at its own stamp (State.islandDue). -/
def execTpsPulseStart (k : Fin 4) (lowMv highMv limitTicks : Nat) (s : State) : Host.Outcome State Fault Refusal :=
  if s.pf 0x6000 k.val 1 == 0 || !s.saf.tps[k].on || s.pulsePhase k.val != 0 then .next s
  else .next (s.setTps k fun t => { t with first := some (t.first.getD s.now), last := some s.now, lowSeen := some lowMv,
                                           highSeen := some (highMv, limitTicks) })

/-- The inputs of a DUAL pair. -/
def pairFirst (p : Fin 36) : Fin 72 := ⟨2 * p.val, by omega⟩
def pairSecond (p : Fin 36) : Fin 72 := ⟨2 * p.val + 1, by omega⟩

/-- R262: T_DISC expires; both inputs take a DISC fault. -/
def execTDiscExpiry (pair : Fin 36) (s : State) : Host.Outcome State Fault Refusal :=
  if !s.expired .tDisc pair.val then .next s
  else
    let f (x : Sin) : Sin := { x with disc := true, bothOpen := false }
    let t := s.expire .tDisc pair.val
    .next (State.finish s ((t.sinFault (pairFirst pair) 3 6 f).sinFault (pairSecond pair) 3 6 f))

/-- R260: latch 0 clears itself. -/
def execTAutorstExpiry (lane : Fin 32) (s : State) : Host.Outcome State Fault Refusal :=
  if !s.expired .tAutorst lane.val then .next s
  else .next (State.finish s ((s.expire .tAutorst lane.val).latchClear lane 0))

/-! ## Residual current -/

/-- R263: the AC sum over the last half-cycle reaches the threshold; window holds the newest samples. -/
def execResidualAcTrip (lane : Fin 32) (window : List Int) (s : State) : Host.Outcome State Fault Refusal :=
  let t := s.residual lane window
  let w := s.resWindow lane
  if s.resRuns lane && !s.isDc lane && s.safLcfg lane 0 1 == 1 && !s.latched lane 1 &&
      w * (s.thr lane (s.safLcfg lane 8 10)) ^ 2 ≤ sumSq (newest w window) then
    .next (State.finish s (((t.note 0 lane.val 80).latchSet lane 1 80).setErr .saf 8))
  else .next t

/-- SAF_DCPk fields: I, T, EN. -/
def State.dcPoint (s : State) (k : Fin 4) (lo w : Nat) : Nat := s.pf (0x6010 + 4 * k.val) lo w

/-- R263: a point's timer, started at the sample of stamp start, expires; least is the least |s| since then. -/
def execDcPointTimerExpiry (lane : Fin 32) (point : Fin 4) (start least : Nat) (s : State) : Host.Outcome State Fault Refusal :=
  let n := 2 * s.resWindow lane
  if s.resRuns lane && s.safLcfg lane 1 1 == 1 && s.dcPoint point 31 1 == 1 && s.saf.lanes[lane].pointFrom ≤ start &&
      start + s.dcPoint point 13 16 * ticksPerMs == s.now && n * s.thr lane (s.dcPoint point 0 13) ≤ least then
    .next (State.finish s (((s.note 0 lane.val (81 + point.val)).latchSet lane 2 (81 + point.val)).setErr .saf 8))
  else .next s

/-- The first stage-3 output of a lane whose sample time is at or after a tick (R308, R309). -/
def State.firstSample (s : State) (n : Fin 32) (tick : Nat) : Nat := ceilDiv (tick + s.groupDelay n tick - 3645) 512

/-- The issue stamp of a stage-3 output (R308). -/
def issue3 (j : Nat) : Nat := 512 * j + 2525

/-- R264, step 2: TSW is off since its 983,040 ticks have passed; the comparison is made at the issue of the last sample whose sample time lies before
that tick. -/
def execSelfTestDriveEnd (lane : Fin 32) (window : List Int) (s : State) : Host.Outcome State Fault Refusal :=
  match s.saf.lanes[lane].testFrom with
  | some f =>
    if s.now == issue3 (s.firstSample lane (f + testTicks) - 1) && !s.saf.lanes[lane].testHalf then
      let m := s.dcMeanOf lane window
      .next (s.setSaf lane fun l => { l with testHalf := true, testMean := m, testOk := decide (s.safLcfg lane 18 10 ≤ m.natAbs) })
    else .next s
  | none => .next s

/-- R264, step 3: the result of the test, at the issue of the first sample whose sample time lies 983,040 ticks after TSW went off, or later. -/
def execSelfTestResult (lane : Fin 32) (window : List Int) (s : State) : Host.Outcome State Fault Refusal :=
  let l := s.saf.lanes[lane]
  match l.testFrom with
  | some f =>
    if s.now == issue3 (s.firstSample lane (f + 2 * testTicks)) && l.testHalf then
      let ok := l.testOk && decide ((s.dcMeanOf lane window).natAbs < 30)
      let mean := (sat16 l.testMean % 65536).toNat
      let t := (s.note 0 lane.val 86).setSaf lane fun l => { l with testFrom := none, testHalf := false, tested := l.tested || ok, pointFrom := s.now }
      let t := if ok then t.latchClear lane 4 else (t.latchSet lane 4 86).setErr .saf 9
      let t := t.laneResult lane 0x22 (bit (!ok)) mean
      let t := match t.flightOf 0x61 lane.val with
        | some f => t.settleFlight f (if ok then stOk else 0x21) 0 mean
        | none => t
      .next (State.finish s t)
    else .next s
  | none => .next s

/-! ## Insulation -/

/-- R265: a half-cycle ends with the averages of V2 and V3 and the least V1 it has seen, all in mV. -/
def execIsolationSwitchToggle (lane : Fin 32) (v2Mv v3Mv v1MinMv : Int) (s : State) : Host.Outcome State Fault Refusal :=
  let l := s.saf.lanes[lane]
  match l.isoFrom with
  | some f =>
    if s.isoOn lane && f + (s.pf 0x6024 0 10 + s.pf 0x6024 10 10) * ticksPerMs ≤ s.now && !l.isoReady then
      let bad := l.isoBad || decide (v1MinMv < s.pf 0x6020 24 8 * 10000)
      if bad then .next ((s.isoEnd lane).isoWatch lane)
      else if !l.isoClosed then
        .next (s.setSaf lane fun l => { l with isoFrom := some s.now, isoClosed := true, isoV := (v2Mv, v3Mv) })
      else .next (s.setSaf lane fun l => { l with isoFrom := some s.now, isoClosed := false, isoV2 := (v2Mv, v3Mv), isoReady := true })
    else .next s
  | none => .next s

/-- The resistances of a lane's complete cycle. R266 states none where vp or vn2 × vp − vp2 × vn is zero: there they are
free (log 28). -/
def State.isoResistances (s : State) (n : Fin 32) : (Option (Nat × Nat) × Option (Nat × Nat)) × State :=
  let l := s.saf.lanes[n]
  let rb := s.pf (0x6408 + 0x20 * n.val) 0 16 * 1000
  let rs := s.pf (0x6408 + 0x20 * n.val) 16 16 * 1000
  if l.isoV.1 == 0 || l.isoV2.2 * l.isoV.1 - l.isoV2.1 * l.isoV.2 == 0 then
    let (a, s) := s.draw 65536
    let (b, s) := s.draw 65536
    ((some (a * 1000, 1), some (b * 1000, 1)), s)
  else (insulation l.isoV.1 l.isoV.2 l.isoV2.1 l.isoV2.2 rb rs, s)

/-- R266: the result of a complete cycle. -/
def execInsulationResult (lane : Fin 32) (s : State) : Host.Outcome State Fault Refusal :=
  let l := s.saf.lanes[lane]
  if !l.isoReady then .next s
  else
    let (r, t) := s.isoResistances lane
    let cls := isoClass r.1 r.2 (s.pf 0x6020 0 12) (s.pf 0x6020 12 12) (s.lanePf lane 0x10 8 12)
    let rp := kOhm r.1
    let rn := kOhm r.2
    let t := (t.note 0 lane.val 85).setSaf lane fun l =>
      { l with iso := BitVec.ofNat 2 cls, rp := rp, rn := rn, isoReady := false, isoCycle := (l.isoFrom.getD s.now) }
    let t := if cls == 3 then (t.latchSet lane 3 85).setErr .saf 10 else if cls == 2 then t.setErr .saf 11 else t
    let cable : Bool := (match s.link.lanes[lane].cable with
      | some c => decide (c ≤ l.isoCycle)
      | none => false) && s.link.lanes[lane].cableClass == 0
    let cmd := (t.flightOf 0x62 lane.val).isSome
    let t := t.laneResult lane 0x23 cls (rp + 65536 * rn + 2 ^ 32 * (if cmd then 2 else bit cable))
    let t := t.settleAll 0x62 lane.val stOk (rp + 65536 * rn + 2 ^ 32 * cls)
    let t := if cable then ((t.cancel .tCable lane.val).setLink lane fun k => { k with cableClass := cls }) else t
    .next (State.finish s t)

/-! ## Welds and off-path failures -/

/-- R267: T_WELD expires; the last per-cycle RMS of the mode's voltages is at least WELD_V. -/
def execTWeldExpiry (lane : Fin 32) (s : State) : Host.Outcome State Fault Refusal :=
  if !s.expired .tWeld lane.val then .next s
  else
    let t := s.expire .tWeld lane.val
    let v (i : Nat) : Bool := decide ((s.pf 0x6028 10 10 * 1000 : Int) ≤ s.nrg.lanes[lane].scaled.getD i 0)
    if v 0 || (s.laneMode lane == 1 && (v 1 || v 2)) then .next (t.setIsland fun x => { x with judges := x.judges ++ [⟨s.now + 1, lane.val, 1⟩] })
    else .next t

/-- R253, R268, R269: a judgement that is due, of a weld or of an off-path failure. -/
def execWeldJudgement (lane : Fin 32) (s : State) : Host.Outcome State Fault Refusal :=
  match s.saf.judges.find? fun j => j.lane == lane.val && j.due ≤ s.now with
  | some j =>
    let t := s.setIsland fun x => { x with judges := x.judges.erase j }
    .next (State.finish s (if j.kind == 2 then t.offPath lane else t.weldJudged lane j.kind))
  | none => .next s

/-- R268, R294: the shunt pulse ends. -/
def execShuntPulseEnd (s : State) : Host.Outcome State Fault Refusal :=
  match s.saf.shuntUntil with
  | some u =>
    if u ≤ s.now then
      let t := s.setIsland fun x => { x with shuntUntil := none }
      .next (match t.shuntCh with | some c => (t.chNote c).auxOff c | none => t)
    else .next s
  | none => .next s

/-- The length of an economiser period, and its shortest and longest on-time (R279). -/
abbrev econPeriod : Nat := 1536
def econOn (ticks : Nat) : Nat := max 77 (min 1382 ticks)

/-- R269, R279, native mode: a readback on the last tick of an economiser period's off-phase, which a channel in ON has; onTicks: the on-time that the
current regulator has set in that period. -/
def execOffpathReadback (lane : Fin 32) (onTicks : Nat) (high : Bool) (s : State) : Host.Outcome State Fault Refusal :=
  if s.pf 0x6000 4 1 == 1 || s.lsw.chans[coilCh lane].st != .on || s.now % econPeriod != econPeriod - 1 then .next s
  else .next (State.finish s ((s.setCh (coilCh lane) fun c => { c with onTime := econOn onTicks }).offReadback lane high 3))

/-- R269, forerunner mode: the channel goes off for OFFP_W, at its own place in each OFFP_PERIOD; its readback before the pulse ends is judged then
(State.offPulseDue). -/
def execForerunnerOffPulse (lane : Fin 32) (high : Bool) (s : State) : Host.Outcome State Fault Refusal :=
  let per := s.pf 0x6000 16 12 * ticksPerMs
  if s.pf 0x6000 4 1 == 0 || s.lsw.chans[coilCh lane].st != .on || s.now % per != lane.val * (per / 32) then .next s
  else .next (s.setSaf lane fun l => { l with offPulse := some (s.now + ticksUs (s.pf 0x6000 5 10), high) })

/-! ## The safety core pair -/

/-- R254 to R258: a cycle start. completed: the pair had finished its writes for the cycle that ends; samples: the raw samples of the inputs since the
last cycle start, the newest at this tick; coilHigh: the coil outputs that read above the off threshold. -/
def execSafetyCoreCycle (completed : Bool) (samples : List (BitVec 72)) (coilHigh coreCrc : BitVec 32) (s : State) :
    Host.Outcome State Fault Refusal :=
  if s.now % 24576 != 0 || s.boot.phase != 7 || s.saf.dead || s.saf.lastCycle == some s.now then .next s
  else if !completed && s.saf.lastCycle.isSome then .next (State.finish s (s.coreDown 1))
  else .next (State.finish s (s.coreCycle samples coilHigh coreCrc))

/-- R255: the cores disagree; a fault under R40. -/
def execLockstepMismatch (s : State) : Host.Outcome State Fault Refusal :=
  if s.saf.dead || !s.saf.scRun then .next s else .next (State.finish s ((s.guaranteeLost 2).coreDown 0))

/-! ## Commands (Table 9-9) -/

/-- The lanes of a mask, ascending. -/
def maskLanes (m : BitVec 32) : List (Fin 32) := allLanes.filter fun n => m.getLsbD n.val

/-- Whether latch k's clearing condition holds on a lane (Table 9-2). -/
def State.mayClear (s : State) (n : Fin 32) (k : Nat) (coilHigh : BitVec 32) : Bool :=
  match k with
  | 0 => s.sinsGood n
  | 1 | 2 => s.resLow n
  | 3 => s.lanes[n].st != .energised
  | 5 => !s.coreCause n
  | 6 => s.fbOpen n
  | 7 => !s.coilOn n && !coilHigh.getLsbD n.val
  | _ => true

/-- Clear the latches named on the lanes named, those whose condition holds. -/
def State.clearLatches (s : State) (lanes : List (Fin 32)) (ks : List Nat) (coilHigh : BitVec 32) : State :=
  lanes.foldl (fun s n => ks.foldl (fun s k => if s.mayClear n k coilHigh then
    (let s := s.latchClear n k; if k == 0 then s.cancel .tAutorst n.val else s) else s) s) s

/-- Clear SIN and TPS faults (R259, R261, R262): a pulse fault after a full period without it, a DISC fault after both
inputs have read open together; a cleared supply drives again. -/
def State.clearFaults (s : State) : State :=
  let s := (List.finRange 72).foldl (fun s i =>
    let x := s.saf.sins[i]
    let y := { x with cross := x.cross && decide (s.now < x.crossAt + 491520), stuck := x.stuck && decide (s.now < x.stuckAt + 491520),
                      disc := x.disc && !x.bothOpen }
    if x.faulty && x != y then (s.setSin i fun _ => y).sinResult i else s) s
  let s := (List.finRange 4).foldl (fun s k =>
    if s.saf.tps[k].fault then (s.setTps k fun _ => { Tps.reset with on := s.pf 0x6000 k.val 1 == 1 }) else s) s
  s.autoRst

/-- The SIN and TPS faults that remain. -/
def State.faultsLeft (s : State) : Nat :=
  (s.saf.sins.toList.filter (·.faulty)).length + (s.saf.tps.toList.filter (·.fault)).length

/-- R273: opcode 0x60. coilHigh names the coil outputs that read above the off threshold, windows the newest residual samples of lanes at this stamp. -/
def execSafReset (d : Desc) (coilHigh : BitVec 32) (windows : List (Fin 32 × List Int)) (s : State) : Host.Outcome State Fault Refusal :=
  let kind := dbyte d 24
  .next (State.finish s (s.acceptSingle (.safReset d coilHigh windows) 0x60 d 0 (d.unit == 0 && decide (kind ≤ 2) && (kind != 2 || d.param0 == 0)) fun s =>
    let ls := maskLanes d.param0
    let ks := if kind == 0 then [0, 1, 2, 3, 5, 8] else [6, 7]
    let s := windows.foldl (fun s w => s.residual w.1 w.2) s
    let t := if kind == 2 then s.clearFaults else s.clearLatches ls ks coilHigh
    let left := if kind == 2 then 0 else (laneMask fun n => ls.contains n && ks.any fun k => t.latched n k).toNat
    let faults := if kind == 2 then t.faultsLeft else 0
    t.answer 0 0x60 d (if left == 0 && faults == 0 then stOk else 0x20) 0 (left + 2 ^ 32 * faults)))

/-- R264, R273: opcode 0x61. -/
def execSafResTest (d : Desc) (s : State) : Host.Outcome State Fault Refusal :=
  .next (State.finish s (s.acceptSingle (.safResTest d) 0x61 d 0 true fun s =>
    match unitLane d with
    | some n =>
      if !s.laneEn n || !s.met.lanes[n].run || s.isDc n || s.coilOn n then s.answer 0 0x61 d stBadUnit
      else if s.saf.lanes[n].testFrom.isSome then s.answer 0 0x61 d stBusy
      else (s.testStart n).launch 0 0x61 d false [n.val] []
    | none => s.answer 0 0x61 d stBadUnit))

/-- R265, R273: opcode 0x62; it settles with the cycle under way. -/
def execSafIsoMeasure (d : Desc) (s : State) : Host.Outcome State Fault Refusal :=
  .next (s.acceptSingle (.safIsoMeasure d) 0x62 d 0 true fun s =>
    match unitLane d with
    | some n =>
      if !s.isoOn n || s.lanes[n].st != .energised then s.answer 0 0x62 d stBadUnit
      else s.launch 0 0x62 d false [n.val] []
    | none => s.answer 0 0x62 d stBadUnit)

/-- R273: opcode 0x63. -/
def execSafTrip (d : Desc) (s : State) : Host.Outcome State Fault Refusal :=
  .next (State.finish s (s.acceptSingle (.safTrip d) 0x63 d 0 (d.unit == 0 && d.param0 != 0) fun s =>
    ((maskLanes d.param0).foldl (fun s n => s.latchSet n 8 0xFF) s).answer 0 0x63 d stOk))

end Sys2Proof.Machine
end

