-- ==== Sys2Proof/Machine/VehicleLink.lean ====
section
/-!
DEFINITION. The events and commands of the vehicle link (R156 to R189).
-/
namespace Sys2Proof.Machine

open Sys2Proof

/-! ## SLAC messages -/

/-- R163, R164: a request opens its run, or is heard by one more lane; a candidate answers CNF. At most 32 runs are open
(log 33). -/
def execCmSlacParmReq (lane : Fin 32) (runId : BitVec 64) (mac : BitVec 48) (rx : PlcRx) (s : State) : Host.Outcome State Fault Refusal :=
  .next (s.mmeIn lane rx fun t =>
    let cand := t.mayJoin lane
    let known := (t.runOf runId mac).isSome
    if !known && decide (t.link.runs.length ≥ 32) then t
    else
      let t := if known then t else { t with link := t.link.openRun runId mac t.now lane.val }
      if cand then
        let t := { t with link := { t.link with runs := t.link.runs.map (fun (r : Run) =>
          if r.runId == runId && r.mac == mac && !r.candidates.contains lane.val then { r with candidates := r.candidates ++ [lane.val] } else r) } }
        (t.mmeSend lane mParmCnf mac runId).assocTo lane .sounding
      else t)

/-- R185: the first CM_START_ATTEN_CHAR.IND of a run starts T_MNBC; one of no run is a class 11 violation. -/
def execCmStartAttenCharInd (lane : Fin 32) (runId : BitVec 64) (mac : BitVec 48) (rx : PlcRx) (s : State) : Host.Outcome State Fault Refusal :=
  .next (s.mmeIn lane rx fun t =>
    match t.runOf runId mac with
    | some r => if r.attenInd then t else (t.setRun r.seq fun r => { r with attenInd := true }).arm .tMnbc r.seq (t.vlkTimer 0 16)
    | none => t.violation lane 11 0 [])

/-- A sound of a run is recorded (R169, R170). The matcher takes no more sounds once the stamp of the completing event has passed. -/
def State.soundIn (s : State) (r : Run) (x : Sound) : State :=
  let late := match r.sealKey with | some k => decide (k.stamp < s.now) | none => false
  if late then s
  else
    let s := s.setRun r.seq fun r => { r with sounds := r.sounds ++ [x] }
    if (x.countdown == 0 && !x.groups.isEmpty) || r.sealKey.isSome then
      s.decideRun r.seq (if x.countdown == 0 && !x.groups.isEmpty then x.key else r.sealKey.getD x.key)
    else s

/-- R160, R169, R170: an M-SOUND reaches a lane: the frame, and the attenuation of each of the 58 groups in dB. A sound that an impulse falls on is
excluded on every lane; one whose frame is lost by it is not measured and not sent again (Table 6-1); countdown 0 completes the sounding. -/
def execCmMnbcSound (lane : Fin 32) (runId : BitVec 64) (mac : BitVec 48) (countdown : Nat) (rx : PlcRx) (groups : List Nat) (s : State) :
    Host.Outcome State Fault Refusal :=
  if !s.laneEn lane then .next s
  else
    let (e, runs, t) := s.frameIn lane rx
    let t := if e == .taken then t.note 11 lane.val countdown else t
    match t.runOf runId mac with
    | some r => .next (t.soundIn r ⟨s.now, lane.val, countdown, runs != 0, if e == .taken then groups else []⟩)
    | none => .next (if e == .taken then t.violation lane 11 0 [] else t)

/-- R170, R172: a decision that has been made returns. -/
def execMatchDecision (run : Nat) (s : State) : Host.Outcome State Fault Refusal :=
  match s.link.runs.find? (·.seq == run) with
  | some r =>
    match r.decision with
    | some (det, lane, own, second, counted, ms) => .next (s.returnRun r det lane own second counted ms)
    | none => .next s
  | none => .next s

/-- Table 6-3: the response of the run. -/
def execCmAttenCharRsp (lane : Fin 32) (runId : BitVec 64) (mac : BitVec 48) (rx : PlcRx) (s : State) : Host.Outcome State Fault Refusal :=
  let l := s.link.lanes[lane]
  .next (s.mmeIn lane rx fun t =>
    if l.assoc == .waitRsp && l.run == runId && l.evMac == mac then
      ((t.cancel .tMatchResp lane.val).assocTo lane .waitMatch).arm .tMatchSession lane.val (t.vlkTimer 1 16)
    else t.violation lane 11 0 [])

/-- Table 6-3: the AVLN is formed with a fresh NMK and its NID; a request that the generator refuses is a failed attempt
(R425). -/
def execCmSlacMatchReq (lane : Fin 32) (runId : BitVec 64) (mac : BitVec 48) (rx : PlcRx) (s : State) : Host.Outcome State Fault Refusal :=
  let l := s.link.lanes[lane]
  .next (State.finish s (s.mmeIn lane rx fun t =>
    if l.assoc == .waitMatch && l.run == runId && l.evMac == mac then
      if !s.keys.rngOk then t.failAttempt lane
      else
        let (nmk, t) := t.draw (2 ^ 128)
        let nid := Config.nidOf nmk % 2 ^ 54
        let t := (t.cancel .tMatchSession lane.val).setLink lane fun l => { l with nmk := nmk, nid := nid }
        let t := t.mmeSend lane mMatchCnf mac runId (leBytes 16 nmk ++ leBytes 7 nid)
        (t.assocTo lane .matched).arm .tSetup lane.val (t.vlkTimer 2 0)
    else t.violation lane 11 0 []))

/-- R168: the toggles counted from the stamp at which the vehicle's window began, against the number it states. -/
def execCmValidateReq (lane : Fin 32) (windowFrom stated : Nat) (rx : PlcRx) (s : State) : Host.Outcome State Fault Refusal :=
  let l := s.link.lanes[lane]
  let answer (t : State) (code : Nat) : State := t.mmeSend lane mValidateCnf l.evMac l.run [BitVec.ofNat 8 code]
  .next (State.finish s (s.mmeIn lane rx fun t =>
    if !(l.assoc == .waitMatch || l.assoc == .matched) then t.violation lane 11 0 []
    else if t.pf 0x3000 8 1 == 0 then answer t rNotRequired
    else if (l.toggles.filter fun x => decide (windowFrom ≤ x)).length == stated then answer t rSuccess
    else (answer t rFailure).failAttempt lane))

/-- Table 6-3: the AVLN is lost; before SessionSetupReq that is a failed attempt. -/
def execAvlnLost (lane : Fin 32) (s : State) : Host.Outcome State Fault Refusal :=
  let l := s.link.lanes[lane]
  if l.assoc != .matched then .next s
  else if l.setUp then .next (s.setLink lane fun l => { l with nmk := 0, nid := 0, tcp := false, tls := 0 })
  else .next (State.finish s (s.failAttempt lane))

/-! ## Connections -/

/-- R159: one TCP connection at a time. -/
def execTcpConnect (lane : Fin 32) (s : State) : Host.Outcome State Fault Refusal :=
  let l := s.link.lanes[lane]
  if l.assoc == .matched && s.vlcfg lane 0 1 == 1 && !l.tcp then .next (s.setLink lane fun l => { l with tcp := true }) else .next s

/-- Table 6-3: TCP closed by the vehicle; before SessionSetupReq that is a failed attempt. -/
def execTcpClosedByVehicle (lane : Fin 32) (s : State) : Host.Outcome State Fault Refusal :=
  let l := s.link.lanes[lane]
  if !l.tcp then .next s
  else
    let t := s.setLink lane LinkLane.closeTcp
    .next (if l.assoc == .matched && !l.setUp then State.finish s (t.failAttempt lane) else t)

/-- The trust store that a handshake takes: one loaded at a stamp applies to those that begin after it (R183). -/
def Link.trustAt (k : Link) (began : Nat) : List (Nat × Bytes) := if k.trustFrom < began then k.trust else k.trustBefore

/-- The certificates of a role. -/
def trustRole (es : List (Nat × Bytes)) (role : Nat) : List Bytes := (es.filter (·.1 == role)).map (·.2)

/-- Whether a suite of Table 6-8 is offered with a group: 0 and 1 are the two of TLS 1.2 with secp256r1, 2 and 3 those of TLS 1.3 with secp521r1 or
x448; the SECC key and chain it needs are there (Table 15-2). -/
def State.suiteOk (s : State) (suite : Fin 4) (group : Fin 3) (es : List (Nat × Bytes)) : Bool :=
  if suite.val < 2 then s.pf 0x3000 3 1 == 1 && group == 0 && (s.keyVal 0x10).isSome && !(trustRole es 3).isEmpty
  else s.pf 0x3000 4 1 == 1 && (suite == 2 || s.pf 0x3000 9 1 == 1) && (if group == 1 then (s.keyVal 0x11).isSome else group == 2 && (s.keyVal 0x12).isSome) &&
    !(trustRole es 4).isEmpty

/-- R183: a handshake; ok tells whether its exchange succeeded, client the vehicle's chain where it was asked for one (mutual authentication, under
TLS 1.3), engineErr an error of the engine. A failure is a violation of class 9. -/
def execTlsHandshake (lane : Fin 32) (suite : Fin 4) (group : Fin 3) (began : Nat) (client : Option Bytes) (engineErr ok : Bool) (s : State) :
    Host.Outcome State Fault Refusal :=
  let l := s.link.lanes[lane]
  if !s.linked lane || l.tls != 0 then .next s
  else
    let es := s.link.trustAt began
    let known := match client with | some c => Config.chainVerify (trustRole es 1) c | none => true
    let s1 := if engineErr then s.setErr .vlk 3 else s
    if s.suiteOk suite group es && known && ok && !engineErr then
      .next ((s1.setLink lane fun l => { l with tls := if suite.val < 2 then 1 else 2, mutualAuth := client.isSome && decide (2 ≤ suite.val) }).linkResult lane)
    else
      let t := (s1.violation lane 9 0 []).setLink lane fun l => { l.closeTcp with tlsFailed := true }
      .next (State.finish s (if l.tlsFailed then t.linkStop lane 2 else t))

/-- R177: SDP answers TLS when it is offered, and no TLS when TLS is not required. -/
def execSdpRequest (lane : Fin 32) (security : BitVec 8) (s : State) : Host.Outcome State Fault Refusal :=
  let l := s.link.lanes[lane]
  let tls := s.pf 0x3000 3 1 == 1 || s.pf 0x3000 4 1 == 1
  if l.assoc != .matched || s.vlcfg lane 0 1 == 0 then .next s
  else if (security == 0x00 && tls) || (security == 0x10 && s.pf 0x3000 5 1 == 0) then
    let t := (s.note 11 lane.val kSdp).say lane kSdp rOk
    .next (if l.phase == 0 then t.phaseTo lane 1 else t)
  else .next (s.note 11 lane.val kSdp)

/-! ## Dialogue (R178 to R181) -/

/-- Whether a protocol qualifies on a lane: 1 DIN SPEC 70121, unencrypted, 2 ISO 15118-2 over TLS 1.2, 3 ISO 15118-20 over TLS 1.3, the last two also
without TLS where it is not required (R178, Tables 6-6 and 6-13). -/
def State.protoOk (s : State) (n : Fin 32) (p : Nat) : Bool :=
  let tls := s.link.lanes[n].tls
  match p with
  | 1 => s.pf 0x3000 0 1 == 1 && s.isDc n && tls == 0
  | 2 => s.pf 0x3000 1 1 == 1 && (tls == 1 || (tls == 0 && s.pf 0x3000 5 1 == 0))
  | 3 => s.pf 0x3000 2 1 == 1 && (tls == 2 || (tls == 0 && s.pf 0x3000 5 1 == 0))
  | _ => false

/-- The entry of highest vehicle priority, 1 being the highest (log 34). -/
def State.chooseProto (s : State) (n : Fin 32) (es : List (Fin 4 × Nat)) : Option Nat :=
  (es.foldl (fun (best : Option (Nat × Nat)) e =>
    if !s.protoOk n e.1.val then best
    else match best with
      | some (_, pr) => if e.2 < pr then some (e.1.val, e.2) else best
      | none => some (e.1.val, e.2)) none).map (·.1)

/-- R178. -/
def execSupportedAppProtocolReq (lane : Fin 32) (m : V2g) (entries : List (Fin 4 × Nat)) (s : State) : Host.Outcome State Fault Refusal :=
  .next (State.finish s (s.receive lane m kSap (s.link.lanes[lane].phase ≤ 2) false fun s =>
    match s.chooseProto lane entries with
    | some p => (((s.setLink lane fun l => { l with proto := p }).linkResult lane).phaseTo lane 2).reply lane kSap rOk m.raw
    | none => (s.reply lane kSap rNoNegotiation m.raw).linkStop lane 0))

/-- R181: a session with a fresh SessionID; one asked for with the old SessionID is answered as established anew. -/
def execSessionSetupReq (lane : Fin 32) (m : V2g) (s : State) : Host.Outcome State Fault Refusal :=
  let l := s.link.lanes[lane]
  .next (State.finish s (s.receive lane m kSetup ((l.phase == 2 || l.phase == 12) && l.proto != 0) false fun s =>
    let (id, s) := s.draw (2 ^ 64 - 1)
    let s := (s.cancel .tSetup lane.val).setLink lane fun l => { l with session := id + 1, setUp := true }
    (s.phaseTo lane 2).reply lane kSetup rNewSession m.raw))

/-- The current of R132 as the maximum of an AC offer (R179, R153). -/
def State.offerAc (s : State) (n : Fin 32) : State := if s.isDc n then s else s.setLink n fun l => { l with maxCur := s.offer n }

/-- What an AC offer carries. -/
def State.offerBody (s : State) (n : Fin 32) : Bytes := if s.isDc n then [] else leBytes 2 (s.offer n)

/-- R178, R179: BPT is offered only under ISO 15118-20 with BPT_EN; the dynamic control mode belongs to that standard (Table 6-6). AC offers carry
the current of R132. -/
def execServiceDiscoveryReq (lane : Fin 32) (m : V2g) (bpt dynamic : Bool) (s : State) : Host.Outcome State Fault Refusal :=
  let l := s.link.lanes[lane]
  .next (State.finish s (s.receive lane m kService (l.setUp && (l.phase == 2 || l.phase == 3)) true fun s =>
    let s := (s.offerAc lane).setLink lane fun l =>
      { l with bpt := bpt && l.proto == 3 && s.vlcfg lane 1 1 == 1, dynamic := dynamic && l.proto == 3 }
    (s.phaseTo lane 3).reply lane kService rOk m.raw (s.offerBody lane)))

/-- Whether Plug & Charge, or EIM, is offered on a lane. -/
def State.pncOk (s : State) (n : Fin 32) : Bool := s.pf 0x3000 6 1 == 1 && s.vlcfg n 2 2 ≥ 1 && s.link.lanes[n].proto ≥ 2
def State.eimOk (s : State) (n : Fin 32) : Bool := s.pf 0x3000 7 1 == 1 && s.vlcfg n 2 2 != 1

/-- The identity of a contract (R215): its EMAID without "-" and in upper case. -/
def emaidForm (e : Bytes) : Bytes :=
  (e.filter (· != 0x2D)).map fun b => if 0x61 ≤ b.toNat && b.toNat ≤ 0x7A then b - 0x20 else b

/-- The check of a contract (R180, R183): its chain against the roots of the trust store, under ISO 15118-20 only after mutual authentication, then
the signature over the canonical fragment; the code of class 8 where it fails. -/
def State.contractFault (s : State) (n : Fin 32) (m : V2g) (chain sig : Bytes) : Option Nat :=
  let l := s.link.lanes[n]
  if !Config.chainVerify (trustRole s.link.trust 1 ++ trustRole s.link.trust 2) chain || (l.proto == 3 && l.tls != 0 && !l.mutualAuth) then some rCertChain
  else if !Config.leafVerify chain (Config.exiFragment l.proto m.raw) sig then some rSignature
  else none

/-- R180: the first request of the phase chooses the method; a verified contract submits its EMAID. Until the decision
the answer is Ongoing; after a grant it is Finished. A method that is not offered is out of sequence (log 32). -/
def execAuthorizationReq (lane : Fin 32) (m : V2g) (pnc : Bool) (emaid chain sig : List (BitVec 8)) (s : State) :
    Host.Outcome State Fault Refusal :=
  let l := s.link.lanes[lane]
  .next (State.finish s (s.receive lane m kAuth (l.phase == 3 || l.phase == 4) true fun s =>
    let s := s.phaseTo lane 4
    if l.authDone then s.reply lane kAuth rOk m.raw
    else if l.auth != 0 then s.reply lane kAuth rOngoing m.raw
    else if pnc && s.pncOk lane then
      match s.contractFault lane m chain sig with
      | some code =>
        let s := (s.violation lane 8 m.msg.toNat m.raw).reply lane kAuth code m.raw
        if s.eimOk lane then s else s.linkStop lane 2
      | none =>
        let s := (s.setLink lane fun l => { l with auth := 2, contract := chain, identity := (emaidForm emaid).take 64, identPending := true }).linkResult lane
        let s := s.emit (laneRing lane) 0x13 lane.val 2 ((emaidForm emaid).take 64).length ((emaidForm emaid).take 64)
        (s.arm .tAuth lane.val (s.vlkTimer 3 0)).reply lane kAuth rOngoing m.raw
    else if !pnc && s.eimOk lane then
      ((s.setLink lane fun l => { l with auth := 1 }).linkResult lane).reply lane kAuth rOngoing m.raw
    else s.refuseMsg lane m 4 kAuth rSequence))

/-- The schedule tuples of an answer under ISO 15118-2: one to three (Table 6-6); their number is left open (log 99). -/
def State.offerTuples (s : State) (n : Fin 32) : State :=
  if s.link.lanes[n].proto != 2 then s
  else
    let (k, s) := s.draw 3
    s.setLink n fun l => { l with tuples := k + 1 }

/-- R179: the limits of the lane bind whatever the vehicle states; inRange tells whether its parameters are in range. -/
def execChargeParameterReq (lane : Fin 32) (m : V2g) (inRange : Bool) (vMax iMax iRev : Nat) (s : State) : Host.Outcome State Fault Refusal :=
  let l := s.link.lanes[lane]
  .next (State.finish s (s.receive lane m kParam ((l.phase == 4 && l.authDone) || l.phase == 5) true fun s =>
    let (on, s) := s.clampOnce lane m kParam inRange
    if !on then s
    else
      let vCap := s.lanePf lane 0x10 8 12 * 10
      let iCap := s.lanePf lane 0x10 20 12 * 10
      let s := if s.isDc lane then s.setLane lane fun k => { k with dc := { k.dc with want :=
          { k.dc.want with vTgt := min vMax vCap, iLim := min iMax iCap, iRev := if s.link.lanes[lane].bpt then min iRev iCap else 0 } } } else s
      let s := (s.offerAc lane).offerTuples lane
      (s.phaseTo lane 5).reply lane kParam rOk m.raw (s.offerBody lane ++ [BitVec.ofNat 8 s.link.lanes[lane].tuples])))

/-- The setpoint asked for on a lane. -/
def State.wantSet (s : State) (n : Fin 32) (f : Setpoint → Setpoint) : State :=
  s.setLane n fun k => { k with dc := { k.dc with want := f k.dc.want } }

/-- R179, R265: CableCheck, entered with the lane ENERGISED; the result is that of the first insulation cycle begun at or
after ISOLATION_TEST was commanded. -/
def execCableCheckReq (lane : Fin 32) (m : V2g) (s : State) : Host.Outcome State Fault Refusal :=
  let l := s.link.lanes[lane]
  .next (State.finish s (s.receive lane m kCable (s.isDc lane && (l.phase == 5 || l.phase == 6)) true fun s =>
    if l.phase == 5 then
      if s.lanes[lane].st != .energised then s.reply lane kCable rOngoing m.raw
      else
        let s := (s.wantSet lane fun w => { w with mode := 4 }).setLink lane fun l => { l with cable := some s.now, cableClass := 0 }
        ((s.phaseTo lane 6).arm .tCable lane.val (s.vlkTimer 4 16)).reply lane kCable rOngoing m.raw
    else match l.cableClass with
      | 0 => s.reply lane kCable rOngoing m.raw
      | 1 => s.reply lane kCable rOk m.raw
      | 2 => s.reply lane kCable rWarning m.raw
      | _ => (s.reply lane kCable rFailed m.raw).linkStop lane 0))

/-- R179: PreCharge, after a cable check that passed or warned. -/
def execPrechargeReq (lane : Fin 32) (m : V2g) (vTgt iLim : Nat) (s : State) : Host.Outcome State Fault Refusal :=
  let l := s.link.lanes[lane]
  .next (State.finish s (s.receive lane m kPre (s.isDc lane && ((l.phase == 6 && (l.cableClass == 1 || l.cableClass == 2)) || l.phase == 7)) true fun s =>
    let s := s.wantSet lane fun w => { w with mode := 2, vTgt := vTgt, iLim := iLim }
    (s.phaseTo lane 7).reply lane kPre rOk m.raw))

/-- R179: PowerDelivery start (0) awaits the pilot on an AC lane and commands ON on a DC lane; stop (1) is a vehicle-link stop; renegotiate (2), under
ISO 15118-2, goes back to the parameters, from which the next start resumes the transfer (Table 6-6). A schedule tuple that was not offered is a
parameter out of range. -/
def execPowerDeliveryReq (lane : Fin 32) (m : V2g) (progress : Fin 3) (tuple : Nat) (s : State) : Host.Outcome State Fault Refusal :=
  let l := s.link.lanes[lane]
  let from_ := if s.isDc lane && !l.reneg then l.phase == 7 else l.phase == 5
  let allowed : Bool := match progress.val with
    | 0 => from_ || l.phase == 8
    | 1 => decide (5 ≤ l.phase ∧ l.phase ≤ 9)
    | _ => l.proto == 2 && (l.phase == 8 || l.phase == 9)
  .next (State.finish s (s.receive lane m kPower allowed true fun s =>
    match progress.val with
    | 0 =>
      let (on, s) := s.clampOnce lane m kPower (l.proto != 2 || decide (1 ≤ tuple ∧ tuple ≤ l.tuples))
      if !on then s
      else
        let s := ((s.setLink lane fun l => { l with reneg := false }).phaseTo lane 8).reply lane kPower rOk m.raw
        if s.isDc lane then s.wantSet lane fun w => { w with mode := 3 }
        else if s.pilotValid lane then s
        else s.arm .tCpstate lane.val (s.vlkTimer 4 0)
    | 1 => ((s.phaseTo lane 10).reply lane kPower rOk m.raw).linkStop lane 0
    | _ => ((s.setLink lane fun l => { l with reneg := true }).phaseTo lane 5).reply lane kPower rOk m.raw))

/-- R179: a request of the transfer phase; the reverse limit counts only with a BPT service. A metering receipt (Table 6-6) carries a signature under
the contract's key and is answered alone; a signature that fails is a violation of class 8. -/
def execCurrentDemandReq (lane : Fin 32) (m : V2g) (inRange : Bool) (vTgt iLim iRev pLim : Nat) (receipt : Option Bytes) (s : State) :
    Host.Outcome State Fault Refusal :=
  let l := s.link.lanes[lane]
  .next (State.finish s (s.receive lane m kDemand (l.phase == 8 || l.phase == 9) true fun s =>
    match receipt with
    | some sig =>
      if l.proto == 2 && Config.leafVerify l.contract (Config.exiFragment l.proto m.raw) sig then s.reply lane kReceipt rOk m.raw
      else ((s.violation lane 8 m.msg.toNat m.raw).reply lane kReceipt rSignature m.raw).linkStop lane 2
    | none =>
    let (on, s) := s.clampOnce lane m kDemand inRange
    if !on then s
    else
      let s := if s.isDc lane then s.wantSet lane fun w =>
          { w with vTgt := vTgt, iLim := iLim, iRev := if l.bpt then iRev else 0, pLim := pLim } else s
      (s.phaseTo lane 9).reply lane kDemand rOk m.raw))

/-- R181: Pause is treated as Terminate. -/
def execSessionStopReq (lane : Fin 32) (m : V2g) (pause : Bool) (s : State) : Host.Outcome State Fault Refusal :=
  let l := s.link.lanes[lane]
  .next (State.finish s (s.receive lane m kStop (l.setUp && l.phase != 12) true fun s =>
    let s := (s.setLink lane fun l => { l with oldSession := if pause then l.session else 0 }).phaseTo lane 12
    let s := s.reply lane kStop rOk m.raw
    if s.lanes[lane].st == .ended then s else s.linkStop lane 0))

/-- R184: a certificate request is relayed to the host. -/
def execCertificateReq (lane : Fin 32) (m : V2g) (update : Bool) (body : List (BitVec 8)) (s : State) : Host.Outcome State Fault Refusal :=
  let l := s.link.lanes[lane]
  .next (State.finish s (s.receive lane m kCert (l.proto ≥ 2 && (l.phase == 3 || l.phase == 4) && l.relay.isNone) true fun s =>
    let id := (s.link.relaySeq + 1) % 2 ^ 32
    let kind := if update then 2 else 1
    let s := ({ s with link := { s.link with relaySeq := id } } : State).setLink lane fun l => { l with relay := some (id, kind), lastReq := m.raw }
    (s.emit (laneRing lane) 0x15 lane.val kind id body).arm .tHost lane.val (s.vlkTimer 3 16)))

/-- Class 12 of R186: every cycle for 5,000 ms drew more than the offer allows. -/
def execAcOverdrawViolation (lane : Fin 32) (s : State) : Host.Outcome State Fault Refusal :=
  match s.link.lanes[lane].overFrom with
  | some t =>
    if s.isDc lane || decide (s.now < t + 5000 * ticksPerMs) then .next s
    else .next (State.finish s (((s.setLink lane fun l => { l with overFrom := none }).violation lane 12 0 []).linkStop lane 2))
  | none => .next s

/-! ## Timers (Table 6-9) -/

/-- A lane timer whose expiry is a failed attempt. -/
def State.attemptTimer (s : State) (k : TimerKind) (n : Fin 32) : State :=
  if !s.expired k n.val then s else State.finish s ((s.expire k n.val).failAttempt n)

def execTSlacInitExpiry (lane : Fin 32) (s : State) : Host.Outcome State Fault Refusal := .next (s.attemptTimer .tSlacInit lane)

/-- R170. -/
def execTMnbcExpiry (run : Nat) (s : State) : Host.Outcome State Fault Refusal :=
  match s.timers.find? fun t => t.isOne .tMnbc run 0 && decide (t.expiry ≤ s.now) with
  | some t => .next ((s.expire .tMnbc run).decideRun run t.key)
  | none => .next s

/-- R166: two resends, then a failed attempt. -/
def execTMatchRespExpiry (lane : Fin 32) (s : State) : Host.Outcome State Fault Refusal :=
  if !s.expired .tMatchResp lane.val then .next s
  else if s.link.lanes[lane].resends < 2 then
    .next (((s.setLink lane fun l => { l with resends := l.resends + 1 }).attenSend lane).arm .tMatchResp lane.val (s.vlkTimer 1 0))
  else .next (s.attemptTimer .tMatchResp lane)

def execTMatchSessionExpiry (lane : Fin 32) (s : State) : Host.Outcome State Fault Refusal := .next (s.attemptTimer .tMatchSession lane)
def execTSetupExpiry (lane : Fin 32) (s : State) : Host.Outcome State Fault Refusal := .next (s.attemptTimer .tSetup lane)

/-- A lane timer whose expiry answers the vehicle and stops the lane; code is its place in Table 6-9. -/
def State.stopTimer (s : State) (k : TimerKind) (n : Fin 32) (code : Nat) (answer : Option (Nat × Nat)) : State :=
  if !s.expired k n.val then s
  else
    let t := s.expire k n.val
    let t := match answer with | some (a, c) => t.say n a c | none => t
    State.finish s (t.linkStop n 3 code)

def execTSeqExpiry (lane : Fin 32) (s : State) : Host.Outcome State Fault Refusal := .next (s.stopTimer .tSeq lane 6 none)

def execTAuthExpiry (lane : Fin 32) (s : State) : Host.Outcome State Fault Refusal := .next (s.stopTimer .tAuth lane 7 (some (kAuth, rFailed)))

/-- R184: the vehicle receives FAILED; a later answer finds the relay stale. -/
def execTHostExpiry (lane : Fin 32) (s : State) : Host.Outcome State Fault Refusal :=
  if !s.expired .tHost lane.val then .next s
  else
    let t := ((s.expire .tHost lane.val).say lane kCert rFailed).setLink lane fun l =>
      { l with relay := none, expiredRelays := match l.relay with | some (id, _) => l.expiredRelays ++ [id] | none => l.expiredRelays }
    .next (t.arm .tSeq lane.val (t.vlkTimer 2 16))

def execTCpstateExpiry (lane : Fin 32) (s : State) : Host.Outcome State Fault Refusal := .next (s.stopTimer .tCpstate lane 9 none)

def execTCableExpiry (lane : Fin 32) (s : State) : Host.Outcome State Fault Refusal := .next (s.stopTimer .tCable lane 10 (some (kCable, rFailed)))

/-! ## Commands (Table 6-12) -/

/-- R175: opcode 0x30. -/
def execVlkXtalkSurvey (d : Desc) (s : State) : Host.Outcome State Fault Refusal :=
  .next (s.acceptSingle (.vlkXtalkSurvey d) 0x30 d 0 (d.unit == 0) fun s =>
    if s.link.survey.isSome || s.surveyDisturbed then s.answer 0 0x30 d stBusy
    else ({ s with link := { s.link with survey := some ⟨s.now⟩ } } : State).launch 0 0x30 d false [] [])

/-- The enabled lanes. -/
def State.enabledLanes (s : State) : List (Fin 32) := allLanes.filter s.laneEn

/-- R175: after 40 ms for each enabled lane, the survey's table replaces the one in MRAM; entries between lanes that are not
both enabled read 255, and those on the diagonal 0. -/
def execXtalkSurveyComplete (table : List Nat) (s : State) : Host.Outcome State Fault Refusal :=
  match s.link.survey with
  | some v =>
    let k := s.enabledLanes.length
    if v.started + k * 983040 ≤ s.now then
      let c := (List.finRange 32).flatMap fun i => (List.finRange 32).map fun j =>
        if i == j then 0 else if s.laneEn i && s.laneEn j then min (table.getD (32 * i.val + j.val) 255) 255 else 255
      let t := { s with link := { s.link with survey := none }, nv := { s.nv with links := { s.nv.links with xt := some c } } }
      .next (match t.flights.find? (·.opcode == 0x30) with
        | some f => t.settleFlight f stOk 0 (k * (k - 1))
        | none => t)
    else .next s
  | none => .next s

/-- Whether VLK_EIM_ID may act on a lane (Table 6-12). -/
def State.eimReady (s : State) (n : Fin 32) : Bool :=
  let l := s.link.lanes[n]
  ((l.phase == 4 && l.auth == 1) || (s.lanes[n].st == .connected && (s.vlcfg n 0 1 == 0 || !s.digital n))) &&
    !s.heldNow n && !s.lanes[n].grant && !s.identWaits n

/-- R188: opcode 0x31; it is done when LEDGER_AUTHORISE takes the submission. -/
def execVlkEimId (d : Desc) (s : State) : Host.Outcome State Fault Refusal :=
  .next (s.accept (.vlkEimId d) 0 0x31 d (d.scope == 0) (decide (1 ≤ d.len.toNat ∧ d.len.toNat ≤ 64)) true fun s =>
    match unitLane d with
    | some n =>
      if s.eimReady n then
        let s := s.setLink n fun l => { l with identPending := true, identity := d.payload.take 64 }
        let s := s.emit (laneRing n) 0x13 n.val 1 (d.payload.take 64).length (d.payload.take 64)
        s.launch 0 0x31 d false [n.val] []
      else s.answer 0 0x31 d stBadUnit
    | none => s.answer 0 0x31 d stBadUnit)

/-- Certificates of a trust store: a length of 4 bytes, a role of 1 byte (1 … 4), the DER bytes. -/
def trustEntries : Nat → Bytes → Option (List (Nat × Bytes))
  | 0, bs => if bs.isEmpty then some [] else none
  | fuel + 1, bs =>
    if bs.isEmpty then some []
    else
      let len := field bs 0 4
      let role := field bs 4 1
      if bs.length < 5 + len || role < 1 || role > 4 then none
      else (trustEntries fuel (bs.drop (5 + len))).map ((role, (bs.drop 5).take len) :: ·)

/-- R183: opcode 0x32; a payload that holds no such sequence is BAD_LEN (log 35). -/
def execVlkTrustLoad (d : Desc) (s : State) : Host.Outcome State Fault Refusal :=
  .next (s.accept (.vlkTrustLoad d) 0 0x32 d (d.scope == 0) true (d.unit == 0) fun s =>
    match trustEntries (d.payload.length + 1) d.payload with
    | some es => ({ s with link := { s.link with trust := es, trustBefore := s.link.trust, trustFrom := s.now } } : State).answer 0 0x32 d stOk
    | none => s.answer 0 0x32 d stBadLen)

/-- R184: opcode 0x33. An answer after T_HOST sets RELAY_LOST. -/
def execVlkRelayAnswer (d : Desc) (s : State) : Host.Outcome State Fault Refusal :=
  let id := dparam d 24 4
  .next (s.accept (.vlkRelayAnswer d) 0 0x33 d (d.scope == 0) true true fun s =>
    match unitLane d with
    | some n =>
      let l := s.link.lanes[n]
      if (match l.relay with | some (r, _) => r == id | none => false) then
        let s := ((s.cancel .tHost n.val).say n kCert rOk d.payload).setLink n fun l => { l with relay := none }
        (s.arm .tSeq n.val (s.vlkTimer 2 16)).answer 0 0x33 d stOk
      else
        let s := if l.expiredRelays.contains id then s.setErr .vlk 4 else s
        s.answer 0 0x33 d 0x21
    | none => s.answer 0 0x33 d stBadUnit)

end Sys2Proof.Machine
end

