-- ==== Sys2Proof/Machine/Dispatch.lean ====
section
/-!
DEFINITION. One arm per command: each calls the meaning of its row.
-/
namespace Sys2Proof.Machine

open Sys2Proof

/-- The effect of a command on everything but the queue. -/
def exec (i : Instr) (s : State) : Host.Outcome State Fault Refusal :=
  match i with
  | .eventRelease tick => Sys2Proof.Machine.execEventRelease tick s
  | .registerWrite off be val crosses => Sys2Proof.Machine.execRegisterWrite off be val crosses s
  | .latchedPairRead off be crosses => Sys2Proof.Machine.execLatchedPairRead off be crosses s
  | .vlkLviolRead lane be crosses => Sys2Proof.Machine.execVlkLviolRead lane be crosses s
  | .powerOn => Sys2Proof.Machine.execPowerOn s
  | .railPowerGood rail => Sys2Proof.Machine.execRailPowerGood rail s
  | .railStartTimeout rail => Sys2Proof.Machine.execRailStartTimeout rail s
  | .railRetryWaitEnd => Sys2Proof.Machine.execRailRetryWaitEnd s
  | .vsysBelowMin => Sys2Proof.Machine.execVsysBelowMin s
  | .strapSample prof pairPri trstHigh => Sys2Proof.Machine.execStrapSample prof pairPri trstHigh s
  | .bootSelfTestDone failCode modems => Sys2Proof.Machine.execBootSelfTestDone failCode modems s
  | .legalPathRestored => Sys2Proof.Machine.execLegalPathRestored s
  | .startupProfileLoad => Sys2Proof.Machine.execStartupProfileLoad s
  | .endpointReady width speed => Sys2Proof.Machine.execEndpointReady width speed s
  | .dramReady trained => Sys2Proof.Machine.execDramReady trained s
  | .idealDiodeChange feed vinMv vsysMv => Sys2Proof.Machine.execIdealDiodeChange feed vinMv vsysMv s
  | .feedPresenceChange feed vinMv => Sys2Proof.Machine.execFeedPresenceChange feed vinMv s
  | .vbatLowChange vbatMv => Sys2Proof.Machine.execVbatLowChange vbatMv s
  | .batteryIslandSwitchover vddIo33Mv => Sys2Proof.Machine.execBatteryIslandSwitchover vddIo33Mv s
  | .holdupDetect vsysMv heldUs => Sys2Proof.Machine.execHoldupDetect vsysMv heldUs s
  | .commitBodyWritten => Sys2Proof.Machine.execCommitBodyWritten s
  | .commitTrailerWritten => Sys2Proof.Machine.execCommitTrailerWritten s
  | .checkpointStart => Sys2Proof.Machine.execCheckpointStart s
  | .holdupRecover vsysMv heldMs => Sys2Proof.Machine.execHoldupRecover vsysMv heldMs s
  | .ckRefLoss => Sys2Proof.Machine.execCkRefLoss s
  | .ckMetLoss => Sys2Proof.Machine.execCkMetLoss s
  | .ckRfidLoss => Sys2Proof.Machine.execCkRfidLoss s
  | .ckRfidReturn => Sys2Proof.Machine.execCkRfidReturn s
  | .ckRtcLoss => Sys2Proof.Machine.execCkRtcLoss s
  | .pllLockLoss pll => Sys2Proof.Machine.execPllLockLoss pll s
  | .pcieRefclkLoss => Sys2Proof.Machine.execPcieRefclkLoss s
  | .rstNAssert lowUs => Sys2Proof.Machine.execRstNAssert lowUs s
  | .pciePerst => Sys2Proof.Machine.execPciePerst s
  | .pcieEndpointStateChange bme d3 msixEn funcMask => Sys2Proof.Machine.execPcieEndpointStateChange bme d3 msixEn funcMask s
  | .chipResetRequest val => Sys2Proof.Machine.execChipResetRequest val s
  | .blockResetRequest val => Sys2Proof.Machine.execBlockResetRequest val s
  | .profileRequest index => Sys2Proof.Machine.execProfileRequest index s
  | .profileCancel => Sys2Proof.Machine.execProfileCancel s
  | .profileSwitch cut => Sys2Proof.Machine.execProfileSwitch cut s
  | .ringEnable ring => Sys2Proof.Machine.execRingEnable ring s
  | .ringDisable ring => Sys2Proof.Machine.execRingDisable ring s
  | .hifCtlRun run => Sys2Proof.Machine.execHifCtlRun run s
  | .ringDoorbell ring index => Sys2Proof.Machine.execRingDoorbell ring index s
  | .commandNop d => Sys2Proof.Machine.execCommandNop d s
  | .undefinedOpcode ring d => Sys2Proof.Machine.execUndefinedOpcode ring d s
  | .chainErr ring d rest => Sys2Proof.Machine.execChainErr ring d rest s
  | .ringFetchError ring code => Sys2Proof.Machine.execRingFetchError ring code s
  | .spillDrain ring => Sys2Proof.Machine.execSpillDrain ring s
  | .vectorModerationTimeout vec => Sys2Proof.Machine.execVectorModerationTimeout vec s
  | .commandTimeLimitExpiry opcode unit => Sys2Proof.Machine.execCommandTimeLimitExpiry opcode unit s
  | .queueWordWrite queue word endMark => Sys2Proof.Machine.execQueueWordWrite queue word endMark s
  | .queueWordRead queue => Sys2Proof.Machine.execQueueWordRead queue s
  | .queueDropRemainder queue => Sys2Proof.Machine.execQueueDropRemainder queue s
  | .pwmPeriodStart sense loads => Sys2Proof.Machine.execPwmPeriodStart sense loads s
  | .pilotStateChange lane cps => Sys2Proof.Machine.execPilotStateChange lane cps s
  | .proximityRatingChange lane ohms => Sys2Proof.Machine.execProximityRatingChange lane ohms s
  | .contactorFeedbackChange lane mirror high => Sys2Proof.Machine.execContactorFeedbackChange lane mirror high s
  | .tCloseExpiry lane => Sys2Proof.Machine.execTCloseExpiry lane s
  | .tFbExpiry lane => Sys2Proof.Machine.execTFbExpiry lane s
  | .tStopExpiry lane => Sys2Proof.Machine.execTStopExpiry lane s
  | .tFaultHoldExpiry lane => Sys2Proof.Machine.execTFaultHoldExpiry lane s
  | .tModExpiry lane => Sys2Proof.Machine.execTModExpiry lane s
  | .setpointSend lane txErrors => Sys2Proof.Machine.execSetpointSend lane txErrors s
  | .pmcanStatusFrame ctl modAddr bytes rxErrors => Sys2Proof.Machine.execPmcanStatusFrame ctl modAddr bytes rxErrors s
  | .pmcanBusOff ctl txErrors => Sys2Proof.Machine.execPmcanBusOff ctl txErrors s
  | .laneAdmit d => Sys2Proof.Machine.execLaneAdmit d s
  | .laneLimit d => Sys2Proof.Machine.execLaneLimit d s
  | .laneStop d => Sys2Proof.Machine.execLaneStop d s
  | .laneService d => Sys2Proof.Machine.execLaneService d s
  | .laneClear d => Sys2Proof.Machine.execLaneClear d s
  | .cmSlacParmReq lane runId mac rx => Sys2Proof.Machine.execCmSlacParmReq lane runId mac rx s
  | .cmStartAttenCharInd lane runId mac rx => Sys2Proof.Machine.execCmStartAttenCharInd lane runId mac rx s
  | .cmMnbcSound lane runId mac countdown rx groups => Sys2Proof.Machine.execCmMnbcSound lane runId mac countdown rx groups s
  | .matchDecision run => Sys2Proof.Machine.execMatchDecision run s
  | .cmAttenCharRsp lane runId mac rx => Sys2Proof.Machine.execCmAttenCharRsp lane runId mac rx s
  | .cmSlacMatchReq lane runId mac rx => Sys2Proof.Machine.execCmSlacMatchReq lane runId mac rx s
  | .cmValidateReq lane windowFrom stated rx => Sys2Proof.Machine.execCmValidateReq lane windowFrom stated rx s
  | .avlnLost lane => Sys2Proof.Machine.execAvlnLost lane s
  | .tcpConnect lane => Sys2Proof.Machine.execTcpConnect lane s
  | .tcpClosedByVehicle lane => Sys2Proof.Machine.execTcpClosedByVehicle lane s
  | .tlsHandshake lane suite group began client engineErr ok => Sys2Proof.Machine.execTlsHandshake lane suite group began client engineErr ok s
  | .sdpRequest lane security => Sys2Proof.Machine.execSdpRequest lane security s
  | .supportedAppProtocolReq lane m entries => Sys2Proof.Machine.execSupportedAppProtocolReq lane m entries s
  | .sessionSetupReq lane m => Sys2Proof.Machine.execSessionSetupReq lane m s
  | .serviceDiscoveryReq lane m bpt dynamic => Sys2Proof.Machine.execServiceDiscoveryReq lane m bpt dynamic s
  | .authorizationReq lane m pnc emaid chain sig => Sys2Proof.Machine.execAuthorizationReq lane m pnc emaid chain sig s
  | .chargeParameterReq lane m inRange vMax iMax iRev => Sys2Proof.Machine.execChargeParameterReq lane m inRange vMax iMax iRev s
  | .cableCheckReq lane m => Sys2Proof.Machine.execCableCheckReq lane m s
  | .prechargeReq lane m vTgt iLim => Sys2Proof.Machine.execPrechargeReq lane m vTgt iLim s
  | .powerDeliveryReq lane m progress tuple => Sys2Proof.Machine.execPowerDeliveryReq lane m progress tuple s
  | .currentDemandReq lane m inRange vTgt iLim iRev pLim receipt => Sys2Proof.Machine.execCurrentDemandReq lane m inRange vTgt iLim iRev pLim receipt s
  | .sessionStopReq lane m pause => Sys2Proof.Machine.execSessionStopReq lane m pause s
  | .certificateReq lane m update body => Sys2Proof.Machine.execCertificateReq lane m update body s
  | .acOverdrawViolation lane => Sys2Proof.Machine.execAcOverdrawViolation lane s
  | .tSlacInitExpiry lane => Sys2Proof.Machine.execTSlacInitExpiry lane s
  | .tMnbcExpiry run => Sys2Proof.Machine.execTMnbcExpiry run s
  | .tMatchRespExpiry lane => Sys2Proof.Machine.execTMatchRespExpiry lane s
  | .tMatchSessionExpiry lane => Sys2Proof.Machine.execTMatchSessionExpiry lane s
  | .tSetupExpiry lane => Sys2Proof.Machine.execTSetupExpiry lane s
  | .tSeqExpiry lane => Sys2Proof.Machine.execTSeqExpiry lane s
  | .tAuthExpiry lane => Sys2Proof.Machine.execTAuthExpiry lane s
  | .tHostExpiry lane => Sys2Proof.Machine.execTHostExpiry lane s
  | .tCpstateExpiry lane => Sys2Proof.Machine.execTCpstateExpiry lane s
  | .tCableExpiry lane => Sys2Proof.Machine.execTCableExpiry lane s
  | .vlkXtalkSurvey d => Sys2Proof.Machine.execVlkXtalkSurvey d s
  | .xtalkSurveyComplete table => Sys2Proof.Machine.execXtalkSurveyComplete table s
  | .vlkEimId d => Sys2Proof.Machine.execVlkEimId d s
  | .vlkTrustLoad d => Sys2Proof.Machine.execVlkTrustLoad d s
  | .vlkRelayAnswer d => Sys2Proof.Machine.execVlkRelayAnswer d s
  | .antennaPoll reader atqa => Sys2Proof.Machine.execAntennaPoll reader atqa s
  | .inventoryComplete reader uids => Sys2Proof.Machine.execInventoryComplete reader uids s
  | .authenticationComplete reader first second block0 => Sys2Proof.Machine.execAuthenticationComplete reader first second block0 s
  | .slotsResolved reader block1 block2 block3 => Sys2Proof.Machine.execSlotsResolved reader block1 block2 block3 s
  | .killResponse reader answer => Sys2Proof.Machine.execKillResponse reader answer s
  | .reservationAnswer reader => Sys2Proof.Machine.execReservationAnswer reader s
  | .repairComplete reader written readBack => Sys2Proof.Machine.execRepairComplete reader written readBack s
  | .backupWritten reader answer => Sys2Proof.Machine.execBackupWritten reader answer s
  | .backupVerified reader answer => Sys2Proof.Machine.execBackupVerified reader answer s
  | .purseCommit reader => Sys2Proof.Machine.execPurseCommit reader s
  | .primaryWritten reader answer => Sys2Proof.Machine.execPrimaryWritten reader answer s
  | .primaryVerified reader answer => Sys2Proof.Machine.execPrimaryVerified reader answer s
  | .fieldCollapse reader frameError => Sys2Proof.Machine.execFieldCollapse reader frameError s
  | .tProvExpiry reader => Sys2Proof.Machine.execTProvExpiry reader s
  | .tFsessExpiry reader => Sys2Proof.Machine.execTFsessExpiry reader s
  | .tRetapExpiry reader => Sys2Proof.Machine.execTRetapExpiry reader s
  | .tRepeatExpiry lane purse => Sys2Proof.Machine.execTRepeatExpiry lane purse s
  | .tokKillList d => Sys2Proof.Machine.execTokKillList d s
  | .tokAntTest d currentMa => Sys2Proof.Machine.execTokAntTest d currentMa s
  | .ledgerAuthorise entry ident method purseT purseId purseSeq uncorrectable => Sys2Proof.Machine.execLedgerAuthorise entry ident method purseT purseId purseSeq uncorrectable s
  | .ledgerDecisionAnnounce entry => Sys2Proof.Machine.execLedgerDecisionAnnounce entry s
  | .ledgerRevokeAnnounce lane => Sys2Proof.Machine.execLedgerRevokeAnnounce lane s
  | .ledgerStopAnnounce lane => Sys2Proof.Machine.execLedgerStopAnnounce lane s
  | .ddrAlert recovered => Sys2Proof.Machine.execDdrAlert recovered s
  | .tallyReport => Sys2Proof.Machine.execTallyReport s
  | .pendingFlush => Sys2Proof.Machine.execPendingFlush s
  | .journalBlockComplete => Sys2Proof.Machine.execJournalBlockComplete s
  | .snapshotStart => Sys2Proof.Machine.execSnapshotStart s
  | .snapshotComplete ok bad uncorrectable => Sys2Proof.Machine.execSnapshotComplete ok bad uncorrectable s
  | .ledgerRestoreStart badA badB badJournal => Sys2Proof.Machine.execLedgerRestoreStart badA badB badJournal s
  | .ledgerReady => Sys2Proof.Machine.execLedgerReady s
  | .abcDelta d uncorrectable => Sys2Proof.Machine.execAbcDelta d uncorrectable s
  | .abcQuery d uncorrectable => Sys2Proof.Machine.execAbcQuery d uncorrectable s
  | .abcResync d uncorrectable => Sys2Proof.Machine.execAbcResync d uncorrectable s
  | .abcSnapshot d => Sys2Proof.Machine.execAbcSnapshot d s
  | .abcRevoke d uncorrectable => Sys2Proof.Machine.execAbcRevoke d uncorrectable s
  | .sinStateChange sin level equalSamples => Sys2Proof.Machine.execSinStateChange sin level equalSamples s
  | .sinPulseFault sin tps before sample after => Sys2Proof.Machine.execSinPulseFault sin tps before sample after s
  | .tpsPulseStart k lowMv highMv limitTicks => Sys2Proof.Machine.execTpsPulseStart k lowMv highMv limitTicks s
  | .tDiscExpiry pair => Sys2Proof.Machine.execTDiscExpiry pair s
  | .tAutorstExpiry lane => Sys2Proof.Machine.execTAutorstExpiry lane s
  | .residualAcTrip lane window => Sys2Proof.Machine.execResidualAcTrip lane window s
  | .dcPointTimerExpiry lane point start least => Sys2Proof.Machine.execDcPointTimerExpiry lane point start least s
  | .selfTestDriveEnd lane window => Sys2Proof.Machine.execSelfTestDriveEnd lane window s
  | .selfTestResult lane window => Sys2Proof.Machine.execSelfTestResult lane window s
  | .isolationSwitchToggle lane v2Mv v3Mv v1MinMv => Sys2Proof.Machine.execIsolationSwitchToggle lane v2Mv v3Mv v1MinMv s
  | .insulationResult lane => Sys2Proof.Machine.execInsulationResult lane s
  | .tWeldExpiry lane => Sys2Proof.Machine.execTWeldExpiry lane s
  | .weldJudgement lane => Sys2Proof.Machine.execWeldJudgement lane s
  | .shuntPulseEnd => Sys2Proof.Machine.execShuntPulseEnd s
  | .safetyCoreCycle completed samples coilHigh coreCrc => Sys2Proof.Machine.execSafetyCoreCycle completed samples coilHigh coreCrc s
  | .lockstepMismatch => Sys2Proof.Machine.execLockstepMismatch s
  | .offpathReadback lane onTicks high => Sys2Proof.Machine.execOffpathReadback lane onTicks high s
  | .forerunnerOffPulse lane high => Sys2Proof.Machine.execForerunnerOffPulse lane high s
  | .safReset d coilHigh windows => Sys2Proof.Machine.execSafReset d coilHigh windows s
  | .safResTest d => Sys2Proof.Machine.execSafResTest d s
  | .safIsoMeasure d => Sys2Proof.Machine.execSafIsoMeasure d s
  | .safTrip d => Sys2Proof.Machine.execSafTrip d s
  | .coilEnableRise ch => Sys2Proof.Machine.execCoilEnableRise ch s
  | .coilEnableFall ch => Sys2Proof.Machine.execCoilEnableFall ch s
  | .pullInEnd ch => Sys2Proof.Machine.execPullInEnd ch s
  | .coilTrip ch held => Sys2Proof.Machine.execCoilTrip ch held s
  | .coilTripsReset ch => Sys2Proof.Machine.execCoilTripsReset ch s
  | .inrushEnd m => Sys2Proof.Machine.execInrushEnd m s
  | .auxTrip m cause currentMa held => Sys2Proof.Machine.execAuxTrip m cause currentMa held s
  | .tRetryExpiry m => Sys2Proof.Machine.execTRetryExpiry m s
  | .auxRetriesReset m => Sys2Proof.Machine.execAuxRetriesReset m s
  | .openLoadChange ch above held => Sys2Proof.Machine.execOpenLoadChange ch above held s
  | .underloadSet m currentMa held => Sys2Proof.Machine.execUnderloadSet m currentMa held s
  | .thermalWarnChange q temp => Sys2Proof.Machine.execThermalWarnChange q temp s
  | .thermalLatchSet q temp => Sys2Proof.Machine.execThermalLatchSet q temp s
  | .thermalLatchClear q temp => Sys2Proof.Machine.execThermalLatchClear q temp s
  | .vlsUndervoltage vlsMv heldUs => Sys2Proof.Machine.execVlsUndervoltage vlsMv heldUs s
  | .vlsRestart vlsMv held => Sys2Proof.Machine.execVlsRestart vlsMv held s
  | .quadRestart q => Sys2Proof.Machine.execQuadRestart q s
  | .vlsLowSet vlsMv held => Sys2Proof.Machine.execVlsLowSet vlsMv held s
  | .heartbeatLost silentUs => Sys2Proof.Machine.execHeartbeatLost silentUs s
  | .heartbeatReturn => Sys2Proof.Machine.execHeartbeatReturn s
  | .lswSet d => Sys2Proof.Machine.execLswSet d s
  | .lswClear d => Sys2Proof.Machine.execLswClear d s
  | .mclkStartStop group => Sys2Proof.Machine.execMclkStartStop group s
  | .chainRun lane => Sys2Proof.Machine.execChainRun lane s
  | .streamStuckChange lane ch stuck level equalBits => Sys2Proof.Machine.execStreamStuckChange lane ch stuck level equalBits s
  | .cycleEnd lane wins refWins ue => Sys2Proof.Machine.execCycleEnd lane wins refWins ue s
  | .trackingChange lane refWins => Sys2Proof.Machine.execTrackingChange lane refWins s
  | .envelopeEvent lane ch samples => Sys2Proof.Machine.execEnvelopeEvent lane ch samples s
  | .calChangeEffect lane wins refWins => Sys2Proof.Machine.execCalChangeEffect lane wins refWins s
  | .tTrigExpiry slot => Sys2Proof.Machine.execTTrigExpiry slot s
  | .metCapture d => Sys2Proof.Machine.execMetCapture d s
  | .metCaptureCancel d => Sys2Proof.Machine.execMetCaptureCancel d s
  | .metRead d => Sys2Proof.Machine.execMetRead d s
  | .metCoefRead d => Sys2Proof.Machine.execMetCoefRead d s
  | .pulseStart k => Sys2Proof.Machine.execPulseStart k s
  | .pulseEnd k => Sys2Proof.Machine.execPulseEnd k s
  | .altPulseStart k => Sys2Proof.Machine.execAltPulseStart k s
  | .nrgRead d => Sys2Proof.Machine.execNrgRead d s
  | .nrgCalRead d => Sys2Proof.Machine.execNrgCalRead d s
  | .rtcRollover => Sys2Proof.Machine.execRtcRollover s
  | .noclockIntervalEnd => Sys2Proof.Machine.execNoclockIntervalEnd s
  | .clockStep => Sys2Proof.Machine.execClockStep s
  | .sealChange sealOpen heldMs => Sys2Proof.Machine.execSealChange sealOpen heldMs s
  | .magneticFieldChange sensor levels => Sys2Proof.Machine.execMagneticFieldChange sensor levels s
  | .caseChange caseOpen => Sys2Proof.Machine.execCaseChange caseOpen s
  | .bookRead d => Sys2Proof.Machine.execBookRead d s
  | .bookClockSet d => Sys2Proof.Machine.execBookClockSet d s
  | .bookTariffLoad d => Sys2Proof.Machine.execBookTariffLoad d s
  | .bookCalWrite d => Sys2Proof.Machine.execBookCalWrite d s
  | .bookBillClose d => Sys2Proof.Machine.execBookBillClose d s
  | .lineFrameTransmitEnd => Sys2Proof.Machine.execLineFrameTransmitEnd s
  | .mediumAccess span readings storeOk => Sys2Proof.Machine.execMediumAccess span readings storeOk s
  | .ackTransmit storeOk => Sys2Proof.Machine.execAckTransmit storeOk s
  | .beaconReceived f => Sys2Proof.Machine.execBeaconReceived f s
  | .advertReceived f => Sys2Proof.Machine.execAdvertReceived f s
  | .lineAckReceived f => Sys2Proof.Machine.execLineAckReceived f s
  | .dataReceived f => Sys2Proof.Machine.execDataReceived f s
  | .deltaReceived f uncorrectable => Sys2Proof.Machine.execDeltaReceived f uncorrectable s
  | .timeReceived f => Sys2Proof.Machine.execTimeReceived f s
  | .scheduleReceived f => Sys2Proof.Machine.execScheduleReceived f s
  | .soundReceived src snrs high => Sys2Proof.Machine.execSoundReceived src snrs high s
  | .soundRptReceived f => Sys2Proof.Machine.execSoundRptReceived f s
  | .joinReceived f => Sys2Proof.Machine.execJoinReceived f s
  | .beaconPeriod storeOk => Sys2Proof.Machine.execBeaconPeriod storeOk s
  | .memberSlot storeOk => Sys2Proof.Machine.execMemberSlot storeOk s
  | .tAckExpiry => Sys2Proof.Machine.execTAckExpiry s
  | .tBeaconExpiry => Sys2Proof.Machine.execTBeaconExpiry s
  | .coordinatorTakeover => Sys2Proof.Machine.execCoordinatorTakeover s
  | .tAdvExpiry => Sys2Proof.Machine.execTAdvExpiry s
  | .lineSend d => Sys2Proof.Machine.execLineSend d s
  | .lineSound d => Sys2Proof.Machine.execLineSound d s
  | .lineSoundWindowEnd => Sys2Proof.Machine.execLineSoundWindowEnd s
  | .lineTest d => Sys2Proof.Machine.execLineTest d s
  | .lineTestEnd noise => Sys2Proof.Machine.execLineTestEnd noise s
  | .lineNeighRead d => Sys2Proof.Machine.execLineNeighRead d s
  | .tamperTrigger sign => Sys2Proof.Machine.execTamperTrigger sign s
  | .rootGenerationComplete => Sys2Proof.Machine.execRootGenerationComplete s
  | .rngHealthFail => Sys2Proof.Machine.execRngHealthFail s
  | .rngRecover samples => Sys2Proof.Machine.execRngRecover samples s
  | .keyOwnerEnrol d => Sys2Proof.Machine.execKeyOwnerEnrol d s
  | .keyUpdate d => Sys2Proof.Machine.execKeyUpdate d s
  | .keyCopyWritten ok => Sys2Proof.Machine.execKeyCopyWritten ok s
  | .keySwitch => Sys2Proof.Machine.execKeySwitch s
  | .keyAttest d => Sys2Proof.Machine.execKeyAttest d s
  | .mcWatchdogExpiry => Sys2Proof.Machine.execMcWatchdogExpiry s
  | .shedLevelChange fill => Sys2Proof.Machine.execShedLevelChange fill s
  | .sensorSample values memory mains => Sys2Proof.Machine.execSensorSample values memory mains s
  | .mgtBundle d => Sys2Proof.Machine.execMgtBundle d s
  | .bundleVerified => Sys2Proof.Machine.execBundleVerified s
  | .mgtUpdSchedule d => Sys2Proof.Machine.execMgtUpdSchedule d s
  | .mgtUpdCancel d => Sys2Proof.Machine.execMgtUpdCancel d s
  | .mgtLogRead d => Sys2Proof.Machine.execMgtLogRead d s
  | .mgtLogAck d => Sys2Proof.Machine.execMgtLogAck d s
  | .mgtProfWrite d => Sys2Proof.Machine.execMgtProfWrite d s
  | .scheduledTimeReached => Sys2Proof.Machine.execScheduledTimeReached s
  | .updateActivation => Sys2Proof.Machine.execUpdateActivation s
  | .scheduleWindowExpiry => Sys2Proof.Machine.execScheduleWindowExpiry s
  | .confirmationRequest => Sys2Proof.Machine.execConfirmationRequest s
  | .tConfirmExpiry => Sys2Proof.Machine.execTConfirmExpiry s
  | .trialEndReset => Sys2Proof.Machine.execTrialEndReset s
  | .epdUpdate d => Sys2Proof.Machine.execEpdUpdate d s
  | .epdWaveLoad d => Sys2Proof.Machine.execEpdWaveLoad d s
  | .epdUnifLoad d => Sys2Proof.Machine.execEpdUnifLoad d s
  | .epdFl d => Sys2Proof.Machine.execEpdFl d s
  | .epdUartSend d => Sys2Proof.Machine.execEpdUartSend d s
  | .epdTemperatureRead port ok temp => Sys2Proof.Machine.execEpdTemperatureRead port ok temp s
  | .epdStatusTempRead port ok temp => Sys2Proof.Machine.execEpdStatusTempRead port ok temp s
  | .epdPwrgoodRise port => Sys2Proof.Machine.execEpdPwrgoodRise port s
  | .epdTPgExpiry port => Sys2Proof.Machine.execEpdTPgExpiry port s
  | .epdPwrgoodFall port => Sys2Proof.Machine.execEpdPwrgoodFall port s
  | .epdFrame port => Sys2Proof.Machine.execEpdFrame port s
  | .epdTIdleExpiry port => Sys2Proof.Machine.execEpdTIdleExpiry port s
  | .epdPmicOff port => Sys2Proof.Machine.execEpdPmicOff port s
  | .epdClearRetry port => Sys2Proof.Machine.execEpdClearRetry port s
  | .epdUartRxFlush port bytes idleUs => Sys2Proof.Machine.execEpdUartRxFlush port bytes idleUs s
  | .pairProbe low => Sys2Proof.Machine.execPairProbe low s
  | .pairHoldLineChange low => Sys2Proof.Machine.execPairHoldLineChange low s
  | .tFreeExpiry => Sys2Proof.Machine.execTFreeExpiry s
  | .tSwitchExpiry => Sys2Proof.Machine.execTSwitchExpiry s
  | .healthSend => Sys2Proof.Machine.execHealthSend s
  | .healthReceived crcOk payload => Sys2Proof.Machine.execHealthReceived crcOk payload s
  | .journalFrameReceived crcOk payload => Sys2Proof.Machine.execJournalFrameReceived crcOk payload s
  | .jackReceived crcOk payload => Sys2Proof.Machine.execJackReceived crcOk payload s
  | .journalResend => Sys2Proof.Machine.execJournalResend s
  | .bulkReceived crcOk payload => Sys2Proof.Machine.execBulkReceived crcOk payload s
  | .pairScheduleReceived crcOk payload => Sys2Proof.Machine.execPairScheduleReceived crcOk payload s
  | .takebackReceived crcOk => Sys2Proof.Machine.execTakebackReceived crcOk s
  | .releasedReceived crcOk => Sys2Proof.Machine.execReleasedReceived crcOk s
  | .tLinkExpiry => Sys2Proof.Machine.execTLinkExpiry s
  | .tSettleExpiry => Sys2Proof.Machine.execTSettleExpiry s
  | .takebackResend => Sys2Proof.Machine.execTakebackResend s
  | .pairRelease => Sys2Proof.Machine.execPairRelease s
  | .tTbwinExpiry => Sys2Proof.Machine.execTTbwinExpiry s
  | .reclaimTimeout => Sys2Proof.Machine.execReclaimTimeout s
  | .pairHandover d => Sys2Proof.Machine.execPairHandover d s
  | .pairHandoverCancel d => Sys2Proof.Machine.execPairHandoverCancel d s
  | .arbWindowStart cycles => Sys2Proof.Machine.execArbWindowStart cycles s
  | .arbRequest requester target beats write ended => Sys2Proof.Machine.execArbRequest requester target beats write ended s
  | .bankHogCutoff target cycles => Sys2Proof.Machine.execBankHogCutoff target cycles s
  | .grantWithdraw target beatsDone => Sys2Proof.Machine.execGrantWithdraw target beatsDone s
  | .arbClaimCheck d => Sys2Proof.Machine.execArbClaimCheck d s
  | .bridgeFrameError => Sys2Proof.Machine.execBridgeFrameError s
  | .ckRefReturn => Sys2Proof.Machine.execCkRefReturn s
  | .ckRtcReturn => Sys2Proof.Machine.execCkRtcReturn s
  | .pllRelock pll => Sys2Proof.Machine.execPllRelock pll s
  | .pmcanBusOffRecovery ctl => Sys2Proof.Machine.execPmcanBusOffRecovery ctl s
  | .vsysBelowRestartFloor => Sys2Proof.Machine.execVsysBelowRestartFloor s
  | .rstNRelease => Sys2Proof.Machine.execRstNRelease s
  | .pciePerstRelease => Sys2Proof.Machine.execPciePerstRelease s
  | .biasGood => Sys2Proof.Machine.execBiasGood s
  | .profileCopyComplete => Sys2Proof.Machine.execProfileCopyComplete s

end Sys2Proof.Machine
end

