-- ==== Sys2Proof/Machine/Tick.lean ====
section
/-!
DEFINITION. What the clock does when no command waits (log 2): the end of a stamp queues the expiries of class 15, then the HTC advances by one and
what is due at the new stamp is done or queued.
-/
namespace Sys2Proof.Machine

open Sys2Proof

/-- The request of a command that comes from a to-device ring. -/
def Instr.desc (i : Instr) : Option Desc :=
  match i with
  | .commandNop d | .undefinedOpcode _ d | .chainErr _ d _ | .metCapture d | .metCaptureCancel d | .metRead d | .metCoefRead d | .nrgRead d | .nrgCalRead d
  | .bookRead d | .bookClockSet d | .bookTariffLoad d | .bookCalWrite d | .bookBillClose d | .abcDelta d _ | .abcQuery d _ | .abcResync d _
  | .abcSnapshot d | .abcRevoke d _ | .mgtBundle d | .mgtUpdSchedule d | .mgtUpdCancel d | .mgtLogRead d | .mgtLogAck d | .mgtProfWrite d
  | .laneAdmit d | .laneLimit d | .laneStop d | .laneService d | .laneClear d | .keyOwnerEnrol d | .keyUpdate d | .keyAttest d
  | .vlkXtalkSurvey d | .vlkEimId d | .vlkTrustLoad d | .vlkRelayAnswer d | .tokKillList d | .tokAntTest d _ | .safReset d _ _ | .safResTest d
  | .safIsoMeasure d | .safTrip d | .lswSet d | .lswClear d | .pairHandover d | .pairHandoverCancel d | .epdUpdate d | .epdWaveLoad d
  | .epdUnifLoad d | .epdFl d | .epdUartSend d | .arbClaimCheck d | .lineSend d | .lineSound d | .lineTest d | .lineNeighRead d => some d
  | _ => none

/-- The row that a timer's expiry is. -/
def Timer.row (t : Timer) : Instr :=
  let n := fin32 t.owner
  let r := fin4 t.owner
  match t.kind with
  | .tClose => .tCloseExpiry n
  | .tFb => .tFbExpiry n
  | .tStop => .tStopExpiry n
  | .tFaultHold => .tFaultHoldExpiry n
  | .tMod => .tModExpiry n
  | .tSlacInit => .tSlacInitExpiry n
  | .tMnbc => .tMnbcExpiry t.owner
  | .tMatchResp => .tMatchRespExpiry n
  | .tMatchSession => .tMatchSessionExpiry n
  | .tSetup => .tSetupExpiry n
  | .tSeq => .tSeqExpiry n
  | .tAuth => .tAuthExpiry n
  | .tHost => .tHostExpiry n
  | .tCpstate => .tCpstateExpiry n
  | .tCable => .tCableExpiry n
  | .tProv => .tProvExpiry r
  | .tFsess => .tFsessExpiry r
  | .tRetap => .tRetapExpiry r
  | .tRepeat => .tRepeatExpiry n t.sub
  | .tDisc => .tDiscExpiry ⟨t.owner % 36, Nat.mod_lt _ (by decide)⟩
  | .tAutorst => .tAutorstExpiry n
  | .tWeld => .tWeldExpiry n
  | .tTrig => .tTrigExpiry r
  | .tCommand => .commandTimeLimitExpiry (BitVec.ofNat 8 t.sub) t.owner
  | .tAck => .tAckExpiry
  | .tBeacon => .tBeaconExpiry
  | .tConfirm => .tConfirmExpiry
  | .tFree => .tFreeExpiry
  | .tSwitch => .tSwitchExpiry
  | .tSettle => .tSettleExpiry
  | .tTbwin => .tTbwinExpiry
  | .tLink => .tLinkExpiry
  | .tRetry => .tRetryExpiry ⟨(t.owner - 32) % 16, Nat.mod_lt _ (by decide)⟩

/-- A time limit that is reached, and the row that takes it. -/
structure Due where
  key : EventKey
  row : Instr
  deriving DecidableEq, Repr

/-- Insert an expiry in the order of R29 and R34. -/
def dueInsert (t : Due) : List Due → List Due
  | [] => [t]
  | x :: xs => if keyLe t.key x.key then t :: x :: xs else x :: dueInsert t xs

/-- The timeouts that the manual states and Table 1-9 does not list, each kept as the stamp that it runs from, with T_FREE (base 40): every one
that is reached. They belong to no lane; their bases are the first free ones (R33, R34; log 111). -/
def State.statedDue (s : State) : List Due :=
  let due (on : Bool) (base from_ : Nat) (row : Instr) : List Due :=
    if on then [⟨⟨s.now, 15, 32, 64 * base, from_⟩, row⟩] else []
  let ports (f : Fin 4 → List Due) : List Due := (List.finRange 4).flatMap f
  due s.mayClaim (TimerKind.base .tFree) (s.pair.highFrom.getD 0) .tFreeExpiry
    ++ due s.reclaimDue 49 (s.pair.releasedAt.getD 0) .reclaimTimeout
    ++ due s.windowDue 50 0 .scheduleWindowExpiry
    ++ due s.advDue 51 s.line.advAt .tAdvExpiry
    ++ due s.soundDue 52 0 .lineSoundWindowEnd
    ++ ports (fun p => due (s.pgDue p) 53 s.epd[p].since (.epdTPgExpiry p))
    ++ ports (fun p => due (s.idleDue p) 54 s.epd[p].since (.epdTIdleExpiry p))
    ++ ports (fun p => due (s.retryDue p) 55 (s.epd[p].refusedAt.getD 0) (.epdClearRetry p))
    ++ (List.finRange 32).flatMap fun v => due (s.vectorDue v) 56 s.hif.vecs[v].oldest (.vectorModerationTimeout v)

/-- The expiries of this stamp and earlier ones, in the order of R34. -/
def State.expiries (s : State) : List Instr :=
  let own := (s.timers.filter fun t => decide (t.expiry ≤ s.now)).map fun t => (⟨t.key, t.row⟩ : Due)
  ((own ++ s.statedDue).foldr dueInsert []).map (·.row)

/-- Whether a waiting command's wait still holds (R546). -/
def State.waitHolds (s : State) (w : Waiting) : Bool :=
  let ring : Fin 16 := ⟨w.ring % 16, Nat.mod_lt _ (by decide)⟩
  match w.cmd with
  | .chainErr _ _ _ => s.chainWaits ring
  | _ => match Instr.desc w.cmd with
    | some d => s.mustWait ring d
    | none => false

/-- Mark the first waiting command of each ring whose wait has ended as due; rings seen so far come first (R546). -/
def State.markDue (s : State) : List Nat → List Waiting → List Waiting
  | _, [] => []
  | seen, w :: ws =>
    if seen.contains w.ring then w :: s.markDue seen ws
    else { w with due := w.due || !s.waitHolds w } :: s.markDue (w.ring :: seen) ws

/-- The waiting commands whose wait has ended go to the queue (R546). -/
def State.acceptEnded (s : State) : State :=
  let ws := s.markDue [] s.waiting
  { s with waiting := ws, pending := s.pending ++ (ws.filter (·.due)).map (·.cmd) }

/-- The blocks that a fault reaction has asked to reset (R445). -/
def State.dueBlocks (s : State) : State :=
  let bs := s.mgt.blockDue
  let s := s.setMgt fun m => { m with blockDue := [] }
  bs.foldl (fun s b => s.blockReset b) s

/-- The stamp at which each ring's source was held last (R546). -/
def State.markHeld (s : State) : State :=
  { s with intake := .ofFn fun k => if s.sourceHeld k then { s.intake[k] with heldAt := some s.now } else s.intake[k] }

/-- The next tick (R25): a commit takes its record before anything later than F is applied (R68); the HTC counts while CK_MET runs. -/
def State.advance (s : State) : State :=
  let s := s.shadowCapture.markHeld
  if s.htcLoaded && s.clocks.ok.getLsbD 1 then { s with htc := s.htc + 1 } else s

/-- What the new tick brings: due block resets, the book's due closes and rate switch, UART ends, the pair's watch, a reset that waits. -/
def State.newTick (s : State) : State :=
  if s.mgt.blockDue.isEmpty && !s.htcLoaded then s.takeReset
  else State.finish s ((s.drivesDue.islandDue.dueBlocks.bookTick).uartDone)

/-- One idle step: at the end of a stamp its expiries are queued, once; otherwise the clock advances, and the release of the tick 8 ticks back
(R31) and the descriptors whose wait has ended are queued. -/
def State.tick (s : State) : State :=
  let due := s.expiries
  if s.htcLoaded && !due.isEmpty && s.seq.swept != some s.now then
    { s with pending := due, seq := { s.seq with swept := some s.now } }
  else
    let t := s.advance.newTick
    let rel := if 8 ≤ t.now && t.seq.waiting.any (fun k => k.stamp == t.now - 8) then [Instr.eventRelease (t.now - 8)] else []
    ({ t with pending := t.pending ++ rel } : State).acceptEnded

end Sys2Proof.Machine
end

