-- ==== Sys2Proof/Safety.lean ====
section
/-!
DEFINITION. What a safe run is, in the terms that claims use: no step stops, memory keeps its canonical form, and no coil is driven without
its permits.
-/
namespace Sys2Proof

open Sys2Proof.Machine

/-- A step answers a next state. -/
def Safety.goesOn (s : State) : Prop := ∃ t, step s = .next t

/-- The memory that the part has written, in the host, the DRAM and the shared SRAM, lies in canonical form. -/
def Safety.memory (s : State) : Prop :=
  Memory.wf s.hostMem = true ∧ Memory.wf s.arb.dram = true ∧ Memory.wf s.arb.sram = true

/-- No coil driver is on but with its lane's request, its grant and both permits. -/
def Safety.coils (s : State) : Prop :=
  ∀ n : Fin 32, s.coilOn n = true → s.laneReq n = true ∧ s.lanes[n].grant = true ∧ s.hssPermit n = true ∧ s.scPermit n = true

/-- A step from here goes on and keeps memory canonical. -/
def Safety.safeStep (s : State) : Prop := ∃ t, step s = .next t ∧ (Safety.memory s → Safety.memory t)

end Sys2Proof
end

