-- ==== Sys2Proof/Certificates/Slice0/Obligations.lean ====
section
/-!
DEFINITION. The statements for the provers: where each command completes and with what next state, the order and queue rules, the invariants that
every step keeps. A statement of a command's effect is an equation for the whole next state, so that what the equation does not name is unchanged.
-/
namespace Sys2Proof.Claims

open Sys2Proof Sys2Proof.Machine

/-- A request d stands at the head of a ring that takes it now (R98, R102, R103, R106, R107, R546). -/
abbrev Ready (s : State) (ring : Fin 16) (d : Desc) : Prop :=
  s.hif.rings[ring].en = true ∧ s.hif.rings[ring].err = false ∧ 1 ≤ d.count ∧ d.count ≤ 16 ∧ d.count ≤ s.hif.rings[ring].fill ∧
    (∀ w ∈ s.waiting, w.ring ≠ ring.val) ∧ s.mustWait ring d = false

/-- No reserved field of the request is set and no transfer of its payload has failed (R113). -/
abbrev Plain (d : Desc) : Prop := d.resv = false ∧ d.dmaErr = false

/-- The state once a request has been taken from its ring: its descriptors consumed and its event stamped (R103, R106). -/
def taken (s : State) (ring : Fin 16) (d : Desc) : State := (s.consume ring d.count).note (if ring == 8 then 12 else 13) 32 ring.val

/-- A message of the dialogue that the session core can read: the lane is linked, the header and schema hold, the length is within bounds. -/
abbrev Heard (s : State) (n : Fin 32) (m : V2g) : Prop :=
  s.linked n = true ∧ m.codecErr = false ∧ m.headerOk = true ∧ m.length ≤ 16384 ∧ m.schemaOk = true

/-- The state once a message has been heard: its event stamped and T_SEQ stopped. -/
def heard (s : State) (n : Fin 32) (kind : Nat) : State := (s.note 11 n.val kind).cancel .tSeq n.val

/-- The state once a frame of this node's has been heard (R398): erasure runs counted, its sender among the neighbours. -/
def heardFrame (s : State) (rx : LineRx) : State :=
  let spans := blankSpans (s.pf 0xB018 0 16) rx.high
  let t := (s.setLine fun l => { l with blank := min (l.blank + spans.length) 0xFFFF }).lineHear (parseLine rx.bytes).xmit rx.snr
  if t.line.st == 5 then t.lineLevel else t

/-- A frame of one of these types reaches this node and is for it: no transmission of its own, no erasure run in its head, whole, of this network and
another node, with a right MIC under K_LINE, new from its source; a broadcast, or a unicast frame to this node that asks for no ACK (R392, R397 to
R400). -/
abbrev Arrives (s : State) (rx : LineRx) (tys : List Nat) : Prop :=
  let f := parseLine rx.bytes
  let spans := blankSpans (s.pf 0xB018 0 16) rx.high
  s.line.st ≠ 0 ∧ s.lineTxen rx.start = false ∧ rx.start ≤ rx.fin ∧ rx.fin ≤ s.now ∧ lineCrcOk rx.bytes = true ∧
    hitsHead spans (if rx.band then 16 else 24) = false ∧ (rx.band = true ∨ toneDecodes rx.bytes.length spans rx.errors = true) ∧
    f.body.length ≤ (if rx.band then 1024 else 256) ∧ field rx.bytes 2 2 = s.lineNid ∧ f.src ≠ s.lineAddr ∧ f.src < 1024 ∧ tys.contains f.ty = true ∧
    (s.keyVal 4).any (fun k => lineMic k f s.lineNid (lineFcnt rx.bytes) == lineMicIn rx.bytes) = true ∧
    (f.dst = 0xFFFF ∨ (f.dst = s.lineAddr ∧ f.next = s.lineAddr ∧ f.ackReq = false)) ∧ s.lineAddr ≠ 0xFFFF ∧
    (∀ p ∈ (heardFrame s rx).nv.links.lineSeen, p.1 ≠ f.src) ∧ (∀ p ∈ (heardFrame s rx).line.rxSeqs, p.1 ≠ f.src)

/-- The state once such a frame has been delivered: its sender heard, its counter and its SEQ noted, the frame counted (R400, R407). -/
def arrived (s : State) (rx : LineRx) : State :=
  let f := parseLine rx.bytes
  let t := heardFrame s rx
  let t : State := { t with nv := { t.nv with links := { t.nv.links with
    lineSeen := (f.src, lineFcnt rx.bytes) :: t.nv.links.lineSeen.filter (·.1 != f.src) } } }
  t.setLine fun l => { l with rxCount := (l.rxCount + 1) % 65536, rxSeqs := (f.src, [f.seq]) :: l.rxSeqs.filter (·.1 != f.src) }

/-- A broadcast is then repeated by a repeater (R408). -/
def passedOn (rx : LineRx) (s : State) : State :=
  if (parseLine rx.bytes).dst = 0xFFFF then s.lineRepeatBroadcast rx (parseLine rx.bytes) else s

/-- S1 once the first pass has proved the token and block 0 has been asked for, from the state s before (R199, R208, R210): an answer that is no
block 0, or a second pass that fails, is refused; KILLED is reported; a purse under T_REPEAT is left alone; else the purse is known and S2 begins. -/
def purseNamed (s : State) (r : Fin 4) (q : TokAuth) (e : Machine.Heard × State) : State :=
  match e.1 with
  | .waits => s
  | .killed => e.2.answeredKilled r
  | .wrong => e.2.answeredWrong r
  | .data b =>
    if b.length = 16 ∧ field b 0 1 = 1 ∧ (crc32 (b.take 12)).toNat = field b 12 4 then
      let v := e.2.setReader r fun x => { x with purseId := field b 1 8 }
      let pass := authPass 1 (s.purseKey (field b 1 8)) (s.tok.readers[r].rnd.drop 16) q
      if v.armed .tRepeat (v.readerLane r).val (field b 1 8) = true then v.tapOver r
      else if q.status = 0x7F then v.answeredKilled r
      else if pass.2 = none then (v.passDone r pass).answeredWrong r
      else (v.passDone r pass).setReader r fun x => { x with step := some 2, killHit := s.nv.links.kill.contains (field b 1 8) }
    else e.2.answeredWrong r


/-- A queue's packet counter is the number of end marks in it (R122), in every queue. -/
abbrev CountsPackets (s : State) : Prop := ∀ q : Fin 16, s.queues[q].packets = (s.queues[q].words.filter (·.2)).length

/-- Fuses that have only been blown since: nothing that was programmed reads otherwise (R430 to R433, R457). -/
abbrev OnlyBlown (f g : Fuses) : Prop :=
  g.dieIdD = f.dieIdD ∧ g.dieIdA = f.dieIdA ∧ g.asn = f.asn ∧ g.variant = f.variant ∧ g.subsysVendor = f.subsysVendor ∧ g.subsys = f.subsys ∧
    f.epoch ≤ g.epoch ∧ f.level ≤ g.level ∧ (∀ i : Fin 4, f.owners[i].isSome = true → g.owners[i].isSome = true) ∧
    f.revoked &&& g.revoked = f.revoked ∧ (f.debugLock = true → g.debugLock = true)

/-- The commands whose payload the part writes to host memory. -/
def WritesHost : Instr → Bool
  | .metRead _ | .metCoefRead _ | .nrgRead _ | .nrgCalRead _ | .abcQuery _ _ | .lineNeighRead _ | .lineTestEnd _ => true
  | _ => false

end Sys2Proof.Claims

open Sys2Proof Sys2Proof.Machine Sys2Proof.Claims

/-- Each power event whose cause is present leads to the next state that R58 to R66 give: what it writes is named, everything else is as before. -/
def Obligations.RailsAndFeedsComplete : Prop :=
  (∀ (s : State),
    s.power.vsysUp = false →
    s.power.lockedOut = false →
    exec (.powerOn) s =
      .next ({ s.railsOff with power := { s.railsOff.power with vsysUp := true, attempts := 0, vsysMv := 8500 }, boot := { s.railsOff.boot with step := 1 }, glb := { s.railsOff.glb with rstCause := 1 } })) ∧
  (∀ (s : State),
    s.power.vsysUp = true →
    s.power.biasGood = false →
    s.boot.step = 1 →
    exec (.biasGood) s = .next ({ s with power := { s.power with biasGood := true, starting := true }, boot := { s.boot with step := 2 } })) ∧
  (∀ (s : State) (rail : Fin 5),
    s.power.starting = true →
    s.power.railsGood = rail.val →
    rail ≠ 4 →
    exec (.railPowerGood rail) s =
      .next ({ s with power := { s.power with railsGood := rail.val + 1, starting := true, onVbat := s.power.onVbat && rail != 1 }, boot := { s.boot with step := 3 + rail.val } })) ∧
  (∀ (s : State),
    s.power.starting = true →
    s.power.railsGood = 4 →
    exec (.railPowerGood 4) s =
      .next ({ s with power := { s.power with railsGood := 5, starting := false, attempts := 0 }, boot := { s.boot with step := 7 }, clocks := { s.clocks with ok := s.clocks.ok ||| 0x07 } })) ∧
  (∀ (s : State) (rail : Fin 5),
    s.power.starting = true →
    s.power.railsGood = rail.val →
    exec (.railStartTimeout rail) s =
      .next ({ s.toVbat with power := { s.toVbat.power with railsGood := 0, starting := false, retryWait := true, attempts := s.power.attempts + 1, lockedOut := decide (3 ≤ s.power.attempts + 1) }, boot := { s.boot with step := 2 } })) ∧
  (∀ (s : State),
    s.power.retryWait = true →
    exec (.railRetryWaitEnd) s = .next ({ s with power := { s.power with retryWait := false, starting := !s.power.lockedOut } })) ∧
  (∀ (s : State),
    s.power.vsysUp = true →
    exec (.vsysBelowMin) s = .next (s.railsOff)) ∧
  (∀ (s : State),
    s.power.vsysUp = false →
    exec (.vsysBelowRestartFloor) s = .next ({ s with power := { s.power with lockedOut := false, attempts := 0, vsysMv := 3999 } })) ∧
  (∀ (s : State) (feed : Fin 2) (vin vsys : Nat),
    (s.feed feed).present = true →
    vsys + 20 < vin →
    exec (.idealDiodeChange feed vin vsys) s =
      .next ((s.setFeed feed { s.feed feed with fetOn := true }).setPower fun p => { p with vsysMv := vsys })) ∧
  (∀ (s : State) (feed : Fin 2) (vin vsys : Nat),
    vin + 15 < vsys →
    exec (.idealDiodeChange feed vin vsys) s =
      .next ((s.setFeed feed { s.feed feed with fetOn := false }).setPower fun p => { p with vsysMv := vsys })) ∧
  (∀ (s : State) (feed : Fin 2) (vin : Nat),
    (s.feed feed).present = false →
    8800 ≤ vin →
    vin ≤ 60600 →
    s.htcLoaded = true →
    exec (.feedPresenceChange feed vin) s = .next (State.finish s ((s.setFeed feed { s.feed feed with present := true }).feedEvent feed))) ∧
  (∀ (s : State) (feed : Fin 2) (vin : Nat),
    (s.feed feed).present = true →
    vin < 8400 →
    s.htcLoaded = true →
    exec (.feedPresenceChange feed vin) s = .next (State.finish s ((s.setFeed feed ⟨false, false⟩).feedEvent feed))) ∧
  (∀ (s : State) (feed : Fin 2) (vin : Nat),
    (s.feed feed).present = true →
    61000 < vin →
    s.htcLoaded = true →
    exec (.feedPresenceChange feed vin) s = .next (State.finish s ((s.setFeed feed ⟨false, false⟩).feedEvent feed))) ∧
  (∀ (s : State) (mv : Nat),
    2600 ≤ mv →
    exec (.vbatLowChange mv) s = .next ({ s with power := { s.power with vbatLow := false, vbatLost := false } })) ∧
  (∀ (s : State) (mv : Nat),
    1900 ≤ mv →
    mv < 2600 →
    s.power.vbatLow = false →
    s.htcLoaded = true →
    exec (.vbatLowChange mv) s = .next (State.setErr { s with power := { s.power with vbatLow := true, vbatLost := false } } .pwr 0)) ∧
  (∀ (s : State) (mv : Nat),
    mv < 1900 →
    s.power.vbatLow = true →
    s.power.onVbat = true →
    exec (.vbatLowChange mv) s =
      .next ({ s with power := { s.power with vbatLow := true, vbatLost := true }, island := { s.island with integrity := false } })) ∧
  (∀ (s : State) (mv : Nat),
    3000 < mv →
    exec (.batteryIslandSwitchover mv) s = .next ({ s with power := { s.power with onVbat := false } })) ∧
  (∀ (s : State) (mv : Nat),
    mv ≤ 3000 →
    exec (.batteryIslandSwitchover mv) s =
      .next ({ s with power := { s.power with onVbat := true }, island := if s.power.vbatLost then { s.island with integrity := false } else s.island }))

/-- Hold-up detection, the two writes of a commit record, a checkpoint and the recovery from hold-up lead to the next state that R67 to R77 give
when their cause is present. -/
def Obligations.HoldupAndCommitsComplete : Prop :=
  (∀ (s : State) (mv us : Nat),
    7 ≤ s.boot.step →
    s.power.holdupNow = false →
    mv < s.vHu →
    50 ≤ us →
    s.htcLoaded = true →
    exec (.holdupDetect mv us) s =
      .next (State.finish (s.setPower fun p => { p with vsysMv := mv }) (((List.finRange 4).foldl (fun t p => t.epdInterrupt p none) ((s.setPower fun p => { p with holdupNow := true, vsysMv := mv }).note 1 32 0)).startCommit 2 none))) ∧
  (∀ (s : State) (k : Commit) (i : CommitImage),
    s.commit = some k →
    k.bodyDone = false →
    k.shadow = some i →
    exec (.commitBodyWritten) s =
      .next (({ s with commit := some { k with bodyDone := true, shadow := none } } : State).putSlot k.slotB ⟨commitMagic, commitFormat, k.gen, k.freeze, some i, none⟩)) ∧
  (∀ (s : State) (k : Commit),
    s.commit = some k →
    k.kind ≠ 1 →
    k.bodyDone = false →
    k.shadow = none →
    exec (.commitBodyWritten) s =
      .next (({ s.dropAt k.freeze with commit := some { k with bodyDone := true, shadow := none } } : State).putSlot k.slotB ⟨commitMagic, commitFormat, k.gen, k.freeze, some ((s.dropAt k.freeze).commitImage k), none⟩)) ∧
  (∀ (s : State) (k : Commit),
    s.commit = some k →
    k.bodyDone = true →
    k.slotB = false →
    s.chipResetDue = none →
    exec (.commitTrailerWritten) s =
      .next ({ s with nv := { s.nv with slotA := s.nv.slotA.map fun y => { y with trailer := y.image.map CommitImage.trailer } }, glb := { s.glb with comGen := BitVec.ofNat 24 k.gen, comKind := BitVec.ofNat 3 k.kind, comSlotB := false }, commit := none })) ∧
  (∀ (s : State) (k : Commit),
    s.commit = some k →
    k.bodyDone = true →
    k.slotB = true →
    s.chipResetDue = none →
    exec (.commitTrailerWritten) s =
      .next ({ s with nv := { s.nv with slotB := s.nv.slotB.map fun y => { y with trailer := y.image.map CommitImage.trailer } }, glb := { s.glb with comGen := BitVec.ofNat 24 k.gen, comKind := BitVec.ofNat 3 k.kind, comSlotB := true }, commit := none })) ∧
  (∀ (s : State),
    s.glb.ckptInterval.toNat ≠ 0 →
    s.now % (s.glb.ckptInterval.toNat * ticksPerS) = 0 →
    s.legalOn = true →
    s.commit = none →
    s.frozenAt = none →
    (∀ x ∈ s.nv.slotA, x.freeze ≠ s.now) →
    (∀ x ∈ s.nv.slotB, x.freeze ≠ s.now) →
    exec (.checkpointStart) s = .next ((s.note 14 32 0).startCommit 1 none)) ∧
  (∀ (s : State) (mv ms : Nat),
    s.power.holdupNow = true →
    s.vHu + 1000 ≤ mv →
    100 ≤ ms →
    s.commit = none →
    s.frozenAt ≠ none →
    exec (.holdupRecover mv ms) s =
      .next (({ s with power := { s.power with vsysMv := mv }, glb := { s.glb with rstCause := setBitR s.glb.rstCause 4 } } : State).chipReset)) ∧
  (∀ (s : State) (mv ms : Nat),
    s.power.holdupNow = true →
    s.vHu + 1000 ≤ mv →
    100 ≤ ms →
    s.commit = none →
    s.frozenAt = none →
    exec (.holdupRecover mv ms) s = .next ({ s with power := { s.power with holdupNow := false, vsysMv := mv } }))

/-- Each clock loss or return of R79 and each reset of R80 leads to the next state that the rule gives when its cause is present. -/
def Obligations.ClocksAndResetsComplete : Prop :=
  (∀ (s : State),
    s.clocks.ok.getLsbD 0 = true →
    s.boot.step < 8 →
    exec (.ckRefLoss) s = .next (s.clockLost 0)) ∧
  (∀ (s : State),
    s.clocks.ok.getLsbD 0 = true →
    8 ≤ s.boot.step →
    s.boot.ddrOk = true →
    exec (.ckRefLoss) s =
      .next (let t := (s.guaranteeLost 4).clockLost 0; State.finish s ({ t with clocks := { t.clocks with onBackup := true, selfRefresh := true } } : State).clockFailure)) ∧
  (∀ (s : State),
    s.clocks.ok.getLsbD 1 = true →
    7 ≤ s.boot.step →
    s.htcLoaded = true →
    exec (.ckMetLoss) s = .next (State.finish s ((s.guaranteeLost 0).clockLost 1).clockFailure)) ∧
  (∀ (s : State),
    s.clocks.ok.getLsbD 2 = true →
    exec (.ckRfidLoss) s = .next (State.finish s (((s.clockLost 2).setErr .tok 0).collapseAll))) ∧
  (∀ (s : State),
    exec (.ckRfidReturn) s = .next ({ s with clocks := { s.clocks with ok := s.clocks.ok ||| 4 } })) ∧
  (∀ (s : State),
    s.clocks.ok.getLsbD 3 = true →
    exec (.ckRtcLoss) s =
      .next (let t : State := { s.clockLost 3 with island := { (s.clockLost 3).island with rtcValid := false, elapsedOk := false } };
        State.finish s (if t.legalOn then t.clockInvalid else t))) ∧
  (∀ (s : State),
    exec (.ckRefReturn) s = .next ({ s with clocks := { s.clocks with ok := s.clocks.ok ||| 1 }, boot := { s.boot with waitRef := false } })) ∧
  (∀ (s : State),
    exec (.ckRtcReturn) s =
      .next ({ s with clocks := { s.clocks with ok := s.clocks.ok ||| 8 }, island := { s.island with elapsedOk := true } })) ∧
  (∀ (s : State) (pll : Fin 4),
    s.clocks.ok.getLsbD (4 + pll.val) = true →
    pll ≠ 3 →
    exec (.pllLockLoss pll) s = .next (State.finish s (s.clockLost (4 + pll.val)))) ∧
  (∀ (s : State),
    s.clocks.ok.getLsbD 7 = true →
    s.boot.ddrOk = true →
    exec (.pllLockLoss 3) s = .next (State.finish s ((s.guaranteeLost 4).clockLost 7))) ∧
  (∀ (s : State) (pll : Fin 4),
    8 ≤ s.boot.step →
    exec (.pllRelock pll) s = .next (s.clockBack (4 + pll.val))) ∧
  (∀ (s : State),
    exec (.pcieRefclkLoss) s =
      .next ({ s with clocks := { s.clocks with pcieRef := false }, hif := { s.hif with linkUp := false, configReady := false, bme := false, d3 := false, msixEn := false, funcMask := false } })) ∧
  (∀ (s : State) (us : Nat),
    1 ≤ us →
    7 ≤ s.boot.step →
    exec (.rstNAssert us) s = .next ((({ s with boot := { s.boot with rstNHigh := false } } : State).requestChipReset 1).takeReset)) ∧
  (∀ (s : State) (us : Nat),
    1 ≤ us →
    s.boot.step < 7 →
    exec (.rstNAssert us) s = .next ({ s with boot := { s.boot with rstNHigh := false } })) ∧
  (∀ (s : State),
    exec (.rstNRelease) s = .next ({ s with boot := { s.boot with rstNHigh := true } })) ∧
  (∀ (s : State) (val : BitVec 32),
    regField val 16 16 = 0xA5C3 →
    val.getLsbD 0 = true →
    exec (.chipResetRequest val) s = .next (State.finish s ((s.blockResets (regField val 8 7)).requestChipReset 2))) ∧
  (∀ (s : State) (val : BitVec 32),
    regField val 16 16 = 0xA5C3 →
    val.getLsbD 0 = false →
    exec (.blockResetRequest val) s = .next (State.finish s (s.blockResets (regField val 8 7)))) ∧
  (∀ (s : State),
    exec (.pciePerst) s =
      .next ({ s.restartHeld with hif := Hif.reset, errs := { s.errs with hif := 0 }, waiting := [], boot := { s.boot with perstHigh := false }, glb := { s.glb with rstCause := setBitR s.glb.rstCause 6 } })) ∧
  (∀ (s : State),
    exec (.pciePerstRelease) s = .next ({ s with boot := { s.boot with perstHigh := true, perstRise := s.now } })) ∧
  (∀ (s : State) (bme d3 on fm : Bool),
    exec (.pcieEndpointStateChange bme d3 on fm) s =
      .next ({ s with hif := { s.hif with bme := bme, d3 := d3, msixEn := on, funcMask := fm, vecs := s.hif.vecs.map (Vec.release (on && !fm && bme && !d3)) } })) ∧
  (∀ (s : State),
    s.htcLoaded = true →
    exec (.bridgeFrameError) s = .next (State.finish s ((s.guaranteeLost 3).setErr .mgt 0)))

/-- Each step of Table 3-7 and each profile event leads to the next state that R81 to R92 give when its conditions hold. -/
def Obligations.StartUpAndProfilesComplete : Prop :=
  (∀ (s : State) (prof : BitVec 2) (pri trst : Bool),
    s.boot.step = 7 →
    s.boot.rstNHigh = true →
    s.clocks.ok.getLsbD 0 = true →
    exec (.strapSample prof pri trst) s =
      .next ({ s with boot := { s.boot with straps := prof, strapsTaken := true, pairPri := pri, trstHigh := trst, phase := 1, step := 8 }, pair := { s.pair with pri := pri }, keys := { s.keys with debug := trst && !s.fuses.debugLock } })) ∧
  (∀ (s : State) (code : Byte) (ok : Bool),
    s.boot.step = 8 →
    code ≠ 0 →
    exec (.bootSelfTestDone code ok) s = .next ({ s with boot := { s.boot with phase := 0xF, failCode := code } })) ∧
  (∀ (s : State),
    s.boot.step = 8 →
    dieOk s.fuses.dieIdD = true →
    dieOk s.fuses.dieIdA = true →
    s.nv.newestSlot = none →
    exec (.bootSelfTestDone 0 true) s =
      .next (let t : State := { s with clocks := { s.clocks with ok := s.clocks.ok ||| 0xF2 }, boot := { s.boot with errOutReleased := true, phase := 2, step := 9 }, keys := { s.keys with rngOk := true } };
        t.blankRegions.chooseRecord.recordEntries.retentionCheck.bootRecord.bootHold.bootRoot.bootFeeds)) ∧
  (∀ (s : State),
    s.boot.step = 9 →
    s.boot.phase = 2 →
    s.power.holdupNow = false →
    s.chipResetDue = none →
    s.nv.newestSlot = none →
    exec (.legalPathRestored) s =
      .next (let t : State := { s with boot := { s.boot with restoreOk := true, phase := 3, step := 10 }, met := { s.met with mclk := 0xFF } };
        t.firstStart.calLoad.tariffCheck.sealCatchUp.caseCatchUp.loadKeys.tamperCatchUp.latchesBack)) ∧
  (∀ (s : State) (i : CommitImage) (x : CommitSlot),
    s.boot.step = 9 →
    s.boot.phase = 2 →
    s.power.holdupNow = false →
    s.chipResetDue = none →
    s.nv.newestSlot = some x →
    x.image = some i →
    exec (.legalPathRestored) s =
      .next (let t : State := { s with boot := { s.boot with restoreOk := true, phase := 3, step := 10 }, met := { s.met with mclk := 0xFF } };
        (((t.restoreImage i).calLoad).restorePulses i.pulses).tariffCheck.sealCatchUp.caseCatchUp.loadKeys.tamperCatchUp.latchesBack)) ∧
  (∀ (s : State),
    s.boot.step = 10 →
    exec (.startupProfileLoad) s =
      .next (let t := s.loadProfile s.boot.straps []; State.finish s { t with boot := { t.boot with step := 11, phase := 4 } })) ∧
  (∀ (s : State) (w sp : BitVec 2),
    8 ≤ s.boot.step →
    s.boot.perstHigh = true →
    exec (.endpointReady w sp) s =
      .next ({ s with hif := { s.hif with configReady := true, linkUp := true, width := w, speed := sp }, clocks := { s.clocks with pcieRef := true }, boot := { s.boot with step := if s.boot.step == 11 then 12 else s.boot.step } })) ∧
  (∀ (s : State),
    11 ≤ s.boot.step →
    s.boot.ddrOk = false →
    s.boot.phase ≠ 0xF →
    exec (.dramReady true) s =
      .next ({ s with boot := { s.boot with ddrOk := true, phase := 5, step := 13 }, clocks := { s.clocks with selfRefresh := false } })) ∧
  (∀ (s : State),
    11 ≤ s.boot.step →
    s.boot.ddrOk = false →
    s.boot.phase ≠ 0xF →
    exec (.dramReady false) s = .next ({ s with boot := { s.boot with phase := 0xF, failCode := 6 } })) ∧
  (∀ (s : State) (i : BitVec 2),
    (s.glb.profActiveValid = false ∨ s.glb.profActive ≠ i) →
    exec (.profileRequest i) s = .next (let t := s.note 14 32 0; { t with glb := { t.glb with profPending := i, profPendingValid := true } })) ∧
  (∀ (s : State),
    s.glb.profActiveValid = true →
    exec (.profileRequest s.glb.profActive) s = .next (let t := s.note 14 32 0; { t with glb := { t.glb with profPendingValid := false } })) ∧
  (∀ (s : State),
    exec (.profileCancel) s = .next ({ s with glb := { s.glb with profPendingValid := false } })) ∧
  (∀ (s : State) (cut : List (Fin 32 × List BitWindow × List BitWindow)),
    s.glb.profPendingValid = true →
    11 ≤ s.boot.step →
    s.quiescent = true →
    s.frozen = false →
    exec (.profileSwitch cut) s =
      .next (let t := (s.note 14 32 0).loadProfile s.glb.profPending cut; State.finish s { t with glb := { t.glb with profPendingValid := false } }))

/-- Each host-interface command leads to the next state that R31, R34, R102 to R125 give: what it writes is named, everything else is as before. -/
def Obligations.HostInterfaceComplete : Prop :=
  (∀ (s : State) (tick : Nat),
    tick + 8 ≤ s.now →
    exec (.eventRelease tick) s =
      .next ({ s with seq := { s.seq with waiting := s.seq.waiting.filter (·.stamp != tick), lastTick := tick, released := (s.seq.waiting.filter (·.stamp == tick)).foldr keyInsert [] } })) ∧
  (∀ (s : State) (ring : Fin 16),
    s.hif.rings[ring].en = false →
    exec (.ringEnable ring) s =
      .next ((s.setRing ring fun r => { r with en := true, prod := 0, cons := 0, phase := true, slots := [], skip := 0, err := false, errCode := 0 }).setSpill ring Spill.restart)) ∧
  (∀ (s : State) (ring : Fin 16),
    exec (.ringDisable ring) s =
      .next ({ s.setRing ring (fun r => { r with en := false, skip := 0 }) with waiting := s.waiting.filter fun w => w.ring != ring.val })) ∧
  (∀ (s : State) (run : Bool),
    exec (.hifCtlRun run) s = .next ({ s with hif := { s.hif with run := run } })) ∧
  (∀ (s : State) (ring : Fin 16) (x : BitVec 16),
    toDevice ring = true →
    (x - s.hif.rings[ring].cons).toNat ≤ s.hif.rings[ring].size →
    exec (.ringDoorbell ring x) s = .next (s.setRing ring fun r => Ring.skipArrived { r with prod := x })) ∧
  (∀ (s : State) (ring : Fin 16) (x : BitVec 16),
    toDevice ring = false →
    (x - s.hif.rings[ring].cons).toNat ≤ (s.hif.rings[ring].prod - s.hif.rings[ring].cons).toNat →
    exec (.ringDoorbell ring x) s =
      .next (s.setRing ring fun r => { r with cons := x, slots := r.slots.drop (x - s.hif.rings[ring].cons).toNat })) ∧
  (∀ (s : State) (ring : Fin 16) (x : BitVec 16),
    toDevice ring = true →
    s.hif.rings[ring].size < (x - s.hif.rings[ring].cons).toNat →
    exec (.ringDoorbell ring x) s = .next (s.setErr .hif 2)) ∧
  (∀ (s : State) (ring : Fin 16) (x : BitVec 16),
    toDevice ring = false →
    (s.hif.rings[ring].prod - s.hif.rings[ring].cons).toNat < (x - s.hif.rings[ring].cons).toNat →
    exec (.ringDoorbell ring x) s = .next (s.setErr .hif 2)) ∧
  (∀ (s : State) (d : Desc),
    Ready s 0 d →
    Plain d →
    d.scope = 0 →
    d.len.toNat = 0 →
    exec (.commandNop d) s = .next ((taken s 0 d).answer 0 0x00 d stOk)) ∧
  (∀ (s : State) (ring : Fin 16) (d : Desc),
    toDevice ring = true →
    (ringOpcodes ring.val).contains d.opcode.toNat = false →
    Ready s ring d →
    exec (.undefinedOpcode ring d) s = .next ((taken s ring d).complete ring.val d.opcode.toNat d.tag d.irq 0xFFFF stBadOpcode 0 0)) ∧
  (∀ (s : State) (ring : Fin 16) (d : Desc) (rest : Nat),
    toDevice ring = true →
    s.hif.rings[ring].err = false →
    s.ringRun ring = true →
    16 ≤ s.hif.rings[ring].fill →
    (∀ w ∈ s.waiting, w.ring ≠ ring.val) →
    (s.boot.phase = 7 ∨ ring = 14) →
    exec (.chainErr ring d rest) s =
      .next (((s.consume ring 16).setRing ring fun r => Ring.skipArrived { r with skip := rest }).complete ring.val d.opcode.toNat d.tag d.irq 0xFFFF stChainErr 0 0)) ∧
  (∀ (s : State) (ring : Fin 16) (code : Fin 4),
    toDevice ring = true →
    s.ringRun ring = true →
    exec (.ringFetchError ring code) s =
      .next ((s.setRing ring fun r => { r with err := true, errCode := BitVec.ofNat 4 (code.val + 1) }).setErr .hif 3)) ∧
  (∀ (s : State) (ring : Fin 16),
    toDevice ring = false →
    s.ringRun ring = true →
    s.spill[ring].dropped = 0 →
    exec (.spillDrain ring) s =
      .next ((s.pour ring s.spill[ring].work).setSpill ring fun sp => { sp with full := sp.full && (decide (spillCap ≤ sp.used) || !sp.behind.isEmpty) })) ∧
  (∀ (s : State) (vec : Fin 32),
    s.hif.vecs[vec].waiting ≠ 0 →
    s.hif.vecs[vec].oldest + ticksUs s.hif.vecs[vec].time.toNat ≤ s.now →
    exec (.vectorModerationTimeout vec) s = .next ((s.noteTimeout 56).fire vec)) ∧
  (∀ (s : State) (op : Byte) (unit : Nat),
    s.expired .tCommand unit op.toNat = true →
    exec (.commandTimeLimitExpiry op unit) s = .next (State.finish s ((s.expire .tCommand unit op.toNat).memberFail op.toNat unit stTimeout))) ∧
  (∀ (s : State) (q : Fin 16) (w : BitVec 64) (e : Bool),
    exec (.queueWordWrite q w e) s = .next (s.setQueue q fun x => x.put w e)) ∧
  (∀ (s : State) (q : Fin 16),
    exec (.queueWordRead q) s = .next (s.setQueue q IQueue.get)) ∧
  (∀ (s : State) (q : Fin 16),
    exec (.queueDropRemainder q) s = .next (s.setQueue q IQueue.drop)) ∧
  (∀ (s : State) (be : BitVec 4) (val : BitVec 32) (off : BitVec 17) (x : Bool),
    (be ≠ 0xF ∨ x = true) →
    exec (.registerWrite off be val x) s = .next (s.setErr .hif 0)) ∧
  (∀ (s : State) (val : BitVec 32) (off : BitVec 17),
    off.toNat % 4 = 0 →
    0x2000 ≤ off.toNat →
    s.boot.phase ≠ 7 →
    exec (.registerWrite off 0xF val false) s = .next (s)) ∧
  (∀ (s : State) (val : BitVec 32) (off : BitVec 17) (r : ErrReg),
    off.toNat % 4 = 0 →
    (s.boot.phase = 7 ∨ off.toNat < 0x2000) →
    errRegAt off.toNat = some r →
    r ≠ .mgt →
    exec (.registerWrite off 0xF val false) s = .next ({ s with errs := s.errs.put r (s.err r &&& ~~~val) })) ∧
  (∀ (s : State) (val : BitVec 32),
    exec (.registerWrite 0x54 0xF val false) s = .next ({ s with glb := { s.glb with scratch := val } })) ∧
  (∀ (s : State) (be : BitVec 4),
    exec (.latchedPairRead 0x48 be false) s =
      .next ({ s with glb := { s.glb with htcLatch := s.htc, readData := enabled be (s.readReg 0x48) } })) ∧
  (∀ (s : State) (off : BitVec 17) (be : BitVec 4) (hi v : Nat),
    off.toNat % 4 = 0 →
    off ≠ 0x48 →
    off ≠ 0x5100 →
    unitAt off.toNat 0x3118 0x20 32 = none →
    s.pairValue off.toNat = some (hi, v) →
    exec (.latchedPairRead off be false) s =
      .next ({ s with glb := { s.glb with latched := latchPut s.glb.latched hi (BitVec.ofNat 32 (v / 2 ^ 32)), readData := enabled be (s.readReg off.toNat) } })) ∧
  (∀ (s : State) (off : BitVec 17) (be : BitVec 4),
    off.toNat % 4 = 0 →
    off ≠ 0x48 →
    off ≠ 0x5100 →
    unitAt off.toNat 0x3118 0x20 32 = none →
    s.pairValue off.toNat = none →
    exec (.latchedPairRead off be false) s = .next ({ s with glb := { s.glb with readData := enabled be (s.readReg off.toNat) } })) ∧
  (∀ (s : State) (lane : Fin 32) (be : BitVec 4),
    exec (.vlkLviolRead lane be false) s =
      .next (({ s with glb := { s.glb with readData := enabled be (s.readReg (0x3118 + 0x20 * lane.val)) } } : State).setLink lane fun l => { l with viol := 0 }))

/-- Each event of an outlet lane whose cause is present leads to the next state that Table 5-6 and R130 to R152 give. -/
def Obligations.LaneEventsComplete : Prop :=
  (∀ (s : State) (sense : List LaneSense) (loads : List (Fin 48 × Nat)),
    s.now % 24576 = 0 →
    exec (.pwmPeriodStart sense loads) s =
      .next (let t := (sense.foldl State.takeSense s).takeLoads loads;
        State.finish s (t.forLanes fun t n => if t.lanes[n].takesNext s.now then (t.setLane n fun l => l.startPeriod s.now).memberDone 0x11 n.val else t))) ∧
  (∀ (s : State) (n : Fin 32) (f : PilotForm),
    s.now % 24576 = 0 →
    s.lanes[n].next = some f →
    s.lanes[n].nextFrom < s.now →
    (∀ m : Fin 32, m ≠ n → s.lanes[m].next = none) →
    exec (.pwmPeriodStart [] []) s =
      .next (State.finish s ((s.setLane n fun l => { l.takeForm f s.now with next := none, drives := [] }).memberDone 0x11 n.val))) ∧
  (∀ (s : State) (lane : Fin 32) (w : Wave),
    s.now % 24576 = sampleTick s.lanes[lane].form →
    (s.lanes[lane].samplePeriod (s.now - s.now % 24576) w).sampled = some s.now →
    3 ≤ (s.lanes[lane].samplePeriod (s.now - s.now % 24576) w).runCount →
    (s.lanes[lane].samplePeriod (s.now - s.now % 24576) w).pilot ≠ (s.lanes[lane].samplePeriod (s.now - s.now % 24576) w).runClass →
    exec (.pilotStateChange lane w) s =
      .next (let l := s.lanes[lane].samplePeriod (s.now - s.now % 24576) w;
        let t := ((s.setLane lane fun _ => l).note 3 lane.val 0).setLane lane fun _ => { l with pilot := l.runClass };
        State.finish s (((t.laneResult lane 0x01 l.runClass.code (l.pilot.code + 256 * l.form.duty)).pilotLink lane l.pilot l.runClass).pilotEvent lane l.runClass))) ∧
  (∀ (s : State) (lane : Fin 32) (r : Nat),
    s.ppRead lane = true →
    s.now % 245760 = 0 →
    3 ≤ (s.lanes[lane].takePp r s.now).ppCount →
    (s.lanes[lane].takePp r s.now).rating ≠ (s.lanes[lane].takePp r s.now).ppClass →
    s.ratingValid lane = false →
    exec (.proximityRatingChange lane r) s =
      .next (let l := s.lanes[lane].takePp r s.now;
        let t := ((s.setLane lane fun _ => l).note 3 lane.val 1).setLane lane fun _ => { l with rating := l.ppClass };
        State.finish s (State.rest 8 ((t.laneResult lane 0x02 (t.ratingShown lane) (min r 65535)).drivePilot lane) lane))) ∧
  (∀ (s : State) (lane : Fin 32) (mirror high : Bool),
    ((if mirror then s.lanes[lane].fbbHigh else s.lanes[lane].fbaHigh) = !high) →
    exec (.contactorFeedbackChange lane mirror high) s =
      .next (State.finish s ((s.note 4 lane.val (bit mirror)).setLane lane fun l => if mirror then { l with fbbHigh := high } else { l with fbaHigh := high }))) ∧
  (∀ (s : State) (lane : Fin 32),
    s.expired .tClose lane.val = true →
    s.lanes[lane].st = .closing →
    exec (.tCloseExpiry lane) s =
      .next (State.finish s ((((s.expire .tClose lane.val).laneErr lane 7).setLane lane fun l => { l with grant := false }).openTo lane .ended 7))) ∧
  (∀ (s : State) (lane : Fin 32),
    s.expired .tFb lane.val = true →
    s.lanes[lane].st = .closing →
    exec (.tFbExpiry lane) s = .next (State.finish s ((s.expire .tFb lane.val).faultWith lane 13 3))) ∧
  (∀ (s : State) (lane : Fin 32),
    s.expired .tFb lane.val = true →
    s.lanes[lane].st = .opening →
    s.lanes[lane].target = .fault →
    exec (.tFbExpiry lane) s = .next (State.finish s (State.rest 8 (((s.expire .tFb lane.val).enterPlain lane .fault 13).laneErr lane 4) lane))) ∧
  (∀ (s : State) (lane : Fin 32),
    s.expired .tStop lane.val = true →
    s.lanes[lane].st = .stopping →
    exec (.tStopExpiry lane) s = .next (State.finish s (((s.expire .tStop lane.val).laneErr lane 8).openTo lane .ended 8 true))) ∧
  (∀ (s : State) (lane : Fin 32),
    s.expired .tFaultHold lane.val = true →
    s.lanes[lane].st = .fault →
    s.lanePf lane 0 11 1 = 1 →
    s.lanes[lane].causes ≠ 0 →
    s.lanes[lane].causes &&& 0xFFFFFFF8 = 0 →
    exec (.tFaultHoldExpiry lane) s = .next (State.finish s ((s.expire .tFaultHold lane.val).enter lane .idle 17))) ∧
  (∀ (s : State) (lane : Fin 32),
    s.expired .tMod lane.val = true →
    exec (.tModExpiry lane) s = .next (State.finish s ((s.expire .tMod lane.val).moduleBad lane 9))) ∧
  (∀ (s : State) (lane : Fin 32) (e : Nat),
    s.now % 245760 = 30720 * (lane.val % 8) →
    s.pmcan[laneCtl lane].tec.toNat + 8 * e < 256 →
    exec (.setpointSend lane e) s =
      .next (let t := s.sendSetpoint lane;
        State.finish s (if t.lanes[lane].dc.seqTx == s.lanes[lane].dc.seqTx then t else t.pmcanCounts (laneCtl lane) (s.pmcan[laneCtl lane].tec.toNat + 8 * e - 1) s.pmcan[laneCtl lane].rec_.toNat))) ∧
  (∀ (s : State) (ctl : Fin 4) (a : BitVec 6) (bs : List (BitVec 8)) (e : Nat) (n : Fin 32),
    s.pf (0x2060 + 0x400 * ctl.val) 0 1 ≠ 0 →
    s.pmcan[ctl].estate ≠ 2 →
    bs.length = 16 →
    s.moduleLane ctl a.toNat = some n →
    field bs 0 1 ≠ 0x0F →
    (s.received ctl e).lanes[n].dc.state = field bs 0 1 % 16 →
    exec (.pmcanStatusFrame ctl a bs e) s =
      .next (let t := (s.received ctl e).setLane n fun l => { l with dc := { l.dc with state := field bs 0 1 % 16, seqEcho := bs.getD 1 0, vOut := BitVec.ofNat 16 (field bs 2 2), iOut := BitVec.ofNat 16 (field bs 4 2), faultCode := bs.getD 6 0, temp := bs.getD 7 0 } };
        State.finish s ((t.arm .tMod n.val (t.pf (0x2060 + 0x400 * ctl.val) 5 8 * ticksPerMs)).modOffChange n (field bs 0 1 == 0 || field bs 0 1 == 1)))) ∧
  (∀ (s : State) (ctl : Fin 4) (e : Nat),
    s.pf (0x2060 + 0x400 * ctl.val) 0 1 ≠ 0 →
    s.pmcan[ctl].estate ≠ 2 →
    256 ≤ s.pmcan[ctl].tec.toNat + 8 * e →
    exec (.pmcanBusOff ctl e) s =
      .next (let t := (s.draw 256).2;
        let t : State := { t with pmcan := t.pmcan.set ctl { t.pmcan[ctl] with tec := BitVec.ofNat 8 (s.draw 256).1, estate := 2 } };
        State.finish s (((t.setErr (.pmcan ctl) 1).setErr (.pmcan ctl) 0).forLanes fun t n => if laneCtl n == ctl && t.laneEn n && t.isDc n then (t.note 4 n.val 3).moduleBad n 9 else t))) ∧
  (∀ (s : State) (ctl : Fin 4),
    s.pmcan[ctl].estate = 2 →
    exec (.pmcanBusOffRecovery ctl) s = .next ({ s with pmcan := s.pmcan.set ctl Pmcan.reset }))

/-- A taken lane command of single scope, of a gang, or of a batch has on its lanes the effect that R153 gives it, and is answered or set in
flight. -/
def Obligations.LaneCommandsComplete : Prop :=
  (∀ (s : State) (d : Desc) (n : Fin 32),
    Ready s 0 d →
    Plain d →
    d.scope = 0 →
    d.len = 0 →
    dbyte d 24 ≤ 1 →
    d.unit.toNat = n.val →
    (taken s 0 d).lanes[n].st ≠ .disabled →
    exec (.laneAdmit d) s = .next (State.finish s (((taken s 0 d).setAdmit n (dbyte d 24 == 1)).answer 0 0x10 d stOk))) ∧
  (∀ (s : State) (d : Desc),
    Ready s 0 d →
    Plain d →
    d.scope = 1 →
    d.unit = 0 →
    d.len = 0 →
    dbyte d 24 ≤ 1 →
    (gangCheck 0x10 (maskUnits d.param0 0) (fun u => decide (u < 32)) (fun _ => false) (taken s 0 d).laneUsable = none) →
    exec (.laneAdmit d) s =
      .next (State.finish s (((maskUnits d.param0 0).foldl (fun t u => t.onLane u fun t n => t.setAdmit n (dbyte d 24 == 1)) (taken s 0 d)).answer 0 0x10 d stOk))) ∧
  (∀ (s : State) (d : Desc) (n : Fin 32),
    Ready s 0 d →
    Plain d →
    d.scope = 0 →
    d.len = 0 →
    d.unit.toNat = n.val →
    (taken s 0 d).limitOk n.val (dparam d 24 2) = true →
    ((taken s 0 d).setLimit n (dparam d 24 2)).1 = true →
    exec (.laneLimit d) s = .next (State.finish s (((taken s 0 d).setLimit n (dparam d 24 2)).2.answer 0 0x11 d stOk))) ∧
  (∀ (s : State) (d : Desc) (n : Fin 32),
    Ready s 0 d →
    Plain d →
    d.scope = 0 →
    d.len = 0 →
    d.unit.toNat = n.val →
    (taken s 0 d).limitOk n.val (dparam d 24 2) = true →
    ((taken s 0 d).setLimit n (dparam d 24 2)).1 = false →
    exec (.laneLimit d) s =
      .next (State.finish s (((taken s 0 d).setLimit n (dparam d 24 2)).2.launch 0 0x11 d false [n.val] [(n.val, (taken s 0 d).lanes[n].limit)]))) ∧
  (∀ (s : State) (d : Desc),
    Ready s 0 d →
    Plain d →
    d.scope = 1 →
    d.unit = 0 →
    d.len = 0 →
    (gangCheck 0x11 (maskUnits d.param0 0) (fun u => decide (u < 32)) (fun _ => false) (fun u => (taken s 0 d).limitOk u (dparam d 24 2)) = none) →
    exec (.laneLimit d) s =
      .next (State.finish s ((maskUnits d.param0 0).foldl (fun t u => t.onLane u fun t n => if (t.setLimit n (dparam d 24 2)).1 then (t.setLimit n (dparam d 24 2)).2.memberDone 0x11 u else (t.setLimit n (dparam d 24 2)).2) ((taken s 0 d).launch 0 0x11 d true (maskUnits d.param0 0) ((maskUnits d.param0 0).map fun u => (u, if h : u < 32 then (taken s 0 d).lanes[u].limit else 0)))))) ∧
  (∀ (s : State) (d : Desc),
    Ready s 0 d →
    Plain d →
    d.scope = 2 →
    d.unit ≠ 0 →
    d.len.toNat = 16 * d.unit.toNat →
    exec (.laneLimit d) s =
      .next (let b := runBatch (fun s u p => if s.limitOk u (p % 65536) then (stOk, s.onLane u fun s n => (s.setLimit n (p % 65536)).2) else (stBadUnit, s)) (unitEntries d) (taken s 0 d);
        State.finish s (b.2.endBatch 0x11 d b.1 b.2.limitWaits))) ∧
  (∀ (s : State) (d : Desc) (n : Fin 32),
    Ready s 0 d →
    Plain d →
    d.scope = 0 →
    d.len = 0 →
    d.param1 = 0 →
    d.unit.toNat = n.val →
    (taken s 0 d).stopOk n.val = true →
    exec (.laneStop d) s = .next (State.finish s (((taken s 0 d).launch 0 0x12 d false [n.val] []).stopRequest n 3))) ∧
  (∀ (s : State) (d : Desc),
    Ready s 0 d →
    Plain d →
    d.scope = 2 →
    d.unit ≠ 0 →
    d.len.toNat = 16 * d.unit.toNat →
    exec (.laneStop d) s =
      .next (let b := runBatch (fun s u _ => if s.stopOk u then (stOk, s.onLane u fun s n => s.stopRequest n 3) else (stBadUnit, s)) (unitEntries d) (taken s 0 d);
        State.finish s (b.2.endBatch 0x12 d b.1 fun u => b.2.laneUsable u && !b.2.stopDone u))) ∧
  (∀ (s : State) (d : Desc) (n : Fin 32),
    Ready s 0 d →
    Plain d →
    d.scope = 0 →
    d.len = 0 →
    d.unit.toNat = n.val →
    dbyte d 24 = 1 →
    (taken s 0 d).serviceOk true n.val = true →
    (taken s 0 d).lanes[n].st ≠ .unavailable →
    exec (.laneService d) s = .next (State.finish s (((taken s 0 d).enter n .unavailable 15).answer 0 0x13 d stOk))) ∧
  (∀ (s : State) (d : Desc) (n : Fin 32),
    Ready s 0 d →
    Plain d →
    d.scope = 0 →
    d.len = 0 →
    d.unit.toNat = n.val →
    dbyte d 24 = 0 →
    (taken s 0 d).lanes[n].st = .unavailable →
    exec (.laneService d) s = .next (State.finish s (((taken s 0 d).enter n .idle 15).answer 0 0x13 d stOk))) ∧
  (∀ (s : State) (d : Desc),
    Ready s 0 d →
    Plain d →
    d.scope = 1 →
    d.unit = 0 →
    d.len = 0 →
    dbyte d 24 = 0 →
    (gangCheck 0x13 (maskUnits d.param0 0) (fun u => decide (u < 32)) (fun _ => false) ((taken s 0 d).serviceOk false) = none) →
    exec (.laneService d) s =
      .next (State.finish s (((maskUnits d.param0 0).foldl (fun t u => t.onLane u fun t n => t.enter n .idle 15) (taken s 0 d)).answer 0 0x13 d stOk))) ∧
  (∀ (s : State) (d : Desc) (n : Fin 32),
    Ready s 0 d →
    Plain d →
    d.scope = 0 →
    d.len = 0 →
    d.param1 = 0 →
    d.unit.toNat = n.val →
    (taken s 0 d).lanes[n].st = .fault →
    exec (.laneClear d) s = .next (State.finish s (((taken s 0 d).enter n .idle 17).answer 0 0x14 d stOk))) ∧
  (∀ (s : State) (d : Desc),
    Ready s 0 d →
    Plain d →
    d.scope = 2 →
    d.unit ≠ 0 →
    d.len.toNat = 16 * d.unit.toNat →
    exec (.laneClear d) s =
      .next (let b := runBatch (fun s u _ => if s.clearOk u then (stOk, s.onLane u fun s n => s.enter n .idle 17) else (stBadUnit, s)) (unitEntries d) (taken s 0 d);
        State.finish s (b.2.endBatch 0x14 d b.1 fun _ => false)))

/-- Each SLAC message, matcher decision and association timer leads to the next state of Table 6-3 and R163 to R174 when its cause is present. -/
def Obligations.AssociationEventsComplete : Prop :=
  (∀ (s : State) (lane : Fin 32) (r : BitVec 64) (m : BitVec 48) (rx : PlcRx) (k : Nat) (t : State),
    s.laneEn lane = true →
    s.frameIn lane rx = (.taken, k, t) →
    (t.note 11 lane.val 0).runOf r m = none →
    (t.note 11 lane.val 0).link.runs.length < 32 →
    (t.note 11 lane.val 0).mayJoin lane = true →
    exec (.cmSlacParmReq lane r m rx) s =
      .next (let u : State := { t.note 11 lane.val 0 with link := (t.note 11 lane.val 0).link.openRun r m (t.note 11 lane.val 0).now lane.val };
        ((({ u with link := { u.link with runs := u.link.runs.map (fun (x : Run) => if x.runId == r && x.mac == m && !x.candidates.contains lane.val then { x with candidates := x.candidates ++ [lane.val] } else x) } } : State).mmeSend lane mParmCnf m r).assocTo lane .sounding))) ∧
  (∀ (s : State) (lane : Fin 32) (r : BitVec 64) (m : BitVec 48) (x : Run) (rx : PlcRx) (k : Nat) (t : State),
    s.laneEn lane = true →
    s.frameIn lane rx = (.taken, k, t) →
    (t.note 11 lane.val 0).runOf r m = some x →
    x.attenInd = false →
    exec (.cmStartAttenCharInd lane r m rx) s =
      .next ((((t.note 11 lane.val 0).setRun x.seq fun r => { r with attenInd := true }).arm .tMnbc x.seq ((t.note 11 lane.val 0).vlkTimer 0 16)))) ∧
  (∀ (s : State) (lane : Fin 32) (r : BitVec 64) (m : BitVec 48) (cd : Nat) (gs : List Nat) (x : Run) (rx : PlcRx) (k : Nat) (t : State),
    s.laneEn lane = true →
    s.frameIn lane rx = (.taken, k, t) →
    (t.note 11 lane.val cd).runOf r m = some x →
    exec (.cmMnbcSound lane r m cd rx gs) s = .next ((t.note 11 lane.val cd).soundIn x ⟨s.now, lane.val, cd, k != 0, gs⟩)) ∧
  (∀ (s : State) (x : Run) (det b own snd cnt : Nat) (ms : List Nat),
    s.link.runs.find? (·.seq == x.seq) = some x →
    x.decision = some (det, b, own, snd, cnt, ms) →
    exec (.matchDecision x.seq) s = .next (s.returnRun x det b own snd cnt ms)) ∧
  (∀ (s : State) (lane : Fin 32) (r : BitVec 64) (m : BitVec 48) (rx : PlcRx) (k : Nat) (t : State),
    s.laneEn lane = true →
    s.frameIn lane rx = (.taken, k, t) →
    s.link.lanes[lane].assoc = .waitRsp →
    s.link.lanes[lane].run = r →
    s.link.lanes[lane].evMac = m →
    exec (.cmAttenCharRsp lane r m rx) s =
      .next (((((t.note 11 lane.val 0).cancel .tMatchResp lane.val).assocTo lane .waitMatch).arm .tMatchSession lane.val ((t.note 11 lane.val 0).vlkTimer 1 16)))) ∧
  (∀ (s : State) (lane : Fin 32) (r : BitVec 64) (m : BitVec 48) (rx : PlcRx) (k : Nat) (t : State),
    s.laneEn lane = true →
    s.frameIn lane rx = (.taken, k, t) →
    s.link.lanes[lane].assoc = .waitMatch →
    s.link.lanes[lane].run = r →
    s.link.lanes[lane].evMac = m →
    s.keys.rngOk = true →
    exec (.cmSlacMatchReq lane r m rx) s =
      .next (let q := ((t.note 11 lane.val 0).draw (2 ^ 128)).1;
        let u := ((((t.note 11 lane.val 0).draw (2 ^ 128)).2).cancel .tMatchSession lane.val).setLink lane fun l => { l with nmk := q, nid := Config.nidOf q % 2 ^ 54 };
        let v := u.mmeSend lane mMatchCnf m r (leBytes 16 q ++ leBytes 7 (Config.nidOf q % 2 ^ 54));
        State.finish s ((v.assocTo lane .matched).arm .tSetup lane.val ((v.assocTo lane .matched).vlkTimer 2 0)))) ∧
  (∀ (s : State) (lane : Fin 32) (f st : Nat) (rx : PlcRx) (k : Nat) (t : State),
    s.laneEn lane = true →
    s.frameIn lane rx = (.taken, k, t) →
    s.link.lanes[lane].assoc = .matched →
    (t.note 11 lane.val 0).pf 0x3000 8 1 ≠ 0 →
    ((s.link.lanes[lane].toggles.filter fun x => decide (f ≤ x)).length = st) →
    exec (.cmValidateReq lane f st rx) s =
      .next (State.finish s ((t.note 11 lane.val 0).mmeSend lane mValidateCnf s.link.lanes[lane].evMac s.link.lanes[lane].run [BitVec.ofNat 8 rSuccess]))) ∧
  (∀ (s : State) (lane : Fin 32),
    s.link.lanes[lane].assoc = .matched →
    s.link.lanes[lane].setUp = true →
    exec (.avlnLost lane) s = .next (s.setLink lane fun l => { l with nmk := 0, nid := 0, tcp := false, tls := 0 })) ∧
  (∀ (s : State) (lane : Fin 32),
    s.link.lanes[lane].assoc = .matched →
    s.link.lanes[lane].setUp = false →
    exec (.avlnLost lane) s = .next (State.finish s (s.failAttempt lane))) ∧
  (∀ (s : State) (lane : Fin 32),
    s.link.lanes[lane].assoc = .matched →
    s.vlcfg lane 0 1 = 1 →
    s.link.lanes[lane].tcp = false →
    exec (.tcpConnect lane) s = .next (s.setLink lane fun l => { l with tcp := true })) ∧
  (∀ (s : State) (lane : Fin 32),
    s.link.lanes[lane].tcp = true →
    s.link.lanes[lane].assoc = .matched →
    s.link.lanes[lane].setUp = true →
    exec (.tcpClosedByVehicle lane) s = .next (s.setLink lane LinkLane.closeTcp)) ∧
  (∀ (s : State) (lane : Fin 32),
    s.link.lanes[lane].tcp = true →
    s.link.lanes[lane].assoc = .matched →
    s.link.lanes[lane].setUp = false →
    exec (.tcpClosedByVehicle lane) s = .next (State.finish s ((s.setLink lane LinkLane.closeTcp).failAttempt lane))) ∧
  (∀ (s : State) (lane : Fin 32) (su : Fin 4) (gr : Fin 3) (b : Nat) (cl : Option Bytes),
    s.linked lane = true →
    s.link.lanes[lane].tls = 0 →
    s.suiteOk su gr (s.link.trustAt b) = true →
    (∀ x ∈ cl, Config.chainVerify (trustRole (s.link.trustAt b) 1) x = true) →
    exec (.tlsHandshake lane su gr b cl false true) s =
      .next ((s.setLink lane fun l => { l with tls := if su.val < 2 then 1 else 2, mutualAuth := cl.isSome && decide (2 ≤ su.val) }).linkResult lane)) ∧
  (∀ (s : State) (lane : Fin 32),
    s.link.lanes[lane].assoc = .matched →
    s.vlcfg lane 0 1 ≠ 0 →
    s.pf 0x3000 3 1 = 1 →
    s.link.lanes[lane].phase = 0 →
    exec (.sdpRequest lane 0x00) s = .next (((s.note 11 lane.val kSdp).say lane kSdp rOk).phaseTo lane 1)) ∧
  (∀ (s : State) (lane : Fin 32),
    s.expired .tSlacInit lane.val = true →
    exec (.tSlacInitExpiry lane) s = .next (State.finish s ((s.expire .tSlacInit lane.val).failAttempt lane))) ∧
  (∀ (s : State) (lane : Fin 32),
    s.expired .tMatchSession lane.val = true →
    exec (.tMatchSessionExpiry lane) s = .next (State.finish s ((s.expire .tMatchSession lane.val).failAttempt lane))) ∧
  (∀ (s : State) (lane : Fin 32),
    s.expired .tSetup lane.val = true →
    exec (.tSetupExpiry lane) s = .next (State.finish s ((s.expire .tSetup lane.val).failAttempt lane))) ∧
  (∀ (s : State) (lane : Fin 32),
    s.expired .tMatchResp lane.val = true →
    s.link.lanes[lane].resends < 2 →
    exec (.tMatchRespExpiry lane) s =
      .next (((s.setLink lane fun l => { l with resends := l.resends + 1 }).attenSend lane).arm .tMatchResp lane.val (s.vlkTimer 1 0))) ∧
  (∀ (s : State) (lane : Fin 32),
    s.expired .tMatchResp lane.val = true →
    2 ≤ s.link.lanes[lane].resends →
    exec (.tMatchRespExpiry lane) s = .next (State.finish s ((s.expire .tMatchResp lane.val).failAttempt lane))) ∧
  (∀ (s : State) (run : Nat) (x : Timer),
    (s.timers.find? (fun t => t.isOne .tMnbc run 0 && decide (t.expiry ≤ s.now)) = some x) →
    exec (.tMnbcExpiry run) s = .next ((s.expire .tMnbc run).decideRun run x.key))

/-- A message of the dialogue that is well formed, schema-valid, in its phase and of its session has the effect that R178 to R184 give it, and
is answered. -/
def Obligations.DialogueComplete : Prop :=
  (∀ (s : State) (lane : Fin 32) (m : V2g) (es : List (Fin 4 × Nat)) (p : Nat),
    Heard s lane m →
    s.link.lanes[lane].phase ≤ 2 →
    (heard s lane kSap).chooseProto lane es = some p →
    exec (.supportedAppProtocolReq lane m es) s =
      .next (let t := heard s lane kSap;
        State.finish s ((((t.setLink lane fun l => { l with proto := p }).linkResult lane).phaseTo lane 2).reply lane kSap rOk m.raw))) ∧
  (∀ (s : State) (lane : Fin 32) (m : V2g),
    Heard s lane m →
    (s.link.lanes[lane].phase = 2 ∨ s.link.lanes[lane].phase = 12) →
    s.link.lanes[lane].proto ≠ 0 →
    exec (.sessionSetupReq lane m) s =
      .next (let t := heard s lane kSetup;
        let u := (t.draw (2 ^ 64 - 1)).2;
        State.finish s ((((u.cancel .tSetup lane.val).setLink lane fun l => { l with session := (t.draw (2 ^ 64 - 1)).1 + 1, setUp := true }).phaseTo lane 2).reply lane kSetup rNewSession m.raw))) ∧
  (∀ (s : State) (lane : Fin 32) (m : V2g) (bpt dy : Bool),
    Heard s lane m →
    m.session = s.link.lanes[lane].session →
    s.link.lanes[lane].setUp = true →
    (s.link.lanes[lane].phase = 2 ∨ s.link.lanes[lane].phase = 3) →
    exec (.serviceDiscoveryReq lane m bpt dy) s =
      .next (let t := heard s lane kService;
        let u := (t.offerAc lane).setLink lane fun l => { l with bpt := bpt && l.proto == 3 && t.vlcfg lane 1 1 == 1, dynamic := dy && l.proto == 3 };
        State.finish s ((u.phaseTo lane 3).reply lane kService rOk m.raw (u.offerBody lane)))) ∧
  (∀ (s : State) (lane : Fin 32) (m : V2g) (pnc : Bool) (em ch sg : List (BitVec 8)),
    Heard s lane m →
    m.session = s.link.lanes[lane].session →
    (s.link.lanes[lane].phase = 3 ∨ s.link.lanes[lane].phase = 4) →
    s.link.lanes[lane].authDone = true →
    exec (.authorizationReq lane m pnc em ch sg) s =
      .next (let t := heard s lane kAuth; State.finish s ((t.phaseTo lane 4).reply lane kAuth rOk m.raw))) ∧
  (∀ (s : State) (lane : Fin 32) (m : V2g) (em ch sg : List (BitVec 8)),
    Heard s lane m →
    m.session = s.link.lanes[lane].session →
    (s.link.lanes[lane].phase = 3 ∨ s.link.lanes[lane].phase = 4) →
    s.link.lanes[lane].authDone = false →
    s.link.lanes[lane].auth = 0 →
    ((heard s lane kAuth).phaseTo lane 4).eimOk lane = true →
    exec (.authorizationReq lane m false em ch sg) s =
      .next (let t := heard s lane kAuth;
        State.finish s ((((t.phaseTo lane 4).setLink lane fun l => { l with auth := 1 }).linkResult lane).reply lane kAuth rOngoing m.raw))) ∧
  (∀ (s : State) (lane : Fin 32) (m : V2g) (vm im ir : Nat),
    Heard s lane m →
    m.session = s.link.lanes[lane].session →
    (s.link.lanes[lane].phase = 5 ∨ (s.link.lanes[lane].phase = 4 ∧ s.link.lanes[lane].authDone = true)) →
    s.isDc lane = false →
    exec (.chargeParameterReq lane m true vm im ir) s =
      .next (let t := heard s lane kParam;
        let u := (t.offerAc lane).offerTuples lane;
        State.finish s ((u.phaseTo lane 5).reply lane kParam rOk m.raw (u.offerBody lane ++ [BitVec.ofNat 8 u.link.lanes[lane].tuples])))) ∧
  (∀ (s : State) (lane : Fin 32) (m : V2g) (vm im ir : Nat),
    Heard s lane m →
    m.session = s.link.lanes[lane].session →
    s.link.lanes[lane].phase = 5 →
    s.isDc lane = true →
    exec (.chargeParameterReq lane m true vm im ir) s =
      .next (let t := heard s lane kParam;
        let u := ((t.setLane lane fun k => { k with dc := { k.dc with want := { k.dc.want with vTgt := min vm (t.lanePf lane 0x10 8 12 * 10), iLim := min im (t.lanePf lane 0x10 20 12 * 10), iRev := if t.link.lanes[lane].bpt then min ir (t.lanePf lane 0x10 20 12 * 10) else 0 } } }).offerAc lane).offerTuples lane;
        State.finish s ((u.phaseTo lane 5).reply lane kParam rOk m.raw (u.offerBody lane ++ [BitVec.ofNat 8 u.link.lanes[lane].tuples])))) ∧
  (∀ (s : State) (lane : Fin 32) (m : V2g),
    Heard s lane m →
    m.session = s.link.lanes[lane].session →
    s.isDc lane = true →
    s.link.lanes[lane].phase = 5 →
    s.lanes[lane].st = .energised →
    exec (.cableCheckReq lane m) s =
      .next (let t := heard s lane kCable;
        State.finish s ((((((t.wantSet lane fun w => { w with mode := 4 }).setLink lane fun l => { l with cable := some s.now, cableClass := 0 }).phaseTo lane 6).arm .tCable lane.val (s.vlkTimer 4 16))).reply lane kCable rOngoing m.raw))) ∧
  (∀ (s : State) (lane : Fin 32) (m : V2g),
    Heard s lane m →
    m.session = s.link.lanes[lane].session →
    s.isDc lane = true →
    s.link.lanes[lane].phase = 6 →
    s.link.lanes[lane].cableClass = 1 →
    exec (.cableCheckReq lane m) s = .next (let t := heard s lane kCable; State.finish s (t.reply lane kCable rOk m.raw))) ∧
  (∀ (s : State) (lane : Fin 32) (m : V2g) (v i : Nat),
    Heard s lane m →
    m.session = s.link.lanes[lane].session →
    s.isDc lane = true →
    (s.link.lanes[lane].phase = 7 ∨ (s.link.lanes[lane].phase = 6 ∧ s.link.lanes[lane].cableClass = 1)) →
    exec (.prechargeReq lane m v i) s =
      .next (let t := heard s lane kPre;
        State.finish s (((t.wantSet lane fun w => { w with mode := 2, vTgt := v, iLim := i }).phaseTo lane 7).reply lane kPre rOk m.raw))) ∧
  (∀ (s : State) (lane : Fin 32) (m : V2g) (tu : Nat),
    Heard s lane m →
    m.session = s.link.lanes[lane].session →
    (s.link.lanes[lane].phase = 8 ∨ s.link.lanes[lane].phase = (if s.isDc lane = true ∧ s.link.lanes[lane].reneg = false then 7 else 5)) →
    (s.link.lanes[lane].proto ≠ 2 ∨ (1 ≤ tu ∧ tu ≤ s.link.lanes[lane].tuples)) →
    exec (.powerDeliveryReq lane m 0 tu) s =
      .next (let t := heard s lane kPower;
        let u := ((t.setLink lane fun l => { l with reneg := false }).phaseTo lane 8).reply lane kPower rOk m.raw;
        State.finish s (if u.isDc lane then u.wantSet lane fun w => { w with mode := 3 } else if u.pilotValid lane then u else u.arm .tCpstate lane.val (u.vlkTimer 4 0)))) ∧
  (∀ (s : State) (lane : Fin 32) (m : V2g) (tu : Nat),
    Heard s lane m →
    m.session = s.link.lanes[lane].session →
    5 ≤ s.link.lanes[lane].phase →
    s.link.lanes[lane].phase ≤ 9 →
    exec (.powerDeliveryReq lane m 1 tu) s =
      .next (let t := heard s lane kPower; State.finish s (((t.phaseTo lane 10).reply lane kPower rOk m.raw).linkStop lane 0))) ∧
  (∀ (s : State) (lane : Fin 32) (m : V2g) (tu : Nat),
    Heard s lane m →
    m.session = s.link.lanes[lane].session →
    s.link.lanes[lane].proto = 2 →
    (s.link.lanes[lane].phase = 8 ∨ s.link.lanes[lane].phase = 9) →
    exec (.powerDeliveryReq lane m 2 tu) s =
      .next (let t := heard s lane kPower; State.finish s (((t.setLink lane fun l => { l with reneg := true }).phaseTo lane 5).reply lane kPower rOk m.raw))) ∧
  (∀ (s : State) (lane : Fin 32) (m : V2g) (v i r p : Nat),
    Heard s lane m →
    m.session = s.link.lanes[lane].session →
    s.isDc lane = true →
    (s.link.lanes[lane].phase = 8 ∨ s.link.lanes[lane].phase = 9) →
    exec (.currentDemandReq lane m true v i r p none) s =
      .next (let t := heard s lane kDemand;
        State.finish s (((t.wantSet lane fun w => { w with vTgt := v, iLim := i, iRev := if s.link.lanes[lane].bpt then r else 0, pLim := p }).phaseTo lane 9).reply lane kDemand rOk m.raw))) ∧
  (∀ (s : State) (lane : Fin 32) (m : V2g) (v i r p : Nat),
    Heard s lane m →
    m.session = s.link.lanes[lane].session →
    s.isDc lane = false →
    (s.link.lanes[lane].phase = 8 ∨ s.link.lanes[lane].phase = 9) →
    exec (.currentDemandReq lane m true v i r p none) s =
      .next (let t := heard s lane kDemand; State.finish s ((t.phaseTo lane 9).reply lane kDemand rOk m.raw))) ∧
  (∀ (s : State) (lane : Fin 32) (m : V2g) (pause : Bool),
    Heard s lane m →
    m.session = s.link.lanes[lane].session →
    s.link.lanes[lane].setUp = true →
    s.link.lanes[lane].phase ≠ 12 →
    exec (.sessionStopReq lane m pause) s =
      .next (let t := heard s lane kStop;
        let u := ((t.setLink lane fun l => { l with oldSession := if pause then l.session else 0 }).phaseTo lane 12).reply lane kStop rOk m.raw;
        State.finish s (if u.lanes[lane].st == .ended then u else u.linkStop lane 0))) ∧
  (∀ (s : State) (lane : Fin 32) (m : V2g) (up : Bool) (body : List (BitVec 8)),
    Heard s lane m →
    m.session = s.link.lanes[lane].session →
    2 ≤ s.link.lanes[lane].proto →
    (s.link.lanes[lane].phase = 3 ∨ s.link.lanes[lane].phase = 4) →
    s.link.lanes[lane].relay = none →
    exec (.certificateReq lane m up body) s =
      .next (let t := heard s lane kCert;
        let u := ({ t with link := { t.link with relaySeq := (t.link.relaySeq + 1) % 2 ^ 32 } } : State).setLink lane fun l => { l with relay := some ((t.link.relaySeq + 1) % 2 ^ 32, if up then 2 else 1), lastReq := m.raw };
        State.finish s ((u.emit (laneRing lane) 0x15 lane.val (if up then 2 else 1) ((t.link.relaySeq + 1) % 2 ^ 32) body).arm .tHost lane.val (u.vlkTimer 3 16)))) ∧
  (∀ (s : State) (lane : Fin 32) (x : Nat),
    s.link.lanes[lane].overFrom = some x →
    s.isDc lane = false →
    x + 5000 * ticksPerMs ≤ s.now →
    exec (.acOverdrawViolation lane) s =
      .next (State.finish s (((s.setLink lane fun l => { l with overFrom := none }).violation lane 12 0 []).linkStop lane 2))) ∧
  (∀ (s : State) (lane : Fin 32),
    s.expired .tSeq lane.val = true →
    exec (.tSeqExpiry lane) s = .next (State.finish s (((s.expire .tSeq lane.val)).linkStop lane 3 6))) ∧
  (∀ (s : State) (lane : Fin 32),
    s.expired .tCpstate lane.val = true →
    exec (.tCpstateExpiry lane) s = .next (State.finish s (((s.expire .tCpstate lane.val)).linkStop lane 3 9))) ∧
  (∀ (s : State) (lane : Fin 32),
    s.expired .tAuth lane.val = true →
    exec (.tAuthExpiry lane) s = .next (State.finish s (((s.expire .tAuth lane.val).say lane kAuth rFailed).linkStop lane 3 7))) ∧
  (∀ (s : State) (lane : Fin 32),
    s.expired .tCable lane.val = true →
    exec (.tCableExpiry lane) s = .next (State.finish s (((s.expire .tCable lane.val).say lane kCable rFailed).linkStop lane 3 10))) ∧
  (∀ (s : State) (lane : Fin 32),
    s.expired .tHost lane.val = true →
    exec (.tHostExpiry lane) s =
      .next (let t := ((s.expire .tHost lane.val).say lane kCert rFailed).setLink lane fun l => { l with relay := none, expiredRelays := match l.relay with | some (id, _) => l.expiredRelays ++ [id] | none => l.expiredRelays };
        t.arm .tSeq lane.val (t.vlkTimer 2 16)))

/-- A taken command of the vehicle link has the effect that R175, R183, R184 and R188 give it, and is answered or set in flight. -/
def Obligations.LinkCommandsComplete : Prop :=
  (∀ (s : State) (d : Desc),
    Ready s 0 d →
    Plain d →
    d.scope = 0 →
    d.len.toNat = 0 →
    d.unit = 0 →
    s.link.survey = none →
    (taken s 0 d).surveyDisturbed = false →
    exec (.vlkXtalkSurvey d) s =
      .next (({ taken s 0 d with link := { s.link with survey := some ⟨s.now⟩ } } : State).launch 0 0x30 d false [] [])) ∧
  (∀ (s : State) (table : List Nat) (v : Survey),
    s.link.survey = some v →
    v.started + s.enabledLanes.length * 983040 ≤ s.now →
    exec (.xtalkSurveyComplete table) s =
      .next (let xt := (List.finRange 32).flatMap fun i => (List.finRange 32).map fun j => if i == j then 0 else if s.laneEn i && s.laneEn j then min (table.getD (32 * i.val + j.val) 255) 255 else 255;
        let t : State := { s with link := { s.link with survey := none }, nv := { s.nv with links := { s.nv.links with xt := some xt } } };
        (match t.flights.find? (·.opcode == 0x30) with | some f => t.settleFlight f stOk 0 (s.enabledLanes.length * (s.enabledLanes.length - 1)) | none => t))) ∧
  (∀ (s : State) (d : Desc) (n : Fin 32),
    Ready s 0 d →
    Plain d →
    d.scope = 0 →
    d.len.toNat ≤ 16777216 →
    1 ≤ d.len.toNat →
    d.len.toNat ≤ 64 →
    unitLane d = some n →
    (taken s 0 d).eimReady n = true →
    exec (.vlkEimId d) s =
      .next (let t := (taken s 0 d).setLink n fun l => { l with identPending := true, identity := d.payload.take 64 };
        ((t.emit (laneRing n) 0x13 n.val 1 (d.payload.take 64).length (d.payload.take 64)).launch 0 0x31 d false [n.val] []))) ∧
  (∀ (s : State) (d : Desc) (es : List (Nat × Bytes)),
    Ready s 0 d →
    Plain d →
    d.scope = 0 →
    d.len.toNat ≤ 16777216 →
    d.unit = 0 →
    trustEntries (d.payload.length + 1) d.payload = some es →
    exec (.vlkTrustLoad d) s =
      .next (({ taken s 0 d with link := { s.link with trust := es, trustBefore := s.link.trust, trustFrom := s.now } } : State).answer 0 0x32 d stOk)) ∧
  (∀ (s : State) (d : Desc) (n : Fin 32) (k : Nat),
    Ready s 0 d →
    Plain d →
    d.scope = 0 →
    d.len.toNat ≤ 16777216 →
    unitLane d = some n →
    s.link.lanes[n].relay = some (dparam d 24 4, k) →
    exec (.vlkRelayAnswer d) s =
      .next ((((((taken s 0 d).cancel .tHost n.val).say n kCert rOk d.payload).setLink n fun l => { l with relay := none }).arm .tSeq n.val (s.vlkTimer 2 16)).answer 0 0x33 d stOk))

/-- Each step S0 to S9 of a field session, each collapse and each token timer leads to the next state that R192 to R210 give when its cause is
present. -/
def Obligations.TokenEventsComplete : Prop :=
  (∀ (s : State) (r : Fin 4) (a : Nat),
    s.tok.readers[r].step = none →
    s.clocks.ok.getLsbD 2 = true →
    s.tok.readers[r].fieldOff + ticksPerMs ≤ s.now →
    s.nextAntenna r = some a →
    exec (.antennaPoll r true) s =
      .next ((s.setReader r fun x => { x with antenna := a, lastPolled := a, field := true, step := some 0, sessions := x.sessions + 1, purseId := 0, ident := [], code := 0, prim := Purse.reset, back := Purse.reset, n := 0, t := 0, g := 0, hub := 0, killHit := false, awaiting := false, refuse := 0, written := false, committed := false, cmdCtr := 0, sent := [], rfErrs := 0 }).arm .tFsess r.val (s.tokTimer 1 16))) ∧
  (∀ (s : State) (r : Fin 4) (a : Nat),
    s.tok.readers[r].step = none →
    s.clocks.ok.getLsbD 2 = true →
    s.tok.readers[r].fieldOff + ticksPerMs ≤ s.now →
    s.nextAntenna r = some a →
    exec (.antennaPoll r false) s = .next (s.setReader r fun x => { x with antenna := a, lastPolled := a, field := false, fieldOff := s.now })) ∧
  (∀ (s : State) (r : Fin 4) (us : List Bytes) (u : Bytes),
    s.tok.readers[r].step = some 0 →
    inventory us = [u] →
    exec (.inventoryComplete r us) s =
      .next (let t := s.note 10 32 r.val; (t.draw (256 ^ 32)).2.setReader r fun x => { x with step := some 1, uid := u, rnd := leBytes 32 (t.draw (256 ^ 32)).1 })) ∧
  (∀ (s : State) (r : Fin 4) (us : List Bytes),
    s.tok.readers[r].step = some 0 →
    2 ≤ (inventory us).length →
    exec (.inventoryComplete r us) s =
      .next ((((s.note 10 32 r.val).setReader r fun x => { x with multi := min (x.multi + 1) 65535 }).tokResult r 0x06 (min (inventory us).length 255) 0).tapOver r)) ∧
  (∀ (s : State) (r : Fin 4) (p q : TokAuth) (a : TokAns),
    s.tok.readers[r].step = some 1 →
    p.status ≠ 0x7F →
    (authPass 0 (s.keyVal 1) (s.tok.readers[r].rnd.take 16) p).2 ≠ none →
    exec (.authenticationComplete r p q a) s =
      .next (purseNamed s r q (((s.note 10 32 r.val).passDone r (authPass 0 (s.keyVal 1) (s.tok.readers[r].rnd.take 16) p)).exchange r 0x20 [0] a))) ∧
  (∀ (s : State) (r : Fin 4) (p q : TokAuth) (a : TokAns),
    s.tok.readers[r].step = some 1 →
    p.status ≠ 0x7F →
    (authPass 0 (s.keyVal 1) (s.tok.readers[r].rnd.take 16) p).2 = none →
    exec (.authenticationComplete r p q a) s =
      .next (((s.note 10 32 r.val).passDone r (authPass 0 (s.keyVal 1) (s.tok.readers[r].rnd.take 16) p)).answeredWrong r)) ∧
  (∀ (s : State) (r : Fin 4) (b1 b2 b3 : TokAns) (c1 c2 c3 : Bytes),
    s.tok.readers[r].step = some 2 →
    s.tok.readers[r].killHit = false →
    s.lanes[s.readerLane r].st = .connected →
    s.tok.readers[r].held = none →
    s.tok.readers[r].hear b1 = .data c1 →
    ((s.exchange r 0x20 [1] b1).2.exchange r 0x20 [2] b2).1 = .data c2 →
    (((s.exchange r 0x20 [1] b1).2.exchange r 0x20 [2] b2).2.exchange r 0x20 [3] b3).1 = .data c3 →
    exec (.slotsResolved r b1 b2 b3) s =
      .next (let v := (resolveSlots (s.readSlot s.tok.readers[r].purseId 2 c2) (s.readSlot s.tok.readers[r].purseId 3 c3)).2.getD Purse.reset;
        let k := (resolveSlots (s.readSlot s.tok.readers[r].purseId 2 c2) (s.readSlot s.tok.readers[r].purseId 3 c3)).1;
        let t := ((((((s.exchange r 0x20 [1] b1).2.exchange r 0x20 [2] b2).2.exchange r 0x20 [3] b3).2.note 10 32 r.val).setReader r fun x => { x with ident := stripZeros (c1.take 16), prim := s.readSlot x.purseId 2 c2, back := s.readSlot x.purseId 3 c3, code := k, n := v.seq, t := v.tally, hub := v.hub }).tokResult r 0x01 k v.tally);
        if 4 ≤ k then t.refuseTap r (k - 2) else t.reserve r)) ∧
  (∀ (s : State) (r : Fin 4) (a : TokAns) (b : Bytes),
    s.tok.readers[r].step = some 2 →
    s.tok.readers[r].killHit = true →
    a.status ≠ 0x7F →
    (s.note 10 32 r.val).tok.readers[r].hear a = .data b →
    exec (.killResponse r a) s =
      .next (((s.note 10 32 r.val).exchange r 0x30 (leBytes 8 (killMac ((s.purseKey s.tok.readers[r].purseId).getD 0) s.tok.readers[r].purseId)) a).2.killedTap r 0)) ∧
  (∀ (s : State) (r : Fin 4) (a : Announce) (t : State) (e : Grant),
    s.takeAnnounce 0 (readerEntry r).val = some (a, t) →
    t.frozen = false →
    t.tok.readers[r].awaiting = true →
    a.reason = 0 →
    t.ddrDown = false →
    t.grant (readerEntry r) = some e →
    e.stopped = false →
    e.revoked = false →
    t.tok.readers[r].t + e.g ≤ 2 ^ 40 - 1 →
    exec (.reservationAnswer r) s =
      .next (let u := (((t.note 9 32 r.val).decisionResult (readerEntry r).val 0 a.about (some e)).cancel .tProv r.val).setReader r fun y => { y with g := e.g };
        (u.tokResult r 0x02 0 e.g).repairOr r 0)) ∧
  (∀ (s : State) (r : Fin 4) (a b : TokAns) (x y : Bytes),
    s.tok.readers[r].step = some 4 →
    s.tok.readers[r].hear a = .data x →
    ((s.exchange r 0x21 (2 :: s.repairBlock r) a).2.exchange r 0x20 [2] b).1 = .data y →
    exec (.repairComplete r a b) s =
      .next (let t := (((s.exchange r 0x21 (2 :: s.repairBlock r) a).2.exchange r 0x20 [2] b).2.note 10 32 r.val).setReader r fun x => { x with prim := x.back };
        if y = s.repairBlock r then ((t.tokResult r 0x0A t.tok.readers[r].code t.tok.readers[r].t).afterRepair r) else s)) ∧
  (∀ (s : State) (r : Fin 4) (a : TokAns) (x : Bytes),
    s.tok.readers[r].step = some 5 →
    s.tok.readers[r].hear a = .data x →
    exec (.backupWritten r a) s =
      .next (((s.exchange r 0x21 (3 :: s.newBlock r 3) a).2.note 10 32 r.val).setReader r fun x => { x with step := some 6 })) ∧
  (∀ (s : State) (r : Fin 4) (a : TokAns) (x : Bytes),
    s.tok.readers[r].step = some 6 →
    s.tok.readers[r].hear a = .data x →
    exec (.backupVerified r a) s =
      .next (let t := (s.exchange r 0x20 [3] a).2.note 10 32 r.val;
        if x = s.newBlock r 3 then (if t.lanes[t.readerLane r].st = .connected then t.setReader r fun x => { x with step := some 7 } else (((t.withdrawTap r true).tokResult r 0x05 1 (t.tok.readers[r].t + t.tok.readers[r].g)).tapOver r)) else s)) ∧
  (∀ (s : State) (r : Fin 4),
    s.tok.readers[r].step = some 7 →
    s.tok.readers[r].committed = false →
    s.frozen = false →
    exec (.purseCommit r) s = .next (s.commitTap r)) ∧
  (∀ (s : State) (r : Fin 4) (a : TokAns) (x : Bytes),
    s.tok.readers[r].step = some 8 →
    s.tok.readers[r].hear a = .data x →
    exec (.primaryWritten r a) s =
      .next (((s.exchange r 0x21 (2 :: s.newBlock r 2) a).2.note 10 32 r.val).setReader r fun x => { x with step := some 9 })) ∧
  (∀ (s : State) (r : Fin 4) (a : TokAns) (x : Bytes),
    s.tok.readers[r].step = some 9 →
    s.tok.readers[r].hear a = .data x →
    exec (.primaryVerified r a) s =
      .next (if x = s.newBlock r 2 then (((((s.exchange r 0x20 [2] a).2.note 10 32 r.val).tokResult r 0x03 0 (s.tok.readers[r].t + s.tok.readers[r].g)).repeatGuard r).tapOver r) else s)) ∧
  (∀ (s : State) (r : Fin 4) (k : Nat),
    s.tok.readers[r].step = some k →
    exec (.fieldCollapse r false) s = .next ((s.note 10 32 r.val).collapse r)) ∧
  (∀ (s : State) (r : Fin 4) (k : Nat),
    s.tok.readers[r].step = some k →
    2 ≤ s.tok.readers[r].rfErrs →
    exec (.fieldCollapse r true) s = .next (((s.note 10 32 r.val).dropUncommitted r).refuseTap r 7)) ∧
  (∀ (s : State) (r : Fin 4) (k : Nat),
    s.tok.readers[r].step = some k →
    s.tok.readers[r].rfErrs < 2 →
    exec (.fieldCollapse r true) s = .next (s.setReader r fun x => { x with rfErrs := x.rfErrs + 1 })) ∧
  (∀ (s : State) (r : Fin 4),
    s.expired .tProv r.val = true →
    s.tok.readers[r].awaiting = true →
    exec (.tProvExpiry r) s = .next (((s.expire .tProv r.val).withdrawTap r false).repairOr r 8)) ∧
  (∀ (s : State) (r : Fin 4),
    s.expired .tFsess r.val = true →
    exec (.tFsessExpiry r) s = .next ((s.expire .tFsess r.val).collapse r)) ∧
  (∀ (s : State) (r : Fin 4) (h : Held),
    s.expired .tRetap r.val = true →
    s.tok.readers[r].held = some h →
    exec (.tRetapExpiry r) s = .next ((s.expire .tRetap r.val).dropHeld r h true)) ∧
  (∀ (s : State) (lane : Fin 32) (p : Nat),
    s.expired .tRepeat lane.val p = true →
    exec (.tRepeatExpiry lane p) s = .next (s.expire .tRepeat lane.val p)) ∧
  (∀ (s : State) (d : Desc),
    Ready s 0 d →
    Plain d →
    d.scope = 0 →
    d.len.toNat ≤ 16777216 →
    d.len.toNat % 8 = 0 →
    d.len.toNat ≤ 32768 →
    d.unit = 0 →
    exec (.tokKillList d) s =
      .next (({ taken s 0 d with nv := { s.nv with links := { s.nv.links with kill := ids8 (d.len.toNat / 8) d.payload } } } : State).answer 0 0x40 d stOk)) ∧
  (∀ (s : State) (d : Desc) (n : Fin 32) (ma : Nat),
    Ready s 0 d →
    Plain d →
    d.scope = 0 →
    d.len.toNat = 0 →
    unitLane d = some n →
    s.tok.readers[n.val / 8].step = none →
    20 ≤ ma →
    ma < 300 →
    exec (.tokAntTest d ma) s = .next ((taken s 0 d).answer 0 0x41 d stOk 0 (min ma 65535))) ∧
  (∀ (s : State) (d : Desc) (n : Fin 32) (ma : Nat),
    Ready s 0 d →
    Plain d →
    d.scope = 0 →
    d.len.toNat = 0 →
    unitLane d = some n →
    s.tok.readers[n.val / 8].step = none →
    ma < 20 →
    exec (.tokAntTest d ma) s = .next (((taken s 0 d).setErr .tok 1).answer 0 0x41 d stOk 0 (ma + 65536))) ∧
  (∀ (s : State) (d : Desc) (n : Fin 32) (ma : Nat),
    Ready s 0 d →
    Plain d →
    d.scope = 0 →
    d.len.toNat = 0 →
    unitLane d = some n →
    s.tok.readers[n.val / 8].step = none →
    300 ≤ ma →
    exec (.tokAntTest d ma) s = .next (((taken s 0 d).setErr .tok 2).answer 0 0x41 d stOk 0 (min ma 65535 + 131072)))

/-- Each event of the account ledger whose cause is present leads to the next state that R224 to R244 give. -/
def Obligations.LedgerEventsComplete : Prop :=
  (∀ (s : State) (entry : Fin 36) (n : Fin 32) (ident : Bytes) (method : Fin 4) (u : List Nat),
    entryLane entry = some n →
    s.submitted entry.val = false →
    s.frozen = false →
    s.grant entry = none →
    s.link.lanes[n].identPending = true →
    s.link.lanes[n].identity = ident →
    (method.val = 1 ∨ method.val = 2) →
    s.eimUnreleased n = false →
    exec (.ledgerAuthorise entry ident method 0 0 0 u) s =
      .next (let t := (s.settleAll 0x31 n.val stOk 0).note 11 n.val 0;
        let t := if !t.armed .tAuth n.val then t.arm .tAuth n.val (s.vlkTimer 3 0) else t;
        t.requestAuth ⟨entry.val, ident, method.val, 0, 0, 0, u⟩)) ∧
  (∀ (s : State) (entry : Fin 36) (r : Reader) (u : List Nat),
    entryLane entry = none →
    s.submitted entry.val = false →
    s.frozen = false →
    s.tok.readers[entryReader entry] = r →
    r.awaiting = true →
    exec (.ledgerAuthorise entry r.ident 3 r.t r.purseId r.n u) s =
      .next ((s.note 10 32 (entryReader entry).val).requestAuth ⟨entry.val, r.ident, 3, r.t, r.purseId, r.n, u⟩)) ∧
  (∀ (s : State) (entry : Fin 36) (n : Fin 32) (a : Announce) (x : Grant) (t : State),
    entryLane entry = some n →
    s.takeAnnounce 0 entry.val = some (a, t) →
    t.frozen = false →
    a.reason = 0 →
    (t.note 9 n.val 0).ddrDown = false →
    (t.note 9 n.val 0).grant entry = some x →
    x.stopped = false →
    x.revoked = false →
    t.lanes[n].st = .connected →
    exec (.ledgerDecisionAnnounce entry) s =
      .next (State.finish s ((((((t.note 9 n.val 0).setGrant entry (some { x with announced := true })).decisionResult n.val 0 a.about (some { x with announced := true })).starts n (if x.method == 3 then some x.purseId else none)).grantLane n).linkDecision n true))) ∧
  (∀ (s : State) (entry : Fin 36) (n : Fin 32) (a : Announce) (t : State),
    entryLane entry = some n →
    s.takeAnnounce 0 entry.val = some (a, t) →
    t.frozen = false →
    a.reason ≠ 0 →
    (t.note 9 n.val 0).ddrDown = false →
    exec (.ledgerDecisionAnnounce entry) s =
      .next (State.finish s (((t.note 9 n.val 0).decisionResult n.val a.reason a.about none).linkDecision n false))) ∧
  (∀ (s : State) (lane : Fin 32) (a : Announce) (t : State),
    s.takeAnnounce 1 lane.val = some (a, t) →
    t.frozen = false →
    exec (.ledgerRevokeAnnounce lane) s =
      .next (State.finish s (((t.note 9 lane.val 1).decisionResult lane.val 9 a.about (t.grant (laneEntry lane))).revokeLane lane))) ∧
  (∀ (s : State) (lane : Fin 32) (a : Announce) (t : State),
    s.takeAnnounce 2 lane.val = some (a, t) →
    t.frozen = false →
    exec (.ledgerStopAnnounce lane) s = .next (State.finish s ((t.note 9 lane.val 2).stopRequest lane 5))) ∧
  (∀ (s : State),
    s.abc.ddrUnavailable = false →
    exec (.ddrAlert false) s = .next (State.finish s (((s.setAbc fun a => { a with ddrUnavailable := true }).guaranteeLost 4).setErr .mgt 7))) ∧
  (∀ (s : State),
    s.onMultiple (s.pf 0x5014 0 12 * ticksPerS) = true →
    s.frozen = false →
    exec (.tallyReport) s = .next (s.abc.debited.foldl (fun s slot => s.tally slot 0 none) s)) ∧
  (∀ (s : State),
    s.onMultiple (s.pf 0x5014 12 14 * ticksPerMs) = true →
    s.abc.ready = true →
    s.frozen = false →
    exec (.pendingFlush) s = .next (s.flush)) ∧
  (∀ (s : State),
    s.frozen = false →
    exec (.journalBlockComplete) s = .next (State.finish s s.blockDone)) ∧
  (∀ (s : State),
    (s.onMultiple (s.pf 0x5018 0 8 * 3600 * ticksPerS) = true ∨ s.journalFull = true) →
    s.abc.ready = true →
    s.abc.snap = none →
    s.frozen = false →
    exec (.snapshotStart) s = .next ((s.note 14 32 8).startSnapshot)) ∧
  (∀ (s : State) (k : SnapCopy) (bad u : List Nat),
    s.frozen = false →
    s.abc.snap = some k →
    s.flights = [] →
    s.abc.snapB = false →
    s.abc.jheld = false →
    s.abc.snapDel = [] →
    exec (.snapshotComplete true bad u) s =
      .next (let t := ((s.blocksBad 0 bad).readSlots (k.image.map (·.1)) u).setAbc fun a => { a with snap := none, snapDel := [], snapPct := 100 };
        ({ t with nv := { t.nv with snapA := some { k with sealPage := some (k.gen, Config.sha256 k.body) } } } : State).setAbc fun a => { a with newestB := false })) ∧
  (∀ (s : State) (k : SnapCopy) (bad u : List Nat),
    s.frozen = false →
    s.abc.snap = some k →
    s.flights = [] →
    s.abc.snapB = true →
    s.abc.jheld = false →
    s.abc.snapDel = [] →
    exec (.snapshotComplete true bad u) s =
      .next (let t := ((s.blocksBad 1 bad).readSlots (k.image.map (·.1)) u).setAbc fun a => { a with snap := none, snapDel := [], snapPct := 100 };
        ({ t with nv := { t.nv with snapB := some { k with sealPage := some (k.gen, Config.sha256 k.body) } } } : State).setAbc fun a => { a with newestB := true })) ∧
  (∀ (s : State) (x y : Bool) (bad : List Nat),
    s.boot.step = 14 →
    s.boot.phase = 7 →
    s.boot.ddrOk = true →
    s.abc.restoring = false →
    s.abc.ready = false →
    s.frozen = false →
    exec (.ledgerRestoreStart x y bad) s = .next (((s.damaged x y bad).restoreLedger).setAbc fun a => { a with restoring := true })) ∧
  (∀ (s : State),
    s.abc.restoring = true →
    s.frozen = false →
    (∀ f ∈ s.flights, f.opcode ≠ 0x53) →
    s.abc.waiting = [] →
    exec (.ledgerReady) s = .next ((s.note 14 32 9).setAbc fun a => { a with restoring := false, ready := true, waiting := [] }))

/-- A taken command of the ledger has the effect that R235 and R245 give it, and is answered; a snapshot is set in flight. -/
def Obligations.LedgerCommandsComplete : Prop :=
  (∀ (s : State) (d : Desc) (u : List (Nat × Nat)) (sts : List Nat) (t : State),
    Ready s 8 d →
    Plain d →
    d.scope = 2 →
    d.len.toNat = 64 * d.unit.toNat →
    1 ≤ d.unit.toNat →
    d.unit.toNat ≤ 1024 →
    applyDeltas u d.unit.toNat 0 d.payload (taken s 8 d) = (sts, t) →
    exec (.abcDelta d u) s = .next (t.answerBatch 8 0x50 d (fun k => k == 0x00 || k == 0x20 || k == 0x26) sts)) ∧
  (∀ (s : State) (d : Desc) (u : List Nat) (slot : Nat),
    Ready s 0 d →
    Plain d →
    d.scope = 0 →
    d.len.toNat = 64 →
    d.unit = 0 →
    (taken s 0 d).abc.ready = true →
    (taken s 0 d).lookup d.param1.toNat = some slot →
    u.contains slot = false →
    exec (.abcQuery d u) s =
      .next (let t := (taken s 0 d).readSlots (slotsOf d.param1.toNat) u; (t.writeHost d.addr (t.ledgerPayload d.param1.toNat (t.recAt slot) none)).answer 0 0x51 d stOk)) ∧
  (∀ (s : State) (d : Desc) (u : List Nat),
    Ready s 0 d →
    Plain d →
    d.scope = 0 →
    d.len.toNat = 64 →
    d.unit = 0 →
    (taken s 0 d).abc.ready = true →
    (taken s 0 d).lookup d.param1.toNat = none →
    exec (.abcQuery d u) s = .next ((taken s 0 d).answer 0 0x51 d 0x22)) ∧
  (∀ (s : State) (d : Desc) (u : List Nat),
    Ready s 0 d →
    Plain d →
    d.scope = 0 →
    d.len.toNat = 0 →
    d.unit = 0 →
    (taken s 0 d).abc.ready = true →
    exec (.abcResync d u) s =
      .next (let t := taken s 0 d;
        let l := (t.abc.dram.filter fun p => p.2.unack > 0).map (·.1);
        (t.nv.orphans.foldl State.orphanReport (l.foldl (State.resyncTally u) t)).answer 0 0x52 d stOk 0 (l.length + t.nv.orphans.length))) ∧
  (∀ (s : State) (d : Desc),
    Ready s 0 d →
    Plain d →
    d.scope = 0 →
    d.len.toNat = 0 →
    d.unit = 0 →
    (taken s 0 d).abc.ready = true →
    (taken s 0 d).abc.snap = none →
    (∀ f ∈ (taken s 0 d).flights, f.opcode ≠ 0x53) →
    exec (.abcSnapshot d) s = .next ((((taken s 0 d).launch 0 0x53 d false [] []).note 14 32 8).startSnapshot)) ∧
  (∀ (s : State) (d : Desc) (u : List Nat) (slot : Nat),
    Ready s 0 d →
    Plain d →
    d.scope = 0 →
    d.len.toNat = 0 →
    d.unit = 0 →
    ((taken s 0 d).readSlots (slotsOf d.param1.toNat) u).lookup d.param1.toNat = some slot →
    exec (.abcRevoke d u) s =
      .next (let t := (taken s 0 d).readSlots (slotsOf d.param1.toNat) u; (t.revokeSlot slot).2.answer 0 0x54 d stOk 0 (t.revokeSlot slot).1)) ∧
  (∀ (s : State) (d : Desc) (u : List Nat),
    Ready s 0 d →
    Plain d →
    d.scope = 0 →
    d.len.toNat = 0 →
    d.unit = 0 →
    ((taken s 0 d).readSlots (slotsOf d.param1.toNat) u).lookup d.param1.toNat = none →
    exec (.abcRevoke d u) s = .next (((taken s 0 d).readSlots (slotsOf d.param1.toNat) u).answer 0 0x54 d stOk 0 0))

/-- Each event of the safety island whose cause is present leads to the next state that R254 to R269 give; a test-pulsed supply that has stayed
high through its pulse is switched off once the pulse is over. -/
def Obligations.SafetyEventsComplete : Prop :=
  (∀ (s : State) (sin : Fin 72) (level : Bool) (k : Nat),
    s.sinType sin ≠ 0 →
    s.now % 6144 = 0 →
    s.sinBlankedAt s.now sin = false →
    s.saf.sins[sin].closed = !level →
    s.sinNeeds sin level ≤ k →
    exec (.sinStateChange sin level k) s =
      .next (let t := ((s.setSin sin fun x => { x with closed := level }).pairCheck sin).sinResult sin;
        State.finish s (if t.sinReads sin then t.autoRst else t.sinAct sin))) ∧
  (∀ (s : State) (sin : Fin 72) (b a : Bool),
    s.sinPulsed sin = true →
    s.sinReads sin = true →
    s.saf.tps[s.sinTps sin].on = true →
    s.pulsePhase (s.sinTps sin).val = 6144 →
    exec (.sinPulseFault sin (s.sinTps sin) b true a) s =
      .next (State.finish s (s.sinFault sin 2 5 fun x => { x with stuck := true, stuckAt := s.now }))) ∧
  (∀ (s : State) (sin : Fin 72) (tps : Fin 4),
    s.sinPulsed sin = true →
    s.sinReads sin = true →
    s.saf.tps[tps].on = true →
    tps ≠ s.sinTps sin →
    s.pulsePhase tps.val = 24576 →
    exec (.sinPulseFault sin tps true false true) s =
      .next (State.finish s (s.sinFault sin 1 4 fun x => { x with cross := true, crossAt := s.now }))) ∧
  (∀ (s : State) (k : Fin 4) (lo hi lim : Nat),
    s.pf 0x6000 k.val 1 ≠ 0 →
    s.saf.tps[k].on = true →
    s.pulsePhase k.val = 0 →
    exec (.tpsPulseStart k lo hi lim) s =
      .next (s.setTps k fun t => { t with first := some (t.first.getD s.now), last := some s.now, lowSeen := some lo, highSeen := some (hi, lim) })) ∧
  (∀ (s : State) (pair : Fin 36),
    s.expired .tDisc pair.val = true →
    exec (.tDiscExpiry pair) s =
      .next (State.finish s (((s.expire .tDisc pair.val).sinFault (pairFirst pair) 3 6 fun x => { x with disc := true, bothOpen := false }).sinFault (pairSecond pair) 3 6 fun x => { x with disc := true, bothOpen := false }))) ∧
  (∀ (s : State) (lane : Fin 32),
    s.expired .tAutorst lane.val = true →
    exec (.tAutorstExpiry lane) s = .next (State.finish s ((s.expire .tAutorst lane.val).latchClear lane 0))) ∧
  (∀ (s : State) (lane : Fin 32) (w : List Int),
    s.resRuns lane = true →
    s.isDc lane = false →
    s.safLcfg lane 0 1 = 1 →
    s.latched lane 1 = false →
    s.resWindow lane * (s.thr lane (s.safLcfg lane 8 10)) ^ 2 ≤ sumSq (newest (s.resWindow lane) w) →
    exec (.residualAcTrip lane w) s = .next (State.finish s ((((s.residual lane w).note 0 lane.val 80).latchSet lane 1 80).setErr .saf 8))) ∧
  (∀ (s : State) (lane : Fin 32) (p : Fin 4) (start least : Nat),
    s.resRuns lane = true →
    s.safLcfg lane 1 1 = 1 →
    s.dcPoint p 31 1 = 1 →
    s.saf.lanes[lane].pointFrom ≤ start →
    start + s.dcPoint p 13 16 * ticksPerMs = s.now →
    2 * s.resWindow lane * s.thr lane (s.dcPoint p 0 13) ≤ least →
    exec (.dcPointTimerExpiry lane p start least) s =
      .next (State.finish s (((s.note 0 lane.val (81 + p.val)).latchSet lane 2 (81 + p.val)).setErr .saf 8))) ∧
  (∀ (s : State) (lane : Fin 32) (w : List Int) (f : Nat),
    s.saf.lanes[lane].testFrom = some f →
    s.now = issue3 (s.firstSample lane (f + testTicks) - 1) →
    s.saf.lanes[lane].testHalf = false →
    exec (.selfTestDriveEnd lane w) s =
      .next (s.setSaf lane fun l => { l with testHalf := true, testMean := s.dcMeanOf lane w, testOk := decide (s.safLcfg lane 18 10 ≤ (s.dcMeanOf lane w).natAbs) })) ∧
  (∀ (s : State) (lane : Fin 32) (w : List Int) (f : Nat),
    s.saf.lanes[lane].testFrom = some f →
    s.now = issue3 (s.firstSample lane (f + 2 * testTicks)) →
    s.saf.lanes[lane].testHalf = true →
    s.saf.lanes[lane].testOk = false →
    exec (.selfTestResult lane w) s =
      .next (let t := (s.note 0 lane.val 86).setSaf lane fun l => { l with testFrom := none, testHalf := false, tested := l.tested, pointFrom := s.now };
        let t := ((t.latchSet lane 4 86).setErr .saf 9).laneResult lane 0x22 1 (sat16 s.saf.lanes[lane].testMean % 65536).toNat;
        State.finish s (match t.flightOf 0x61 lane.val with | some f => t.settleFlight f 0x21 0 (sat16 s.saf.lanes[lane].testMean % 65536).toNat | none => t))) ∧
  (∀ (s : State) (lane : Fin 32) (a b m : Int) (f : Nat),
    s.saf.lanes[lane].isoFrom = some f →
    s.isoOn lane = true →
    f + (s.pf 0x6024 0 10 + s.pf 0x6024 10 10) * ticksPerMs ≤ s.now →
    s.saf.lanes[lane].isoReady = false →
    s.saf.lanes[lane].isoClosed = false →
    s.saf.lanes[lane].isoBad = false →
    (s.pf 0x6020 24 8 * 10000 : Int) ≤ m →
    exec (.isolationSwitchToggle lane a b m) s =
      .next (s.setSaf lane fun l => { l with isoFrom := some s.now, isoClosed := true, isoV := (a, b) })) ∧
  (∀ (s : State) (lane : Fin 32) (a b m : Int) (f : Nat),
    s.saf.lanes[lane].isoFrom = some f →
    s.isoOn lane = true →
    f + (s.pf 0x6024 0 10 + s.pf 0x6024 10 10) * ticksPerMs ≤ s.now →
    s.saf.lanes[lane].isoReady = false →
    s.saf.lanes[lane].isoClosed = true →
    s.saf.lanes[lane].isoBad = false →
    (s.pf 0x6020 24 8 * 10000 : Int) ≤ m →
    exec (.isolationSwitchToggle lane a b m) s =
      .next (s.setSaf lane fun l => { l with isoFrom := some s.now, isoClosed := false, isoV2 := (a, b), isoReady := true })) ∧
  (∀ (s : State) (lane : Fin 32) (r : Option (Nat × Nat) × Option (Nat × Nat)) (t : State),
    s.saf.lanes[lane].isoReady = true →
    s.isoResistances lane = (r, t) →
    isoClass r.1 r.2 (s.pf 0x6020 0 12) (s.pf 0x6020 12 12) (s.lanePf lane 0x10 8 12) = 1 →
    exec (.insulationResult lane) s =
      .next (let u := (t.note 0 lane.val 85).setSaf lane fun l => { l with iso := 1, rp := kOhm r.1, rn := kOhm r.2, isoReady := false, isoCycle := (l.isoFrom.getD s.now) };
        let cable : Bool := (match s.link.lanes[lane].cable with | some k => decide (k ≤ s.saf.lanes[lane].isoCycle) | none => false) && s.link.lanes[lane].cableClass == 0;
        let u := (u.laneResult lane 0x23 1 (kOhm r.1 + 65536 * kOhm r.2 + 2 ^ 32 * (if (u.flightOf 0x62 lane.val).isSome then 2 else bit cable))).settleAll 0x62 lane.val stOk (kOhm r.1 + 65536 * kOhm r.2 + 2 ^ 32);
        State.finish s (if cable then ((u.cancel .tCable lane.val).setLink lane fun k => { k with cableClass := 1 }) else u))) ∧
  (∀ (s : State) (lane : Fin 32),
    s.expired .tWeld lane.val = true →
    s.nrg.lanes[lane].scaled = [] →
    0 < s.pf 0x6028 10 10 →
    exec (.tWeldExpiry lane) s = .next (s.expire .tWeld lane.val)) ∧
  (∀ (s : State) (lane : Fin 32) (v : Int),
    s.expired .tWeld lane.val = true →
    s.nrg.lanes[lane].scaled.getD 0 0 = v →
    (s.pf 0x6028 10 10 * 1000 : Int) ≤ v →
    exec (.tWeldExpiry lane) s =
      .next ((s.expire .tWeld lane.val).setIsland fun x => { x with judges := x.judges ++ [⟨s.now + 1, lane.val, 1⟩] })) ∧
  (∀ (s : State) (lane : Fin 32) (j : Judge),
    (s.saf.judges.find? (fun j => j.lane == lane.val && j.due ≤ s.now) = some j) →
    j.kind ≠ 2 →
    exec (.weldJudgement lane) s = .next (State.finish s ((s.setIsland fun x => { x with judges := x.judges.erase j }).weldJudged lane j.kind))) ∧
  (∀ (s : State) (lane : Fin 32) (j : Judge),
    (s.saf.judges.find? (fun j => j.lane == lane.val && j.due ≤ s.now) = some j) →
    j.kind = 2 →
    exec (.weldJudgement lane) s = .next (State.finish s ((s.setIsland fun x => { x with judges := x.judges.erase j }).offPath lane))) ∧
  (∀ (s : State) (u : Nat) (k : Fin 48),
    s.saf.shuntUntil = some u →
    u ≤ s.now →
    s.shuntCh = some k →
    exec (.shuntPulseEnd) s = .next (((s.setIsland fun x => { x with shuntUntil := none }).chNote k).auxOff k)) ∧
  (∀ (s : State) (sins : List (BitVec 72)) (high crc : BitVec 32),
    s.now % 24576 = 0 →
    s.boot.phase = 7 →
    s.saf.dead = false →
    s.saf.lastCycle ≠ some s.now →
    exec (.safetyCoreCycle true sins high crc) s = .next (State.finish s (s.coreCycle sins high crc))) ∧
  (∀ (s : State) (sins : List (BitVec 72)) (high crc : BitVec 32) (k : Nat),
    s.now % 24576 = 0 →
    s.boot.phase = 7 →
    s.saf.dead = false →
    s.saf.lastCycle = some k →
    k ≠ s.now →
    exec (.safetyCoreCycle false sins high crc) s = .next (State.finish s (s.coreDown 1))) ∧
  (∀ (s : State),
    s.saf.dead = false →
    s.saf.scRun = true →
    exec (.lockstepMismatch) s = .next (State.finish s ((s.guaranteeLost 2).coreDown 0))) ∧
  (∀ (s : State) (lane : Fin 32) (on : Nat) (high : Bool),
    s.pf 0x6000 4 1 ≠ 1 →
    s.lsw.chans[coilCh lane].st = .on →
    s.now % econPeriod = econPeriod - 1 →
    exec (.offpathReadback lane on high) s =
      .next (State.finish s ((s.setCh (coilCh lane) fun x => { x with onTime := econOn on }).offReadback lane high 3))) ∧
  (∀ (s : State) (lane : Fin 32) (high : Bool),
    s.pf 0x6000 4 1 ≠ 0 →
    s.lsw.chans[coilCh lane].st = .on →
    s.now % (s.pf 0x6000 16 12 * ticksPerMs) = lane.val * (s.pf 0x6000 16 12 * ticksPerMs / 32) →
    exec (.forerunnerOffPulse lane high) s =
      .next (s.setSaf lane fun l => { l with offPulse := some (s.now + ticksUs (s.pf 0x6000 5 10), high) })) ∧
  (∀ (s : State) (k : Fin 4) (p mv : Nat), s.saf.tps[k].on = true → s.saf.tps[k].last = some p → s.saf.tps[k].lowSeen = some mv →
    p + tpsPulse ≤ s.now → tpsLow ≤ mv → s.tpsDue k = s.tpsOff k)

/-- A taken command of the safety island has the effect that R273 gives it, and is answered or set in flight. -/
def Obligations.SafetyCommandsComplete : Prop :=
  (∀ (s : State) (d : Desc) (h : BitVec 32) (ws : List (Fin 32 × List Int)),
    Ready s 0 d →
    Plain d →
    d.scope = 0 →
    d.len.toNat = 0 →
    d.unit = 0 →
    dbyte d 24 = 0 →
    exec (.safReset d h ws) s =
      .next (let t := (ws.foldl (fun s w => s.residual w.1 w.2) (taken s 0 d)).clearLatches (maskLanes d.param0) [0, 1, 2, 3, 5, 8] h;
        let left := (laneMask fun n => (maskLanes d.param0).contains n && [0, 1, 2, 3, 5, 8].any fun k => t.latched n k).toNat;
        State.finish s (t.answer 0 0x60 d (if left == 0 then stOk else 0x20) 0 left))) ∧
  (∀ (s : State) (d : Desc) (h : BitVec 32) (ws : List (Fin 32 × List Int)),
    Ready s 0 d →
    Plain d →
    d.scope = 0 →
    d.len.toNat = 0 →
    d.unit = 0 →
    dbyte d 24 = 1 →
    exec (.safReset d h ws) s =
      .next (let t := (ws.foldl (fun s w => s.residual w.1 w.2) (taken s 0 d)).clearLatches (maskLanes d.param0) [6, 7] h;
        let left := (laneMask fun n => (maskLanes d.param0).contains n && [6, 7].any fun k => t.latched n k).toNat;
        State.finish s (t.answer 0 0x60 d (if left == 0 then stOk else 0x20) 0 left))) ∧
  (∀ (s : State) (d : Desc) (h : BitVec 32) (ws : List (Fin 32 × List Int)),
    Ready s 0 d →
    Plain d →
    d.scope = 0 →
    d.len.toNat = 0 →
    d.unit = 0 →
    dbyte d 24 = 2 →
    d.param0 = 0 →
    exec (.safReset d h ws) s =
      .next (let t := (ws.foldl (fun s w => s.residual w.1 w.2) (taken s 0 d)).clearFaults;
        State.finish s (t.answer 0 0x60 d (if t.faultsLeft == 0 then stOk else 0x20) 0 (2 ^ 32 * t.faultsLeft)))) ∧
  (∀ (s : State) (d : Desc) (n : Fin 32),
    Ready s 0 d →
    Plain d →
    d.scope = 0 →
    d.len.toNat = 0 →
    unitLane d = some n →
    (taken s 0 d).laneEn n = true →
    (taken s 0 d).met.lanes[n].run = true →
    (taken s 0 d).isDc n = false →
    (taken s 0 d).coilOn n = false →
    (taken s 0 d).saf.lanes[n].testFrom = none →
    exec (.safResTest d) s = .next (State.finish s (((taken s 0 d).testStart n).launch 0 0x61 d false [n.val] []))) ∧
  (∀ (s : State) (d : Desc) (n : Fin 32),
    Ready s 0 d →
    Plain d →
    d.scope = 0 →
    d.len.toNat = 0 →
    unitLane d = some n →
    (taken s 0 d).isoOn n = true →
    (taken s 0 d).lanes[n].st = .energised →
    exec (.safIsoMeasure d) s = .next ((taken s 0 d).launch 0 0x62 d false [n.val] [])) ∧
  (∀ (s : State) (d : Desc),
    Ready s 0 d →
    Plain d →
    d.scope = 0 →
    d.len.toNat = 0 →
    d.unit = 0 →
    d.param0 ≠ 0 →
    exec (.safTrip d) s =
      .next (State.finish s (((maskLanes d.param0).foldl (fun s n => s.latchSet n 8 0xFF) (taken s 0 d)).answer 0 0x63 d stOk)))

/-- Each event of a load switch channel, quad or supply whose cause is present leads to the next state that R278 to R293 give. -/
def Obligations.LoadSwitchEventsComplete : Prop :=
  (∀ (s : State) (ch : Fin 32),
    s.lanes[ch].coil = false →
    s.coilEnable ch = true →
    s.lsw.chans[coilCh ch].st = .off →
    s.lsw.chans[coilCh ch].tripped = false →
    exec (.coilEnableRise ch) s =
      .next (let t := (((s.chNote (coilCh ch)).setLane ch fun l => { l with coil := true }).cancel .tWeld ch.val).chTo (coilCh ch) .start;
        State.finish s (if t.lanes[ch].st == .closing then t.arm .tFb ch.val (t.lanePf ch 0xC 0 10 * ticksPerMs) else t))) ∧
  (∀ (s : State) (ch : Fin 32),
    s.lanes[ch].coil = true →
    s.coilEnable ch = false →
    s.lsw.chans[coilCh ch].driving = true →
    s.isDc ch = true →
    exec (.coilEnableFall ch) s =
      .next (State.finish s ((((s.chNote (coilCh ch)).setLane ch fun l => { l with coil := false }).setCh (coilCh ch) fun k => { k with tripped := false }).chTo (coilCh ch) .off))) ∧
  (∀ (s : State) (ch : Fin 32),
    s.lsw.chans[coilCh ch].st = .start →
    s.lsw.chans[coilCh ch].since + s.ccfg (coilCh ch) 0 8 * ticksPerMs ≤ s.now →
    exec (.pullInEnd ch) s = .next ((s.chNote (coilCh ch)).chTo (coilCh ch) .on)) ∧
  (∀ (s : State) (ch : Fin 32) (k : Nat),
    s.coilEnable ch = true →
    s.lsw.chans[coilCh ch].st = .start →
    49152 ≤ k →
    s.lsw.chans[coilCh ch].left ≤ 1 →
    exec (.coilTrip ch k) s =
      .next ((((s.chNote (coilCh ch)).setCh (coilCh ch) fun x => { x with cause := 4, left := s.lsw.chans[coilCh ch].left + 1, tripped := true }).setErr .lsw 0).chTo (coilCh ch) .off)) ∧
  (∀ (s : State) (ch : Fin 32) (k : Nat),
    s.coilEnable ch = true →
    s.lsw.chans[coilCh ch].st = .on →
    32 ≤ k →
    2 ≤ s.lsw.chans[coilCh ch].left →
    exec (.coilTrip ch k) s =
      .next ((((s.chNote (coilCh ch)).setCh (coilCh ch) fun x => { x with cause := 5, left := 3, tripped := true }).setErr .lsw 0).chTo (coilCh ch) .latched)) ∧
  (∀ (s : State) (ch : Fin 32),
    s.lsw.chans[coilCh ch].st = .on →
    s.lsw.chans[coilCh ch].since + 245760000 ≤ s.now →
    exec (.coilTripsReset ch) s = .next (s.setCh (coilCh ch) fun x => { x with left := 0 })) ∧
  (∀ (s : State) (m : Fin 16),
    s.lsw.chans[auxCh m].st = .start →
    s.lsw.chans[auxCh m].since + s.acfg (auxCh m) 0 6 * ticksPerMs ≤ s.now →
    exec (.inrushEnd m) s = .next (State.finish s ((s.chNote (auxCh m)).chOn (auxCh m)))) ∧
  (∀ (s : State) (m : Fin 16) (i k : Nat),
    s.lsw.chans[auxCh m].st = .start →
    49152 ≤ k →
    exec (.auxTrip m 0 i k) s = .next (State.finish s (s.auxTrip (auxCh m) 1))) ∧
  (∀ (s : State) (m : Fin 16) (i k : Nat),
    s.lsw.chans[auxCh m].st = .on →
    24576 ≤ k →
    exec (.auxTrip m 1 i k) s = .next (State.finish s (s.auxTrip (auxCh m) 2))) ∧
  (∀ (s : State) (m : Fin 16) (i k : Nat),
    s.lsw.chans[auxCh m].st = .on →
    s.acfg (auxCh m) 8 11 ≤ i →
    s.acfg2 (auxCh m) 0 8 * 10 * ticksPerMs ≤ k →
    exec (.auxTrip m 2 i k) s = .next (State.finish s (s.auxTrip (auxCh m) 3))) ∧
  (∀ (s : State) (m : Fin 16),
    s.expired .tRetry (auxCh m).val = true →
    s.lsw.chans[auxCh m].st = .retryWait →
    exec (.tRetryExpiry m) s =
      .next (((s.expire .tRetry (auxCh m).val).setCh (auxCh m) fun x => { x with left := x.left - 1 }).chTo (auxCh m) .start)) ∧
  (∀ (s : State) (m : Fin 16),
    s.lsw.chans[auxCh m].st = .on →
    s.lsw.chans[auxCh m].since + 245760000 ≤ s.now →
    exec (.auxRetriesReset m) s = .next (s.setCh (auxCh m) fun x => { x with left := s.acfg2 (auxCh m) 8 3 })) ∧
  (∀ (s : State) (ch : Fin 48) (k : Nat),
    s.olActive ch = true →
    245760 ≤ k →
    s.lsw.chans[ch].openLoad = false →
    exec (.openLoadChange ch true k) s =
      .next ((((s.chNote ch).setCh ch fun x => { x with openLoad := true }).emit (chRing ch) 0x31 ch.val 0 1).setErr .lsw 7)) ∧
  (∀ (s : State) (ch : Fin 48) (k : Nat),
    s.olActive ch = true →
    245760 ≤ k →
    s.lsw.chans[ch].openLoad = true →
    exec (.openLoadChange ch false k) s =
      .next (((s.chNote ch).setCh ch fun x => { x with openLoad := false }).emit (chRing ch) 0x31 ch.val 0 0)) ∧
  (∀ (s : State) (m : Fin 16) (cur k : Nat),
    s.lsw.chans[auxCh m].st = .on →
    cur < 50 →
    2457600 ≤ k →
    s.lsw.chans[auxCh m].underload = false →
    exec (.underloadSet m cur k) s =
      .next (((s.chNote (auxCh m)).setCh (auxCh m) fun x => { x with underload := true, cur := cur }).emit (chRing (auxCh m)) 0x31 (auxCh m).val 1 1)) ∧
  (∀ (s : State) (q : Fin 12) (temp : Int),
    s.now % 6144 = 0 →
    (s.pf 0x7000 8 8 : Int) < temp →
    s.lsw.quads[q].warn = false →
    exec (.thermalWarnChange q temp) s =
      .next ((((s.setQuad q fun x => { x with temp := temp }).setQuad q fun x => { x with warn := true }).quadResult q 0 temp))) ∧
  (∀ (s : State) (q : Fin 12) (temp : Int),
    s.now % 6144 = 0 →
    temp ≤ (s.pf 0x7000 8 8 : Int) →
    s.lsw.quads[q].warn = true →
    exec (.thermalWarnChange q temp) s =
      .next ((((s.setQuad q fun x => { x with temp := temp }).setQuad q fun x => { x with warn := false }).quadResult q 1 temp))) ∧
  (∀ (s : State) (q : Fin 12) (temp : Int),
    s.now % 6144 = 0 →
    175 < temp →
    s.lsw.quads[q].therm = false →
    exec (.thermalLatchSet q temp) s =
      .next (let t := (((s.quadSample q temp).setQuad q fun x => { x with therm := true, count := min (x.count + 1) 65535 }).setErr .lsw 2).quadResult q 2 temp;
        State.finish s ((quadChans q).foldl (fun t k => if t.lsw.chans[k].st == .latched || t.lsw.chans[k].st == .supply then t else (t.chTo k .thermal).chFails k) t))) ∧
  (∀ (s : State) (q : Fin 12) (temp : Int),
    s.now % 6144 = 0 →
    temp < 160 →
    s.lsw.quads[q].therm = true →
    exec (.thermalLatchClear q temp) s =
      .next (let t := ((s.quadSample q temp).setQuad q fun x => { x with therm := false }).quadResult q 3 temp;
        State.finish s ((quadChans q).foldl (fun t k => if t.lsw.chans[k].st == .thermal then t.chRestart k else t) t))) ∧
  (∀ (s : State) (mv us : Nat),
    mv < 7500 →
    20 ≤ us →
    s.lsw.uv = false →
    exec (.vlsUndervoltage mv us) s =
      .next (State.finish s (((((s.note 1 32 3).setLsw fun l => { l with vls := min (mv / 10) 4095, uv := true, restart := none, restarted := [] }).setErr .lsw 3).supplyResult 0).allSupply))) ∧
  (∀ (s : State) (mv k : Nat),
    8500 < mv →
    245760 ≤ k →
    s.lsw.uv = true →
    exec (.vlsRestart mv k) s =
      .next (((s.note 1 32 3).setLsw fun l => { l with vls := min (mv / 10) 4095, uv := false, restart := some s.now, restarted := [] }).supplyResult 2)) ∧
  (∀ (s : State) (q : Fin 12) (r : Nat),
    s.lsw.restart = some r →
    r + q.val * 24576 ≤ s.now →
    s.lsw.restarted.contains q.val = false →
    s.lsw.hb = true →
    exec (.quadRestart q) s =
      .next (State.finish s ((s.setLsw fun l => { l with restarted := l.restarted ++ [q.val], restart := if l.restarted.length ≥ 11 then none else l.restart }).quadRestart q))) ∧
  (∀ (s : State) (mv k : Nat),
    (mv * 10 < (if s.pf 0x7000 0 1 == 1 then 24000 else 12000) * 8) →
    245760 ≤ k →
    exec (.vlsLowSet mv k) s = .next (((s.note 1 32 4).setLsw fun l => { l with vls := min (mv / 10) 4095 }).setErr .lsw 5)) ∧
  (∀ (s : State) (us : Nat),
    5000 ≤ us →
    s.lsw.hb = true →
    exec (.heartbeatLost us) s =
      .next (let t := (List.finRange 16).foldl (fun t m => (t.setCh (auxCh m) fun k => { k with cmd := false }).cancel .tRetry (auxCh m).val) ((((s.note 0 32 104).setLsw fun l => { l with hb := false, hbLost := true }).setErr .lsw 4).supplyResult 1).allSupply;
        State.finish s (t.setIsland fun x => { x with shuntUntil := none }))) ∧
  (∀ (s : State),
    s.lsw.hb = false →
    exec (.heartbeatReturn) s =
      .next (State.finish s ((List.finRange 12).foldl (fun t q => if t.supplyHold q then t else (t.quadReturn q).quadRestart q) ((if s.lsw.hbLost = true then s.note 0 32 104 else s).setLsw fun l => { l with hb := true, hbLost := false }))))

/-- A taken LSW_SET or LSW_CLEAR has on its channels the effect of R296, and is answered or set in flight. -/
def Obligations.LoadSwitchCommandsComplete : Prop :=
  (∀ (s : State) (d : Desc) (k : Fin 48),
    Ready s 0 d →
    Plain d →
    d.scope = 0 →
    d.len = 0 →
    dbyte d 24 = 1 →
    unitAux d.unit.toNat = some k →
    (taken s 0 d).claimed k = false →
    (taken s 0 d).auxReady k true = true →
    (taken s 0 d).lsw.chans[k].st ≠ .on →
    exec (.lswSet d) s =
      .next (State.finish s (((taken s 0 d).auxOn k).launch 0 0x70 d false [k.val] [(k.val, bit (taken s 0 d).lsw.chans[k].cmd)]))) ∧
  (∀ (s : State) (d : Desc) (k : Fin 48),
    Ready s 0 d →
    Plain d →
    d.scope = 0 →
    d.len = 0 →
    dbyte d 24 = 1 →
    unitAux d.unit.toNat = some k →
    (taken s 0 d).claimed k = false →
    (taken s 0 d).auxReady k true = true →
    (taken s 0 d).lsw.chans[k].st = .on →
    exec (.lswSet d) s = .next (State.finish s (((taken s 0 d).setCh k fun x => { x with cmd := true }).answer 0 0x70 d stOk))) ∧
  (∀ (s : State) (d : Desc) (k : Fin 48),
    Ready s 0 d →
    Plain d →
    d.scope = 0 →
    d.len = 0 →
    dbyte d 24 = 0 →
    unitAux d.unit.toNat = some k →
    (taken s 0 d).claimed k = false →
    exec (.lswSet d) s =
      .next (State.finish s ((((((taken s 0 d).endSet k).chNote k).auxOff k).setCh k fun x => { x with left := ((taken s 0 d).endSet k).acfg2 k 8 3 }).answer 0 0x70 d stOk))) ∧
  (∀ (s : State) (d : Desc) (k : Fin 48),
    Ready s 0 d →
    Plain d →
    d.scope = 0 →
    d.len = 0 →
    d.param1 = 0 →
    d.unit.toNat = k.val →
    exec (.lswClear d) s = .next (State.finish s (((taken s 0 d).chClear k).answer 0 0x71 d stOk))) ∧
  (∀ (s : State) (d : Desc),
    Ready s 0 d →
    Plain d →
    d.scope = 2 →
    d.unit ≠ 0 →
    d.len.toNat = 16 * d.unit.toNat →
    exec (.lswClear d) s =
      .next (let b := runBatch (fun s u _ => if h : u < 48 then (stOk, s.chClear ⟨u, h⟩) else (stBadUnit, s)) (unitEntries d) (taken s 0 d);
        State.finish s (b.2.endBatch 0x71 d b.1 fun _ => false)))

/-- Each event of the sample intake and of the pulse outputs whose cause is present leads to the next state that R299 to R323 and R343 to R346
give. -/
def Obligations.IntakeEventsComplete : Prop :=
  (∀ (s : State) (g : Fin 8) (x : Nat × Nat × Bool),
    (s.met.mclkDue.find? (fun x => x.2.1 == g.val && x.1 ≤ s.now) = some x) →
    x.2.2 = false →
    exec (.mclkStartStop g) s =
      .next (State.finish s { s with met := { s.met with mclkDue := s.met.mclkDue.erase x, mclk := s.met.mclk &&& ~~~(BitVec.ofNat 8 (2 ^ g.val)) } })) ∧
  (∀ (s : State) (g : Fin 8) (x : Nat × Nat × Bool),
    (s.met.mclkDue.find? (fun x => x.2.1 == g.val && x.1 ≤ s.now) = some x) →
    x.2.2 = true →
    exec (.mclkStartStop g) s =
      .next (let t : State := { s with met := { s.met with mclkDue := s.met.mclkDue.erase x, mclk := s.met.mclk ||| BitVec.ofNat 8 (2 ^ g.val) } };
        State.finish s (t.forLanes fun t n => if n.val / 4 == g.val && t.laneEn n then t.chainStart n else t))) ∧
  (∀ (s : State) (lane : Fin 32) (st : Nat),
    s.met.lanes[lane].start = some st →
    st + 32768 ≤ s.now →
    s.met.lanes[lane].run = false →
    exec (.chainRun lane) s = .next (s.setMet lane fun m => { m with run := true })) ∧
  (∀ (s : State) (lane : Fin 32) (ch : Fin 8) (level : Bool) (k st : Nat),
    s.met.lanes[lane].start = some st →
    st + 32768 ≤ s.now - 2525 →
    channelUsed (s.laneMode lane) ch.val = true →
    s.met.lanes[lane].chans[ch].stuck = false →
    2048 ≤ k →
    s.now % 512 = 477 →
    s.frozen = false →
    exec (.streamStuckChange lane ch true level k) s =
      .next (let t := ((s.note 5 lane.val (40 + ch.val)).setChan lane ch fun x => { x with stuck := true, stuckLevel := level, spells := x.spells ++ [(s.now - (s.groupDelay lane (s.now - 2525) - 1120), none)] }).setErr (.met lane) ch.val;
        t.laneResult lane 0x42 ch.val (256 * bit level))) ∧
  (∀ (s : State) (lane : Fin 32) (ch : Fin 8) (level : Bool) (k st : Nat),
    s.met.lanes[lane].start = some st →
    st + 32768 ≤ s.now - 2525 →
    channelUsed (s.laneMode lane) ch.val = true →
    s.met.lanes[lane].chans[ch].stuck = true →
    level ≠ s.met.lanes[lane].chans[ch].stuckLevel →
    s.now % 512 = 477 →
    s.frozen = false →
    exec (.streamStuckChange lane ch false level k) s =
      .next (((s.note 5 lane.val (40 + ch.val)).setChan lane ch fun x => { x with stuck := false, spells := x.spells.map fun p => (p.1, some (p.2.getD (s.now - (s.groupDelay lane (s.now - 2525) - 1120)))) }).laneResult lane 0x42 ch.val (1 + 256 * bit s.met.lanes[lane].chans[ch].stuckLevel))) ∧
  (∀ (s : State) (lane : Fin 32) (wins rw : List BitWindow) (ue : Bool) (x : Nat),
    s.met.lanes[lane].run = true →
    s.frozen = false →
    s.met.lanes[lane].cutAt = some x →
    exec (.cycleEnd lane wins rw ue) s =
      .next (let t := (if ue = true then s.legalUe else s).placeCycle lane rw; State.finish s ((t.endCycle lane wins x (t.nextBegin lane)).chainStop lane))) ∧
  (∀ (s : State) (lane : Fin 32) (wins rw : List BitWindow) (ue : Bool) (t : State),
    s.met.lanes[lane].run = true →
    s.frozen = false →
    s.met.lanes[lane].cutAt = none →
    ((if ue = true then s.legalUe else s).placeCycle lane rw = t) →
    t.cutTick lane = none →
    (t.issues lane).getLast? = some s.now →
    exec (.cycleEnd lane wins rw ue) s = .next (State.finish s (t.endCycle lane wins s.now (t.nextBegin lane)))) ∧
  (∀ (s : State) (lane : Fin 32) (rw : List BitWindow),
    s.met.lanes[lane].run = true →
    s.isDc lane = false →
    s.leader lane = none →
    s.frozen = false →
    (s.issues lane).head? = some s.now →
    exec (.trackingChange lane rw) s = .next (State.finish s (s.trackDecide lane rw))) ∧
  (∀ (s : State) (lane : Fin 32) (ch : Fin 8) (y : Int) (ys : List Int),
    s.met.lanes[lane].run = true →
    channelUsed (s.laneMode lane) ch.val = true →
    s.frozen = false →
    exec (.envelopeEvent lane ch (y :: ys)) s =
      .next (let due := (s.issues lane).drop s.met.lanes[lane].chans[ch].envDone;
        let t := (y :: ys).zipIdx.foldl (fun t p => t.envSample lane ch p.1 (due.getD p.2 s.now)) s;
        State.finish s (t.setChan lane ch fun x => { x with envDone := x.envDone + (y :: ys).length }))) ∧
  (∀ (s : State) (lane : Fin 32) (wins rw : List BitWindow) (t : State) (x : Nat),
    s.met.lanes[lane].run = true →
    s.frozen = false →
    s.placeCycle lane rw = t →
    t.cutTick lane = some x →
    (t.issues lane).getLast?.getD x = s.now →
    exec (.calChangeEffect lane wins rw) s = .next (State.finish s (t.endCycle lane wins (t.lastIssue lane) (128 * x)))) ∧
  (∀ (s : State) (slot : Fin 4),
    s.expired .tTrig slot.val = true →
    exec (.tTrigExpiry slot) s = .next ((s.expire .tTrig slot.val).endCapture slot 0x22)) ∧
  (∀ (s : State) (k : Fin 8) (d : Nat) (rest : List Nat),
    s.nrg.pulses[k].sched = d :: rest →
    d = s.now →
    s.nrg.pulses[k].lastStart = none →
    s.altSel k = false →
    s.legalOn = true →
    exec (.pulseStart k) s =
      .next (s.setPulse k fun p => { p with sched := rest, active := true, endAt := s.now + s.pulseWidth k, lastStart := some s.now, count := (p.count + 1) % 2 ^ 32 })) ∧
  (∀ (s : State) (k : Fin 8) (d l : Nat) (rest : List Nat),
    s.nrg.pulses[k].sched = d :: rest →
    d < s.now →
    s.nrg.pulses[k].lastStart = some l →
    l + 2 * s.pulseWidth k ≤ s.now →
    s.altSel k = false →
    s.legalOn = true →
    exec (.pulseStart k) s =
      .next ((s.setPulse k fun p => { p with sched := rest, active := true, endAt := s.now + s.pulseWidth k, lastStart := some s.now, count := (p.count + 1) % 2 ^ 32 }).setErr .nrg 1)) ∧
  (∀ (s : State) (k : Fin 8),
    s.nrg.pulses[k].active = true →
    s.nrg.pulses[k].endAt ≤ s.now →
    exec (.pulseEnd k) s = .next (s.setPulse k fun p => { p with active := false })) ∧
  (∀ (s : State),
    s.altSel 6 = true →
    s.now % ticksPerS = 0 →
    s.nrg.pulses[6].altLast ≠ some s.now →
    s.legalOn = true →
    exec (.altPulseStart 6) s = .next (s.setPulse 6 fun p => { p with active := true, endAt := s.now + ticksPerMs, altLast := some s.now })) ∧
  (∀ (s : State) (k : Fin 8),
    k ≠ 6 →
    s.altSel k = true →
    s.nrg.pulses[k].altLast ≠ some s.island.rtcSec →
    s.legalOn = true →
    exec (.altPulseStart k) s =
      .next (s.setPulse k fun p => { p with active := true, endAt := s.now + ticksPerMs, altLast := some s.island.rtcSec }))

/-- A taken command of the sample intake or of the energy engine has the effect that R323, R352 and R353 give it, and is answered or set in
flight. -/
def Obligations.MeteringCommandsComplete : Prop :=
  (∀ (s : State) (d : Desc) (n : Fin 32) (i : Fin 4),
    Ready s 0 d →
    Plain d →
    d.scope = 0 →
    d.len.toNat = 0 →
    captureRanges d = true →
    (taken s 0 d).metLane d = some n →
    (taken s 0 d).badCapture n d = false →
    ((List.finRange 4).find? (fun i => ((taken s 0 d).met.captures[i]).isNone) = some i) →
    dparam d 28 2 = 0 →
    exec (.metCapture d) s =
      .next (((taken s 0 d).setCapture i (some { lane := n, tag := d.tag, mask := BitVec.ofNat 8 (dbyte d 20), source := dbyte d 21, pre := dbyte d 22, post := dbyte d 23, onEvent := dbyte d 24 == 1, evMask := BitVec.ofNat 16 (dparam d 25 2), accepted := s.now, trigStamp := 0, trigBit := none, trigSample := 0, cycles := [] })).launch 0 0x78 d false [n.val] [] i.val)) ∧
  (∀ (s : State) (d : Desc) (n : Fin 32) (i : Fin 4),
    Ready s 0 d →
    Plain d →
    d.scope = 0 →
    d.len.toNat = 0 →
    (taken s 0 d).metLane d = some n →
    ((List.finRange 4).find? (fun i => match (taken s 0 d).met.captures[i] with | some k => k.tag.toNat == dparam d 24 2 && k.lane == n | none => false) = some i) →
    exec (.metCaptureCancel d) s = .next (((taken s 0 d).endCapture i 0x21).answer 0 0x79 d stOk)) ∧
  (∀ (s : State) (d : Desc) (n : Fin 32),
    Ready s 0 d →
    Plain d →
    d.scope = 0 →
    d.len.toNat = 192 →
    (taken s 0 d).metLane d = some n →
    exec (.metRead d) s = .next (((taken s 0 d).writeHost d.addr ((taken s 0 d).metReadPayload n)).answer 0 0x7A d stOk)) ∧
  (∀ (s : State) (d : Desc),
    Ready s 0 d →
    Plain d →
    d.scope = 0 →
    d.len.toNat = 4296 →
    d.unit = 0 →
    exec (.metCoefRead d) s =
      .next (((taken s 0 d).writeHost d.addr ((stage2Taps ++ stage3Taps ++ resamplerH).flatMap (leInt 4))).answer 0 0x7B d stOk)) ∧
  (∀ (s : State) (d : Desc) (n : Fin 32),
    Ready s 0 d →
    Plain d →
    d.scope = 0 →
    d.len.toNat = 400 →
    unitLane d = some n →
    (taken s 0 d).laneEn n = true →
    (taken s 0 d).met.lanes[n].run = true →
    exec (.nrgRead d) s = .next (((taken s 0 d).writeHost d.addr ((taken s 0 d).nrgReadPayload n)).answer 0 0x80 d stOk)) ∧
  (∀ (s : State) (d : Desc) (n : Fin 32),
    Ready s 0 d →
    Plain d →
    d.scope = 0 →
    d.len.toNat = 356 →
    unitLane d = some n →
    exec (.nrgCalRead d) s = .next (((taken s 0 d).writeHost d.addr ((taken s 0 d).nrgCalPayload n)).answer 0 0x81 d stOk))

/-- Each event of the register book whose cause is present leads to the next state that R360 to R372 and R377 to R382 give. -/
def Obligations.BookEventsComplete : Prop :=
  (∀ (s : State),
    s.clocks.ok.getLsbD 3 = true →
    s.legalOn = false →
    exec (.rtcRollover) s =
      .next ({ s with island := { s.island with rtcSec := (s.island.rtcSec + 1) % 2 ^ 55, elapsed := s.island.elapsed + 1 } })) ∧
  (∀ (s : State) (t : State),
    s.clocks.ok.getLsbD 3 = true →
    ({ s with island := { s.island with rtcSec := (s.island.rtcSec + 1) % 2 ^ 55, elapsed := s.island.elapsed + 1 } } : State) = t →
    t.legalOn = true →
    ((t.settleRate.note 6 32 0).lineRollover).book.img.clkValid = true →
    ((t.settleRate.note 6 32 0).lineRollover).book.outage = none →
    exec (.rtcRollover) s = .next (((t.settleRate.note 6 32 0).lineRollover).takePoints)) ∧
  (∀ (s : State) (f : Nat),
    s.book.noclockFrom = some f →
    f + tblLen s.table * ticksPerS ≤ s.now →
    s.legalOn = true →
    exec (.noclockIntervalEnd) s =
      .next ((((s.gather ivNoclock).note 7 32 0).intervalEnd ivNoclock).setBook fun b => { b with noclockFrom := some (f + tblLen s.table * ticksPerS) })) ∧
  (∀ (s : State) (r : StepReq) (t : State),
    s.stepDue = some r →
    s.legalOn = true →
    r.source = 0 →
    ((s.setBook fun b => { b with steps := b.steps.erase r }).clockStep 0 r.role r.newSec = t) →
    exec (.clockStep) s = .next (match t.flights.find? (·.opcode == 0x91) with | some f => t.settleFlight f stOk 0 0 | none => t)) ∧
  (∀ (s : State) (r : StepReq),
    s.stepDue = some r →
    s.legalOn = true →
    r.source = 1 →
    s.pf 0xA000 1 1 ≠ 0 →
    s.stepTooFar r.newSec = false →
    exec (.clockStep) s = .next ((s.setBook fun b => { b with steps := b.steps.erase r }).clockStep 1 r.role r.newSec)) ∧
  (∀ (s : State) (o : Bool) (ms : Nat),
    10 ≤ ms →
    s.island.sealOpen = !o →
    s.legalOn = true →
    exec (.sealChange o ms) s =
      .next (((({ s with island := { s.island with sealOpen := o } } : State).note 2 32 0).sealTo o false s.island.rtcSec).tamperResult 0 (!o))) ∧
  (∀ (s : State) (o : Bool) (ms : Nat),
    10 ≤ ms →
    s.island.sealOpen = !o →
    s.legalOn = false →
    exec (.sealChange o ms) s =
      .next ({ s with island := { s.island with sealOpen := o, sealLatch := s.island.sealLatch ++ [(⟨o, s.island.rtcSec⟩ : Latched)] } })) ∧
  (∀ (s : State) (k : Fin 4) (v : Nat),
    s.now % 24576 = 0 →
    s.legalOn = true →
    0 < (s.calv (0xA040 + 8 * k.val)).toNat →
    (s.calv (0xA040 + 8 * k.val)).toNat ≤ v →
    s.book.img.magOn.getLsbD k.val = false →
    exec (.magneticFieldChange k (List.replicate 100 v)) s =
      .next (let t := s.setBook fun b => { b with magLevel := b.magLevel.set k v };
        let t := (t.note 2 32 (1 + k.val)).setBook fun b => { b with magPeak := b.magPeak.set k v, magFrom := b.magFrom.set k s.now, magEvents := b.magEvents.set k (min (b.magEvents[k] + 1) 65535) };
        let t := t.setImg fun i => { i with magOn := i.magOn ||| BitVec.ofNat 4 (2 ^ k.val), sess := .ofFn fun n => if i.sess[n].isOpen && (s.calv (0xA044 + 8 * k.val)).getLsbD n.val then { i.sess[n] with magnetic := true } else i.sess[n] };
        let t := (t.legal 0x16 ([BitVec.ofNat 8 k.val, 0] ++ leBytes 2 v ++ leBytes 4 0)).setErr .book 3;
        State.finish s (t.tamperResult (1 + k.val) false))) ∧
  (∀ (s : State) (o : Bool),
    s.island.caseOpen = !o →
    s.legalOn = true →
    exec (.caseChange o) s =
      .next (let t : State := { s with island := { s.island with caseOpen := o, caseTrig := s.island.caseTrig || o } };
        let t := ((t.note 2 32 5).setBook fun b => { b with caseOpen := o }).legal 0x17 [BitVec.ofNat 8 (bit (!o)), 0];
        State.finish s ((t.setErr .book 4).tamperResult 5 (!o)))) ∧
  (∀ (s : State),
    s.island.caseOpen = false →
    s.legalOn = false →
    s.island.caseOpenings = 0 →
    exec (.caseChange true) s =
      .next ({ s with island := { s.island with caseOpen := true, caseTrig := true, caseOpenings := 1, caseFirst := s.island.rtcSec } }))

/-- A taken command of the register book that authenticates has the effect that R360 to R378 and R386 give it, and is answered or set in flight. -/
def Obligations.BookCommandsComplete : Prop :=
  (∀ (s : State) (d : Desc) (n : Fin 32),
    Ready s 0 d →
    Plain d →
    d.scope = 0 →
    d.len.toNat = 0 →
    d.unit.toNat = n.val →
    exec (.bookRead d) s = .next (((taken s 0 d).emit 7 0x01 n.val 0 d.tag.toNat ((taken s 0 d).bookReadPayload (some n))).answer 0 0x90 d stOk)) ∧
  (∀ (s : State) (d : Desc),
    Ready s 0 d →
    Plain d →
    d.scope = 0 →
    d.len.toNat = 0 →
    d.unit.toNat = 32 →
    exec (.bookRead d) s = .next (((taken s 0 d).emit 7 0x01 32 0 d.tag.toNat ((taken s 0 d).bookReadPayload none)).answer 0 0x90 d stOk)) ∧
  (∀ (s : State) (d : Desc) (t : State),
    Ready s 0 d →
    Plain d →
    d.scope = 0 →
    d.len.toNat = 40 →
    d.unit = 0 →
    (taken s 0 d).authRole 0x91 d = (true, t) →
    field d.payload 32 7 < 2 ^ 55 →
    field d.payload 39 1 = 0 →
    (field d.payload 0 1 ≠ 1 ∨ t.stepTooFar (field d.payload 32 7) = false) →
    exec (.bookClockSet d) s =
      .next ((t.setBook fun b => { b with steps := b.steps ++ [⟨t.now + 1, field d.payload 32 7, 0, field d.payload 0 1⟩] }).launch 0 0x91 d false [] [])) ∧
  (∀ (s : State) (d : Desc) (t : State),
    Ready s 0 d →
    Plain d →
    d.scope = 0 →
    d.len.toNat = 416 →
    d.unit = 0 →
    (taken s 0 d).authRole 0x92 d = (true, t) →
    tableOk (d.payload.drop 32) = true →
    t.book.img.tblActive < field (d.payload.drop 32) 0 4 →
    t.book.img.tblPending < field (d.payload.drop 32) 0 4 →
    exec (.bookTariffLoad d) s =
      .next ((({ t with nv := { t.nv with tblPending := some (d.payload.drop 32) } } : State).setImg fun i => { i with tblPending := field (d.payload.drop 32) 0 4 }).answer 0 0x92 d stOk)) ∧
  (∀ (s : State) (d : Desc) (t u : State) (m : Nat),
    1 ≤ m →
    m ≤ 64 →
    Ready s 0 d →
    Plain d →
    d.scope = 0 →
    d.len.toNat = 32 + 16 * m →
    d.unit = 0 →
    (taken s 0 d).authRole 0x93 d = (true, t) →
    t.book.img.sealOpen = true →
    calBad t.book.cal (entries16 m (d.payload.drop 32)) = none →
    ((entries16 m (d.payload.drop 32)).foldl (fun s e => s.calWrite e) t = u) →
    exec (.bookCalWrite d) s = .next (State.finish s ((if u.nv.calJournal.length > 128 then u.calCopy else u).answer 0 0x93 d stOk))) ∧
  (∀ (s : State) (d : Desc) (t : State),
    Ready s 0 d →
    Plain d →
    d.scope = 0 →
    d.len.toNat = 32 →
    d.unit = 0 →
    (taken s 0 d).authRole 0x94 d = (true, t) →
    exec (.bookBillClose d) s = .next ((t.setBook fun b => { b with closes := b.closes ++ [t.now + 1] }).launch 0 0x94 d false [] []))

/-- A frame that reaches this node has the effect that R395 to R412 give its type. -/
def Obligations.LineReceptionsComplete : Prop :=
  (∀ (s : State) (f : LineRx),
    Arrives s f [3, 5, 11] →
    (parseLine f.bytes).ty = 3 →
    exec (.dataReceived f) s = .next (passedOn f (((arrived s f).note 14 32 41).rxResult f (parseLine f.bytes)))) ∧
  (∀ (s : State) (f : LineRx) (u : State) (x : List (Nat × Nat)),
    Arrives s f [4] →
    (parseLine f.bytes).dst = s.lineAddr →
    field (parseLine f.bytes).body 0 2 ≠ 0 →
    (parseLine f.bytes).body.length = 4 + 64 * field (parseLine f.bytes).body 0 2 →
    (arrived s f).frozen = false →
    u = (arrived s f).note 12 32 16 →
    u.abc.ready = false →
    exec (.deltaReceived f x) s =
      .next (let m := field (parseLine f.bytes).body 0 2;
        let g := parseLine f.bytes;
        let bs := (List.replicate m stBusy).map (BitVec.ofNat 8 ·);
        let v := u.emit 11 0x02 g.src 1 (m + 2 ^ 16 * g.seq) bs;
        passedOn f (match v.lineRoute g.src with | some (next, up) => v.lineQueue 11 1 false g.src next up false (leBytes 2 g.seq ++ leBytes 2 m ++ bs) | none => v))) ∧
  (∀ (s : State) (f : LineRx) (u : State) (x : List (Nat × Nat)),
    Arrives s f [4] →
    (parseLine f.bytes).dst = s.lineAddr →
    field (parseLine f.bytes).body 0 2 ≠ 0 →
    (parseLine f.bytes).body.length = 4 + 64 * field (parseLine f.bytes).body 0 2 →
    (arrived s f).frozen = false →
    u = (arrived s f).note 12 32 16 →
    u.abc.ready = true →
    u.abc.jheld = false →
    u.pf 0x5000 0 1 ≠ 0 →
    exec (.deltaReceived f x) s =
      .next (let m := field (parseLine f.bytes).body 0 2;
        let g := parseLine f.bytes;
        let b := applyDeltas x m 0 (g.body.drop 4) u;
        let bs := b.1.map (BitVec.ofNat 8 ·);
        let v := b.2.emit 11 0x02 g.src 0 (m + 2 ^ 16 * g.seq) bs;
        passedOn f (match v.lineRoute g.src with | some (next, up) => v.lineQueue 11 1 false g.src next up false (leBytes 2 g.seq ++ leBytes 2 m ++ bs) | none => v))) ∧
  (∀ (s : State) (f : LineRx) (t : Nat),
    Arrives s f [6] →
    (parseLine f.bytes).src = (arrived s f).pf 0xB008 16 10 →
    t = field (parseLine f.bytes).body 0 7 + (field (parseLine f.bytes).body 8 4 + ((arrived s f).now - (f.start + 24 * lineSym)) * 1000 / 24576) / 1000000 →
    (arrived s f).book.img.clkValid = false →
    exec (.timeReceived f) s =
      .next (passedOn f ((((arrived s f).note 14 32 41).setBook fun b => { b with steps := b.steps ++ [⟨(arrived s f).now + 1, t, 1, 1⟩] }).emit 11 0x03 (parseLine f.bytes).src 1 t))) ∧
  (∀ (s : State) (f : LineRx),
    Arrives s f [7] →
    exec (.scheduleReceived f) s =
      .next (State.finish s (passedOn f ((((arrived s f).note 14 32 40).rxResult f (parseLine f.bytes)).peerSched ((parseLine f.bytes).body.take 64) 1)))) ∧
  (∀ (s : State) (f : LineRx) (o : Option LineOut) (x : LineOut),
    Arrives s f [2] →
    o = (arrived s f).line.awaiting →
    o = some x →
    field (parseLine f.bytes).body 0 2 = x.f.src →
    field (parseLine f.bytes).body 2 2 = x.f.seq →
    (∀ k ∈ (arrived s f).flights, k.opcode ≠ 0xA0) →
    exec (.lineAckReceived f) s =
      .next (passedOn f ((((arrived s f).note 14 32 41).cancel .tAck 0).setLine fun l => { l with awaiting := none }))) ∧
  (∀ (s : State) (f : LineRx) (t : State),
    Arrives s f [1] →
    (t = ((arrived s f).note 14 32 41).setNeigh (parseLine f.bytes).xmit fun n => { n with level := field (parseLine f.bytes).body 0 1 }) →
    exec (.advertReceived f) s = .next (passedOn f (State.lineLevel (if t.lineRole == 0 && t.line.st == 1 then t.lineTo 5 else t)))) ∧
  (∀ (s : State) (f : LineRx),
    Arrives s f [0] →
    (arrived s f).lineRole ≠ 0 →
    (arrived s f).line.st ≠ 3 →
    exec (.beaconReceived f) s = .next (passedOn f ((((arrived s f).note 14 32 41).takeBeacon f (parseLine f.bytes))))) ∧
  (∀ (s : State) (f : LineRx),
    Arrives s f [9] →
    (arrived s f).line.st ≠ 3 →
    exec (.soundRptReceived f) s =
      .next (let t := ((arrived s f).note 14 32 41).setNeigh (parseLine f.bytes).src fun n => { n with txMap := some ⟨field (parseLine f.bytes).body 36 1, field (parseLine f.bytes).body 37 1, field (parseLine f.bytes).body 38 4⟩ };
        passedOn f (t.setLine fun l => { l with sounding := l.sounding.map fun p => if t.now ≤ p.1 + 2000 * ticksPerMs then (p.1, p.2 + 1) else p }))) ∧
  (∀ (s : State) (f : LineRx),
    Arrives s f [10] →
    (arrived s f).line.st = 3 →
    (∀ m ∈ (arrived s f).line.members, m % 1024 ≠ (parseLine f.bytes).src) →
    exec (.joinReceived f) s =
      .next (passedOn f (((arrived s f).note 14 32 41).setLine fun l => { l with joins := l.joins.filter (fun m => m % 1024 != (parseLine f.bytes).src) ++ [(parseLine f.bytes).src + 0x8000 * (field (parseLine f.bytes).body 0 1 % 2)] }))) ∧
  (∀ (s : State) (src : Nat) (snrs : List Nat) (hi : List (Nat × Nat)),
    s.line.st ≠ 0 →
    s.lineTxen s.now = false →
    src ≠ s.lineAddr →
    src < 1024 →
    hitsHead (blankSpans (s.pf 0xB018 0 16) hi) 16 = false →
    (((List.range 16).filter fun j => blankedIn (blankSpans (s.pf 0xB018 0 16) hi) (16 + j) == 0).length < 8) →
    exec (.soundReceived src snrs hi) s =
      .next (((s.setLine fun l => { l with blank := min (l.blank + (blankSpans (s.pf 0xB018 0 16) hi).length) 0xFFFF }).note 14 32 41))) ∧
  (∀ (s : State) (src : Nat) (snrs : List Nat) (hi : List (Nat × Nat)) (n : LineNeigh) (t : State),
    s.line.st ≠ 0 →
    s.lineTxen s.now = false →
    src ≠ s.lineAddr →
    src < 1024 →
    hitsHead (blankSpans (s.pf 0xB018 0 16) hi) 16 = false →
    (8 ≤ ((List.range 16).filter fun j => blankedIn (blankSpans (s.pf 0xB018 0 16) hi) (16 + j) == 0).length) →
    (t = ((s.setLine fun l => { l with blank := min (l.blank + (blankSpans (s.pf 0xB018 0 16) hi).length) 0xFFFF }).note 14 32 41).lineHear src (snrs.foldl (· + ·) 0 / max 1 snrs.length)) →
    t.neigh src = some n →
    exec (.soundReceived src snrs hi) s =
      .next (let prev := match n.map, n.prevMap with | some m, some p => (if m.tmi == 0 then p.tmi else m.tmi) | some m, none => m.tmi | none, _ => 0;
        let m := buildMap snrs (t.pf 0xB018 16 8) (t.pf 0xB018 24 8) prev;
        let u := t.setNeigh src fun n => { n with prevMap := n.map, map := some m };
        let u := match u.neigh src with | some n => u.neighResult n 2 | none => u;
        let dst := if u.line.st == 2 && u.line.soundReq == src then (u.line.members.headD src) % 1024 else src;
        match u.lineRoute dst with | some (next, up) => u.lineQueue 9 2 false dst next up true ((List.range 36).map (fun i => BitVec.ofNat 8 (snrs.getD i 0)) ++ leBytes 1 m.tmi ++ leBytes 1 m.modu ++ leBytes 4 m.mask) | none => u))

/-- Each event of the site line's own times whose cause is present leads to the next state that R402 to R407 give. -/
def Obligations.LineTimesComplete : Prop :=
  (∀ (s : State) (t : LineTx),
    s.line.tx = some t →
    t.stop ≤ s.now →
    t.out.f.ackReq = true →
    t.ack = false →
    exec (.lineFrameTransmitEnd) s =
      .next (let u := s.setLine fun l => { l with tx := none, txOff := t.stop + ticksPerMs, txCount := (l.txCount + 1) % 65536 };
        (u.setLine fun l => { l with awaiting := some { t.out with sends := t.out.sends + 1, toNext := t.out.toNext + 1 } }).arm .tAck 0 (s.pf 0xB014 0 10 * ticksPerMs))) ∧
  (∀ (s : State) (t : LineTx),
    s.line.tx = some t →
    t.stop ≤ s.now →
    t.ack = true →
    t.out.f.ty ≠ 8 →
    exec (.lineFrameTransmitEnd) s =
      .next (s.setLine fun l => { l with tx := none, txOff := t.stop + ticksPerMs, txCount := (l.txCount + 1) % 65536 })) ∧
  (∀ (s : State) (sp : Nat) (rs : List CarrierReading) (ok : Bool) (o : LineOut) (t : State),
    s.lineIdle = true →
    s.mayContend = true →
    s.lineReports = t →
    pickFrame t.sendable = some o →
    (55 + 40 * o.f.prio) * ticksPerMs ≤ s.idleFor sp rs + txLead →
    exec (.mediumAccess sp rs ok) s =
      .next (let u := (t.draw (if o.sends == 0 then 8 else 4)).2.lineSend o ok false; if u.1 then u.2.setLine fun l => { l with queue := l.queue.erase o } else u.2)) ∧
  (∀ (s : State) (ok : Bool) (due : Nat) (o : LineOut) (rest : List (Nat × LineOut)),
    s.line.acks = (due, o) :: rest →
    due ≤ s.now →
    s.line.tx = none →
    exec (.ackTransmit ok) s = .next (((s.setLine fun l => { l with acks := rest }).lineSend o ok true).2)) ∧
  (∀ (s : State) (o : LineOut),
    s.expired .tAck 0 = true →
    s.line.awaiting = some o →
    o.sends ≤ s.pf 0xB010 19 3 →
    o.upward = false →
    exec (.tAckExpiry) s =
      .next (((s.expire .tAck 0).setLine fun l => { l with awaiting := none }).setLine fun l => { l with queue := o :: l.queue })) ∧
  (∀ (s : State) (o : LineOut),
    s.expired .tAck 0 = true →
    s.line.awaiting = some o →
    s.pf 0xB010 19 3 < o.sends →
    (∀ f ∈ (((s.expire .tAck 0).setLine fun l => { l with awaiting := none }).setErr .line 6).flights, f.opcode ≠ 0xA0) →
    exec (.tAckExpiry) s = .next (((s.expire .tAck 0).setLine fun l => { l with awaiting := none }).setErr .line 6)) ∧
  (∀ (s : State) (ok : Bool),
    s.line.tx = none →
    s.line.test = none →
    s.line.st = 3 →
    s.line.beaconAt = none →
    exec (.beaconPeriod ok) s = .next (s.beacon ok)) ∧
  (∀ (s : State) (ok : Bool) (b : Nat),
    s.line.tx = none →
    s.line.test = none →
    s.line.st = 3 →
    s.line.beaconAt = some b →
    b + s.pf 0xB010 0 8 * 100 * ticksPerMs ≤ s.now →
    exec (.beaconPeriod ok) s = .next (s.beacon ok)) ∧
  (∀ (s : State) (ok : Bool) (i b : Nat),
    s.lineIndex = some i →
    s.line.beaconAt = some b →
    s.line.st = 2 →
    s.lineIdle = true →
    b + (250 + i * s.line.slot * 10) * ticksPerMs ≤ s.now + txLead →
    s.now + txLead < b + (250 + i * s.line.slot * 10) * ticksPerMs + s.line.slot * 10 * ticksPerMs →
    s.line.soundReq = s.lineAddr →
    exec (.memberSlot ok) s =
      .next (let t := s.setLine fun l => { l with soundReq := 0xFFFF };
        (t.lineSend ⟨⟨8, 3, false, t.lineHops, [], t.lineAddr, 0xFFFF, t.lineAddr, 0xFFFF, t.line.seq, []⟩, true, none, 0, 0, false, 0, none⟩ ok false).2)) ∧
  (∀ (s : State),
    s.expired .tBeacon 0 = true →
    s.line.st = 2 →
    exec (.tBeaconExpiry) s = .next (((s.expire .tBeacon 0).lineTo 4).setErr .line 2)) ∧
  (∀ (s : State) (i b : Nat),
    s.lineIndex = some i →
    s.line.beaconAt = some b →
    s.line.st = 4 →
    s.pf 0xB000 3 1 ≠ 0 →
    i ≠ 0 →
    (b + (s.pf 0xB010 16 3 + (((s.line.members.take i).drop 1).filter fun m => hasBit m 15).length + 1) * s.line.bp * 100 * ticksPerMs ≤ s.now) →
    exec (.coordinatorTakeover) s =
      .next (let me := s.line.members.getD i 0;
        let rest := (s.line.members.drop 1).filter (· != me);
        (s.setLine fun l => { l with members := me :: rest, heard := rest.map (fun m => (m % 1024, s.now)), joins := [], reports := [] }).lineTo 3)) ∧
  (∀ (s : State),
    s.lineRole = 0 →
    (s.line.st = 1 ∨ s.line.st = 5) →
    s.line.advAt + s.pf 0xB014 10 12 * ticksPerS ≤ s.now →
    exec (.tAdvExpiry) s = .next (((((s.noteTimeout 51).setLine fun l => { l with advAt := s.now }).lineTo 5).lineLevel).lineAdvert)) ∧
  (∀ (s : State) (a n : Nat) (f : Flight),
    s.line.sounding = some (a, n) →
    s.flights.find? (·.opcode == 0xA1) = some f →
    a + 2000 * ticksPerMs ≤ s.now →
    exec (.lineSoundWindowEnd) s = .next (((s.noteTimeout 52).setLine fun l => { l with sounding := none }).settleFlight f stOk 0 n)) ∧
  (∀ (s : State) (noise : List Nat) (t : LineTestRun) (f : Flight),
    s.line.test = some t →
    t.until_ ≤ s.now →
    t.kind = 2 →
    s.flights.find? (·.opcode == 0xA2) = some f →
    exec (.lineTestEnd noise) s =
      .next (((s.setLine fun l => { l with test := none }).writeHost (BitVec.ofNat 64 f.arg) ((List.range 36).map fun i => BitVec.ofNat 8 (noise.getD i 0))).settleFlight f stOk 0 0)) ∧
  (∀ (s : State) (noise : List Nat) (t : LineTestRun) (f : Flight),
    s.line.test = some t →
    t.until_ ≤ s.now →
    t.kind < 2 →
    s.flights.find? (·.opcode == 0xA2) = some f →
    exec (.lineTestEnd noise) s = .next ((s.setLine fun l => { l with test := none, txOff := t.until_ + ticksPerMs }).settleFlight f stOk 0 0))

/-- A taken command of the site line has the effect that R415 gives it, and is answered or set in flight. -/
def Obligations.LineCommandsComplete : Prop :=
  (∀ (s : State) (d : Desc),
    Ready s 10 d →
    Plain d →
    d.scope = 0 →
    (d.len.toNat ≤ if hasBit (dbyte d 21) 3 then 1024 else 256) →
    s.lineEn = true →
    d.unit = 0xFFFF →
    dbyte d 21 < 16 →
    dbyte d 20 = 3 →
    dbyte d 21 % 4 ≠ 0 →
    (taken s 10 d).lineRole = 0 →
    exec (.lineSend d) s =
      .next (let t := (taken s 10 d).lineQueue 3 (dbyte d 21 % 4) false 0xFFFF 0xFFFF false (hasBit (dbyte d 21) 3) (d.payload.take d.len.toNat);
        t.launch 10 0xA0 d false [] [] t.line.seq)) ∧
  (∀ (s : State) (d : Desc) (n : Nat) (up : Bool),
    Ready s 10 d →
    Plain d →
    d.scope = 0 →
    (d.len.toNat ≤ if hasBit (dbyte d 21) 3 then 1024 else 256) →
    s.lineEn = true →
    d.unit.toNat < 1024 →
    dbyte d 21 < 16 →
    dbyte d 20 = 7 →
    (taken s 10 d).lineIndex ≠ none →
    (taken s 10 d).lineRole ≠ 0 →
    (taken s 10 d).lineRoute d.unit.toNat = some (n, up) →
    exec (.lineSend d) s =
      .next (let t := (taken s 10 d).lineQueue 7 (dbyte d 21 % 4) (hasBit (dbyte d 21) 2) d.unit.toNat n up (hasBit (dbyte d 21) 3) (d.payload.take d.len.toNat);
        t.launch 10 0xA0 d false [] [] t.line.seq)) ∧
  (∀ (s : State) (d : Desc),
    Ready s 0 d →
    Plain d →
    d.scope = 0 →
    d.len.toNat = 0 →
    s.lineEn = true →
    d.unit = 0 →
    (∀ f ∈ (taken s 0 d).flights, f.opcode ≠ 0xA1) →
    exec (.lineSound d) s = .next (((taken s 0 d).launch 0 0xA1 d false [] []).lineBroadcast 8 3 true [])) ∧
  (∀ (s : State) (d : Desc),
    Ready s 0 d →
    Plain d →
    d.scope = 0 →
    dbyte d 24 ≤ 2 →
    (d.len.toNat = if dbyte d 24 = 2 then 36 else 0) →
    s.lineEn = true →
    d.unit = 0 →
    (dbyte d 24 ≠ 0 ∨ dbyte d 25 ≤ 45) →
    1 ≤ dparam d 26 2 →
    dparam d 26 2 ≤ 60000 →
    s.line.st ≠ 3 →
    (taken s 0 d).line.test = none →
    exec (.lineTest d) s =
      .next (((taken s 0 d).setLine fun l => { l with test := some ⟨dbyte d 24, dbyte d 25, (taken s 0 d).now + (if dbyte d 24 < 2 then txLead else 0) + dparam d 26 2 * ticksPerMs⟩ }).launch 0 0xA2 d false [] [] d.addr.toNat)) ∧
  (∀ (s : State) (d : Desc),
    Ready s 0 d →
    Plain d →
    d.scope = 0 →
    d.len.toNat = 1024 →
    s.lineEn = true →
    d.unit = 0 →
    exec (.lineNeighRead d) s =
      .next (((taken s 0 d).writeHost d.addr (((taken s 0 d).line.neigh.flatMap LineNeigh.bytes ++ zeros 1024).take 1024)).answer 0 0xA3 d stOk))

/-- Each event of keys and trust whose cause is present leads to the next state that R382, R419 to R434 give. -/
def Obligations.KeyEventsComplete : Prop :=
  (∀ (s : State) (x : TamperSign),
    s.tampered x = true →
    tamperCause x ≠ 2 →
    s.htcLoaded = true →
    exec (.tamperTrigger x) s =
      .next (((({ s with island := { s.island with root := none, tamp := setBitR s.island.tamp (tamperCause x), tampSec := s.island.rtcSec, caseTrig := s.island.caseTrig && tamperCause x != 2 } } : State).note 2 32 (tamperIndex (tamperCause x)))).zeroised)) ∧
  (∀ (s : State) (x : TamperSign),
    s.tampered x = true →
    tamperCause x = 2 →
    s.htcLoaded = true →
    exec (.tamperTrigger x) s =
      .next (({ s with island := { s.island with root := none, tamp := setBitR s.island.tamp (tamperCause x), tampSec := s.island.rtcSec, caseTrig := s.island.caseTrig && tamperCause x != 2 } } : State).zeroised)) ∧
  (∀ (s : State) (x : TamperSign),
    s.tampered x = true →
    s.htcLoaded = false →
    exec (.tamperTrigger x) s =
      .next ({ s with island := { s.island with root := none, tamp := setBitR s.island.tamp (tamperCause x), tampSec := s.island.rtcSec, caseTrig := s.island.caseTrig && tamperCause x != 2, unpoweredCauses := s.island.unpoweredCauses ++ [tamperCause x] } })) ∧
  (∀ (s : State) (v : Nat) (t : State),
    s.keys.generating = true →
    s.keys.rngOk = true →
    s.draw (2 ^ 256) = (v, t) →
    s.fuses.epoch < 59 →
    exec (.rootGenerationComplete) s =
      .next (({ t with fuses := { t.fuses with epoch := t.fuses.epoch + 1 }, nv := { t.nv with keyA := none, keyB := none }, island := { t.island with root := some v, integrity := true, keyTally := 0 } } : State).setKeys fun k => { k with generating := false, rootReg := some v })) ∧
  (∀ (s : State),
    exec (.rngHealthFail) s = .next ((s.setErr .key 0).setKeys fun k => { k with rngOk := false })) ∧
  (∀ (s : State) (n : Nat),
    4096 ≤ n →
    exec (.rngRecover n) s = .next (s.setKeys fun k => { k with rngOk := true })) ∧
  (∀ (s : State) (m : KeyPending),
    s.keys.pendingMsg = some m →
    m.copyDone = false →
    s.frozen = false →
    s.now < m.switchAt →
    exec (.keyCopyWritten false) s = .next ((s.setErr .key 2).endKeyUpdate 0x2B)) ∧
  (∀ (s : State) (m : KeyPending),
    s.keys.pendingMsg = some m →
    m.copyDone = false →
    s.frozen = false →
    s.now < m.switchAt →
    exec (.keyCopyWritten true) s =
      .next (({ s with nv := { s.nv with keyA := s.nv.keyA.map (fun k => if k.counter == m.counter && k.trailer.isNone then { k with trailer := some (k.mac s.storeKey) } else k), keyB := s.nv.keyB.map (fun k => if k.counter == m.counter && k.trailer.isNone then { k with trailer := some (k.mac s.storeKey) } else k) } } : State).setKeys fun k => { k with pendingMsg := some { m with copyDone := true } })) ∧
  (∀ (s : State) (m : KeyPending),
    s.keys.pendingMsg = some m →
    m.switchAt ≤ s.now →
    s.frozenAt = none →
    m.copyDone = true →
    exec (.keySwitch) s =
      .next (let t := s.note 14 32 48;
        let owners := m.prog.foldl (fun (v : Vector (Option (BitVec 384)) 4) p => if h : p.1 < 4 then v.set p.1 (some p.2) else v) s.fuses.owners;
        let revoked := m.revoke.foldl (fun (v : BitVec 4) i => v ||| BitVec.ofNat 4 (2 ^ i)) s.fuses.revoked;
        let t : State := { t with fuses := { s.fuses with owners := owners, revoked := revoked, debugLock := s.fuses.debugLock || m.lock } };
        let t := t.setKeys fun k => { k with keys := m.keys, debugCounter := if k.debug then m.counter else k.debugCounter };
        (if s.keys.debug = true then t else { t with island := { s.island with keyTally := max s.island.keyTally m.counter } }).endKeyUpdate stOk (m.generated.flatMap (keyPayload m.keys)))) ∧
  (∀ (s : State) (m : KeyPending),
    s.keys.pendingMsg = some m →
    m.switchAt ≤ s.now →
    s.frozenAt = none →
    m.copyDone = false →
    exec (.keySwitch) s = .next ((s.note 14 32 48).endKeyUpdate 0x2C))

/-- A taken key command has the effect that R430 to R434 give it. The signature of a key update is an uninterpreted function of the model (log
3): the statement says what follows when it verifies and when it does not. -/
def Obligations.KeyCommandsComplete : Prop :=
  (∀ (s : State) (d : Desc),
    Ready s 0 d →
    Plain d →
    d.scope = 0 →
    d.len.toNat = 133 →
    d.unit = 0 →
    (taken s 0 d).ownerProg = 0 →
    (taken s 0 d).keys.debug = false →
    (taken s 0 d).rootStat = 1 →
    exec (.keyOwnerEnrol d) s =
      .next (({ taken s 0 d with fuses := { s.fuses with owners := s.fuses.owners.set 0 (some (Config.sha384 (d.payload.take 133))), debugLock := s.fuses.debugLock || hasBit (dbyte d 24) 0 } } : State).answer 0 0xB0 d stOk)) ∧
  (∀ (s : State) (d : Desc) (m slot : Nat) (t : State) (w : KeyWork) (owner : Bytes),
    Ready s 0 d →
    Plain d →
    d.scope = 0 →
    d.unit = 0 →
    t = taken s 0 d →
    m = field d.payload 7 1 →
    1 ≤ m →
    m ≤ 16 →
    d.len.toNat = 462 + 96 * m →
    t.rootStat = 1 →
    t.keys.pendingMsg = none →
    t.keys.debug = false →
    owner = (d.payload.drop (197 + 96 * m)).take 133 →
    slot = field d.payload 6 1 →
    slot < 4 →
    t.fuses.owners.toList.getD slot none = some (Config.sha384 owner) →
    t.fuses.revoked.getLsbD slot = false →
    field d.payload 8 8 = t.fuses.dieIdD.toNat →
    field d.payload 16 1 = t.keyEpoch →
    t.island.keyTally < field d.payload 24 8 →
    t.keyEntries (t.kek ((d.payload.drop 64).take 133) (field d.payload 24 8)) slot ((keyOps m ((d.payload.drop 197).take (96 * m))).any (·.op == 4)) 0 ⟨t.keys.keys, [], [], false, []⟩ (keyOps m ((d.payload.drop 197).take (96 * m))) = .ok w →
    w.generated = [] →
    exec (.keyUpdate d) s =
      .next (if Config.ecdsaVerify owner (d.payload.take (197 + 96 * m + 133)) ((d.payload.drop (197 + 96 * m + 133)).take 132) then ((t.setKeys fun k => { k with pendingMsg := some ⟨field d.payload 24 8, w.keys, w.prog, w.revoke, w.lock, [], t.now + 1228800, false⟩ }).putKeyCopy ⟨1 + max (match t.nv.keyA with | some k => k.gen | none => 0) (match t.nv.keyB with | some k => k.gen | none => 0), field d.payload 24 8, t.fuses.epoch, w.keys, none⟩).launch 0 0xB1 d false [] [] else (t.setErr .key 1).answer 0 0xB1 d 0x20)) ∧
  (∀ (s : State) (d : Desc) (v o : Nat),
    Ready s 0 d →
    Plain d →
    d.scope = 0 →
    d.len.toNat = 32 →
    (taken s 0 d).rootStat = 1 →
    (taken s 0 d).attestKey d.unit.toNat = some (some v, o) →
    exec (.keyAttest d) s =
      .next ((taken s 0 d).answer 0 0xB2 d stOk 0 0 ((taken s 0 d).statement d.unit.toNat o v d.payload ++ leBytes 132 (Config.ecdsaSign ((taken s 0 d).derivedScalar "TSU ATTEST") ((taken s 0 d).statement d.unit.toNat o v d.payload)))))

/-- Each event of management whose cause is present leads to the next state that R440 to R465 give. -/
def Obligations.ManagementEventsComplete : Prop :=
  (∀ (s : State) (t : State),
    s.mgt.mcRun = true →
    ((((((s.setErr .mgt 2).abortOps mcOpcodes).cancelHandover).epdAbortAll).setMgt fun m => { m with download := none, schedWait := [], nmi := [] }) = t) →
    exec (.mcWatchdogExpiry) s = .next (State.finish s (if t.boot.phase == 6 then { t with boot := { t.boot with phase := 5 } } else t))) ∧
  (∀ (s : State) (f : Nat),
    s.mgt.shed < 3 →
    shedLevel s.mgt.shed (min f 1024) < 4 →
    exec (.shedLevelChange f) s = .next (State.finish s (s.setMgt fun m => { m with shed := shedLevel s.mgt.shed (min f 1024) }))) ∧
  (∀ (s : State) (f : Nat),
    s.mgt.shed < 4 →
    shedLevel s.mgt.shed (min f 1024) = 4 →
    exec (.shedLevelChange f) s = .next (State.finish s ((s.setMgt fun m => { m with shed := 4 }).setErr .mgt 15))) ∧
  (∀ (s : State) (vs : List Int) (me : MemorySigns) (hz : Nat),
    s.now % 245760 = 0 →
    s.htcLoaded = true →
    vs.length = 10 →
    exec (.sensorSample vs me hz) s =
      .next (let v : Vector Int 10 := .ofFn fun i => vs.getD i.val 0;
        let t : State := { s with line := { s.line with freq := hz } };
        let t := if s.mgt.shed < 3 ∨ s.now % ticksPerS = 0 then t.setMgt fun m => { m with sensors := v } else t;
        let t := t.setMgt fun m => { m with limits := .ofFn fun i => if (s.limitHits v).getD i.val false then min (m.limits[i] + 1) 2 else 0 };
        let t := (List.range 9).foldl (fun t i => if (t.mgt.limits.toList.getD i 0) ≥ 2 then t.setErr .mgt (limitBit i) else t) t;
        State.finish { s with line := { s.line with freq := hz } } ([(me.corrected, 6), (me.uncorrectable, 7), (me.mram, 8)].foldl (fun t (p : Bool × Nat) => if p.1 then t.setErr .mgt p.2 else t) t))) ∧
  (∀ (s : State) (x : Download) (v : Nat),
    s.mgt.download = some x →
    x.last = true →
    x.stage = false →
    v = field x.bytes 8 4 →
    v < 2 ^ 32 →
    s.island.antiRollback ≤ v →
    exec (.bundleVerified) s =
      .next (if bundleValid x.bytes then State.finish s ((s.startBundle x.bytes).endBundle stOk) else ({ s with boot := { s.boot with phase := 5, failCode := 0x10 } } : State).endBundle 0x20)) ∧
  (∀ (s : State) (x : Download),
    s.mgt.download = some x →
    x.last = true →
    x.stage = true →
    s.mgt.shed < 4 →
    field x.bytes 16 2 = s.mgt.runFormat →
    s.island.antiRollback ≤ (BitVec.ofNat 32 (field x.bytes 8 4)).toNat →
    exec (.bundleVerified) s =
      .next (if bundleValid x.bytes then (((({ s.setBoot (fun b => { b with cand := BitVec.ofNat 32 (field x.bytes 8 4), state := 1, sched := none, candFormat := field x.bytes 16 2 }) with nv := { (s.setBoot fun b => { b with cand := BitVec.ofNat 32 (field x.bytes 8 4), state := 1, sched := none, candFormat := field x.bytes 16 2 }).nv with shadow := [] } } : State).endBundle stOk)).upd 0 (BitVec.ofNat 32 (field x.bytes 8 4))) else s.endBundle 0x20)) ∧
  (∀ (s : State) (k : Schedule),
    s.nv.boot.sched = some k →
    k.htcForm = true →
    k.time ≤ s.now →
    s.paired = false →
    s.nv.boot.state = 2 →
    k.reachedAt = none →
    exec (.scheduledTimeReached) s =
      .next (State.finish s (((s.note 14 32 57).setBoot fun b => { b with sched := some { k with reachedAt := some s.now } }).takeHold))) ∧
  (∀ (s : State) (k : Schedule) (r : Nat),
    s.nv.boot.sched = some k →
    s.nv.boot.state = 2 →
    k.reachedAt = some r →
    s.now ≤ r + k.window * ticksPerS →
    s.quiescent = true →
    s.frozenAt = none →
    (∀ x ∈ s.commit, x.kind = 1) →
    exec (.updateActivation) s = .next ((((s.note 14 32 58).setBoot fun b => { b with state := 3 }).upd 2 k.version).requestChipReset 2)) ∧
  (∀ (s : State) (k : Schedule) (r : Nat),
    s.nv.boot.sched = some k →
    k.reachedAt = some r →
    s.nv.boot.state = 2 →
    r + k.window * ticksPerS ≤ s.now →
    exec (.scheduleWindowExpiry) s = .next (State.finish s ((s.noteTimeout 50).cancelSched.setErr .mgt 14))) ∧
  (∀ (s : State),
    s.mgt.trial = true →
    s.saf.armed = true →
    s.abc.ready = true →
    s.saf.scRun = true →
    s.anyResetSource = false →
    s.frozen = false →
    exec (.confirmationRequest) s =
      .next (let t := ((s.note 14 32 59).cancel .tConfirm 0).setBoot fun b => { b with conf := s.mgt.verRun, cand := 0, state := 0, sched := none, confFormat := s.mgt.runFormat };
        let t : State := { t with island := { t.island with antiRollback := max t.island.antiRollback s.mgt.verRun.toNat }, fuses := { t.fuses with level := max t.fuses.level (s.mgt.verRun.toNat / 2 ^ 24) } };
        let t := t.setMgt fun m => { m with trial := false, copyDue := !s.nv.shadow.isEmpty };
        (t.legal 0x21 (leBytes 4 s.mgt.verRun.toNat ++ leBytes 4 s.nv.boot.conf.toNat ++ leBytes 1 t.fuses.level)).upd 3 s.mgt.verRun)) ∧
  (∀ (s : State) (t : State),
    s.expired .tConfirm 0 = true →
    (t = (s.expire .tConfirm 0).setBoot fun b => { b with state := 5 }) →
    exec (.tConfirmExpiry) s =
      .next (let t := (t.setErr .mgt 12).legal 0x22 (leBytes 4 (t.setErr .mgt 12).mgt.verRun.toNat ++ [0]);
        State.finish s (((t.setMgt fun m => { m with trial := false, trialEnded := true }).upd 4 t.mgt.verRun).takeHold))) ∧
  (∀ (s : State),
    s.mgt.trialEnded = true →
    s.quiescent = true →
    s.chipResetDue = none →
    exec (.trialEndReset) s = .next (({ s with nv := { s.nv with shadow := [] } } : State).requestChipReset 2)) ∧
  (∀ (s : State),
    s.mgt.copyDue = true →
    exec (.profileCopyComplete) s =
      .next (({ s with nv := { s.nv with profiles := s.nv.shadow.foldl (fun (v : Vector ProfSlot 4) p => if h : p.1 < 4 then v.set p.1 { p.2 with gen := v[p.1].gen + 1 } else v) s.nv.profiles, shadow := [] } } : State).setMgt fun m => { m with copyDue := false }))

/-- A taken management command has the effect that R89, R454, R456 and R460 give it, and is answered or set in flight. -/
def Obligations.ManagementCommandsComplete : Prop :=
  (∀ (s : State) (d : Desc),
    Ready s 14 d →
    Plain d →
    d.scope = 0 →
    d.len.toNat ≤ 16777216 →
    d.unit = 0 →
    hasBit (dbyte d 28) 1 = true →
    hasBit (dbyte d 28) 0 = false →
    (taken s 14 d).boot.phase = 7 →
    (taken s 14 d).mgt.download = none →
    dparam d 24 4 = 0 →
    exec (.mgtBundle d) s =
      .next (((taken s 14 d).setMgt fun m => { m with download := some ⟨d.payload.take d.len.toNat, true, false⟩ }).answer 14 0xC0 d stOk)) ∧
  (∀ (s : State) (d : Desc),
    Ready s 14 d →
    Plain d →
    d.scope = 0 →
    d.len.toNat ≤ 16777216 →
    d.unit = 0 →
    hasBit (dbyte d 28) 1 = false →
    hasBit (dbyte d 28) 0 = true →
    (taken s 14 d).boot.phase = 5 →
    (taken s 14 d).mgt.download = none →
    dparam d 24 4 = 0 →
    exec (.mgtBundle d) s =
      .next (let t := (taken s 14 d).setMgt fun m => { m with download := some ⟨d.payload.take d.len.toNat, false, true⟩ };
        ({ t with boot := { t.boot with phase := 6 } } : State).launch 14 0xC0 d false [] [])) ∧
  (∀ (s : State) (d : Desc) (ok : Bool) (t : State),
    Ready s 0 d →
    Plain d →
    d.scope = 0 →
    d.len.toNat = 64 →
    d.unit = 0 →
    schedOk (d.payload.take 64) = true →
    (taken s 0 d).mgt.shed < 4 →
    (taken s 0 d).takeSched (d.payload.take 64) = (ok, t) →
    exec (.mgtUpdSchedule d) s = .next (State.finish s ((t.relaySched ok 0 (d.payload.take 64)).answer 0 0xC1 d (if ok then stOk else 0x24)))) ∧
  (∀ (s : State) (d : Desc),
    Ready s 0 d →
    Plain d →
    d.scope = 0 →
    d.len.toNat = 0 →
    d.unit = 0 →
    (taken s 0 d).nv.boot.state = 2 →
    exec (.mgtUpdCancel d) s = .next (State.finish s ((taken s 0 d).cancelSched.answer 0 0xC2 d stOk))) ∧
  (∀ (s : State) (d : Desc) (es : List LogEntry),
    Ready s 0 d →
    Plain d →
    d.scope = 0 →
    d.len.toNat = 0 →
    d.unit = 0 →
    1 ≤ d.param0.toNat →
    d.param0.toNat ≤ 4096 →
    (es = s.nv.llog.entries.filter fun e => decide (d.param1.toNat ≤ e.lseq.toNat) && decide (e.lseq.toNat < d.param1.toNat + d.param0.toNat)) →
    exec (.mgtLogRead d) s =
      .next ((es.foldl (fun s e => s.emit 13 0x01 0xFFFF 0 e.lseq.toNat e.bytes) (taken s 0 d)).answer 0 0xC3 d stOk 0 es.length)) ∧
  (∀ (s : State) (d : Desc) (t : State),
    Ready s 0 d →
    Plain d →
    d.scope = 0 →
    d.len.toNat = 40 →
    d.unit = 0 →
    (taken s 0 d).authRole 0xC4 d = (true, t) →
    t.nv.llog.ack.toNat ≤ field d.payload 32 8 →
    (field d.payload 32 8 ≤ (match t.nv.llog.entries.getLast? with | some e => e.lseq.toNat | none => t.nv.llog.ack.toNat)) →
    exec (.mgtLogAck d) s =
      .next (({ t with nv := { t.nv with llog := { t.nv.llog with ack := BitVec.ofNat 64 (field d.payload 32 8) } } } : State).answer 0 0xC4 d stOk)) ∧
  (∀ (s : State) (d : Desc) (n : Fin 4),
    Ready s 0 d →
    Plain d →
    d.scope = 0 →
    64 ≤ d.len.toNat →
    d.len.toNat ≤ 65536 →
    d.unit.toNat = n.val →
    (taken s 0 d).updating = false →
    (taken s 0 d).mgt.download = none →
    exec (.mgtProfWrite d) s =
      .next (({ taken s 0 d with nv := { (taken s 0 d).nv with profiles := (taken s 0 d).nv.profiles.set n { slotOfBytes (d.payload.take d.len.toNat) with magic := profMagic } } } : State).answer 0 0xC5 d stOk))

/-- Each event of a display port whose cause is present leads to the next state that R474 to R486 give. -/
def Obligations.DisplayEventsComplete : Prop :=
  (∀ (s : State) (p : Fin 4) (temp : Int) (r : EpdRun) (n : Nat) (t : State),
    s.epd[p].run = some r →
    s.epd[p].stage = .reading →
    (t = s.setEpd p fun e => { e with temp := some (epdReading temp, s.now) }) →
    signedByte (t.epdPf p 0x0C 0 8) ≤ epdReading temp →
    epdReading temp ≤ signedByte (t.epdPf p 0x0C 8 8) →
    s.epd[p].framesOf (t.waveOf p (t.epdBand p (epdReading temp)) r.mode) r.lines = some n →
    n ≠ 0 →
    exec (.epdTemperatureRead p true temp) s =
      .next ((t.setEpd p fun e => { e with band := t.epdBand p (epdReading temp), lines := r.lines.length, frame := 0, run := some { r with band := t.epdBand p (epdReading temp), reading := epdReading temp, frames := n } }).epdPowerUp p)) ∧
  (∀ (s : State) (p : Fin 4) (temp : Int) (r : EpdRun),
    s.epd[p].run = some r →
    s.epd[p].stage = .reading →
    ((s.setErr (.epd p) 1).epd[p]).temp = none →
    exec (.epdTemperatureRead p false temp) s = .next ((((s.setErr (.epd p) 1).setErr (.epd p) 2)).epdRefuse p r 0x21)) ∧
  (∀ (s : State) (p : Fin 4) (temp : Int),
    s.epd[p].pmicEn = true →
    exec (.epdStatusTempRead p true temp) s = .next (s.setEpd p fun e => { e with temp := some (epdReading temp, s.now) })) ∧
  (∀ (s : State) (p : Fin 4) (temp : Int),
    s.epd[p].pmicEn = true →
    exec (.epdStatusTempRead p false temp) s = .next (s.setErr (.epd p) 1)) ∧
  (∀ (s : State) (p : Fin 4),
    s.epd[p].stage = .powering →
    s.now ≤ s.pgExpiry p →
    exec (.epdPwrgoodRise p) s =
      .next (s.setEpd p fun e => { e with pwrgood := true, vcomEn := true, stage := .ready, since := s.now, run := e.run.map fun r => { r with start := s.now + ticksPerMs } })) ∧
  (∀ (s : State) (p : Fin 4),
    (s.epd[p].stage ≠ .powering ∨ s.pgExpiry p < s.now) →
    exec (.epdPwrgoodRise p) s = .next (s.setEpd p fun e => { e with pwrgood := true })) ∧
  (∀ (s : State) (p : Fin 4) (r : EpdRun),
    s.epd[p].run = some r →
    s.epd[p].stage = .powering →
    s.pgExpiry p ≤ s.now →
    exec (.epdTPgExpiry p) s = .next ((((s.noteTimeout 53).setEpd p fun e => { e with pmicEn := false }).setErr (.epd p) 0).epdRefuse p r 0x25)) ∧
  (∀ (s : State) (p : Fin 4),
    s.epd[p].vcomEn = false →
    exec (.epdPwrgoodFall p) s = .next (s.setEpd p fun e => { e with pwrgood := false })) ∧
  (∀ (s : State) (p : Fin 4),
    s.epd[p].vcomEn = true →
    exec (.epdPwrgoodFall p) s =
      .next (((s.setEpd p fun e => { e with pwrgood := false }).epdInterrupt p (some 0x25)).setEpd p fun e => { e with dirty := true, image := none, refusedAt := if e.refusedAt.isSome then e.refusedAt else some s.now })) ∧
  (∀ (s : State) (p : Fin 4) (r : EpdRun),
    s.epd[p].run = some r →
    (s.epd[p].stage = .ready ∨ s.epd[p].stage = .driving) →
    s.epdFrameEnd p r ≤ s.now →
    r.frame + 1 < r.frames →
    exec (.epdFrame p) s =
      .next ((s.setEpd p fun e => { e with stage := .driving, rows := s.epdRows p r, frame := min (r.frame + 1) (r.frames - 1), run := some { r with frame := r.frame + 1 } }))) ∧
  (∀ (s : State) (p : Fin 4) (r : EpdRun),
    s.epd[p].run = some r →
    (s.epd[p].stage = .ready ∨ s.epd[p].stage = .driving) →
    s.epdFrameEnd p r ≤ s.now →
    r.frames ≤ r.frame + 1 →
    exec (.epdFrame p) s =
      .next ((s.setEpd p fun e => { e with stage := .driving, rows := s.epdRows p r, frame := min (r.frame + 1) (r.frames - 1), run := some { r with frame := r.frame + 1 } }).epdEnd p { r with frame := r.frame + 1 })) ∧
  (∀ (s : State) (p : Fin 4),
    s.epd[p].stage = .idle →
    s.epd[p].since + s.epdPf p 0x10 0 16 * ticksPerMs ≤ s.now →
    exec (.epdTIdleExpiry p) s = .next ((s.noteTimeout 54).setEpd p fun e => { e with vcomEn := false, stage := .down, since := s.now })) ∧
  (∀ (s : State) (p : Fin 4),
    s.epd[p].stage = .down →
    s.epd[p].since + ticksPerMs ≤ s.now →
    exec (.epdPmicOff p) s =
      .next (((s.setEpd p fun e => { e with pmicEn := false, stage := .rest, since := s.now, refusedAt := if e.jobs.isEmpty then e.refusedAt else none }).epdWriteScript p).epdNext p)) ∧
  (∀ (s : State) (p : Fin 4) (r : Nat),
    s.epd[p].refusedAt = some r →
    r + 60 * ticksPerS ≤ s.now →
    exec (.epdClearRetry p) s = .next (((s.noteTimeout 55).setEpd p fun e => { e with refusedAt := none }).epdNext p)) ∧
  (∀ (s : State) (p : Fin 4) (b : Bytes) (us : Nat),
    s.epd[p].rx.length + b.length ≤ 256 →
    exec (.epdUartRxFlush p b us) s = .next (State.uartChunks p (decide (2000 ≤ us)) 5 (s.setEpd p fun e => { e with rx := s.epd[p].rx ++ b }))) ∧
  (∀ (s : State) (p : Fin 4) (b : Bytes) (us : Nat),
    256 < s.epd[p].rx.length + b.length →
    exec (.epdUartRxFlush p b us) s =
      .next (State.uartChunks p (decide (2000 ≤ us)) 5 ((s.setErr (.epd p) 4).setEpd p fun e => { e with rx := (s.epd[p].rx ++ b).take 256 })))

/-- A taken display command has the effect that R473 to R488 give it, and is answered or set in flight. -/
def Obligations.DisplayCommandsComplete : Prop :=
  (∀ (s : State) (d : Desc) (p : Fin 4),
    Ready s 15 d →
    Plain d →
    d.scope = 0 →
    d.unit.toNat = p.val →
    s.epdEn p = true →
    dbyte d 24 ≤ 1 →
    d.param0.toNat % 65536 ≤ d.param0.toNat / 65536 →
    d.param0.toNat / 65536 < s.epdHeight p →
    d.len.toNat = (d.param0.toNat / 65536 - d.param0.toNat % 65536 + 1) * (s.epdWidth p / 2) →
    d.len.toNat ≤ 16777216 →
    exec (.epdUpdate d) s =
      .next (let t := (taken s 15 d).launch 15 0xD0 d false [] [] p.val;
        (t.setEpd p fun e => { e with jobs := e.jobs ++ [⟨d.param0.toNat % 65536, d.param0.toNat / 65536, dbyte d 24, pixelRows (t.epdWidth p) d.payload (d.param0.toNat / 65536 - d.param0.toNat % 65536 + 1)⟩], refusedAt := none }).epdNext p)) ∧
  (∀ (s : State) (d : Desc) (p : Fin 4),
    Ready s 15 d →
    Plain d →
    d.scope = 0 →
    d.unit.toNat = p.val →
    s.epdEn p = true →
    dbyte d 24 = 2 →
    d.len = 0 →
    exec (.epdUpdate d) s =
      .next (let t := (taken s 15 d).launch 15 0xD0 d false [] [] p.val;
        (t.setEpd p fun e => { e with jobs := e.jobs ++ [⟨d.param0.toNat % 65536, d.param0.toNat / 65536, 2, []⟩], refusedAt := none }).epdNext p)) ∧
  (∀ (s : State) (d : Desc) (p : Fin 4),
    Ready s 0 d →
    Plain d →
    d.scope = 0 →
    d.len.toNat = 4352 →
    d.unit.toNat = p.val →
    s.epdEn p = true →
    dbyte d 24 < 8 →
    dbyte d 25 < 3 →
    (taken s 0 d).epdBusy p = false →
    exec (.epdWaveLoad d) s =
      .next (let t := taken s 0 d;
        let k := 24 * p.val + 3 * dbyte d 24 + dbyte d 25;
        let ws := t.nv.links.waves.filter (·.1 != k);
        ({ t with nv := { t.nv with links := { t.nv.links with waves := ws.filter (·.1 < k) ++ (k, d.payload.take 4352) :: ws.filter (k < ·.1) } } } : State).answer 0 0xD1 d stOk)) ∧
  (∀ (s : State) (d : Desc) (p : Fin 4),
    Ready s 15 d →
    Plain d →
    d.scope = 0 →
    d.unit.toNat = p.val →
    s.epdEn p = true →
    d.len.toNat = s.epdHeight p * (s.epdWidth p / 2) →
    d.len.toNat ≤ 16777216 →
    (taken s 15 d).epdBusy p = false →
    exec (.epdUnifLoad d) s =
      .next (let t := taken s 15 d; (t.setEpd p fun e => { e with unif := some (pixelRows (t.epdWidth p) d.payload (t.epdHeight p)) }).answer 15 0xD2 d stOk)) ∧
  (∀ (s : State) (d : Desc) (p : Fin 4),
    Ready s 0 d →
    Plain d →
    d.scope = 0 →
    d.len.toNat = 0 →
    d.unit.toNat = p.val →
    s.epdEn p = true →
    dparam d 24 2 ≤ 1000 →
    exec (.epdFl d) s =
      .next (((taken s 0 d).setEpd p fun e => { e with req := dparam d 24 2, duty := if e.cleared then dparam d 24 2 else e.duty }).answer 0 0xD3 d stOk)) ∧
  (∀ (s : State) (d : Desc) (p : Fin 4),
    Ready s 0 d →
    Plain d →
    d.scope = 0 →
    1 ≤ d.len.toNat →
    d.len.toNat ≤ 256 →
    d.unit.toNat = p.val →
    s.epdEn p = true →
    exec (.epdUartSend d) s =
      .next (let t := taken s 0 d;
        let fin := max t.now t.epd[p].txFree + t.uartTicks p d.len.toNat;
        (t.setEpd p fun e => { e with txFree := fin }).launch 0 0xD4 d false [] [] fin))

/-- Each event of a redundant pair whose cause is present leads to the next state that R492 to R508 give. -/
def Obligations.PairEventsComplete : Prop :=
  (∀ (s : State),
    s.pair.drive = true →
    s.pair.probeWin ≠ some (s.now / 24576) →
    s.now % 24576 % 512 = 490 →
    s.now % 24576 / 512 < 40 →
    exec (.pairProbe false) s =
      .next (State.finish s (s.setPair fun p => { p with probeWin := some (s.now / 24576), probes := p.probes + 1, contend := 0 }))) ∧
  (∀ (s : State) (t : State),
    s.pair.drive = true →
    s.pair.probeWin ≠ some (s.now / 24576) →
    s.now % 24576 % 512 = 490 →
    s.now % 24576 / 512 < 40 →
    (((((((s.setPair fun p => { p with probeWin := some (s.now / 24576) }).note 0 32 102).setPair fun p => { p with contend := p.contend + 1, probes := 0 }).setErr .pair 0).pairResult 2).holdFall) = t) →
    t.pair.pri = false →
    exec (.pairProbe true) s = .next (State.finish s (t.pairRelease false))) ∧
  (∀ (s : State) (low : Bool),
    exec (.pairHoldLineChange low) s =
      .next (State.finish s (s.setPair fun p => { p with lineLow := low, highFrom := if low then none else some s.now, releasedAt := if low && !p.drive then none else p.releasedAt }))) ∧
  (∀ (s : State),
    s.mayClaim = true →
    exec (.tFreeExpiry) s =
      .next (State.finish s (((s.noteTimeout 40).note 0 32 103).setPair fun p => { p with drive := true, driveFrom := s.now, probes := 0, contend := 0, lineLow := true, highFrom := none, released := false }))) ∧
  (∀ (s : State),
    s.expired .tSwitch 0 = true →
    s.pair.hold = true →
    exec (.tSwitchExpiry) s =
      .next (let t := (s.expire .tSwitch 0).setPair fun p => { p with enabled := true };
        State.finish s ((t.forLanes fun t n => if t.laneEn n then (t.laneEnable n true).chainStart n else t).mclkPlan))) ∧
  (∀ (s : State),
    s.pairLinkOn = true →
    s.now % 245760 = 0 →
    exec (.healthSend) s = .next (s.pairSend 1 s.healthPayload)) ∧
  (∀ (s : State) (b : Bytes),
    s.pairLinkOn = true →
    b.length = 64 →
    s.pair.linkUp = true →
    field b 9 1 = s.pf 0xF000 0 2 →
    field b 10 3 = s.hubId →
    exec (.healthReceived true b) s =
      .next (let t := (((s.setPair fun p => { p with linkUp := true }).goodFrame).note 14 32 65);
        State.finish s ((t.setPair fun p => { p with mismatch := false, pHealthy := hasBit (field b 8 1) 0, pHold := hasBit (field b 8 1) 1, pSync := hasBit (field b 8 1) 3, pFeeds := BitVec.ofNat 2 (field b 8 1 / 16 % 4), pVer := BitVec.ofNat 32 (field b 16 4), pConf := BitVec.ofNat 32 (field b 20 4), pDone := field b 24 8, pri := if t.pair.pri == hasBit (field b 8 1) 6 then decide (s.fuses.dieIdD.toNat < field b 0 8) else p.pri, tbAsked := p.tbAsked && hasBit (field b 8 1) 1 }).syncCheck))) ∧
  (∀ (s : State) (bs : Bytes) (b : JBlock) (t : State),
    jblockOfBytes bs = some b →
    s.pairLinkOn = true →
    s.frozen = false →
    s.abc.ready = true →
    t = b.entries.foldl State.joinEntry (s.goodFrame.note 12 32 24) →
    b.seq ≤ t.pair.joined + 1 →
    exec (.journalFrameReceived true bs) s =
      .next (let u := t.setPair fun p => { p with joined := max p.joined b.seq }; State.finish s ((u.pairSend 3 (leBytes 8 u.pair.joined)).syncCheck))) ∧
  (∀ (s : State) (b : Bytes),
    s.pairLinkOn = true →
    b.length = 8 →
    exec (.jackReceived true b) s =
      .next (s.goodFrame.setPair fun p => { p with acked := field b 0 8, bulkTx := p.bulkTx.filter fun k => decide (field b 0 8 + 1 < k.jStart) })) ∧
  (∀ (s : State) (b : JBlock) (bs : List JBlock),
    s.pairLinkOn = true →
    s.pair.hold = true →
    s.pair.linkUp = true →
    s.now % 2457600 = 0 →
    s.pair.acked < s.abc.jseq →
    (s.nv.journal.filter (fun b => decide (s.pair.acked < b.seq)) = b :: bs) →
    b.seq ≤ s.pair.acked + 1 →
    exec (.journalResend) s = .next ((b :: bs).foldl (fun t b => t.pairSend 2 b.bytes) s)) ∧
  (∀ (s : State) (b : Bytes),
    s.pairLinkOn = true →
    b.length = 2052 →
    s.frozen = false →
    s.abc.ready = true →
    s.pair.hold = false →
    field b 0 4 = 0 →
    exec (.bulkReceived true b) s = .next (s.goodFrame.setPair fun p => { p with bulkRx := some (0, [], field ((b.drop 4).take 2016) 17 8, 1) })) ∧
  (∀ (s : State) (b : Bytes),
    s.pairLinkOn = true →
    exec (.pairScheduleReceived true b) s = .next (State.finish s ((s.goodFrame.note 14 32 67).peerSched b 2))) ∧
  (∀ (s : State),
    s.pairLinkOn = true →
    s.pair.hold = true →
    exec (.takebackReceived true) s = .next (State.finish s (s.goodFrame.takePairHold fun p => { p with byTakeback := true }))) ∧
  (∀ (s : State),
    s.pairLinkOn = true →
    s.pair.hold = false →
    exec (.takebackReceived true) s = .next (s.goodFrame)) ∧
  (∀ (s : State),
    s.pairLinkOn = true →
    exec (.releasedReceived true) s = .next ((s.goodFrame.setPair fun p => { p with tbAsked := false, pHold := false }).cancel .tTbwin 0)) ∧
  (∀ (s : State),
    s.expired .tLink 0 = true →
    exec (.tLinkExpiry) s =
      .next (let t := ((s.expire .tLink 0).note 14 32 64).setPair fun p => { p with linkUp := false, sync := false, pHealthy := false, pHold := false, pSync := false, bulkRx := none, bulkTx := none };
        State.finish s ((t.setErr .pair 1).pairResult 4))) ∧
  (∀ (s : State),
    s.expired .tSettle 0 = true →
    exec (.tSettleExpiry) s = .next (State.finish s ((s.expire .tSettle 0).setPair fun p => { p with settled := p.wasHealthy }))) ∧
  (∀ (s : State),
    s.pair.tbAsked = true →
    s.pair.linkUp = true →
    s.pair.tbAt + ticksPerS ≤ s.now →
    exec (.takebackResend) s = .next ((s.setPair fun p => { p with tbAt := s.now }).pairSend 5 [])) ∧
  (∀ (s : State),
    s.pairHold = true →
    s.pair.drive = true →
    s.quiescent = true →
    s.pair.linkUp = true →
    s.pair.pHealthy = true →
    s.pair.pSync = true →
    exec (.pairRelease) s = .next (State.finish s (((s.pairRelease true).pairSend 6 []).setPair fun p => { p with released := true }))) ∧
  (∀ (s : State) (t : State),
    s.expired .tTbwin 0 = true →
    (s.expire .tTbwin 0).pairHold = true →
    (((s.expire .tTbwin 0).dropPairHold.setErr .pair 5).pairResult 7) = t →
    exec (.tTbwinExpiry) s = .next (State.finish s ((t.flights.filter (·.opcode == 0xD8)).foldl (fun t f => t.settleFlight f 0x21 0 0) t))) ∧
  (∀ (s : State),
    s.expired .tTbwin 0 = true →
    (s.expire .tTbwin 0).pairHold = false →
    s.pair.tbAsked = true →
    exec (.tTbwinExpiry) s =
      .next (State.finish s (((s.expire .tTbwin 0).setPair fun p => { p with tbAsked := false, settled := false }).arm .tSettle 0 (s.pf 0xF004 0 12 * ticksPerS)))) ∧
  (∀ (s : State) (r : Nat),
    s.pair.releasedAt = some r →
    r + ticksPerS ≤ s.now →
    exec (.reclaimTimeout) s = .next ((s.noteTimeout 49).setPair fun p => { p with releasedAt := none, released := false }))

/-- A taken handover command has the effect that R505 gives it: a handover is set in flight with the profile's hold taken, a cancel is answered. -/
def Obligations.PairCommandsComplete : Prop :=
  (∀ (s : State) (d : Desc),
    Ready s 0 d →
    Plain d →
    d.scope = 0 →
    d.len.toNat = 0 →
    d.unit = 0 →
    (taken s 0 d).pair.hold = true →
    (taken s 0 d).pair.linkUp = true →
    (taken s 0 d).pair.pHealthy = true →
    (taken s 0 d).pair.pSync = true →
    exec (.pairHandover d) s =
      .next (State.finish s (((taken s 0 d).launch 0 0xD8 d false [] []).takePairHold fun p => { p with byHandover := true }))) ∧
  (∀ (s : State) (d : Desc),
    Ready s 0 d →
    Plain d →
    d.scope = 0 →
    d.len.toNat = 0 →
    d.unit = 0 →
    (taken s 0 d).pair.byHandover = true →
    exec (.pairHandoverCancel d) s = .next (State.finish s ((taken s 0 d).cancelHandover.answer 0 0xD9 d stOk)))

/-- Each event of the counting board whose cause is present, and a taken ARB_CLAIM_CHECK, leads to the next state that R510 to R523 give; a
transfer that ends makes the bytes it wrote to DRAM readable, and one cut off or withdrawn leaves both memories as they were. -/
def Obligations.BoardComplete : Prop :=
  (∀ (s : State) (n : Nat),
    s.pf 0x10000 0 16 ≤ n →
    exec (.arbWindowStart n) s =
      .next ((s.setArb fun a => { a with credit := .ofFn fun i => min (s.arb.credit[i] + s.arbWeight i) (2 * s.arbWeight i), shown := .ofFn fun i => min (s.arb.credit[i] + s.arbWeight i) (2 * s.arbWeight i), barred := [] }).arbAll)) ∧
  (∀ (s : State) (r : Fin 16) (t b : Nat) (w : Option ArbWrite) (ended : Bool),
    s.refusesWrite r b w = false →
    b ≠ 0 →
    exec (.arbRequest r t b w ended) s =
      .next (((if ended = true then s.arbFinish t else s).setArb fun a => { a with waiting := a.waiting ++ [⟨r, t, b, w⟩] }).arbitrate t)) ∧
  (∀ (s : State) (r : Fin 16) (t b : Nat) (w : Option ArbWrite) (ended : Bool),
    s.refusesWrite r b w = false →
    b = 0 →
    exec (.arbRequest r t b w ended) s = .next ((if ended = true then s.arbFinish t else s).arbitrate t)) ∧
  (∀ (s : State) (r : Fin 16) (t b : Nat) (w : Option ArbWrite) (ended : Bool),
    s.refusesWrite r b w = true →
    exec (.arbRequest r t b w ended) s =
      .next ((((if ended = true then s.arbFinish t else s).setErr .arb 16).setArb fun x => { x with protId := r }).arbitrate t)) ∧
  (∀ (s : State) (t n : Nat) (g : ArbReq),
    s.arbHolder t = some g →
    urgent g.requester = false →
    s.arbLimit g.requester < n →
    exec (.bankHogCutoff t n) s =
      .next ((((s.arbRevoke g).setErr .arb g.requester.val).setArb fun a => { a with hogs := a.hogs.set g.requester (min (a.hogs[g.requester] + 1) 0xFFFFFFFF), barred := (g.requester, t) :: a.barred }).arbitrate t)) ∧
  (∀ (s : State) (t : Nat) (g : ArbReq),
    s.arbHolder t = some g →
    exec (.grantWithdraw t 0) s =
      .next (((s.arbCharge g.requester (-g.beats)).setArb fun a => { a with grants := a.grants.erase g }).arbitrate t)) ∧
  (∀ (s : State) (d : Desc),
    Ready s 0 d →
    Plain d →
    d.scope = 0 →
    d.len.toNat = 0 →
    d.unit.toNat < 4 →
    exec (.arbClaimCheck d) s =
      .next (match (taken s 0 d).checkProfile (BitVec.ofNat 2 d.unit.toNat).toFin with | .ok _ => (taken s 0 d).answer 0 0xE0 d stOk | .err 4 claim => (taken s 0 d).answer 0 0xE0 d 0x20 0 claim.toNat | .err code _ => (taken s 0 d).answer 0 0xE0 d 0x21 0 code)) ∧
  (∀ (s : State) (t i : Nat) (g : ArbReq) (w : ArbWrite), s.arbHolder t = some g → g.write = some w → w.dram = true →
    i < w.data.length → i < 64 * g.beats → memRead (s.arbFinish t).arb.dram (w.addr + i) = w.data[i]?) ∧
  (∀ (s u : State) (t n : Nat), exec (.bankHogCutoff t n) s = .next u ∨ exec (.grantWithdraw t n) s = .next u →
    u.arb.dram = s.arb.dram ∧ u.arb.sram = s.arb.sram)

/-- For every command c and state s: a step of s with c in front of its queue is exec of c on s with the queue's rest. -/
def Obligations.FrontCommandActs : Prop :=
  ∀ (c : Instr) (s : State), step { s with pending := c :: s.pending } = exec c s

/-- On an empty queue a step is one tick of the clock. At a stamp whose expiries have not been taken yet, they are put in the queue and nothing
else changes. That the clock runs on an empty queue is the model's own choice, log 2. -/
def Obligations.IdleStepRunsTheClock : Prop :=
  ∀ (s : State), s.pending = [] → step s = .next s.tick ∧
    (s.htcLoaded = true → s.expiries ≠ [] → s.seq.swept ≠ some s.now →
      step s = .next { s with pending := s.expiries, seq := { s.seq with swept := some s.now } })

/-- For every command and every state exec answers a next state; no command ends in a fault or a refusal. -/
def Obligations.EveryCommandAnswers : Prop :=
  ∀ (c : Instr) (s : State), ∃ t, exec c s = .next t

/-- After reset: no profile is active or pending, no error bit is set, no ring is enabled, V_HU is 160 steps, the checkpoint interval is 1 s, no
commit is in progress, every lane is DISABLED, the safety island is disarmed, the boot phase is 0 and the command queue is empty. -/
def Obligations.ResetLeavesTheStatedValues : Prop :=
  let s := State.reset
  s.glb.profActiveValid = false ∧ s.glb.profPendingValid = false ∧ (∀ r : ErrReg, s.err r = 0) ∧ (∀ n : Fin 16, s.hif.rings[n].en = false) ∧
    s.glb.holdupThresh = 0x0A0 ∧ s.glb.ckptInterval = 1 ∧ s.commit = none ∧ (∀ n : Fin 32, s.lanes[n].st = .disabled) ∧
    s.saf.armed = false ∧ s.boot.phase = 0 ∧ s.pending = []

/-- At reset the memory that the part writes in the host, the DRAM and the shared SRAM lies in canonical form, and every internal queue's packet
counter is the number of end marks in it. -/
def Obligations.ResetMeetsTheInvariants : Prop :=
  Safety.memory State.reset ∧ CountsPackets State.reset

/-- Whatever the front command, if the memory that the part has written in the host, the DRAM and the shared SRAM lies in canonical form
(addresses strictly rising) and a step answers a next state, it still lies in canonical form. -/
def Obligations.StepKeepsHostMemoryCanonical : Prop :=
  ∀ (s t : State), Safety.memory s → step s = .next t → Safety.memory t

/-- Whatever the front command, if every internal queue's packet counter is the number of end marks in the queue that have been neither read nor
dropped, it still is after a step. -/
def Obligations.StepKeepsPacketCounters : Prop :=
  ∀ (s t : State), CountsPackets s → step s = .next t → CountsPackets t

/-- No step clears a fuse: the die IDs, the serial number, the variant and the subsystem IDs never change, the epoch and the security level
never fall, a programmed owner slot stays programmed, a revoked slot stays revoked and a set debug lock stays set. -/
def Obligations.FusesOnlyBlow : Prop :=
  ∀ (s t : State), step s = .next t → OnlyBlown s.fuses t.fuses

/-- Whichever command runs, the queue of commands that wait behind it is the same afterwards. -/
def Obligations.CommandsLeaveTheQueue : Prop :=
  ∀ (c : Instr) (s t : State), exec c s = .next t → t.pending = s.pending

/-- Every command other than MET_READ, MET_COEF_READ, NRG_READ, NRG_CAL_READ, ABC_QUERY, LINE_NEIGH_READ and the end of a line test leaves every
byte of host memory as it was. -/
def Obligations.OnlyReadingsWriteHostMemory : Prop :=
  ∀ (c : Instr) (s t : State), WritesHost c = false → exec c s = .next t → t.hostMem = s.hostMem

/-- MET_READ, MET_COEF_READ, NRG_READ, NRG_CAL_READ, ABC_QUERY and LINE_NEIGH_READ leave every byte of host memory outside the LEN bytes from
ADDR as it was. -/
def Obligations.ReadingsStayInTheirBuffers : Prop :=
  ∀ (d : Desc) (u : List Nat) (s t : State) (a : Nat),
    (exec (.metRead d) s = .next t ∨ exec (.metCoefRead d) s = .next t ∨ exec (.nrgRead d) s = .next t ∨
      exec (.nrgCalRead d) s = .next t ∨ exec (.abcQuery d u) s = .next t ∨ exec (.lineNeighRead d) s = .next t) →
    a < d.addr.toNat ∨ d.addr.toNat + d.len.toNat ≤ a → memRead t.hostMem a = memRead s.hostMem a

/-- Writing a command's completion leaves the lanes, the metrology, the energy registers, the register book, the ledger, the keys, the vehicle
link, the readers, the safety island, the load switches, the line, the displays, the counting board, the configuration, the timers, the
battery island, the fuses, host memory and the waiting commands as they were. -/
def Obligations.AnswersLeaveTheLegalPath : Prop :=
  ∀ (s : State) (ring op : Nat) (d : Desc) (st dt inl : Nat) (p : Bytes), let t := s.answer ring op d st dt inl p
    t.lanes = s.lanes ∧ t.met = s.met ∧ t.nrg = s.nrg ∧ t.book = s.book ∧ t.abc = s.abc ∧ t.keys = s.keys ∧ t.link = s.link ∧ t.tok = s.tok ∧
      t.saf = s.saf ∧ t.lsw = s.lsw ∧ t.line = s.line ∧ t.epd = s.epd ∧ t.arb = s.arb ∧ t.cfg = s.cfg ∧ t.timers = s.timers ∧
      t.island = s.island ∧ t.fuses = s.fuses ∧ t.hostMem = s.hostMem ∧ t.pending = s.pending

/-- A write of index x to a doorbell sets P on a to-device ring and C on a from-device ring; out of range it has no effect but HIF_ERR.DB_RANGE,
and the ring keeps running. (R104) -/
def Obligations.DoorbellMovesTheIndex : Prop :=
  ∀ (s : State) (n : Fin 16) (x : BitVec 16), ∃ t, exec (.ringDoorbell n x) s = .next t ∧
    let r := s.hif.rings[n]
    let tooFar := if toDevice n then r.size < (x - r.cons).toNat else (r.prod - r.cons).toNat < (x - r.cons).toNat
    (¬ tooFar → toDevice n = true → t.hif.rings[n].prod = x) ∧ (¬ tooFar → toDevice n = false → t.hif.rings[n].cons = x ∧ t.hif.rings[n].prod = r.prod) ∧
      (tooFar → t.hif.rings = s.hif.rings ∧ (t.err .hif).getLsbD 2 = true ∧ t.ringRun n = s.ringRun n) ∧
      (∀ m : Fin 16, m ≠ n → t.hif.rings[m] = s.hif.rings[m])

/-- A descriptor with FENCE set is not accepted while a command of the same ring is unsettled, and a later descriptor of that ring waits behind
one that waits: neither changes anything but the list of waiting commands and the record of when the ring's source was last held (R546).
(R107) -/
def Obligations.FencedCommandsWait : Prop :=
  ∀ (s : State) (i : Instr) (ring : Fin 16) (op : Nat) (d : Desc) (a b c : Bool) (act : State → State),
    (d.fence = true ∧ s.unsettled ring.val = true) ∨ (∃ w, s.waiting.find? (·.ring == ring.val) = some w ∧ w.cmd ≠ i) →
    ∃ ws ks, s.accept i ring op d a b c act = { s with waiting := ws, intake := ks } ∧ (s.sourceHeld ring = false → ks = s.intake)

/-- A commit that begins takes 1 plus the greatest generation found in either slot. (R71) -/
def Obligations.CommitTakesTheNextGeneration : Prop :=
  ∀ (s : State) (kind : Nat) (cause : Option Nat) (k : Commit),
    (s.startCommit kind cause).commit = some k → s.commit ≠ some k →
    k.gen = 1 + max ((s.nv.slotA.map (·.gen)).getD 0) ((s.nv.slotB.map (·.gen)).getD 0)

/-- With an interval of 0, or away from a whole multiple of INTERVAL seconds, no checkpoint starts; at a multiple one starts, of class 14, when
the legal path is on and no commit is in progress, frozen or already taken at that tick. -/
def Obligations.CheckpointsFallOnMultiples : Prop :=
  ∀ (s : State), ((s.glb.ckptInterval.toNat = 0 ∨ s.now % (s.glb.ckptInterval.toNat * ticksPerS) ≠ 0) → exec .checkpointStart s = .next s) ∧
    (s.glb.ckptInterval.toNat ≠ 0 → s.now % (s.glb.ckptInterval.toNat * ticksPerS) = 0 → s.legalOn = true → s.commit = none → s.frozenAt = none →
      (∀ x ∈ s.nv.slotA, x.freeze ≠ s.now) → (∀ x ∈ s.nv.slotB, x.freeze ≠ s.now) →
      ∃ t k e, exec .checkpointStart s = .next t ∧ t.commit = some k ∧ k.kind = 1 ∧ k.freeze = s.now ∧ e ∈ t.seq.waiting ∧ e.cls = 14 ∧ e.stamp = s.now)

/-- Lanes 8k to 8k + 7 put their events on ring 2 + k, whatever the profile. (R20) -/
def Obligations.LaneEventsGoToTheirSessionCore : Prop :=
  ∀ (s : State) (n : Fin 32) (k op dt inl : Nat), k < 4 → 8 * k ≤ n.val → n.val ≤ 8 * k + 7 →
    ∃ r : Fin 16, r.val = 2 + k ∧ s.laneResult n op dt inl = s.emit r op n.val dt inl

/-- When a round selects two or more tokens, a MULTI result is issued, the field is off, polling goes on and no lane changes. (R195) -/
def Obligations.SeveralTokensAreRefused : Prop :=
  ∀ (s : State) (r : Fin 4) (us : List Bytes), s.tok.readers[r].step = some 0 → 2 ≤ (inventory us).length →
    ∃ t, exec (.inventoryComplete r us) s = .next t ∧
      t = ((((s.note 10 32 r.val).setReader r fun x => { x with multi := min (x.multi + 1) 65535 }).tokResult r 0x06
        (min (inventory us).length 255) 0).tapOver r) ∧
      t.tok.readers[r].field = false ∧ t.tok.readers[r].step = none ∧ t.lanes = s.lanes

/-- A quantum for a lane that holds no entry changes no record, sets ABC_ERR.ORPHAN_Q and is reported as a SESSION result with slot 0x1FF_FFFF.
(R230) -/
def Obligations.QuantumWithoutEntryIsNotCharged : Prop :=
  ∀ (s : State) (n : Fin 32) (q : Nat) (final : Bool), s.frozen = false → s.grant (laneEntry n) = none →
    let t := (s.note 8 n.val 0).setErr .abc 8
    s.quantum n q final = t.ledgerResult 0x03 n.val 0 (t.ledgerPayload 0x1FFFFFF Rec.empty (some ⟨0x1FFFFFF, 0, 0, q, false, false, false, 0, 0, 0, 0⟩)) ∧
      (s.quantum n q final).abc.dram = s.abc.dram ∧ ((s.quantum n q final).err .abc).getLsbD 8 = true

/-- Stopping a timer leaves it not running, and an expiry row of any timer that does not run changes nothing and records nothing. (R36) -/
def Obligations.CancelledTimersNeverExpire : Prop :=
  (∀ (s : State) (k : TimerKind) (o i : Nat), (s.cancel k o i).armed k o i = false) ∧
  (∀ (s : State) (n : Fin 32),
    (s.armed .tClose n.val = false → exec (.tCloseExpiry n) s = .next s) ∧ (s.armed .tFb n.val = false → exec (.tFbExpiry n) s = .next s) ∧
    (s.armed .tStop n.val = false → exec (.tStopExpiry n) s = .next s) ∧ (s.armed .tFaultHold n.val = false → exec (.tFaultHoldExpiry n) s = .next s) ∧
    (s.armed .tMod n.val = false → exec (.tModExpiry n) s = .next s) ∧ (s.armed .tSlacInit n.val = false → exec (.tSlacInitExpiry n) s = .next s) ∧
    (s.armed .tMatchResp n.val = false → exec (.tMatchRespExpiry n) s = .next s) ∧
    (s.armed .tMatchSession n.val = false → exec (.tMatchSessionExpiry n) s = .next s) ∧
    (s.armed .tSetup n.val = false → exec (.tSetupExpiry n) s = .next s) ∧ (s.armed .tSeq n.val = false → exec (.tSeqExpiry n) s = .next s) ∧
    (s.armed .tAuth n.val = false → exec (.tAuthExpiry n) s = .next s) ∧ (s.armed .tHost n.val = false → exec (.tHostExpiry n) s = .next s) ∧
    (s.armed .tCpstate n.val = false → exec (.tCpstateExpiry n) s = .next s) ∧ (s.armed .tCable n.val = false → exec (.tCableExpiry n) s = .next s) ∧
    (s.armed .tAutorst n.val = false → exec (.tAutorstExpiry n) s = .next s) ∧ (s.armed .tWeld n.val = false → exec (.tWeldExpiry n) s = .next s)) ∧
  (∀ (s : State) (r : Fin 4),
    (s.armed .tProv r.val = false → exec (.tProvExpiry r) s = .next s) ∧ (s.armed .tFsess r.val = false → exec (.tFsessExpiry r) s = .next s) ∧
    (s.armed .tRetap r.val = false → exec (.tRetapExpiry r) s = .next s) ∧ (s.armed .tTrig r.val = false → exec (.tTrigExpiry r) s = .next s)) ∧
  (∀ (s : State) (n : Fin 32) (p : Nat), s.armed .tRepeat n.val p = false → exec (.tRepeatExpiry n p) s = .next s) ∧
  (∀ (s : State) (k : Nat), s.armed .tMnbc k = false → exec (.tMnbcExpiry k) s = .next s) ∧
  (∀ (s : State) (p : Fin 36), s.armed .tDisc p.val = false → exec (.tDiscExpiry p) s = .next s) ∧
  (∀ (s : State) (m : Fin 16), s.armed .tRetry (auxCh m).val = false → exec (.tRetryExpiry m) s = .next s) ∧
  (∀ (s : State) (op : Byte) (u : Nat), s.armed .tCommand u op.toNat = false → exec (.commandTimeLimitExpiry op u) s = .next s) ∧
  (∀ (s : State), (s.armed .tAck 0 = false → exec .tAckExpiry s = .next s) ∧ (s.armed .tBeacon 0 = false → exec .tBeaconExpiry s = .next s) ∧
    (s.armed .tConfirm 0 = false → exec .tConfirmExpiry s = .next s) ∧ (s.armed .tSwitch 0 = false → exec .tSwitchExpiry s = .next s) ∧
    (s.armed .tSettle 0 = false → exec .tSettleExpiry s = .next s) ∧ (s.armed .tTbwin 0 = false → exec .tTbwinExpiry s = .next s) ∧
    (s.armed .tLink 0 = false → exec .tLinkExpiry s = .next s))

/-- Events are ordered by stamp, then source class, then lane, then index, then the order of issue; the order is total and transitive, and two
events that each stand before the other have the same keys. (R29) -/
def Obligations.EventOrderIsTotal : Prop :=
  (∀ a b : EventKey, keyLe a b = true ↔ a.stamp < b.stamp ∨ (a.stamp = b.stamp ∧ (a.cls < b.cls ∨ (a.cls = b.cls ∧ (a.lane < b.lane ∨
      (a.lane = b.lane ∧ (a.index < b.index ∨ (a.index = b.index ∧ a.order ≤ b.order)))))))) ∧
  (∀ a b : EventKey, keyLe a b = true ∨ keyLe b a = true) ∧ (∀ a b : EventKey, keyLe a b = true → keyLe b a = true → a = b) ∧
  (∀ a b c : EventKey, keyLe a b = true → keyLe b c = true → keyLe a c = true)

/-- The release of a tick, 8 ticks later or after, takes every waiting event of that tick and none of any other, and gives them in the order of
their keys. -/
def Obligations.EventsAreReleasedInOrder : Prop :=
  ∀ (s : State) (tick : Nat), tick + 8 ≤ s.now → ∃ t, exec (.eventRelease tick) s = .next t ∧
    (∀ e, e ∈ t.seq.waiting ↔ e ∈ s.seq.waiting ∧ e.stamp ≠ tick) ∧ (∀ e ∈ s.seq.waiting, e.stamp = tick → e ∈ t.seq.released) ∧
    (∀ e ∈ t.seq.released, e.stamp = tick) ∧ t.seq.released.Pairwise (fun a b => keyLe a b = true)

/-- While the safety island is not armed every HSS_PERMIT and every SC_PERMIT is 0 and no coil is on; a coil that is on has its lane demand, its
grant, both permits, a valid pilot and the heartbeat, and neither a hold-up nor a loss of CK_MET. -/
def Obligations.DisarmedIslandGivesNoPermit : Prop :=
  ∀ (s : State) (n : Fin 32), (s.saf.armed = false → s.hssPermit n = false ∧ s.scPermit n = false ∧ s.coilOn n = false) ∧
    (s.coilOn n = true → s.saf.armed = true ∧ s.laneReq n = true ∧ s.lanes[n].grant = true ∧ s.pilotValid n = true ∧ s.hssPermit n = true ∧
      s.scPermit n = true ∧ s.lsw.hb = true ∧ s.power.holdupNow = false ∧ s.clocks.ok.getLsbD 1 = true)

/-- A tamper trigger while powered clears the root and leaves the energy registers, the calibration, the ledger's records, the closed bills, the
billing journal and the anti-rollback tally as they were. -/
def Obligations.ZeroisationSparesTheLegalPath : Prop :=
  ∀ (s t : State) (x : TamperSign), s.tampered x = true → exec (.tamperTrigger x) s = .next t →
    t.nrg.accs = s.nrg.accs ∧ t.book.cal = s.book.cal ∧ t.abc.dram = s.abc.dram ∧ t.nv.bills = s.nv.bills ∧ t.nv.journal = s.nv.journal ∧ t.nv.calA = s.nv.calA ∧ t.nv.calB = s.nv.calB ∧
      t.island.antiRollback = s.island.antiRollback ∧ t.island.root = none ∧ t.island.tamp.getLsbD (tamperCause x) = true ∧ t.island.tampSec = s.island.rtcSec

/-- A chip reset keeps the non-volatile memory, the battery island, the fuses, GLB_RST_CAUSE and GLB_COMMIT_STAT, and leaves no error bit, no
active profile, no commit in progress and every lane DISABLED. -/
def Obligations.ChipResetKeepsWhatPowerKeeps : Prop :=
  ∀ (s : State), let t := s.chipReset
    t.nv = s.nv ∧ t.island = s.island ∧ t.fuses = s.fuses ∧ t.glb.rstCause = s.glb.rstCause ∧ t.glb.comGen = s.glb.comGen ∧
      t.glb.comKind = s.glb.comKind ∧ t.glb.comSlotB = s.glb.comSlotB ∧ (∀ r : ErrReg, t.err r = 0) ∧ t.glb.profActiveValid = false ∧
      t.commit = none ∧ (∀ n : Fin 32, t.lanes[n].st = .disabled) ∧ t.hif.run = false

/-- A write to an error register clears the bits written as 1, leaves the bits written as 0, and sets none, in every error register but that of
the management block, whose storm bit has an action of its own. -/
def Obligations.ErrorBitsClearOnlyByWritingOnes : Prop :=
  ∀ (s t : State) (off : BitVec 17) (val : BitVec 32) (r : ErrReg), off.toNat % 4 = 0 → (s.boot.phase = 7 ∨ off.toNat < 0x2000) →
    errRegAt off.toNat = some r → r ≠ .mgt → exec (.registerWrite off 0xF val false) s = .next t →
    (∀ i : Nat, (t.err r).getLsbD i = ((s.err r).getLsbD i && !(val.getLsbD i))) ∧ t.lanes = s.lanes ∧ t.hif = s.hif ∧ t.hostMem = s.hostMem

/-- A read of a word from 0x1_1000 on, which Table 4-2 gives to no page, returns zero and changes nothing but the data read, and a whole write
of one changes nothing. A read of an error register returns its bits, as far as its bytes are enabled, and clears none. -/
def Obligations.ReservedOffsetsReadZero : Prop :=
  (∀ (s : State) (off : BitVec 17) (be : BitVec 4), off.toNat % 4 = 0 → 0x11000 ≤ off.toNat →
      exec (.latchedPairRead off be false) s = .next { s with glb := { s.glb with readData := 0 } }) ∧
  (∀ (s : State) (off : BitVec 17) (val : BitVec 32), off.toNat % 4 = 0 → 0x11000 ≤ off.toNat → exec (.registerWrite off 0xF val false) s = .next s) ∧
  (∀ (s : State) (off : BitVec 17) (be : BitVec 4) (r : ErrReg), off.toNat % 4 = 0 → errRegAt off.toNat = some r →
      ∃ t, exec (.latchedPairRead off be false) s = .next t ∧ t.glb.readData = enabled be (s.err r) ∧ t.errs = s.errs)
end

