-- ==== Sys2Proof/Laws/Memory.lean ====
section
/-!
SUPPORT. The part's writes to host memory: a read after a write, the bytes a write leaves alone, and the canonical form that every write keeps
(log 68).
-/
namespace Sys2Proof.Machine

open Sys2Proof

@[simp] theorem memRead_nil (a : Nat) : memRead [] a = none := rfl

@[simp] theorem memRead_cons (x : Nat) (y : Byte) (m : List Host.Cell) (a : Nat) :
    memRead ((x, y) :: m) a = if x = a then some y else memRead m a := by
  unfold memRead
  by_cases h : x = a
  · simp [h]
  · rw [List.find?_cons_of_neg (by simpa using h), if_neg h]

theorem Memory.wf_tail {c : Host.Cell} {m : List Host.Cell} (h : Memory.wf (c :: m) = true) : Memory.wf m = true := by
  cases m with
  | nil => rfl
  | cons d m => simp only [Memory.wf, Bool.and_eq_true] at h; exact h.2

/-- Every cell after the first lies at a higher address. -/
theorem Memory.wf_lt {x : Nat} {y : Byte} {m : List Host.Cell} (h : Memory.wf ((x, y) :: m) = true) : ∀ c ∈ m, x < c.1 := by
  induction m generalizing x y with
  | nil => simp
  | cons d m ih =>
    obtain ⟨a, b⟩ := d
    simp only [Memory.wf, Bool.and_eq_true, decide_eq_true_eq] at h
    intro c hc
    rcases List.mem_cons.1 hc with rfl | hc
    · exact h.1
    · exact Nat.lt_trans h.1 (ih h.2 c hc)

theorem memRead_of_lt {m : List Host.Cell} {a : Nat} (h : ∀ c ∈ m, a < c.1) : memRead m a = none := by
  induction m with
  | nil => rfl
  | cons c m ih =>
    obtain ⟨x, y⟩ := c
    have h1 := h (x, y) (List.mem_cons_self ..)
    rw [memRead_cons, if_neg (by simp at h1; omega), ih fun c hc => h c (List.mem_cons_of_mem _ hc)]

/-- A byte that was put is read back. -/
theorem memRead_memPut_same (m : List Host.Cell) (a : Nat) (b : Byte) : memRead (memPut m a b) a = some b := by
  induction m with
  | nil => simp [memPut]
  | cons c m ih =>
    obtain ⟨x, y⟩ := c
    unfold memPut
    split
    · next h => rw [memRead_cons, if_neg (by omega), ih]
    · split <;> simp

/-- Putting a byte leaves every other byte alone. -/
theorem memRead_memPut_other (m : List Host.Cell) (a a' : Nat) (b : Byte) (h : a' ≠ a) : memRead (memPut m a b) a' = memRead m a' := by
  induction m with
  | nil => simp [memPut, Ne.symm h]
  | cons c m ih =>
    obtain ⟨x, y⟩ := c
    unfold memPut
    split
    · simp only [memRead_cons, ih]
    · split
      · next h1 =>
        have h1 : x = a := by simpa using h1
        simp [Ne.symm h, h1]
      · simp [Ne.symm h]

theorem memPut_head {m : List Host.Cell} {x a : Nat} {y b : Byte} (hm : Memory.wf ((x, y) :: m) = true) (h : x < a) :
    Memory.wf ((x, y) :: memPut m a b) = true := by
  induction m generalizing x y with
  | nil => simp [memPut, Memory.wf, h]
  | cons c m ih =>
    obtain ⟨u, v⟩ := c
    simp only [Memory.wf, Bool.and_eq_true, decide_eq_true_eq] at hm
    unfold memPut
    split
    · next h1 => simp only [Memory.wf, Bool.and_eq_true, decide_eq_true_eq]; exact ⟨hm.1, ih hm.2 h1⟩
    · split
      · next h1 h2 =>
        have h2 : u = a := by simpa using h2
        subst h2
        cases m with
        | nil => simp [Memory.wf, hm.1]
        | cons d m =>
          simp only [Memory.wf, Bool.and_eq_true, decide_eq_true_eq] at hm ⊢
          exact ⟨hm.1, hm.2⟩
      · next h1 h2 =>
        have h2 : u ≠ a := by simpa using h2
        simp only [Memory.wf, Bool.and_eq_true, decide_eq_true_eq]
        exact ⟨h, by omega, hm.2⟩

/-- Putting a byte keeps the canonical form. -/
theorem memPut_wf {m : List Host.Cell} (a : Nat) (b : Byte) (hm : Memory.wf m = true) : Memory.wf (memPut m a b) = true := by
  cases m with
  | nil => rfl
  | cons c m =>
    obtain ⟨x, y⟩ := c
    unfold memPut
    split
    · next h => exact memPut_head hm h
    · split
      · next h1 h2 =>
        have h2 : x = a := by simpa using h2
        subst h2
        cases m with
        | nil => rfl
        | cons d m => simpa only [Memory.wf] using hm
      · next h1 h2 =>
        have h2 : x ≠ a := by simpa using h2
        simp only [Memory.wf, Bool.and_eq_true, decide_eq_true_eq]
        exact ⟨by omega, hm⟩

/-- A run of bytes keeps the canonical form. -/
theorem memWrite_wf {m : List Host.Cell} (a : Nat) (bs : Bytes) (hm : Memory.wf m = true) : Memory.wf (memWrite m a bs) = true := by
  induction bs generalizing m a with
  | nil => exact hm
  | cons b bs ih => exact ih (a + 1) (memPut_wf a b hm)

/-- A run of bytes leaves every byte outside it alone. -/
theorem memRead_memWrite_outside (m : List Host.Cell) (a a' : Nat) (bs : Bytes) (h : a' < a ∨ a + bs.length ≤ a') :
    memRead (memWrite m a bs) a' = memRead m a' := by
  induction bs generalizing m a with
  | nil => rfl
  | cons b bs ih =>
    simp only [List.length_cons] at h
    rw [memWrite, ih _ _ (by omega), memRead_memPut_other _ _ _ _ (by omega)]

/-- A run of bytes is read back. -/
theorem memRead_memWrite_inside (m : List Host.Cell) (a i : Nat) (bs : Bytes) (h : i < bs.length) :
    memRead (memWrite m a bs) (a + i) = some bs[i] := by
  induction bs generalizing m a i with
  | nil => simp at h
  | cons b bs ih =>
    cases i with
    | zero => rw [memWrite, memRead_memWrite_outside _ _ _ _ (Or.inl (by omega))]; exact memRead_memPut_same m a b
    | succ i =>
      have h' : i < bs.length := by simpa using h
      have := ih (memPut m a b) (a + 1) i h'
      rw [memWrite, show a + (i + 1) = a + 1 + i by omega, this]; rfl

/-- Writing a payload keeps the canonical form of host memory. -/
theorem State.writeHost_wf {s : State} (addr : BitVec 64) (bs : Bytes) (h : Memory.wf s.hostMem = true) :
    Memory.wf (s.writeHost addr bs).hostMem = true := memWrite_wf _ _ h

/-- Writing a payload leaves every byte outside it alone. -/
theorem State.writeHost_frame (s : State) (addr : BitVec 64) (bs : Bytes) (a : Nat)
    (h : a < addr.toNat ∨ addr.toNat + bs.length ≤ a) : memRead (s.writeHost addr bs).hostMem a = memRead s.hostMem a :=
  memRead_memWrite_outside _ _ _ _ h

end Sys2Proof.Machine
end

