-- ==== Sys2Proof/Laws/State.lean ====
section
/-!
SUPPORT. What each field reads after each update of the state: one lemma per field per update, true by rfl, so that no proof
unfolds a record update.
-/
namespace Sys2Proof.Machine

open Sys2Proof

variable (s : State)

/-! ## cancel -/

@[simp] theorem State.cancel_htc (k : TimerKind) (o u : Nat) : (s.cancel k o u).htc = s.htc := rfl
@[simp] theorem State.cancel_htcLoaded (k : TimerKind) (o u : Nat) : (s.cancel k o u).htcLoaded = s.htcLoaded := rfl
@[simp] theorem State.cancel_outside (k : TimerKind) (o u : Nat) : (s.cancel k o u).outside = s.outside := rfl
@[simp] theorem State.cancel_freeCtr (k : TimerKind) (o u : Nat) : (s.cancel k o u).freeCtr = s.freeCtr := rfl
@[simp] theorem State.cancel_seq (k : TimerKind) (o u : Nat) : (s.cancel k o u).seq = s.seq := rfl
@[simp] theorem State.cancel_timers (k : TimerKind) (o u : Nat) : (s.cancel k o u).timers = s.timers.filter fun t => !t.isOne k o u := rfl
@[simp] theorem State.cancel_errs (k : TimerKind) (o u : Nat) : (s.cancel k o u).errs = s.errs := rfl
@[simp] theorem State.cancel_cfg (k : TimerKind) (o u : Nat) : (s.cancel k o u).cfg = s.cfg := rfl
@[simp] theorem State.cancel_power (k : TimerKind) (o u : Nat) : (s.cancel k o u).power = s.power := rfl
@[simp] theorem State.cancel_clocks (k : TimerKind) (o u : Nat) : (s.cancel k o u).clocks = s.clocks := rfl
@[simp] theorem State.cancel_boot (k : TimerKind) (o u : Nat) : (s.cancel k o u).boot = s.boot := rfl
@[simp] theorem State.cancel_glb (k : TimerKind) (o u : Nat) : (s.cancel k o u).glb = s.glb := rfl
@[simp] theorem State.cancel_commit (k : TimerKind) (o u : Nat) : (s.cancel k o u).commit = s.commit := rfl
@[simp] theorem State.cancel_frozenAt (k : TimerKind) (o u : Nat) : (s.cancel k o u).frozenAt = s.frozenAt := rfl
@[simp] theorem State.cancel_chipResetDue (k : TimerKind) (o u : Nat) : (s.cancel k o u).chipResetDue = s.chipResetDue := rfl
@[simp] theorem State.cancel_hif (k : TimerKind) (o u : Nat) : (s.cancel k o u).hif = s.hif := rfl
@[simp] theorem State.cancel_spill (k : TimerKind) (o u : Nat) : (s.cancel k o u).spill = s.spill := rfl
@[simp] theorem State.cancel_hostMem (k : TimerKind) (o u : Nat) : (s.cancel k o u).hostMem = s.hostMem := rfl
@[simp] theorem State.cancel_flights (k : TimerKind) (o u : Nat) : (s.cancel k o u).flights = s.flights := rfl
@[simp] theorem State.cancel_waiting (k : TimerKind) (o u : Nat) : (s.cancel k o u).waiting = s.waiting := rfl
@[simp] theorem State.cancel_intake (k : TimerKind) (o u : Nat) : (s.cancel k o u).intake = s.intake := rfl
@[simp] theorem State.cancel_queues (k : TimerKind) (o u : Nat) : (s.cancel k o u).queues = s.queues := rfl
@[simp] theorem State.cancel_lanes (k : TimerKind) (o u : Nat) : (s.cancel k o u).lanes = s.lanes := rfl
@[simp] theorem State.cancel_pmcan (k : TimerKind) (o u : Nat) : (s.cancel k o u).pmcan = s.pmcan := rfl
@[simp] theorem State.cancel_met (k : TimerKind) (o u : Nat) : (s.cancel k o u).met = s.met := rfl
@[simp] theorem State.cancel_nrg (k : TimerKind) (o u : Nat) : (s.cancel k o u).nrg = s.nrg := rfl
@[simp] theorem State.cancel_book (k : TimerKind) (o u : Nat) : (s.cancel k o u).book = s.book := rfl
@[simp] theorem State.cancel_abc (k : TimerKind) (o u : Nat) : (s.cancel k o u).abc = s.abc := rfl
@[simp] theorem State.cancel_mgt (k : TimerKind) (o u : Nat) : (s.cancel k o u).mgt = s.mgt := rfl
@[simp] theorem State.cancel_keys (k : TimerKind) (o u : Nat) : (s.cancel k o u).keys = s.keys := rfl
@[simp] theorem State.cancel_link (k : TimerKind) (o u : Nat) : (s.cancel k o u).link = s.link := rfl
@[simp] theorem State.cancel_tok (k : TimerKind) (o u : Nat) : (s.cancel k o u).tok = s.tok := rfl
@[simp] theorem State.cancel_saf (k : TimerKind) (o u : Nat) : (s.cancel k o u).saf = s.saf := rfl
@[simp] theorem State.cancel_lsw (k : TimerKind) (o u : Nat) : (s.cancel k o u).lsw = s.lsw := rfl
@[simp] theorem State.cancel_pair (k : TimerKind) (o u : Nat) : (s.cancel k o u).pair = s.pair := rfl
@[simp] theorem State.cancel_line (k : TimerKind) (o u : Nat) : (s.cancel k o u).line = s.line := rfl
@[simp] theorem State.cancel_epd (k : TimerKind) (o u : Nat) : (s.cancel k o u).epd = s.epd := rfl
@[simp] theorem State.cancel_arb (k : TimerKind) (o u : Nat) : (s.cancel k o u).arb = s.arb := rfl
@[simp] theorem State.cancel_island (k : TimerKind) (o u : Nat) : (s.cancel k o u).island = s.island := rfl
@[simp] theorem State.cancel_fuses (k : TimerKind) (o u : Nat) : (s.cancel k o u).fuses = s.fuses := rfl
@[simp] theorem State.cancel_nv (k : TimerKind) (o u : Nat) : (s.cancel k o u).nv = s.nv := rfl
@[simp] theorem State.cancel_pending (k : TimerKind) (o u : Nat) : (s.cancel k o u).pending = s.pending := rfl

/-! ## arm -/

@[simp] theorem State.arm_htc (k : TimerKind) (o d u : Nat) : (s.arm k o d u).htc = s.htc := rfl
@[simp] theorem State.arm_htcLoaded (k : TimerKind) (o d u : Nat) : (s.arm k o d u).htcLoaded = s.htcLoaded := rfl
@[simp] theorem State.arm_outside (k : TimerKind) (o d u : Nat) : (s.arm k o d u).outside = s.outside := rfl
@[simp] theorem State.arm_freeCtr (k : TimerKind) (o d u : Nat) : (s.arm k o d u).freeCtr = s.freeCtr := rfl
@[simp] theorem State.arm_seq (k : TimerKind) (o d u : Nat) : (s.arm k o d u).seq = s.seq := rfl
@[simp] theorem State.arm_timers (k : TimerKind) (o d u : Nat) : (s.arm k o d u).timers = (s.timers.filter fun t => !t.isOne k o u) ++ [⟨k, o, u, s.now + d, s.now⟩] := rfl
@[simp] theorem State.arm_errs (k : TimerKind) (o d u : Nat) : (s.arm k o d u).errs = s.errs := rfl
@[simp] theorem State.arm_cfg (k : TimerKind) (o d u : Nat) : (s.arm k o d u).cfg = s.cfg := rfl
@[simp] theorem State.arm_power (k : TimerKind) (o d u : Nat) : (s.arm k o d u).power = s.power := rfl
@[simp] theorem State.arm_clocks (k : TimerKind) (o d u : Nat) : (s.arm k o d u).clocks = s.clocks := rfl
@[simp] theorem State.arm_boot (k : TimerKind) (o d u : Nat) : (s.arm k o d u).boot = s.boot := rfl
@[simp] theorem State.arm_glb (k : TimerKind) (o d u : Nat) : (s.arm k o d u).glb = s.glb := rfl
@[simp] theorem State.arm_commit (k : TimerKind) (o d u : Nat) : (s.arm k o d u).commit = s.commit := rfl
@[simp] theorem State.arm_frozenAt (k : TimerKind) (o d u : Nat) : (s.arm k o d u).frozenAt = s.frozenAt := rfl
@[simp] theorem State.arm_chipResetDue (k : TimerKind) (o d u : Nat) : (s.arm k o d u).chipResetDue = s.chipResetDue := rfl
@[simp] theorem State.arm_hif (k : TimerKind) (o d u : Nat) : (s.arm k o d u).hif = s.hif := rfl
@[simp] theorem State.arm_spill (k : TimerKind) (o d u : Nat) : (s.arm k o d u).spill = s.spill := rfl
@[simp] theorem State.arm_hostMem (k : TimerKind) (o d u : Nat) : (s.arm k o d u).hostMem = s.hostMem := rfl
@[simp] theorem State.arm_flights (k : TimerKind) (o d u : Nat) : (s.arm k o d u).flights = s.flights := rfl
@[simp] theorem State.arm_waiting (k : TimerKind) (o d u : Nat) : (s.arm k o d u).waiting = s.waiting := rfl
@[simp] theorem State.arm_intake (k : TimerKind) (o d u : Nat) : (s.arm k o d u).intake = s.intake := rfl
@[simp] theorem State.arm_queues (k : TimerKind) (o d u : Nat) : (s.arm k o d u).queues = s.queues := rfl
@[simp] theorem State.arm_lanes (k : TimerKind) (o d u : Nat) : (s.arm k o d u).lanes = s.lanes := rfl
@[simp] theorem State.arm_pmcan (k : TimerKind) (o d u : Nat) : (s.arm k o d u).pmcan = s.pmcan := rfl
@[simp] theorem State.arm_met (k : TimerKind) (o d u : Nat) : (s.arm k o d u).met = s.met := rfl
@[simp] theorem State.arm_nrg (k : TimerKind) (o d u : Nat) : (s.arm k o d u).nrg = s.nrg := rfl
@[simp] theorem State.arm_book (k : TimerKind) (o d u : Nat) : (s.arm k o d u).book = s.book := rfl
@[simp] theorem State.arm_abc (k : TimerKind) (o d u : Nat) : (s.arm k o d u).abc = s.abc := rfl
@[simp] theorem State.arm_mgt (k : TimerKind) (o d u : Nat) : (s.arm k o d u).mgt = s.mgt := rfl
@[simp] theorem State.arm_keys (k : TimerKind) (o d u : Nat) : (s.arm k o d u).keys = s.keys := rfl
@[simp] theorem State.arm_link (k : TimerKind) (o d u : Nat) : (s.arm k o d u).link = s.link := rfl
@[simp] theorem State.arm_tok (k : TimerKind) (o d u : Nat) : (s.arm k o d u).tok = s.tok := rfl
@[simp] theorem State.arm_saf (k : TimerKind) (o d u : Nat) : (s.arm k o d u).saf = s.saf := rfl
@[simp] theorem State.arm_lsw (k : TimerKind) (o d u : Nat) : (s.arm k o d u).lsw = s.lsw := rfl
@[simp] theorem State.arm_pair (k : TimerKind) (o d u : Nat) : (s.arm k o d u).pair = s.pair := rfl
@[simp] theorem State.arm_line (k : TimerKind) (o d u : Nat) : (s.arm k o d u).line = s.line := rfl
@[simp] theorem State.arm_epd (k : TimerKind) (o d u : Nat) : (s.arm k o d u).epd = s.epd := rfl
@[simp] theorem State.arm_arb (k : TimerKind) (o d u : Nat) : (s.arm k o d u).arb = s.arb := rfl
@[simp] theorem State.arm_island (k : TimerKind) (o d u : Nat) : (s.arm k o d u).island = s.island := rfl
@[simp] theorem State.arm_fuses (k : TimerKind) (o d u : Nat) : (s.arm k o d u).fuses = s.fuses := rfl
@[simp] theorem State.arm_nv (k : TimerKind) (o d u : Nat) : (s.arm k o d u).nv = s.nv := rfl
@[simp] theorem State.arm_pending (k : TimerKind) (o d u : Nat) : (s.arm k o d u).pending = s.pending := rfl

/-! ## setPower -/

@[simp] theorem State.setPower_htc (f : Power → Power) : (s.setPower f).htc = s.htc := rfl
@[simp] theorem State.setPower_htcLoaded (f : Power → Power) : (s.setPower f).htcLoaded = s.htcLoaded := rfl
@[simp] theorem State.setPower_outside (f : Power → Power) : (s.setPower f).outside = s.outside := rfl
@[simp] theorem State.setPower_freeCtr (f : Power → Power) : (s.setPower f).freeCtr = s.freeCtr := rfl
@[simp] theorem State.setPower_seq (f : Power → Power) : (s.setPower f).seq = s.seq := rfl
@[simp] theorem State.setPower_timers (f : Power → Power) : (s.setPower f).timers = s.timers := rfl
@[simp] theorem State.setPower_errs (f : Power → Power) : (s.setPower f).errs = s.errs := rfl
@[simp] theorem State.setPower_cfg (f : Power → Power) : (s.setPower f).cfg = s.cfg := rfl
@[simp] theorem State.setPower_power (f : Power → Power) : (s.setPower f).power = f s.power := rfl
@[simp] theorem State.setPower_clocks (f : Power → Power) : (s.setPower f).clocks = s.clocks := rfl
@[simp] theorem State.setPower_boot (f : Power → Power) : (s.setPower f).boot = s.boot := rfl
@[simp] theorem State.setPower_glb (f : Power → Power) : (s.setPower f).glb = s.glb := rfl
@[simp] theorem State.setPower_commit (f : Power → Power) : (s.setPower f).commit = s.commit := rfl
@[simp] theorem State.setPower_frozenAt (f : Power → Power) : (s.setPower f).frozenAt = s.frozenAt := rfl
@[simp] theorem State.setPower_chipResetDue (f : Power → Power) : (s.setPower f).chipResetDue = s.chipResetDue := rfl
@[simp] theorem State.setPower_hif (f : Power → Power) : (s.setPower f).hif = s.hif := rfl
@[simp] theorem State.setPower_spill (f : Power → Power) : (s.setPower f).spill = s.spill := rfl
@[simp] theorem State.setPower_hostMem (f : Power → Power) : (s.setPower f).hostMem = s.hostMem := rfl
@[simp] theorem State.setPower_flights (f : Power → Power) : (s.setPower f).flights = s.flights := rfl
@[simp] theorem State.setPower_waiting (f : Power → Power) : (s.setPower f).waiting = s.waiting := rfl
@[simp] theorem State.setPower_intake (f : Power → Power) : (s.setPower f).intake = s.intake := rfl
@[simp] theorem State.setPower_queues (f : Power → Power) : (s.setPower f).queues = s.queues := rfl
@[simp] theorem State.setPower_lanes (f : Power → Power) : (s.setPower f).lanes = s.lanes := rfl
@[simp] theorem State.setPower_pmcan (f : Power → Power) : (s.setPower f).pmcan = s.pmcan := rfl
@[simp] theorem State.setPower_met (f : Power → Power) : (s.setPower f).met = s.met := rfl
@[simp] theorem State.setPower_nrg (f : Power → Power) : (s.setPower f).nrg = s.nrg := rfl
@[simp] theorem State.setPower_book (f : Power → Power) : (s.setPower f).book = s.book := rfl
@[simp] theorem State.setPower_abc (f : Power → Power) : (s.setPower f).abc = s.abc := rfl
@[simp] theorem State.setPower_mgt (f : Power → Power) : (s.setPower f).mgt = s.mgt := rfl
@[simp] theorem State.setPower_keys (f : Power → Power) : (s.setPower f).keys = s.keys := rfl
@[simp] theorem State.setPower_link (f : Power → Power) : (s.setPower f).link = s.link := rfl
@[simp] theorem State.setPower_tok (f : Power → Power) : (s.setPower f).tok = s.tok := rfl
@[simp] theorem State.setPower_saf (f : Power → Power) : (s.setPower f).saf = s.saf := rfl
@[simp] theorem State.setPower_lsw (f : Power → Power) : (s.setPower f).lsw = s.lsw := rfl
@[simp] theorem State.setPower_pair (f : Power → Power) : (s.setPower f).pair = s.pair := rfl
@[simp] theorem State.setPower_line (f : Power → Power) : (s.setPower f).line = s.line := rfl
@[simp] theorem State.setPower_epd (f : Power → Power) : (s.setPower f).epd = s.epd := rfl
@[simp] theorem State.setPower_arb (f : Power → Power) : (s.setPower f).arb = s.arb := rfl
@[simp] theorem State.setPower_island (f : Power → Power) : (s.setPower f).island = s.island := rfl
@[simp] theorem State.setPower_fuses (f : Power → Power) : (s.setPower f).fuses = s.fuses := rfl
@[simp] theorem State.setPower_nv (f : Power → Power) : (s.setPower f).nv = s.nv := rfl
@[simp] theorem State.setPower_pending (f : Power → Power) : (s.setPower f).pending = s.pending := rfl

/-! ## setVec -/

@[simp] theorem State.setVec_htc (v : Fin 32) (f : Vec → Vec) : (s.setVec v f).htc = s.htc := rfl
@[simp] theorem State.setVec_htcLoaded (v : Fin 32) (f : Vec → Vec) : (s.setVec v f).htcLoaded = s.htcLoaded := rfl
@[simp] theorem State.setVec_outside (v : Fin 32) (f : Vec → Vec) : (s.setVec v f).outside = s.outside := rfl
@[simp] theorem State.setVec_freeCtr (v : Fin 32) (f : Vec → Vec) : (s.setVec v f).freeCtr = s.freeCtr := rfl
@[simp] theorem State.setVec_seq (v : Fin 32) (f : Vec → Vec) : (s.setVec v f).seq = s.seq := rfl
@[simp] theorem State.setVec_timers (v : Fin 32) (f : Vec → Vec) : (s.setVec v f).timers = s.timers := rfl
@[simp] theorem State.setVec_errs (v : Fin 32) (f : Vec → Vec) : (s.setVec v f).errs = s.errs := rfl
@[simp] theorem State.setVec_cfg (v : Fin 32) (f : Vec → Vec) : (s.setVec v f).cfg = s.cfg := rfl
@[simp] theorem State.setVec_power (v : Fin 32) (f : Vec → Vec) : (s.setVec v f).power = s.power := rfl
@[simp] theorem State.setVec_clocks (v : Fin 32) (f : Vec → Vec) : (s.setVec v f).clocks = s.clocks := rfl
@[simp] theorem State.setVec_boot (v : Fin 32) (f : Vec → Vec) : (s.setVec v f).boot = s.boot := rfl
@[simp] theorem State.setVec_glb (v : Fin 32) (f : Vec → Vec) : (s.setVec v f).glb = s.glb := rfl
@[simp] theorem State.setVec_commit (v : Fin 32) (f : Vec → Vec) : (s.setVec v f).commit = s.commit := rfl
@[simp] theorem State.setVec_frozenAt (v : Fin 32) (f : Vec → Vec) : (s.setVec v f).frozenAt = s.frozenAt := rfl
@[simp] theorem State.setVec_chipResetDue (v : Fin 32) (f : Vec → Vec) : (s.setVec v f).chipResetDue = s.chipResetDue := rfl
@[simp] theorem State.setVec_hif (v : Fin 32) (f : Vec → Vec) : (s.setVec v f).hif = { s.hif with vecs := s.hif.vecs.set v (f s.hif.vecs[v]) } := rfl
@[simp] theorem State.setVec_spill (v : Fin 32) (f : Vec → Vec) : (s.setVec v f).spill = s.spill := rfl
@[simp] theorem State.setVec_hostMem (v : Fin 32) (f : Vec → Vec) : (s.setVec v f).hostMem = s.hostMem := rfl
@[simp] theorem State.setVec_flights (v : Fin 32) (f : Vec → Vec) : (s.setVec v f).flights = s.flights := rfl
@[simp] theorem State.setVec_waiting (v : Fin 32) (f : Vec → Vec) : (s.setVec v f).waiting = s.waiting := rfl
@[simp] theorem State.setVec_intake (v : Fin 32) (f : Vec → Vec) : (s.setVec v f).intake = s.intake := rfl
@[simp] theorem State.setVec_queues (v : Fin 32) (f : Vec → Vec) : (s.setVec v f).queues = s.queues := rfl
@[simp] theorem State.setVec_lanes (v : Fin 32) (f : Vec → Vec) : (s.setVec v f).lanes = s.lanes := rfl
@[simp] theorem State.setVec_pmcan (v : Fin 32) (f : Vec → Vec) : (s.setVec v f).pmcan = s.pmcan := rfl
@[simp] theorem State.setVec_met (v : Fin 32) (f : Vec → Vec) : (s.setVec v f).met = s.met := rfl
@[simp] theorem State.setVec_nrg (v : Fin 32) (f : Vec → Vec) : (s.setVec v f).nrg = s.nrg := rfl
@[simp] theorem State.setVec_book (v : Fin 32) (f : Vec → Vec) : (s.setVec v f).book = s.book := rfl
@[simp] theorem State.setVec_abc (v : Fin 32) (f : Vec → Vec) : (s.setVec v f).abc = s.abc := rfl
@[simp] theorem State.setVec_mgt (v : Fin 32) (f : Vec → Vec) : (s.setVec v f).mgt = s.mgt := rfl
@[simp] theorem State.setVec_keys (v : Fin 32) (f : Vec → Vec) : (s.setVec v f).keys = s.keys := rfl
@[simp] theorem State.setVec_link (v : Fin 32) (f : Vec → Vec) : (s.setVec v f).link = s.link := rfl
@[simp] theorem State.setVec_tok (v : Fin 32) (f : Vec → Vec) : (s.setVec v f).tok = s.tok := rfl
@[simp] theorem State.setVec_saf (v : Fin 32) (f : Vec → Vec) : (s.setVec v f).saf = s.saf := rfl
@[simp] theorem State.setVec_lsw (v : Fin 32) (f : Vec → Vec) : (s.setVec v f).lsw = s.lsw := rfl
@[simp] theorem State.setVec_pair (v : Fin 32) (f : Vec → Vec) : (s.setVec v f).pair = s.pair := rfl
@[simp] theorem State.setVec_line (v : Fin 32) (f : Vec → Vec) : (s.setVec v f).line = s.line := rfl
@[simp] theorem State.setVec_epd (v : Fin 32) (f : Vec → Vec) : (s.setVec v f).epd = s.epd := rfl
@[simp] theorem State.setVec_arb (v : Fin 32) (f : Vec → Vec) : (s.setVec v f).arb = s.arb := rfl
@[simp] theorem State.setVec_island (v : Fin 32) (f : Vec → Vec) : (s.setVec v f).island = s.island := rfl
@[simp] theorem State.setVec_fuses (v : Fin 32) (f : Vec → Vec) : (s.setVec v f).fuses = s.fuses := rfl
@[simp] theorem State.setVec_nv (v : Fin 32) (f : Vec → Vec) : (s.setVec v f).nv = s.nv := rfl
@[simp] theorem State.setVec_pending (v : Fin 32) (f : Vec → Vec) : (s.setVec v f).pending = s.pending := rfl

/-! ## setRing -/

@[simp] theorem State.setRing_htc (n : Fin 16) (f : Ring → Ring) : (s.setRing n f).htc = s.htc := rfl
@[simp] theorem State.setRing_htcLoaded (n : Fin 16) (f : Ring → Ring) : (s.setRing n f).htcLoaded = s.htcLoaded := rfl
@[simp] theorem State.setRing_outside (n : Fin 16) (f : Ring → Ring) : (s.setRing n f).outside = s.outside := rfl
@[simp] theorem State.setRing_freeCtr (n : Fin 16) (f : Ring → Ring) : (s.setRing n f).freeCtr = s.freeCtr := rfl
@[simp] theorem State.setRing_seq (n : Fin 16) (f : Ring → Ring) : (s.setRing n f).seq = s.seq := rfl
@[simp] theorem State.setRing_timers (n : Fin 16) (f : Ring → Ring) : (s.setRing n f).timers = s.timers := rfl
@[simp] theorem State.setRing_errs (n : Fin 16) (f : Ring → Ring) : (s.setRing n f).errs = s.errs := rfl
@[simp] theorem State.setRing_cfg (n : Fin 16) (f : Ring → Ring) : (s.setRing n f).cfg = s.cfg := rfl
@[simp] theorem State.setRing_power (n : Fin 16) (f : Ring → Ring) : (s.setRing n f).power = s.power := rfl
@[simp] theorem State.setRing_clocks (n : Fin 16) (f : Ring → Ring) : (s.setRing n f).clocks = s.clocks := rfl
@[simp] theorem State.setRing_boot (n : Fin 16) (f : Ring → Ring) : (s.setRing n f).boot = s.boot := rfl
@[simp] theorem State.setRing_glb (n : Fin 16) (f : Ring → Ring) : (s.setRing n f).glb = s.glb := rfl
@[simp] theorem State.setRing_commit (n : Fin 16) (f : Ring → Ring) : (s.setRing n f).commit = s.commit := rfl
@[simp] theorem State.setRing_frozenAt (n : Fin 16) (f : Ring → Ring) : (s.setRing n f).frozenAt = s.frozenAt := rfl
@[simp] theorem State.setRing_chipResetDue (n : Fin 16) (f : Ring → Ring) : (s.setRing n f).chipResetDue = s.chipResetDue := rfl
@[simp] theorem State.setRing_hif (n : Fin 16) (f : Ring → Ring) : (s.setRing n f).hif = { s.hif with rings := s.hif.rings.set n (f s.hif.rings[n]) } := rfl
@[simp] theorem State.setRing_spill (n : Fin 16) (f : Ring → Ring) : (s.setRing n f).spill = s.spill := rfl
@[simp] theorem State.setRing_hostMem (n : Fin 16) (f : Ring → Ring) : (s.setRing n f).hostMem = s.hostMem := rfl
@[simp] theorem State.setRing_flights (n : Fin 16) (f : Ring → Ring) : (s.setRing n f).flights = s.flights := rfl
@[simp] theorem State.setRing_waiting (n : Fin 16) (f : Ring → Ring) : (s.setRing n f).waiting = s.waiting := rfl
@[simp] theorem State.setRing_intake (n : Fin 16) (f : Ring → Ring) : (s.setRing n f).intake = s.intake := rfl
@[simp] theorem State.setRing_queues (n : Fin 16) (f : Ring → Ring) : (s.setRing n f).queues = s.queues := rfl
@[simp] theorem State.setRing_lanes (n : Fin 16) (f : Ring → Ring) : (s.setRing n f).lanes = s.lanes := rfl
@[simp] theorem State.setRing_pmcan (n : Fin 16) (f : Ring → Ring) : (s.setRing n f).pmcan = s.pmcan := rfl
@[simp] theorem State.setRing_met (n : Fin 16) (f : Ring → Ring) : (s.setRing n f).met = s.met := rfl
@[simp] theorem State.setRing_nrg (n : Fin 16) (f : Ring → Ring) : (s.setRing n f).nrg = s.nrg := rfl
@[simp] theorem State.setRing_book (n : Fin 16) (f : Ring → Ring) : (s.setRing n f).book = s.book := rfl
@[simp] theorem State.setRing_abc (n : Fin 16) (f : Ring → Ring) : (s.setRing n f).abc = s.abc := rfl
@[simp] theorem State.setRing_mgt (n : Fin 16) (f : Ring → Ring) : (s.setRing n f).mgt = s.mgt := rfl
@[simp] theorem State.setRing_keys (n : Fin 16) (f : Ring → Ring) : (s.setRing n f).keys = s.keys := rfl
@[simp] theorem State.setRing_link (n : Fin 16) (f : Ring → Ring) : (s.setRing n f).link = s.link := rfl
@[simp] theorem State.setRing_tok (n : Fin 16) (f : Ring → Ring) : (s.setRing n f).tok = s.tok := rfl
@[simp] theorem State.setRing_saf (n : Fin 16) (f : Ring → Ring) : (s.setRing n f).saf = s.saf := rfl
@[simp] theorem State.setRing_lsw (n : Fin 16) (f : Ring → Ring) : (s.setRing n f).lsw = s.lsw := rfl
@[simp] theorem State.setRing_pair (n : Fin 16) (f : Ring → Ring) : (s.setRing n f).pair = s.pair := rfl
@[simp] theorem State.setRing_line (n : Fin 16) (f : Ring → Ring) : (s.setRing n f).line = s.line := rfl
@[simp] theorem State.setRing_epd (n : Fin 16) (f : Ring → Ring) : (s.setRing n f).epd = s.epd := rfl
@[simp] theorem State.setRing_arb (n : Fin 16) (f : Ring → Ring) : (s.setRing n f).arb = s.arb := rfl
@[simp] theorem State.setRing_island (n : Fin 16) (f : Ring → Ring) : (s.setRing n f).island = s.island := rfl
@[simp] theorem State.setRing_fuses (n : Fin 16) (f : Ring → Ring) : (s.setRing n f).fuses = s.fuses := rfl
@[simp] theorem State.setRing_nv (n : Fin 16) (f : Ring → Ring) : (s.setRing n f).nv = s.nv := rfl
@[simp] theorem State.setRing_pending (n : Fin 16) (f : Ring → Ring) : (s.setRing n f).pending = s.pending := rfl

/-! ## setSpill -/

@[simp] theorem State.setSpill_htc (n : Fin 16) (f : Spill → Spill) : (s.setSpill n f).htc = s.htc := rfl
@[simp] theorem State.setSpill_htcLoaded (n : Fin 16) (f : Spill → Spill) : (s.setSpill n f).htcLoaded = s.htcLoaded := rfl
@[simp] theorem State.setSpill_outside (n : Fin 16) (f : Spill → Spill) : (s.setSpill n f).outside = s.outside := rfl
@[simp] theorem State.setSpill_freeCtr (n : Fin 16) (f : Spill → Spill) : (s.setSpill n f).freeCtr = s.freeCtr := rfl
@[simp] theorem State.setSpill_seq (n : Fin 16) (f : Spill → Spill) : (s.setSpill n f).seq = s.seq := rfl
@[simp] theorem State.setSpill_timers (n : Fin 16) (f : Spill → Spill) : (s.setSpill n f).timers = s.timers := rfl
@[simp] theorem State.setSpill_errs (n : Fin 16) (f : Spill → Spill) : (s.setSpill n f).errs = s.errs := rfl
@[simp] theorem State.setSpill_cfg (n : Fin 16) (f : Spill → Spill) : (s.setSpill n f).cfg = s.cfg := rfl
@[simp] theorem State.setSpill_power (n : Fin 16) (f : Spill → Spill) : (s.setSpill n f).power = s.power := rfl
@[simp] theorem State.setSpill_clocks (n : Fin 16) (f : Spill → Spill) : (s.setSpill n f).clocks = s.clocks := rfl
@[simp] theorem State.setSpill_boot (n : Fin 16) (f : Spill → Spill) : (s.setSpill n f).boot = s.boot := rfl
@[simp] theorem State.setSpill_glb (n : Fin 16) (f : Spill → Spill) : (s.setSpill n f).glb = s.glb := rfl
@[simp] theorem State.setSpill_commit (n : Fin 16) (f : Spill → Spill) : (s.setSpill n f).commit = s.commit := rfl
@[simp] theorem State.setSpill_frozenAt (n : Fin 16) (f : Spill → Spill) : (s.setSpill n f).frozenAt = s.frozenAt := rfl
@[simp] theorem State.setSpill_chipResetDue (n : Fin 16) (f : Spill → Spill) : (s.setSpill n f).chipResetDue = s.chipResetDue := rfl
@[simp] theorem State.setSpill_hif (n : Fin 16) (f : Spill → Spill) : (s.setSpill n f).hif = s.hif := rfl
@[simp] theorem State.setSpill_spill (n : Fin 16) (f : Spill → Spill) : (s.setSpill n f).spill = s.spill.set n (f s.spill[n]) := rfl
@[simp] theorem State.setSpill_hostMem (n : Fin 16) (f : Spill → Spill) : (s.setSpill n f).hostMem = s.hostMem := rfl
@[simp] theorem State.setSpill_flights (n : Fin 16) (f : Spill → Spill) : (s.setSpill n f).flights = s.flights := rfl
@[simp] theorem State.setSpill_waiting (n : Fin 16) (f : Spill → Spill) : (s.setSpill n f).waiting = s.waiting := rfl
@[simp] theorem State.setSpill_intake (n : Fin 16) (f : Spill → Spill) : (s.setSpill n f).intake = s.intake := rfl
@[simp] theorem State.setSpill_queues (n : Fin 16) (f : Spill → Spill) : (s.setSpill n f).queues = s.queues := rfl
@[simp] theorem State.setSpill_lanes (n : Fin 16) (f : Spill → Spill) : (s.setSpill n f).lanes = s.lanes := rfl
@[simp] theorem State.setSpill_pmcan (n : Fin 16) (f : Spill → Spill) : (s.setSpill n f).pmcan = s.pmcan := rfl
@[simp] theorem State.setSpill_met (n : Fin 16) (f : Spill → Spill) : (s.setSpill n f).met = s.met := rfl
@[simp] theorem State.setSpill_nrg (n : Fin 16) (f : Spill → Spill) : (s.setSpill n f).nrg = s.nrg := rfl
@[simp] theorem State.setSpill_book (n : Fin 16) (f : Spill → Spill) : (s.setSpill n f).book = s.book := rfl
@[simp] theorem State.setSpill_abc (n : Fin 16) (f : Spill → Spill) : (s.setSpill n f).abc = s.abc := rfl
@[simp] theorem State.setSpill_mgt (n : Fin 16) (f : Spill → Spill) : (s.setSpill n f).mgt = s.mgt := rfl
@[simp] theorem State.setSpill_keys (n : Fin 16) (f : Spill → Spill) : (s.setSpill n f).keys = s.keys := rfl
@[simp] theorem State.setSpill_link (n : Fin 16) (f : Spill → Spill) : (s.setSpill n f).link = s.link := rfl
@[simp] theorem State.setSpill_tok (n : Fin 16) (f : Spill → Spill) : (s.setSpill n f).tok = s.tok := rfl
@[simp] theorem State.setSpill_saf (n : Fin 16) (f : Spill → Spill) : (s.setSpill n f).saf = s.saf := rfl
@[simp] theorem State.setSpill_lsw (n : Fin 16) (f : Spill → Spill) : (s.setSpill n f).lsw = s.lsw := rfl
@[simp] theorem State.setSpill_pair (n : Fin 16) (f : Spill → Spill) : (s.setSpill n f).pair = s.pair := rfl
@[simp] theorem State.setSpill_line (n : Fin 16) (f : Spill → Spill) : (s.setSpill n f).line = s.line := rfl
@[simp] theorem State.setSpill_epd (n : Fin 16) (f : Spill → Spill) : (s.setSpill n f).epd = s.epd := rfl
@[simp] theorem State.setSpill_arb (n : Fin 16) (f : Spill → Spill) : (s.setSpill n f).arb = s.arb := rfl
@[simp] theorem State.setSpill_island (n : Fin 16) (f : Spill → Spill) : (s.setSpill n f).island = s.island := rfl
@[simp] theorem State.setSpill_fuses (n : Fin 16) (f : Spill → Spill) : (s.setSpill n f).fuses = s.fuses := rfl
@[simp] theorem State.setSpill_nv (n : Fin 16) (f : Spill → Spill) : (s.setSpill n f).nv = s.nv := rfl
@[simp] theorem State.setSpill_pending (n : Fin 16) (f : Spill → Spill) : (s.setSpill n f).pending = s.pending := rfl

/-! ## setQueue -/

@[simp] theorem State.setQueue_htc (q : Fin 16) (f : IQueue → IQueue) : (s.setQueue q f).htc = s.htc := rfl
@[simp] theorem State.setQueue_htcLoaded (q : Fin 16) (f : IQueue → IQueue) : (s.setQueue q f).htcLoaded = s.htcLoaded := rfl
@[simp] theorem State.setQueue_outside (q : Fin 16) (f : IQueue → IQueue) : (s.setQueue q f).outside = s.outside := rfl
@[simp] theorem State.setQueue_freeCtr (q : Fin 16) (f : IQueue → IQueue) : (s.setQueue q f).freeCtr = s.freeCtr := rfl
@[simp] theorem State.setQueue_seq (q : Fin 16) (f : IQueue → IQueue) : (s.setQueue q f).seq = s.seq := rfl
@[simp] theorem State.setQueue_timers (q : Fin 16) (f : IQueue → IQueue) : (s.setQueue q f).timers = s.timers := rfl
@[simp] theorem State.setQueue_errs (q : Fin 16) (f : IQueue → IQueue) : (s.setQueue q f).errs = s.errs := rfl
@[simp] theorem State.setQueue_cfg (q : Fin 16) (f : IQueue → IQueue) : (s.setQueue q f).cfg = s.cfg := rfl
@[simp] theorem State.setQueue_power (q : Fin 16) (f : IQueue → IQueue) : (s.setQueue q f).power = s.power := rfl
@[simp] theorem State.setQueue_clocks (q : Fin 16) (f : IQueue → IQueue) : (s.setQueue q f).clocks = s.clocks := rfl
@[simp] theorem State.setQueue_boot (q : Fin 16) (f : IQueue → IQueue) : (s.setQueue q f).boot = s.boot := rfl
@[simp] theorem State.setQueue_glb (q : Fin 16) (f : IQueue → IQueue) : (s.setQueue q f).glb = s.glb := rfl
@[simp] theorem State.setQueue_commit (q : Fin 16) (f : IQueue → IQueue) : (s.setQueue q f).commit = s.commit := rfl
@[simp] theorem State.setQueue_frozenAt (q : Fin 16) (f : IQueue → IQueue) : (s.setQueue q f).frozenAt = s.frozenAt := rfl
@[simp] theorem State.setQueue_chipResetDue (q : Fin 16) (f : IQueue → IQueue) : (s.setQueue q f).chipResetDue = s.chipResetDue := rfl
@[simp] theorem State.setQueue_hif (q : Fin 16) (f : IQueue → IQueue) : (s.setQueue q f).hif = s.hif := rfl
@[simp] theorem State.setQueue_spill (q : Fin 16) (f : IQueue → IQueue) : (s.setQueue q f).spill = s.spill := rfl
@[simp] theorem State.setQueue_hostMem (q : Fin 16) (f : IQueue → IQueue) : (s.setQueue q f).hostMem = s.hostMem := rfl
@[simp] theorem State.setQueue_flights (q : Fin 16) (f : IQueue → IQueue) : (s.setQueue q f).flights = s.flights := rfl
@[simp] theorem State.setQueue_waiting (q : Fin 16) (f : IQueue → IQueue) : (s.setQueue q f).waiting = s.waiting := rfl
@[simp] theorem State.setQueue_intake (q : Fin 16) (f : IQueue → IQueue) : (s.setQueue q f).intake = s.intake := rfl
@[simp] theorem State.setQueue_queues (q : Fin 16) (f : IQueue → IQueue) : (s.setQueue q f).queues = s.queues.set q (f s.queues[q]) := rfl
@[simp] theorem State.setQueue_lanes (q : Fin 16) (f : IQueue → IQueue) : (s.setQueue q f).lanes = s.lanes := rfl
@[simp] theorem State.setQueue_pmcan (q : Fin 16) (f : IQueue → IQueue) : (s.setQueue q f).pmcan = s.pmcan := rfl
@[simp] theorem State.setQueue_met (q : Fin 16) (f : IQueue → IQueue) : (s.setQueue q f).met = s.met := rfl
@[simp] theorem State.setQueue_nrg (q : Fin 16) (f : IQueue → IQueue) : (s.setQueue q f).nrg = s.nrg := rfl
@[simp] theorem State.setQueue_book (q : Fin 16) (f : IQueue → IQueue) : (s.setQueue q f).book = s.book := rfl
@[simp] theorem State.setQueue_abc (q : Fin 16) (f : IQueue → IQueue) : (s.setQueue q f).abc = s.abc := rfl
@[simp] theorem State.setQueue_mgt (q : Fin 16) (f : IQueue → IQueue) : (s.setQueue q f).mgt = s.mgt := rfl
@[simp] theorem State.setQueue_keys (q : Fin 16) (f : IQueue → IQueue) : (s.setQueue q f).keys = s.keys := rfl
@[simp] theorem State.setQueue_link (q : Fin 16) (f : IQueue → IQueue) : (s.setQueue q f).link = s.link := rfl
@[simp] theorem State.setQueue_tok (q : Fin 16) (f : IQueue → IQueue) : (s.setQueue q f).tok = s.tok := rfl
@[simp] theorem State.setQueue_saf (q : Fin 16) (f : IQueue → IQueue) : (s.setQueue q f).saf = s.saf := rfl
@[simp] theorem State.setQueue_lsw (q : Fin 16) (f : IQueue → IQueue) : (s.setQueue q f).lsw = s.lsw := rfl
@[simp] theorem State.setQueue_pair (q : Fin 16) (f : IQueue → IQueue) : (s.setQueue q f).pair = s.pair := rfl
@[simp] theorem State.setQueue_line (q : Fin 16) (f : IQueue → IQueue) : (s.setQueue q f).line = s.line := rfl
@[simp] theorem State.setQueue_epd (q : Fin 16) (f : IQueue → IQueue) : (s.setQueue q f).epd = s.epd := rfl
@[simp] theorem State.setQueue_arb (q : Fin 16) (f : IQueue → IQueue) : (s.setQueue q f).arb = s.arb := rfl
@[simp] theorem State.setQueue_island (q : Fin 16) (f : IQueue → IQueue) : (s.setQueue q f).island = s.island := rfl
@[simp] theorem State.setQueue_fuses (q : Fin 16) (f : IQueue → IQueue) : (s.setQueue q f).fuses = s.fuses := rfl
@[simp] theorem State.setQueue_nv (q : Fin 16) (f : IQueue → IQueue) : (s.setQueue q f).nv = s.nv := rfl
@[simp] theorem State.setQueue_pending (q : Fin 16) (f : IQueue → IQueue) : (s.setQueue q f).pending = s.pending := rfl

/-! ## setLane -/

@[simp] theorem State.setLane_htc (n : Fin 32) (f : Lane → Lane) : (s.setLane n f).htc = s.htc := rfl
@[simp] theorem State.setLane_htcLoaded (n : Fin 32) (f : Lane → Lane) : (s.setLane n f).htcLoaded = s.htcLoaded := rfl
@[simp] theorem State.setLane_outside (n : Fin 32) (f : Lane → Lane) : (s.setLane n f).outside = s.outside := rfl
@[simp] theorem State.setLane_freeCtr (n : Fin 32) (f : Lane → Lane) : (s.setLane n f).freeCtr = s.freeCtr := rfl
@[simp] theorem State.setLane_seq (n : Fin 32) (f : Lane → Lane) : (s.setLane n f).seq = s.seq := rfl
@[simp] theorem State.setLane_timers (n : Fin 32) (f : Lane → Lane) : (s.setLane n f).timers = s.timers := rfl
@[simp] theorem State.setLane_errs (n : Fin 32) (f : Lane → Lane) : (s.setLane n f).errs = s.errs := rfl
@[simp] theorem State.setLane_cfg (n : Fin 32) (f : Lane → Lane) : (s.setLane n f).cfg = s.cfg := rfl
@[simp] theorem State.setLane_power (n : Fin 32) (f : Lane → Lane) : (s.setLane n f).power = s.power := rfl
@[simp] theorem State.setLane_clocks (n : Fin 32) (f : Lane → Lane) : (s.setLane n f).clocks = s.clocks := rfl
@[simp] theorem State.setLane_boot (n : Fin 32) (f : Lane → Lane) : (s.setLane n f).boot = s.boot := rfl
@[simp] theorem State.setLane_glb (n : Fin 32) (f : Lane → Lane) : (s.setLane n f).glb = s.glb := rfl
@[simp] theorem State.setLane_commit (n : Fin 32) (f : Lane → Lane) : (s.setLane n f).commit = s.commit := rfl
@[simp] theorem State.setLane_frozenAt (n : Fin 32) (f : Lane → Lane) : (s.setLane n f).frozenAt = s.frozenAt := rfl
@[simp] theorem State.setLane_chipResetDue (n : Fin 32) (f : Lane → Lane) : (s.setLane n f).chipResetDue = s.chipResetDue := rfl
@[simp] theorem State.setLane_hif (n : Fin 32) (f : Lane → Lane) : (s.setLane n f).hif = s.hif := rfl
@[simp] theorem State.setLane_spill (n : Fin 32) (f : Lane → Lane) : (s.setLane n f).spill = s.spill := rfl
@[simp] theorem State.setLane_hostMem (n : Fin 32) (f : Lane → Lane) : (s.setLane n f).hostMem = s.hostMem := rfl
@[simp] theorem State.setLane_flights (n : Fin 32) (f : Lane → Lane) : (s.setLane n f).flights = s.flights := rfl
@[simp] theorem State.setLane_waiting (n : Fin 32) (f : Lane → Lane) : (s.setLane n f).waiting = s.waiting := rfl
@[simp] theorem State.setLane_intake (n : Fin 32) (f : Lane → Lane) : (s.setLane n f).intake = s.intake := rfl
@[simp] theorem State.setLane_queues (n : Fin 32) (f : Lane → Lane) : (s.setLane n f).queues = s.queues := rfl
@[simp] theorem State.setLane_lanes (n : Fin 32) (f : Lane → Lane) : (s.setLane n f).lanes = s.lanes.set n (f s.lanes[n]) := rfl
@[simp] theorem State.setLane_pmcan (n : Fin 32) (f : Lane → Lane) : (s.setLane n f).pmcan = s.pmcan := rfl
@[simp] theorem State.setLane_met (n : Fin 32) (f : Lane → Lane) : (s.setLane n f).met = s.met := rfl
@[simp] theorem State.setLane_nrg (n : Fin 32) (f : Lane → Lane) : (s.setLane n f).nrg = s.nrg := rfl
@[simp] theorem State.setLane_book (n : Fin 32) (f : Lane → Lane) : (s.setLane n f).book = s.book := rfl
@[simp] theorem State.setLane_abc (n : Fin 32) (f : Lane → Lane) : (s.setLane n f).abc = s.abc := rfl
@[simp] theorem State.setLane_mgt (n : Fin 32) (f : Lane → Lane) : (s.setLane n f).mgt = s.mgt := rfl
@[simp] theorem State.setLane_keys (n : Fin 32) (f : Lane → Lane) : (s.setLane n f).keys = s.keys := rfl
@[simp] theorem State.setLane_link (n : Fin 32) (f : Lane → Lane) : (s.setLane n f).link = s.link := rfl
@[simp] theorem State.setLane_tok (n : Fin 32) (f : Lane → Lane) : (s.setLane n f).tok = s.tok := rfl
@[simp] theorem State.setLane_saf (n : Fin 32) (f : Lane → Lane) : (s.setLane n f).saf = s.saf := rfl
@[simp] theorem State.setLane_lsw (n : Fin 32) (f : Lane → Lane) : (s.setLane n f).lsw = s.lsw := rfl
@[simp] theorem State.setLane_pair (n : Fin 32) (f : Lane → Lane) : (s.setLane n f).pair = s.pair := rfl
@[simp] theorem State.setLane_line (n : Fin 32) (f : Lane → Lane) : (s.setLane n f).line = s.line := rfl
@[simp] theorem State.setLane_epd (n : Fin 32) (f : Lane → Lane) : (s.setLane n f).epd = s.epd := rfl
@[simp] theorem State.setLane_arb (n : Fin 32) (f : Lane → Lane) : (s.setLane n f).arb = s.arb := rfl
@[simp] theorem State.setLane_island (n : Fin 32) (f : Lane → Lane) : (s.setLane n f).island = s.island := rfl
@[simp] theorem State.setLane_fuses (n : Fin 32) (f : Lane → Lane) : (s.setLane n f).fuses = s.fuses := rfl
@[simp] theorem State.setLane_nv (n : Fin 32) (f : Lane → Lane) : (s.setLane n f).nv = s.nv := rfl
@[simp] theorem State.setLane_pending (n : Fin 32) (f : Lane → Lane) : (s.setLane n f).pending = s.pending := rfl

/-! ## setLink -/

@[simp] theorem State.setLink_htc (n : Fin 32) (f : LinkLane → LinkLane) : (s.setLink n f).htc = s.htc := rfl
@[simp] theorem State.setLink_htcLoaded (n : Fin 32) (f : LinkLane → LinkLane) : (s.setLink n f).htcLoaded = s.htcLoaded := rfl
@[simp] theorem State.setLink_outside (n : Fin 32) (f : LinkLane → LinkLane) : (s.setLink n f).outside = s.outside := rfl
@[simp] theorem State.setLink_freeCtr (n : Fin 32) (f : LinkLane → LinkLane) : (s.setLink n f).freeCtr = s.freeCtr := rfl
@[simp] theorem State.setLink_seq (n : Fin 32) (f : LinkLane → LinkLane) : (s.setLink n f).seq = s.seq := rfl
@[simp] theorem State.setLink_timers (n : Fin 32) (f : LinkLane → LinkLane) : (s.setLink n f).timers = s.timers := rfl
@[simp] theorem State.setLink_errs (n : Fin 32) (f : LinkLane → LinkLane) : (s.setLink n f).errs = s.errs := rfl
@[simp] theorem State.setLink_cfg (n : Fin 32) (f : LinkLane → LinkLane) : (s.setLink n f).cfg = s.cfg := rfl
@[simp] theorem State.setLink_power (n : Fin 32) (f : LinkLane → LinkLane) : (s.setLink n f).power = s.power := rfl
@[simp] theorem State.setLink_clocks (n : Fin 32) (f : LinkLane → LinkLane) : (s.setLink n f).clocks = s.clocks := rfl
@[simp] theorem State.setLink_boot (n : Fin 32) (f : LinkLane → LinkLane) : (s.setLink n f).boot = s.boot := rfl
@[simp] theorem State.setLink_glb (n : Fin 32) (f : LinkLane → LinkLane) : (s.setLink n f).glb = s.glb := rfl
@[simp] theorem State.setLink_commit (n : Fin 32) (f : LinkLane → LinkLane) : (s.setLink n f).commit = s.commit := rfl
@[simp] theorem State.setLink_frozenAt (n : Fin 32) (f : LinkLane → LinkLane) : (s.setLink n f).frozenAt = s.frozenAt := rfl
@[simp] theorem State.setLink_chipResetDue (n : Fin 32) (f : LinkLane → LinkLane) : (s.setLink n f).chipResetDue = s.chipResetDue := rfl
@[simp] theorem State.setLink_hif (n : Fin 32) (f : LinkLane → LinkLane) : (s.setLink n f).hif = s.hif := rfl
@[simp] theorem State.setLink_spill (n : Fin 32) (f : LinkLane → LinkLane) : (s.setLink n f).spill = s.spill := rfl
@[simp] theorem State.setLink_hostMem (n : Fin 32) (f : LinkLane → LinkLane) : (s.setLink n f).hostMem = s.hostMem := rfl
@[simp] theorem State.setLink_flights (n : Fin 32) (f : LinkLane → LinkLane) : (s.setLink n f).flights = s.flights := rfl
@[simp] theorem State.setLink_waiting (n : Fin 32) (f : LinkLane → LinkLane) : (s.setLink n f).waiting = s.waiting := rfl
@[simp] theorem State.setLink_intake (n : Fin 32) (f : LinkLane → LinkLane) : (s.setLink n f).intake = s.intake := rfl
@[simp] theorem State.setLink_queues (n : Fin 32) (f : LinkLane → LinkLane) : (s.setLink n f).queues = s.queues := rfl
@[simp] theorem State.setLink_lanes (n : Fin 32) (f : LinkLane → LinkLane) : (s.setLink n f).lanes = s.lanes := rfl
@[simp] theorem State.setLink_pmcan (n : Fin 32) (f : LinkLane → LinkLane) : (s.setLink n f).pmcan = s.pmcan := rfl
@[simp] theorem State.setLink_met (n : Fin 32) (f : LinkLane → LinkLane) : (s.setLink n f).met = s.met := rfl
@[simp] theorem State.setLink_nrg (n : Fin 32) (f : LinkLane → LinkLane) : (s.setLink n f).nrg = s.nrg := rfl
@[simp] theorem State.setLink_book (n : Fin 32) (f : LinkLane → LinkLane) : (s.setLink n f).book = s.book := rfl
@[simp] theorem State.setLink_abc (n : Fin 32) (f : LinkLane → LinkLane) : (s.setLink n f).abc = s.abc := rfl
@[simp] theorem State.setLink_mgt (n : Fin 32) (f : LinkLane → LinkLane) : (s.setLink n f).mgt = s.mgt := rfl
@[simp] theorem State.setLink_keys (n : Fin 32) (f : LinkLane → LinkLane) : (s.setLink n f).keys = s.keys := rfl
@[simp] theorem State.setLink_link (n : Fin 32) (f : LinkLane → LinkLane) : (s.setLink n f).link = { s.link with lanes := s.link.lanes.set n (f s.link.lanes[n]) } := rfl
@[simp] theorem State.setLink_tok (n : Fin 32) (f : LinkLane → LinkLane) : (s.setLink n f).tok = s.tok := rfl
@[simp] theorem State.setLink_saf (n : Fin 32) (f : LinkLane → LinkLane) : (s.setLink n f).saf = s.saf := rfl
@[simp] theorem State.setLink_lsw (n : Fin 32) (f : LinkLane → LinkLane) : (s.setLink n f).lsw = s.lsw := rfl
@[simp] theorem State.setLink_pair (n : Fin 32) (f : LinkLane → LinkLane) : (s.setLink n f).pair = s.pair := rfl
@[simp] theorem State.setLink_line (n : Fin 32) (f : LinkLane → LinkLane) : (s.setLink n f).line = s.line := rfl
@[simp] theorem State.setLink_epd (n : Fin 32) (f : LinkLane → LinkLane) : (s.setLink n f).epd = s.epd := rfl
@[simp] theorem State.setLink_arb (n : Fin 32) (f : LinkLane → LinkLane) : (s.setLink n f).arb = s.arb := rfl
@[simp] theorem State.setLink_island (n : Fin 32) (f : LinkLane → LinkLane) : (s.setLink n f).island = s.island := rfl
@[simp] theorem State.setLink_fuses (n : Fin 32) (f : LinkLane → LinkLane) : (s.setLink n f).fuses = s.fuses := rfl
@[simp] theorem State.setLink_nv (n : Fin 32) (f : LinkLane → LinkLane) : (s.setLink n f).nv = s.nv := rfl
@[simp] theorem State.setLink_pending (n : Fin 32) (f : LinkLane → LinkLane) : (s.setLink n f).pending = s.pending := rfl

/-! ## setReader -/

@[simp] theorem State.setReader_htc (r : Fin 4) (f : Reader → Reader) : (s.setReader r f).htc = s.htc := rfl
@[simp] theorem State.setReader_htcLoaded (r : Fin 4) (f : Reader → Reader) : (s.setReader r f).htcLoaded = s.htcLoaded := rfl
@[simp] theorem State.setReader_outside (r : Fin 4) (f : Reader → Reader) : (s.setReader r f).outside = s.outside := rfl
@[simp] theorem State.setReader_freeCtr (r : Fin 4) (f : Reader → Reader) : (s.setReader r f).freeCtr = s.freeCtr := rfl
@[simp] theorem State.setReader_seq (r : Fin 4) (f : Reader → Reader) : (s.setReader r f).seq = s.seq := rfl
@[simp] theorem State.setReader_timers (r : Fin 4) (f : Reader → Reader) : (s.setReader r f).timers = s.timers := rfl
@[simp] theorem State.setReader_errs (r : Fin 4) (f : Reader → Reader) : (s.setReader r f).errs = s.errs := rfl
@[simp] theorem State.setReader_cfg (r : Fin 4) (f : Reader → Reader) : (s.setReader r f).cfg = s.cfg := rfl
@[simp] theorem State.setReader_power (r : Fin 4) (f : Reader → Reader) : (s.setReader r f).power = s.power := rfl
@[simp] theorem State.setReader_clocks (r : Fin 4) (f : Reader → Reader) : (s.setReader r f).clocks = s.clocks := rfl
@[simp] theorem State.setReader_boot (r : Fin 4) (f : Reader → Reader) : (s.setReader r f).boot = s.boot := rfl
@[simp] theorem State.setReader_glb (r : Fin 4) (f : Reader → Reader) : (s.setReader r f).glb = s.glb := rfl
@[simp] theorem State.setReader_commit (r : Fin 4) (f : Reader → Reader) : (s.setReader r f).commit = s.commit := rfl
@[simp] theorem State.setReader_frozenAt (r : Fin 4) (f : Reader → Reader) : (s.setReader r f).frozenAt = s.frozenAt := rfl
@[simp] theorem State.setReader_chipResetDue (r : Fin 4) (f : Reader → Reader) : (s.setReader r f).chipResetDue = s.chipResetDue := rfl
@[simp] theorem State.setReader_hif (r : Fin 4) (f : Reader → Reader) : (s.setReader r f).hif = s.hif := rfl
@[simp] theorem State.setReader_spill (r : Fin 4) (f : Reader → Reader) : (s.setReader r f).spill = s.spill := rfl
@[simp] theorem State.setReader_hostMem (r : Fin 4) (f : Reader → Reader) : (s.setReader r f).hostMem = s.hostMem := rfl
@[simp] theorem State.setReader_flights (r : Fin 4) (f : Reader → Reader) : (s.setReader r f).flights = s.flights := rfl
@[simp] theorem State.setReader_waiting (r : Fin 4) (f : Reader → Reader) : (s.setReader r f).waiting = s.waiting := rfl
@[simp] theorem State.setReader_intake (r : Fin 4) (f : Reader → Reader) : (s.setReader r f).intake = s.intake := rfl
@[simp] theorem State.setReader_queues (r : Fin 4) (f : Reader → Reader) : (s.setReader r f).queues = s.queues := rfl
@[simp] theorem State.setReader_lanes (r : Fin 4) (f : Reader → Reader) : (s.setReader r f).lanes = s.lanes := rfl
@[simp] theorem State.setReader_pmcan (r : Fin 4) (f : Reader → Reader) : (s.setReader r f).pmcan = s.pmcan := rfl
@[simp] theorem State.setReader_met (r : Fin 4) (f : Reader → Reader) : (s.setReader r f).met = s.met := rfl
@[simp] theorem State.setReader_nrg (r : Fin 4) (f : Reader → Reader) : (s.setReader r f).nrg = s.nrg := rfl
@[simp] theorem State.setReader_book (r : Fin 4) (f : Reader → Reader) : (s.setReader r f).book = s.book := rfl
@[simp] theorem State.setReader_abc (r : Fin 4) (f : Reader → Reader) : (s.setReader r f).abc = s.abc := rfl
@[simp] theorem State.setReader_mgt (r : Fin 4) (f : Reader → Reader) : (s.setReader r f).mgt = s.mgt := rfl
@[simp] theorem State.setReader_keys (r : Fin 4) (f : Reader → Reader) : (s.setReader r f).keys = s.keys := rfl
@[simp] theorem State.setReader_link (r : Fin 4) (f : Reader → Reader) : (s.setReader r f).link = s.link := rfl
@[simp] theorem State.setReader_saf (r : Fin 4) (f : Reader → Reader) : (s.setReader r f).saf = s.saf := rfl
@[simp] theorem State.setReader_lsw (r : Fin 4) (f : Reader → Reader) : (s.setReader r f).lsw = s.lsw := rfl
@[simp] theorem State.setReader_pair (r : Fin 4) (f : Reader → Reader) : (s.setReader r f).pair = s.pair := rfl
@[simp] theorem State.setReader_line (r : Fin 4) (f : Reader → Reader) : (s.setReader r f).line = s.line := rfl
@[simp] theorem State.setReader_epd (r : Fin 4) (f : Reader → Reader) : (s.setReader r f).epd = s.epd := rfl
@[simp] theorem State.setReader_arb (r : Fin 4) (f : Reader → Reader) : (s.setReader r f).arb = s.arb := rfl
@[simp] theorem State.setReader_island (r : Fin 4) (f : Reader → Reader) : (s.setReader r f).island = s.island := rfl
@[simp] theorem State.setReader_fuses (r : Fin 4) (f : Reader → Reader) : (s.setReader r f).fuses = s.fuses := rfl
@[simp] theorem State.setReader_nv (r : Fin 4) (f : Reader → Reader) : (s.setReader r f).nv = s.nv := rfl
@[simp] theorem State.setReader_pending (r : Fin 4) (f : Reader → Reader) : (s.setReader r f).pending = s.pending := rfl

/-! ## setAbc -/

@[simp] theorem State.setAbc_htc (f : Abc → Abc) : (s.setAbc f).htc = s.htc := rfl
@[simp] theorem State.setAbc_htcLoaded (f : Abc → Abc) : (s.setAbc f).htcLoaded = s.htcLoaded := rfl
@[simp] theorem State.setAbc_outside (f : Abc → Abc) : (s.setAbc f).outside = s.outside := rfl
@[simp] theorem State.setAbc_freeCtr (f : Abc → Abc) : (s.setAbc f).freeCtr = s.freeCtr := rfl
@[simp] theorem State.setAbc_seq (f : Abc → Abc) : (s.setAbc f).seq = s.seq := rfl
@[simp] theorem State.setAbc_timers (f : Abc → Abc) : (s.setAbc f).timers = s.timers := rfl
@[simp] theorem State.setAbc_errs (f : Abc → Abc) : (s.setAbc f).errs = s.errs := rfl
@[simp] theorem State.setAbc_cfg (f : Abc → Abc) : (s.setAbc f).cfg = s.cfg := rfl
@[simp] theorem State.setAbc_power (f : Abc → Abc) : (s.setAbc f).power = s.power := rfl
@[simp] theorem State.setAbc_clocks (f : Abc → Abc) : (s.setAbc f).clocks = s.clocks := rfl
@[simp] theorem State.setAbc_boot (f : Abc → Abc) : (s.setAbc f).boot = s.boot := rfl
@[simp] theorem State.setAbc_glb (f : Abc → Abc) : (s.setAbc f).glb = s.glb := rfl
@[simp] theorem State.setAbc_commit (f : Abc → Abc) : (s.setAbc f).commit = s.commit := rfl
@[simp] theorem State.setAbc_frozenAt (f : Abc → Abc) : (s.setAbc f).frozenAt = s.frozenAt := rfl
@[simp] theorem State.setAbc_chipResetDue (f : Abc → Abc) : (s.setAbc f).chipResetDue = s.chipResetDue := rfl
@[simp] theorem State.setAbc_hif (f : Abc → Abc) : (s.setAbc f).hif = s.hif := rfl
@[simp] theorem State.setAbc_spill (f : Abc → Abc) : (s.setAbc f).spill = s.spill := rfl
@[simp] theorem State.setAbc_hostMem (f : Abc → Abc) : (s.setAbc f).hostMem = s.hostMem := rfl
@[simp] theorem State.setAbc_flights (f : Abc → Abc) : (s.setAbc f).flights = s.flights := rfl
@[simp] theorem State.setAbc_waiting (f : Abc → Abc) : (s.setAbc f).waiting = s.waiting := rfl
@[simp] theorem State.setAbc_intake (f : Abc → Abc) : (s.setAbc f).intake = s.intake := rfl
@[simp] theorem State.setAbc_queues (f : Abc → Abc) : (s.setAbc f).queues = s.queues := rfl
@[simp] theorem State.setAbc_lanes (f : Abc → Abc) : (s.setAbc f).lanes = s.lanes := rfl
@[simp] theorem State.setAbc_pmcan (f : Abc → Abc) : (s.setAbc f).pmcan = s.pmcan := rfl
@[simp] theorem State.setAbc_met (f : Abc → Abc) : (s.setAbc f).met = s.met := rfl
@[simp] theorem State.setAbc_nrg (f : Abc → Abc) : (s.setAbc f).nrg = s.nrg := rfl
@[simp] theorem State.setAbc_book (f : Abc → Abc) : (s.setAbc f).book = s.book := rfl
@[simp] theorem State.setAbc_abc (f : Abc → Abc) : (s.setAbc f).abc = f s.abc := rfl
@[simp] theorem State.setAbc_mgt (f : Abc → Abc) : (s.setAbc f).mgt = s.mgt := rfl
@[simp] theorem State.setAbc_keys (f : Abc → Abc) : (s.setAbc f).keys = s.keys := rfl
@[simp] theorem State.setAbc_link (f : Abc → Abc) : (s.setAbc f).link = s.link := rfl
@[simp] theorem State.setAbc_tok (f : Abc → Abc) : (s.setAbc f).tok = s.tok := rfl
@[simp] theorem State.setAbc_saf (f : Abc → Abc) : (s.setAbc f).saf = s.saf := rfl
@[simp] theorem State.setAbc_lsw (f : Abc → Abc) : (s.setAbc f).lsw = s.lsw := rfl
@[simp] theorem State.setAbc_pair (f : Abc → Abc) : (s.setAbc f).pair = s.pair := rfl
@[simp] theorem State.setAbc_line (f : Abc → Abc) : (s.setAbc f).line = s.line := rfl
@[simp] theorem State.setAbc_epd (f : Abc → Abc) : (s.setAbc f).epd = s.epd := rfl
@[simp] theorem State.setAbc_arb (f : Abc → Abc) : (s.setAbc f).arb = s.arb := rfl
@[simp] theorem State.setAbc_island (f : Abc → Abc) : (s.setAbc f).island = s.island := rfl
@[simp] theorem State.setAbc_fuses (f : Abc → Abc) : (s.setAbc f).fuses = s.fuses := rfl
@[simp] theorem State.setAbc_nv (f : Abc → Abc) : (s.setAbc f).nv = s.nv := rfl
@[simp] theorem State.setAbc_pending (f : Abc → Abc) : (s.setAbc f).pending = s.pending := rfl

/-! ## setGrant -/

@[simp] theorem State.setGrant_htc (g : Fin 36) (e : Option Grant) : (s.setGrant g e).htc = s.htc := rfl
@[simp] theorem State.setGrant_htcLoaded (g : Fin 36) (e : Option Grant) : (s.setGrant g e).htcLoaded = s.htcLoaded := rfl
@[simp] theorem State.setGrant_outside (g : Fin 36) (e : Option Grant) : (s.setGrant g e).outside = s.outside := rfl
@[simp] theorem State.setGrant_freeCtr (g : Fin 36) (e : Option Grant) : (s.setGrant g e).freeCtr = s.freeCtr := rfl
@[simp] theorem State.setGrant_seq (g : Fin 36) (e : Option Grant) : (s.setGrant g e).seq = s.seq := rfl
@[simp] theorem State.setGrant_timers (g : Fin 36) (e : Option Grant) : (s.setGrant g e).timers = s.timers := rfl
@[simp] theorem State.setGrant_errs (g : Fin 36) (e : Option Grant) : (s.setGrant g e).errs = s.errs := rfl
@[simp] theorem State.setGrant_cfg (g : Fin 36) (e : Option Grant) : (s.setGrant g e).cfg = s.cfg := rfl
@[simp] theorem State.setGrant_power (g : Fin 36) (e : Option Grant) : (s.setGrant g e).power = s.power := rfl
@[simp] theorem State.setGrant_clocks (g : Fin 36) (e : Option Grant) : (s.setGrant g e).clocks = s.clocks := rfl
@[simp] theorem State.setGrant_boot (g : Fin 36) (e : Option Grant) : (s.setGrant g e).boot = s.boot := rfl
@[simp] theorem State.setGrant_glb (g : Fin 36) (e : Option Grant) : (s.setGrant g e).glb = s.glb := rfl
@[simp] theorem State.setGrant_commit (g : Fin 36) (e : Option Grant) : (s.setGrant g e).commit = s.commit := rfl
@[simp] theorem State.setGrant_frozenAt (g : Fin 36) (e : Option Grant) : (s.setGrant g e).frozenAt = s.frozenAt := rfl
@[simp] theorem State.setGrant_chipResetDue (g : Fin 36) (e : Option Grant) : (s.setGrant g e).chipResetDue = s.chipResetDue := rfl
@[simp] theorem State.setGrant_hif (g : Fin 36) (e : Option Grant) : (s.setGrant g e).hif = s.hif := rfl
@[simp] theorem State.setGrant_spill (g : Fin 36) (e : Option Grant) : (s.setGrant g e).spill = s.spill := rfl
@[simp] theorem State.setGrant_hostMem (g : Fin 36) (e : Option Grant) : (s.setGrant g e).hostMem = s.hostMem := rfl
@[simp] theorem State.setGrant_flights (g : Fin 36) (e : Option Grant) : (s.setGrant g e).flights = s.flights := rfl
@[simp] theorem State.setGrant_waiting (g : Fin 36) (e : Option Grant) : (s.setGrant g e).waiting = s.waiting := rfl
@[simp] theorem State.setGrant_intake (g : Fin 36) (e : Option Grant) : (s.setGrant g e).intake = s.intake := rfl
@[simp] theorem State.setGrant_queues (g : Fin 36) (e : Option Grant) : (s.setGrant g e).queues = s.queues := rfl
@[simp] theorem State.setGrant_lanes (g : Fin 36) (e : Option Grant) : (s.setGrant g e).lanes = s.lanes := rfl
@[simp] theorem State.setGrant_pmcan (g : Fin 36) (e : Option Grant) : (s.setGrant g e).pmcan = s.pmcan := rfl
@[simp] theorem State.setGrant_met (g : Fin 36) (e : Option Grant) : (s.setGrant g e).met = s.met := rfl
@[simp] theorem State.setGrant_nrg (g : Fin 36) (e : Option Grant) : (s.setGrant g e).nrg = s.nrg := rfl
@[simp] theorem State.setGrant_book (g : Fin 36) (e : Option Grant) : (s.setGrant g e).book = s.book := rfl
@[simp] theorem State.setGrant_mgt (g : Fin 36) (e : Option Grant) : (s.setGrant g e).mgt = s.mgt := rfl
@[simp] theorem State.setGrant_keys (g : Fin 36) (e : Option Grant) : (s.setGrant g e).keys = s.keys := rfl
@[simp] theorem State.setGrant_link (g : Fin 36) (e : Option Grant) : (s.setGrant g e).link = s.link := rfl
@[simp] theorem State.setGrant_tok (g : Fin 36) (e : Option Grant) : (s.setGrant g e).tok = s.tok := rfl
@[simp] theorem State.setGrant_saf (g : Fin 36) (e : Option Grant) : (s.setGrant g e).saf = s.saf := rfl
@[simp] theorem State.setGrant_lsw (g : Fin 36) (e : Option Grant) : (s.setGrant g e).lsw = s.lsw := rfl
@[simp] theorem State.setGrant_pair (g : Fin 36) (e : Option Grant) : (s.setGrant g e).pair = s.pair := rfl
@[simp] theorem State.setGrant_line (g : Fin 36) (e : Option Grant) : (s.setGrant g e).line = s.line := rfl
@[simp] theorem State.setGrant_epd (g : Fin 36) (e : Option Grant) : (s.setGrant g e).epd = s.epd := rfl
@[simp] theorem State.setGrant_arb (g : Fin 36) (e : Option Grant) : (s.setGrant g e).arb = s.arb := rfl
@[simp] theorem State.setGrant_island (g : Fin 36) (e : Option Grant) : (s.setGrant g e).island = s.island := rfl
@[simp] theorem State.setGrant_fuses (g : Fin 36) (e : Option Grant) : (s.setGrant g e).fuses = s.fuses := rfl
@[simp] theorem State.setGrant_nv (g : Fin 36) (e : Option Grant) : (s.setGrant g e).nv = s.nv := rfl
@[simp] theorem State.setGrant_pending (g : Fin 36) (e : Option Grant) : (s.setGrant g e).pending = s.pending := rfl

/-! ## setIsland -/

@[simp] theorem State.setIsland_htc (f : Saf → Saf) : (s.setIsland f).htc = s.htc := rfl
@[simp] theorem State.setIsland_htcLoaded (f : Saf → Saf) : (s.setIsland f).htcLoaded = s.htcLoaded := rfl
@[simp] theorem State.setIsland_outside (f : Saf → Saf) : (s.setIsland f).outside = s.outside := rfl
@[simp] theorem State.setIsland_freeCtr (f : Saf → Saf) : (s.setIsland f).freeCtr = s.freeCtr := rfl
@[simp] theorem State.setIsland_seq (f : Saf → Saf) : (s.setIsland f).seq = s.seq := rfl
@[simp] theorem State.setIsland_timers (f : Saf → Saf) : (s.setIsland f).timers = s.timers := rfl
@[simp] theorem State.setIsland_errs (f : Saf → Saf) : (s.setIsland f).errs = s.errs := rfl
@[simp] theorem State.setIsland_cfg (f : Saf → Saf) : (s.setIsland f).cfg = s.cfg := rfl
@[simp] theorem State.setIsland_power (f : Saf → Saf) : (s.setIsland f).power = s.power := rfl
@[simp] theorem State.setIsland_clocks (f : Saf → Saf) : (s.setIsland f).clocks = s.clocks := rfl
@[simp] theorem State.setIsland_boot (f : Saf → Saf) : (s.setIsland f).boot = s.boot := rfl
@[simp] theorem State.setIsland_glb (f : Saf → Saf) : (s.setIsland f).glb = s.glb := rfl
@[simp] theorem State.setIsland_commit (f : Saf → Saf) : (s.setIsland f).commit = s.commit := rfl
@[simp] theorem State.setIsland_frozenAt (f : Saf → Saf) : (s.setIsland f).frozenAt = s.frozenAt := rfl
@[simp] theorem State.setIsland_chipResetDue (f : Saf → Saf) : (s.setIsland f).chipResetDue = s.chipResetDue := rfl
@[simp] theorem State.setIsland_hif (f : Saf → Saf) : (s.setIsland f).hif = s.hif := rfl
@[simp] theorem State.setIsland_spill (f : Saf → Saf) : (s.setIsland f).spill = s.spill := rfl
@[simp] theorem State.setIsland_hostMem (f : Saf → Saf) : (s.setIsland f).hostMem = s.hostMem := rfl
@[simp] theorem State.setIsland_flights (f : Saf → Saf) : (s.setIsland f).flights = s.flights := rfl
@[simp] theorem State.setIsland_waiting (f : Saf → Saf) : (s.setIsland f).waiting = s.waiting := rfl
@[simp] theorem State.setIsland_intake (f : Saf → Saf) : (s.setIsland f).intake = s.intake := rfl
@[simp] theorem State.setIsland_queues (f : Saf → Saf) : (s.setIsland f).queues = s.queues := rfl
@[simp] theorem State.setIsland_lanes (f : Saf → Saf) : (s.setIsland f).lanes = s.lanes := rfl
@[simp] theorem State.setIsland_pmcan (f : Saf → Saf) : (s.setIsland f).pmcan = s.pmcan := rfl
@[simp] theorem State.setIsland_met (f : Saf → Saf) : (s.setIsland f).met = s.met := rfl
@[simp] theorem State.setIsland_nrg (f : Saf → Saf) : (s.setIsland f).nrg = s.nrg := rfl
@[simp] theorem State.setIsland_book (f : Saf → Saf) : (s.setIsland f).book = s.book := rfl
@[simp] theorem State.setIsland_abc (f : Saf → Saf) : (s.setIsland f).abc = s.abc := rfl
@[simp] theorem State.setIsland_mgt (f : Saf → Saf) : (s.setIsland f).mgt = s.mgt := rfl
@[simp] theorem State.setIsland_keys (f : Saf → Saf) : (s.setIsland f).keys = s.keys := rfl
@[simp] theorem State.setIsland_link (f : Saf → Saf) : (s.setIsland f).link = s.link := rfl
@[simp] theorem State.setIsland_tok (f : Saf → Saf) : (s.setIsland f).tok = s.tok := rfl
@[simp] theorem State.setIsland_saf (f : Saf → Saf) : (s.setIsland f).saf = f s.saf := rfl
@[simp] theorem State.setIsland_lsw (f : Saf → Saf) : (s.setIsland f).lsw = s.lsw := rfl
@[simp] theorem State.setIsland_pair (f : Saf → Saf) : (s.setIsland f).pair = s.pair := rfl
@[simp] theorem State.setIsland_line (f : Saf → Saf) : (s.setIsland f).line = s.line := rfl
@[simp] theorem State.setIsland_epd (f : Saf → Saf) : (s.setIsland f).epd = s.epd := rfl
@[simp] theorem State.setIsland_arb (f : Saf → Saf) : (s.setIsland f).arb = s.arb := rfl
@[simp] theorem State.setIsland_island (f : Saf → Saf) : (s.setIsland f).island = s.island := rfl
@[simp] theorem State.setIsland_fuses (f : Saf → Saf) : (s.setIsland f).fuses = s.fuses := rfl
@[simp] theorem State.setIsland_nv (f : Saf → Saf) : (s.setIsland f).nv = s.nv := rfl
@[simp] theorem State.setIsland_pending (f : Saf → Saf) : (s.setIsland f).pending = s.pending := rfl

/-! ## setSin -/

@[simp] theorem State.setSin_htc (i : Fin 72) (f : Sin → Sin) : (s.setSin i f).htc = s.htc := rfl
@[simp] theorem State.setSin_htcLoaded (i : Fin 72) (f : Sin → Sin) : (s.setSin i f).htcLoaded = s.htcLoaded := rfl
@[simp] theorem State.setSin_outside (i : Fin 72) (f : Sin → Sin) : (s.setSin i f).outside = s.outside := rfl
@[simp] theorem State.setSin_freeCtr (i : Fin 72) (f : Sin → Sin) : (s.setSin i f).freeCtr = s.freeCtr := rfl
@[simp] theorem State.setSin_seq (i : Fin 72) (f : Sin → Sin) : (s.setSin i f).seq = s.seq := rfl
@[simp] theorem State.setSin_timers (i : Fin 72) (f : Sin → Sin) : (s.setSin i f).timers = s.timers := rfl
@[simp] theorem State.setSin_errs (i : Fin 72) (f : Sin → Sin) : (s.setSin i f).errs = s.errs := rfl
@[simp] theorem State.setSin_cfg (i : Fin 72) (f : Sin → Sin) : (s.setSin i f).cfg = s.cfg := rfl
@[simp] theorem State.setSin_power (i : Fin 72) (f : Sin → Sin) : (s.setSin i f).power = s.power := rfl
@[simp] theorem State.setSin_clocks (i : Fin 72) (f : Sin → Sin) : (s.setSin i f).clocks = s.clocks := rfl
@[simp] theorem State.setSin_boot (i : Fin 72) (f : Sin → Sin) : (s.setSin i f).boot = s.boot := rfl
@[simp] theorem State.setSin_glb (i : Fin 72) (f : Sin → Sin) : (s.setSin i f).glb = s.glb := rfl
@[simp] theorem State.setSin_commit (i : Fin 72) (f : Sin → Sin) : (s.setSin i f).commit = s.commit := rfl
@[simp] theorem State.setSin_frozenAt (i : Fin 72) (f : Sin → Sin) : (s.setSin i f).frozenAt = s.frozenAt := rfl
@[simp] theorem State.setSin_chipResetDue (i : Fin 72) (f : Sin → Sin) : (s.setSin i f).chipResetDue = s.chipResetDue := rfl
@[simp] theorem State.setSin_hif (i : Fin 72) (f : Sin → Sin) : (s.setSin i f).hif = s.hif := rfl
@[simp] theorem State.setSin_spill (i : Fin 72) (f : Sin → Sin) : (s.setSin i f).spill = s.spill := rfl
@[simp] theorem State.setSin_hostMem (i : Fin 72) (f : Sin → Sin) : (s.setSin i f).hostMem = s.hostMem := rfl
@[simp] theorem State.setSin_flights (i : Fin 72) (f : Sin → Sin) : (s.setSin i f).flights = s.flights := rfl
@[simp] theorem State.setSin_waiting (i : Fin 72) (f : Sin → Sin) : (s.setSin i f).waiting = s.waiting := rfl
@[simp] theorem State.setSin_intake (i : Fin 72) (f : Sin → Sin) : (s.setSin i f).intake = s.intake := rfl
@[simp] theorem State.setSin_queues (i : Fin 72) (f : Sin → Sin) : (s.setSin i f).queues = s.queues := rfl
@[simp] theorem State.setSin_lanes (i : Fin 72) (f : Sin → Sin) : (s.setSin i f).lanes = s.lanes := rfl
@[simp] theorem State.setSin_pmcan (i : Fin 72) (f : Sin → Sin) : (s.setSin i f).pmcan = s.pmcan := rfl
@[simp] theorem State.setSin_met (i : Fin 72) (f : Sin → Sin) : (s.setSin i f).met = s.met := rfl
@[simp] theorem State.setSin_nrg (i : Fin 72) (f : Sin → Sin) : (s.setSin i f).nrg = s.nrg := rfl
@[simp] theorem State.setSin_book (i : Fin 72) (f : Sin → Sin) : (s.setSin i f).book = s.book := rfl
@[simp] theorem State.setSin_abc (i : Fin 72) (f : Sin → Sin) : (s.setSin i f).abc = s.abc := rfl
@[simp] theorem State.setSin_mgt (i : Fin 72) (f : Sin → Sin) : (s.setSin i f).mgt = s.mgt := rfl
@[simp] theorem State.setSin_keys (i : Fin 72) (f : Sin → Sin) : (s.setSin i f).keys = s.keys := rfl
@[simp] theorem State.setSin_link (i : Fin 72) (f : Sin → Sin) : (s.setSin i f).link = s.link := rfl
@[simp] theorem State.setSin_tok (i : Fin 72) (f : Sin → Sin) : (s.setSin i f).tok = s.tok := rfl
@[simp] theorem State.setSin_lsw (i : Fin 72) (f : Sin → Sin) : (s.setSin i f).lsw = s.lsw := rfl
@[simp] theorem State.setSin_pair (i : Fin 72) (f : Sin → Sin) : (s.setSin i f).pair = s.pair := rfl
@[simp] theorem State.setSin_line (i : Fin 72) (f : Sin → Sin) : (s.setSin i f).line = s.line := rfl
@[simp] theorem State.setSin_epd (i : Fin 72) (f : Sin → Sin) : (s.setSin i f).epd = s.epd := rfl
@[simp] theorem State.setSin_arb (i : Fin 72) (f : Sin → Sin) : (s.setSin i f).arb = s.arb := rfl
@[simp] theorem State.setSin_island (i : Fin 72) (f : Sin → Sin) : (s.setSin i f).island = s.island := rfl
@[simp] theorem State.setSin_fuses (i : Fin 72) (f : Sin → Sin) : (s.setSin i f).fuses = s.fuses := rfl
@[simp] theorem State.setSin_nv (i : Fin 72) (f : Sin → Sin) : (s.setSin i f).nv = s.nv := rfl
@[simp] theorem State.setSin_pending (i : Fin 72) (f : Sin → Sin) : (s.setSin i f).pending = s.pending := rfl

/-! ## setTps -/

@[simp] theorem State.setTps_htc (k : Fin 4) (f : Tps → Tps) : (s.setTps k f).htc = s.htc := rfl
@[simp] theorem State.setTps_htcLoaded (k : Fin 4) (f : Tps → Tps) : (s.setTps k f).htcLoaded = s.htcLoaded := rfl
@[simp] theorem State.setTps_outside (k : Fin 4) (f : Tps → Tps) : (s.setTps k f).outside = s.outside := rfl
@[simp] theorem State.setTps_freeCtr (k : Fin 4) (f : Tps → Tps) : (s.setTps k f).freeCtr = s.freeCtr := rfl
@[simp] theorem State.setTps_seq (k : Fin 4) (f : Tps → Tps) : (s.setTps k f).seq = s.seq := rfl
@[simp] theorem State.setTps_timers (k : Fin 4) (f : Tps → Tps) : (s.setTps k f).timers = s.timers := rfl
@[simp] theorem State.setTps_errs (k : Fin 4) (f : Tps → Tps) : (s.setTps k f).errs = s.errs := rfl
@[simp] theorem State.setTps_cfg (k : Fin 4) (f : Tps → Tps) : (s.setTps k f).cfg = s.cfg := rfl
@[simp] theorem State.setTps_power (k : Fin 4) (f : Tps → Tps) : (s.setTps k f).power = s.power := rfl
@[simp] theorem State.setTps_clocks (k : Fin 4) (f : Tps → Tps) : (s.setTps k f).clocks = s.clocks := rfl
@[simp] theorem State.setTps_boot (k : Fin 4) (f : Tps → Tps) : (s.setTps k f).boot = s.boot := rfl
@[simp] theorem State.setTps_glb (k : Fin 4) (f : Tps → Tps) : (s.setTps k f).glb = s.glb := rfl
@[simp] theorem State.setTps_commit (k : Fin 4) (f : Tps → Tps) : (s.setTps k f).commit = s.commit := rfl
@[simp] theorem State.setTps_frozenAt (k : Fin 4) (f : Tps → Tps) : (s.setTps k f).frozenAt = s.frozenAt := rfl
@[simp] theorem State.setTps_chipResetDue (k : Fin 4) (f : Tps → Tps) : (s.setTps k f).chipResetDue = s.chipResetDue := rfl
@[simp] theorem State.setTps_hif (k : Fin 4) (f : Tps → Tps) : (s.setTps k f).hif = s.hif := rfl
@[simp] theorem State.setTps_spill (k : Fin 4) (f : Tps → Tps) : (s.setTps k f).spill = s.spill := rfl
@[simp] theorem State.setTps_hostMem (k : Fin 4) (f : Tps → Tps) : (s.setTps k f).hostMem = s.hostMem := rfl
@[simp] theorem State.setTps_flights (k : Fin 4) (f : Tps → Tps) : (s.setTps k f).flights = s.flights := rfl
@[simp] theorem State.setTps_waiting (k : Fin 4) (f : Tps → Tps) : (s.setTps k f).waiting = s.waiting := rfl
@[simp] theorem State.setTps_intake (k : Fin 4) (f : Tps → Tps) : (s.setTps k f).intake = s.intake := rfl
@[simp] theorem State.setTps_queues (k : Fin 4) (f : Tps → Tps) : (s.setTps k f).queues = s.queues := rfl
@[simp] theorem State.setTps_lanes (k : Fin 4) (f : Tps → Tps) : (s.setTps k f).lanes = s.lanes := rfl
@[simp] theorem State.setTps_pmcan (k : Fin 4) (f : Tps → Tps) : (s.setTps k f).pmcan = s.pmcan := rfl
@[simp] theorem State.setTps_met (k : Fin 4) (f : Tps → Tps) : (s.setTps k f).met = s.met := rfl
@[simp] theorem State.setTps_nrg (k : Fin 4) (f : Tps → Tps) : (s.setTps k f).nrg = s.nrg := rfl
@[simp] theorem State.setTps_book (k : Fin 4) (f : Tps → Tps) : (s.setTps k f).book = s.book := rfl
@[simp] theorem State.setTps_abc (k : Fin 4) (f : Tps → Tps) : (s.setTps k f).abc = s.abc := rfl
@[simp] theorem State.setTps_mgt (k : Fin 4) (f : Tps → Tps) : (s.setTps k f).mgt = s.mgt := rfl
@[simp] theorem State.setTps_keys (k : Fin 4) (f : Tps → Tps) : (s.setTps k f).keys = s.keys := rfl
@[simp] theorem State.setTps_link (k : Fin 4) (f : Tps → Tps) : (s.setTps k f).link = s.link := rfl
@[simp] theorem State.setTps_tok (k : Fin 4) (f : Tps → Tps) : (s.setTps k f).tok = s.tok := rfl
@[simp] theorem State.setTps_lsw (k : Fin 4) (f : Tps → Tps) : (s.setTps k f).lsw = s.lsw := rfl
@[simp] theorem State.setTps_pair (k : Fin 4) (f : Tps → Tps) : (s.setTps k f).pair = s.pair := rfl
@[simp] theorem State.setTps_line (k : Fin 4) (f : Tps → Tps) : (s.setTps k f).line = s.line := rfl
@[simp] theorem State.setTps_epd (k : Fin 4) (f : Tps → Tps) : (s.setTps k f).epd = s.epd := rfl
@[simp] theorem State.setTps_arb (k : Fin 4) (f : Tps → Tps) : (s.setTps k f).arb = s.arb := rfl
@[simp] theorem State.setTps_island (k : Fin 4) (f : Tps → Tps) : (s.setTps k f).island = s.island := rfl
@[simp] theorem State.setTps_fuses (k : Fin 4) (f : Tps → Tps) : (s.setTps k f).fuses = s.fuses := rfl
@[simp] theorem State.setTps_nv (k : Fin 4) (f : Tps → Tps) : (s.setTps k f).nv = s.nv := rfl
@[simp] theorem State.setTps_pending (k : Fin 4) (f : Tps → Tps) : (s.setTps k f).pending = s.pending := rfl

/-! ## setSaf -/

@[simp] theorem State.setSaf_htc (n : Fin 32) (f : SafLane → SafLane) : (s.setSaf n f).htc = s.htc := rfl
@[simp] theorem State.setSaf_htcLoaded (n : Fin 32) (f : SafLane → SafLane) : (s.setSaf n f).htcLoaded = s.htcLoaded := rfl
@[simp] theorem State.setSaf_outside (n : Fin 32) (f : SafLane → SafLane) : (s.setSaf n f).outside = s.outside := rfl
@[simp] theorem State.setSaf_freeCtr (n : Fin 32) (f : SafLane → SafLane) : (s.setSaf n f).freeCtr = s.freeCtr := rfl
@[simp] theorem State.setSaf_seq (n : Fin 32) (f : SafLane → SafLane) : (s.setSaf n f).seq = s.seq := rfl
@[simp] theorem State.setSaf_timers (n : Fin 32) (f : SafLane → SafLane) : (s.setSaf n f).timers = s.timers := rfl
@[simp] theorem State.setSaf_errs (n : Fin 32) (f : SafLane → SafLane) : (s.setSaf n f).errs = s.errs := rfl
@[simp] theorem State.setSaf_cfg (n : Fin 32) (f : SafLane → SafLane) : (s.setSaf n f).cfg = s.cfg := rfl
@[simp] theorem State.setSaf_power (n : Fin 32) (f : SafLane → SafLane) : (s.setSaf n f).power = s.power := rfl
@[simp] theorem State.setSaf_clocks (n : Fin 32) (f : SafLane → SafLane) : (s.setSaf n f).clocks = s.clocks := rfl
@[simp] theorem State.setSaf_boot (n : Fin 32) (f : SafLane → SafLane) : (s.setSaf n f).boot = s.boot := rfl
@[simp] theorem State.setSaf_glb (n : Fin 32) (f : SafLane → SafLane) : (s.setSaf n f).glb = s.glb := rfl
@[simp] theorem State.setSaf_commit (n : Fin 32) (f : SafLane → SafLane) : (s.setSaf n f).commit = s.commit := rfl
@[simp] theorem State.setSaf_frozenAt (n : Fin 32) (f : SafLane → SafLane) : (s.setSaf n f).frozenAt = s.frozenAt := rfl
@[simp] theorem State.setSaf_chipResetDue (n : Fin 32) (f : SafLane → SafLane) : (s.setSaf n f).chipResetDue = s.chipResetDue := rfl
@[simp] theorem State.setSaf_hif (n : Fin 32) (f : SafLane → SafLane) : (s.setSaf n f).hif = s.hif := rfl
@[simp] theorem State.setSaf_spill (n : Fin 32) (f : SafLane → SafLane) : (s.setSaf n f).spill = s.spill := rfl
@[simp] theorem State.setSaf_hostMem (n : Fin 32) (f : SafLane → SafLane) : (s.setSaf n f).hostMem = s.hostMem := rfl
@[simp] theorem State.setSaf_flights (n : Fin 32) (f : SafLane → SafLane) : (s.setSaf n f).flights = s.flights := rfl
@[simp] theorem State.setSaf_waiting (n : Fin 32) (f : SafLane → SafLane) : (s.setSaf n f).waiting = s.waiting := rfl
@[simp] theorem State.setSaf_intake (n : Fin 32) (f : SafLane → SafLane) : (s.setSaf n f).intake = s.intake := rfl
@[simp] theorem State.setSaf_queues (n : Fin 32) (f : SafLane → SafLane) : (s.setSaf n f).queues = s.queues := rfl
@[simp] theorem State.setSaf_lanes (n : Fin 32) (f : SafLane → SafLane) : (s.setSaf n f).lanes = s.lanes := rfl
@[simp] theorem State.setSaf_pmcan (n : Fin 32) (f : SafLane → SafLane) : (s.setSaf n f).pmcan = s.pmcan := rfl
@[simp] theorem State.setSaf_met (n : Fin 32) (f : SafLane → SafLane) : (s.setSaf n f).met = s.met := rfl
@[simp] theorem State.setSaf_nrg (n : Fin 32) (f : SafLane → SafLane) : (s.setSaf n f).nrg = s.nrg := rfl
@[simp] theorem State.setSaf_book (n : Fin 32) (f : SafLane → SafLane) : (s.setSaf n f).book = s.book := rfl
@[simp] theorem State.setSaf_abc (n : Fin 32) (f : SafLane → SafLane) : (s.setSaf n f).abc = s.abc := rfl
@[simp] theorem State.setSaf_mgt (n : Fin 32) (f : SafLane → SafLane) : (s.setSaf n f).mgt = s.mgt := rfl
@[simp] theorem State.setSaf_keys (n : Fin 32) (f : SafLane → SafLane) : (s.setSaf n f).keys = s.keys := rfl
@[simp] theorem State.setSaf_link (n : Fin 32) (f : SafLane → SafLane) : (s.setSaf n f).link = s.link := rfl
@[simp] theorem State.setSaf_tok (n : Fin 32) (f : SafLane → SafLane) : (s.setSaf n f).tok = s.tok := rfl
@[simp] theorem State.setSaf_lsw (n : Fin 32) (f : SafLane → SafLane) : (s.setSaf n f).lsw = s.lsw := rfl
@[simp] theorem State.setSaf_pair (n : Fin 32) (f : SafLane → SafLane) : (s.setSaf n f).pair = s.pair := rfl
@[simp] theorem State.setSaf_line (n : Fin 32) (f : SafLane → SafLane) : (s.setSaf n f).line = s.line := rfl
@[simp] theorem State.setSaf_epd (n : Fin 32) (f : SafLane → SafLane) : (s.setSaf n f).epd = s.epd := rfl
@[simp] theorem State.setSaf_arb (n : Fin 32) (f : SafLane → SafLane) : (s.setSaf n f).arb = s.arb := rfl
@[simp] theorem State.setSaf_island (n : Fin 32) (f : SafLane → SafLane) : (s.setSaf n f).island = s.island := rfl
@[simp] theorem State.setSaf_fuses (n : Fin 32) (f : SafLane → SafLane) : (s.setSaf n f).fuses = s.fuses := rfl
@[simp] theorem State.setSaf_nv (n : Fin 32) (f : SafLane → SafLane) : (s.setSaf n f).nv = s.nv := rfl
@[simp] theorem State.setSaf_pending (n : Fin 32) (f : SafLane → SafLane) : (s.setSaf n f).pending = s.pending := rfl

/-! ## setLsw -/

@[simp] theorem State.setLsw_htc (f : Lsw → Lsw) : (s.setLsw f).htc = s.htc := rfl
@[simp] theorem State.setLsw_htcLoaded (f : Lsw → Lsw) : (s.setLsw f).htcLoaded = s.htcLoaded := rfl
@[simp] theorem State.setLsw_outside (f : Lsw → Lsw) : (s.setLsw f).outside = s.outside := rfl
@[simp] theorem State.setLsw_freeCtr (f : Lsw → Lsw) : (s.setLsw f).freeCtr = s.freeCtr := rfl
@[simp] theorem State.setLsw_seq (f : Lsw → Lsw) : (s.setLsw f).seq = s.seq := rfl
@[simp] theorem State.setLsw_timers (f : Lsw → Lsw) : (s.setLsw f).timers = s.timers := rfl
@[simp] theorem State.setLsw_errs (f : Lsw → Lsw) : (s.setLsw f).errs = s.errs := rfl
@[simp] theorem State.setLsw_cfg (f : Lsw → Lsw) : (s.setLsw f).cfg = s.cfg := rfl
@[simp] theorem State.setLsw_power (f : Lsw → Lsw) : (s.setLsw f).power = s.power := rfl
@[simp] theorem State.setLsw_clocks (f : Lsw → Lsw) : (s.setLsw f).clocks = s.clocks := rfl
@[simp] theorem State.setLsw_boot (f : Lsw → Lsw) : (s.setLsw f).boot = s.boot := rfl
@[simp] theorem State.setLsw_glb (f : Lsw → Lsw) : (s.setLsw f).glb = s.glb := rfl
@[simp] theorem State.setLsw_commit (f : Lsw → Lsw) : (s.setLsw f).commit = s.commit := rfl
@[simp] theorem State.setLsw_frozenAt (f : Lsw → Lsw) : (s.setLsw f).frozenAt = s.frozenAt := rfl
@[simp] theorem State.setLsw_chipResetDue (f : Lsw → Lsw) : (s.setLsw f).chipResetDue = s.chipResetDue := rfl
@[simp] theorem State.setLsw_hif (f : Lsw → Lsw) : (s.setLsw f).hif = s.hif := rfl
@[simp] theorem State.setLsw_spill (f : Lsw → Lsw) : (s.setLsw f).spill = s.spill := rfl
@[simp] theorem State.setLsw_hostMem (f : Lsw → Lsw) : (s.setLsw f).hostMem = s.hostMem := rfl
@[simp] theorem State.setLsw_flights (f : Lsw → Lsw) : (s.setLsw f).flights = s.flights := rfl
@[simp] theorem State.setLsw_waiting (f : Lsw → Lsw) : (s.setLsw f).waiting = s.waiting := rfl
@[simp] theorem State.setLsw_intake (f : Lsw → Lsw) : (s.setLsw f).intake = s.intake := rfl
@[simp] theorem State.setLsw_queues (f : Lsw → Lsw) : (s.setLsw f).queues = s.queues := rfl
@[simp] theorem State.setLsw_lanes (f : Lsw → Lsw) : (s.setLsw f).lanes = s.lanes := rfl
@[simp] theorem State.setLsw_pmcan (f : Lsw → Lsw) : (s.setLsw f).pmcan = s.pmcan := rfl
@[simp] theorem State.setLsw_met (f : Lsw → Lsw) : (s.setLsw f).met = s.met := rfl
@[simp] theorem State.setLsw_nrg (f : Lsw → Lsw) : (s.setLsw f).nrg = s.nrg := rfl
@[simp] theorem State.setLsw_book (f : Lsw → Lsw) : (s.setLsw f).book = s.book := rfl
@[simp] theorem State.setLsw_abc (f : Lsw → Lsw) : (s.setLsw f).abc = s.abc := rfl
@[simp] theorem State.setLsw_mgt (f : Lsw → Lsw) : (s.setLsw f).mgt = s.mgt := rfl
@[simp] theorem State.setLsw_keys (f : Lsw → Lsw) : (s.setLsw f).keys = s.keys := rfl
@[simp] theorem State.setLsw_link (f : Lsw → Lsw) : (s.setLsw f).link = s.link := rfl
@[simp] theorem State.setLsw_tok (f : Lsw → Lsw) : (s.setLsw f).tok = s.tok := rfl
@[simp] theorem State.setLsw_saf (f : Lsw → Lsw) : (s.setLsw f).saf = s.saf := rfl
@[simp] theorem State.setLsw_lsw (f : Lsw → Lsw) : (s.setLsw f).lsw = f s.lsw := rfl
@[simp] theorem State.setLsw_pair (f : Lsw → Lsw) : (s.setLsw f).pair = s.pair := rfl
@[simp] theorem State.setLsw_line (f : Lsw → Lsw) : (s.setLsw f).line = s.line := rfl
@[simp] theorem State.setLsw_epd (f : Lsw → Lsw) : (s.setLsw f).epd = s.epd := rfl
@[simp] theorem State.setLsw_arb (f : Lsw → Lsw) : (s.setLsw f).arb = s.arb := rfl
@[simp] theorem State.setLsw_island (f : Lsw → Lsw) : (s.setLsw f).island = s.island := rfl
@[simp] theorem State.setLsw_fuses (f : Lsw → Lsw) : (s.setLsw f).fuses = s.fuses := rfl
@[simp] theorem State.setLsw_nv (f : Lsw → Lsw) : (s.setLsw f).nv = s.nv := rfl
@[simp] theorem State.setLsw_pending (f : Lsw → Lsw) : (s.setLsw f).pending = s.pending := rfl

/-! ## setCh -/

@[simp] theorem State.setCh_htc (c : Fin 48) (f : Chan → Chan) : (s.setCh c f).htc = s.htc := rfl
@[simp] theorem State.setCh_htcLoaded (c : Fin 48) (f : Chan → Chan) : (s.setCh c f).htcLoaded = s.htcLoaded := rfl
@[simp] theorem State.setCh_outside (c : Fin 48) (f : Chan → Chan) : (s.setCh c f).outside = s.outside := rfl
@[simp] theorem State.setCh_freeCtr (c : Fin 48) (f : Chan → Chan) : (s.setCh c f).freeCtr = s.freeCtr := rfl
@[simp] theorem State.setCh_seq (c : Fin 48) (f : Chan → Chan) : (s.setCh c f).seq = s.seq := rfl
@[simp] theorem State.setCh_timers (c : Fin 48) (f : Chan → Chan) : (s.setCh c f).timers = s.timers := rfl
@[simp] theorem State.setCh_errs (c : Fin 48) (f : Chan → Chan) : (s.setCh c f).errs = s.errs := rfl
@[simp] theorem State.setCh_cfg (c : Fin 48) (f : Chan → Chan) : (s.setCh c f).cfg = s.cfg := rfl
@[simp] theorem State.setCh_power (c : Fin 48) (f : Chan → Chan) : (s.setCh c f).power = s.power := rfl
@[simp] theorem State.setCh_clocks (c : Fin 48) (f : Chan → Chan) : (s.setCh c f).clocks = s.clocks := rfl
@[simp] theorem State.setCh_boot (c : Fin 48) (f : Chan → Chan) : (s.setCh c f).boot = s.boot := rfl
@[simp] theorem State.setCh_glb (c : Fin 48) (f : Chan → Chan) : (s.setCh c f).glb = s.glb := rfl
@[simp] theorem State.setCh_commit (c : Fin 48) (f : Chan → Chan) : (s.setCh c f).commit = s.commit := rfl
@[simp] theorem State.setCh_frozenAt (c : Fin 48) (f : Chan → Chan) : (s.setCh c f).frozenAt = s.frozenAt := rfl
@[simp] theorem State.setCh_chipResetDue (c : Fin 48) (f : Chan → Chan) : (s.setCh c f).chipResetDue = s.chipResetDue := rfl
@[simp] theorem State.setCh_hif (c : Fin 48) (f : Chan → Chan) : (s.setCh c f).hif = s.hif := rfl
@[simp] theorem State.setCh_spill (c : Fin 48) (f : Chan → Chan) : (s.setCh c f).spill = s.spill := rfl
@[simp] theorem State.setCh_hostMem (c : Fin 48) (f : Chan → Chan) : (s.setCh c f).hostMem = s.hostMem := rfl
@[simp] theorem State.setCh_flights (c : Fin 48) (f : Chan → Chan) : (s.setCh c f).flights = s.flights := rfl
@[simp] theorem State.setCh_waiting (c : Fin 48) (f : Chan → Chan) : (s.setCh c f).waiting = s.waiting := rfl
@[simp] theorem State.setCh_intake (c : Fin 48) (f : Chan → Chan) : (s.setCh c f).intake = s.intake := rfl
@[simp] theorem State.setCh_queues (c : Fin 48) (f : Chan → Chan) : (s.setCh c f).queues = s.queues := rfl
@[simp] theorem State.setCh_lanes (c : Fin 48) (f : Chan → Chan) : (s.setCh c f).lanes = s.lanes := rfl
@[simp] theorem State.setCh_pmcan (c : Fin 48) (f : Chan → Chan) : (s.setCh c f).pmcan = s.pmcan := rfl
@[simp] theorem State.setCh_met (c : Fin 48) (f : Chan → Chan) : (s.setCh c f).met = s.met := rfl
@[simp] theorem State.setCh_nrg (c : Fin 48) (f : Chan → Chan) : (s.setCh c f).nrg = s.nrg := rfl
@[simp] theorem State.setCh_book (c : Fin 48) (f : Chan → Chan) : (s.setCh c f).book = s.book := rfl
@[simp] theorem State.setCh_abc (c : Fin 48) (f : Chan → Chan) : (s.setCh c f).abc = s.abc := rfl
@[simp] theorem State.setCh_mgt (c : Fin 48) (f : Chan → Chan) : (s.setCh c f).mgt = s.mgt := rfl
@[simp] theorem State.setCh_keys (c : Fin 48) (f : Chan → Chan) : (s.setCh c f).keys = s.keys := rfl
@[simp] theorem State.setCh_link (c : Fin 48) (f : Chan → Chan) : (s.setCh c f).link = s.link := rfl
@[simp] theorem State.setCh_tok (c : Fin 48) (f : Chan → Chan) : (s.setCh c f).tok = s.tok := rfl
@[simp] theorem State.setCh_saf (c : Fin 48) (f : Chan → Chan) : (s.setCh c f).saf = s.saf := rfl
@[simp] theorem State.setCh_pair (c : Fin 48) (f : Chan → Chan) : (s.setCh c f).pair = s.pair := rfl
@[simp] theorem State.setCh_line (c : Fin 48) (f : Chan → Chan) : (s.setCh c f).line = s.line := rfl
@[simp] theorem State.setCh_epd (c : Fin 48) (f : Chan → Chan) : (s.setCh c f).epd = s.epd := rfl
@[simp] theorem State.setCh_arb (c : Fin 48) (f : Chan → Chan) : (s.setCh c f).arb = s.arb := rfl
@[simp] theorem State.setCh_island (c : Fin 48) (f : Chan → Chan) : (s.setCh c f).island = s.island := rfl
@[simp] theorem State.setCh_fuses (c : Fin 48) (f : Chan → Chan) : (s.setCh c f).fuses = s.fuses := rfl
@[simp] theorem State.setCh_nv (c : Fin 48) (f : Chan → Chan) : (s.setCh c f).nv = s.nv := rfl
@[simp] theorem State.setCh_pending (c : Fin 48) (f : Chan → Chan) : (s.setCh c f).pending = s.pending := rfl

/-! ## setQuad -/

@[simp] theorem State.setQuad_htc (q : Fin 12) (f : Quad → Quad) : (s.setQuad q f).htc = s.htc := rfl
@[simp] theorem State.setQuad_htcLoaded (q : Fin 12) (f : Quad → Quad) : (s.setQuad q f).htcLoaded = s.htcLoaded := rfl
@[simp] theorem State.setQuad_outside (q : Fin 12) (f : Quad → Quad) : (s.setQuad q f).outside = s.outside := rfl
@[simp] theorem State.setQuad_freeCtr (q : Fin 12) (f : Quad → Quad) : (s.setQuad q f).freeCtr = s.freeCtr := rfl
@[simp] theorem State.setQuad_seq (q : Fin 12) (f : Quad → Quad) : (s.setQuad q f).seq = s.seq := rfl
@[simp] theorem State.setQuad_timers (q : Fin 12) (f : Quad → Quad) : (s.setQuad q f).timers = s.timers := rfl
@[simp] theorem State.setQuad_errs (q : Fin 12) (f : Quad → Quad) : (s.setQuad q f).errs = s.errs := rfl
@[simp] theorem State.setQuad_cfg (q : Fin 12) (f : Quad → Quad) : (s.setQuad q f).cfg = s.cfg := rfl
@[simp] theorem State.setQuad_power (q : Fin 12) (f : Quad → Quad) : (s.setQuad q f).power = s.power := rfl
@[simp] theorem State.setQuad_clocks (q : Fin 12) (f : Quad → Quad) : (s.setQuad q f).clocks = s.clocks := rfl
@[simp] theorem State.setQuad_boot (q : Fin 12) (f : Quad → Quad) : (s.setQuad q f).boot = s.boot := rfl
@[simp] theorem State.setQuad_glb (q : Fin 12) (f : Quad → Quad) : (s.setQuad q f).glb = s.glb := rfl
@[simp] theorem State.setQuad_commit (q : Fin 12) (f : Quad → Quad) : (s.setQuad q f).commit = s.commit := rfl
@[simp] theorem State.setQuad_frozenAt (q : Fin 12) (f : Quad → Quad) : (s.setQuad q f).frozenAt = s.frozenAt := rfl
@[simp] theorem State.setQuad_chipResetDue (q : Fin 12) (f : Quad → Quad) : (s.setQuad q f).chipResetDue = s.chipResetDue := rfl
@[simp] theorem State.setQuad_hif (q : Fin 12) (f : Quad → Quad) : (s.setQuad q f).hif = s.hif := rfl
@[simp] theorem State.setQuad_spill (q : Fin 12) (f : Quad → Quad) : (s.setQuad q f).spill = s.spill := rfl
@[simp] theorem State.setQuad_hostMem (q : Fin 12) (f : Quad → Quad) : (s.setQuad q f).hostMem = s.hostMem := rfl
@[simp] theorem State.setQuad_flights (q : Fin 12) (f : Quad → Quad) : (s.setQuad q f).flights = s.flights := rfl
@[simp] theorem State.setQuad_waiting (q : Fin 12) (f : Quad → Quad) : (s.setQuad q f).waiting = s.waiting := rfl
@[simp] theorem State.setQuad_intake (q : Fin 12) (f : Quad → Quad) : (s.setQuad q f).intake = s.intake := rfl
@[simp] theorem State.setQuad_queues (q : Fin 12) (f : Quad → Quad) : (s.setQuad q f).queues = s.queues := rfl
@[simp] theorem State.setQuad_lanes (q : Fin 12) (f : Quad → Quad) : (s.setQuad q f).lanes = s.lanes := rfl
@[simp] theorem State.setQuad_pmcan (q : Fin 12) (f : Quad → Quad) : (s.setQuad q f).pmcan = s.pmcan := rfl
@[simp] theorem State.setQuad_met (q : Fin 12) (f : Quad → Quad) : (s.setQuad q f).met = s.met := rfl
@[simp] theorem State.setQuad_nrg (q : Fin 12) (f : Quad → Quad) : (s.setQuad q f).nrg = s.nrg := rfl
@[simp] theorem State.setQuad_book (q : Fin 12) (f : Quad → Quad) : (s.setQuad q f).book = s.book := rfl
@[simp] theorem State.setQuad_abc (q : Fin 12) (f : Quad → Quad) : (s.setQuad q f).abc = s.abc := rfl
@[simp] theorem State.setQuad_mgt (q : Fin 12) (f : Quad → Quad) : (s.setQuad q f).mgt = s.mgt := rfl
@[simp] theorem State.setQuad_keys (q : Fin 12) (f : Quad → Quad) : (s.setQuad q f).keys = s.keys := rfl
@[simp] theorem State.setQuad_link (q : Fin 12) (f : Quad → Quad) : (s.setQuad q f).link = s.link := rfl
@[simp] theorem State.setQuad_tok (q : Fin 12) (f : Quad → Quad) : (s.setQuad q f).tok = s.tok := rfl
@[simp] theorem State.setQuad_saf (q : Fin 12) (f : Quad → Quad) : (s.setQuad q f).saf = s.saf := rfl
@[simp] theorem State.setQuad_pair (q : Fin 12) (f : Quad → Quad) : (s.setQuad q f).pair = s.pair := rfl
@[simp] theorem State.setQuad_line (q : Fin 12) (f : Quad → Quad) : (s.setQuad q f).line = s.line := rfl
@[simp] theorem State.setQuad_epd (q : Fin 12) (f : Quad → Quad) : (s.setQuad q f).epd = s.epd := rfl
@[simp] theorem State.setQuad_arb (q : Fin 12) (f : Quad → Quad) : (s.setQuad q f).arb = s.arb := rfl
@[simp] theorem State.setQuad_island (q : Fin 12) (f : Quad → Quad) : (s.setQuad q f).island = s.island := rfl
@[simp] theorem State.setQuad_fuses (q : Fin 12) (f : Quad → Quad) : (s.setQuad q f).fuses = s.fuses := rfl
@[simp] theorem State.setQuad_nv (q : Fin 12) (f : Quad → Quad) : (s.setQuad q f).nv = s.nv := rfl
@[simp] theorem State.setQuad_pending (q : Fin 12) (f : Quad → Quad) : (s.setQuad q f).pending = s.pending := rfl

/-! ## setChan -/

@[simp] theorem State.setChan_htc (n : Fin 32) (k : Fin 8) (f : MetChan → MetChan) : (s.setChan n k f).htc = s.htc := rfl
@[simp] theorem State.setChan_htcLoaded (n : Fin 32) (k : Fin 8) (f : MetChan → MetChan) : (s.setChan n k f).htcLoaded = s.htcLoaded := rfl
@[simp] theorem State.setChan_outside (n : Fin 32) (k : Fin 8) (f : MetChan → MetChan) : (s.setChan n k f).outside = s.outside := rfl
@[simp] theorem State.setChan_freeCtr (n : Fin 32) (k : Fin 8) (f : MetChan → MetChan) : (s.setChan n k f).freeCtr = s.freeCtr := rfl
@[simp] theorem State.setChan_seq (n : Fin 32) (k : Fin 8) (f : MetChan → MetChan) : (s.setChan n k f).seq = s.seq := rfl
@[simp] theorem State.setChan_timers (n : Fin 32) (k : Fin 8) (f : MetChan → MetChan) : (s.setChan n k f).timers = s.timers := rfl
@[simp] theorem State.setChan_errs (n : Fin 32) (k : Fin 8) (f : MetChan → MetChan) : (s.setChan n k f).errs = s.errs := rfl
@[simp] theorem State.setChan_cfg (n : Fin 32) (k : Fin 8) (f : MetChan → MetChan) : (s.setChan n k f).cfg = s.cfg := rfl
@[simp] theorem State.setChan_power (n : Fin 32) (k : Fin 8) (f : MetChan → MetChan) : (s.setChan n k f).power = s.power := rfl
@[simp] theorem State.setChan_clocks (n : Fin 32) (k : Fin 8) (f : MetChan → MetChan) : (s.setChan n k f).clocks = s.clocks := rfl
@[simp] theorem State.setChan_boot (n : Fin 32) (k : Fin 8) (f : MetChan → MetChan) : (s.setChan n k f).boot = s.boot := rfl
@[simp] theorem State.setChan_glb (n : Fin 32) (k : Fin 8) (f : MetChan → MetChan) : (s.setChan n k f).glb = s.glb := rfl
@[simp] theorem State.setChan_commit (n : Fin 32) (k : Fin 8) (f : MetChan → MetChan) : (s.setChan n k f).commit = s.commit := rfl
@[simp] theorem State.setChan_frozenAt (n : Fin 32) (k : Fin 8) (f : MetChan → MetChan) : (s.setChan n k f).frozenAt = s.frozenAt := rfl
@[simp] theorem State.setChan_chipResetDue (n : Fin 32) (k : Fin 8) (f : MetChan → MetChan) : (s.setChan n k f).chipResetDue = s.chipResetDue := rfl
@[simp] theorem State.setChan_hif (n : Fin 32) (k : Fin 8) (f : MetChan → MetChan) : (s.setChan n k f).hif = s.hif := rfl
@[simp] theorem State.setChan_spill (n : Fin 32) (k : Fin 8) (f : MetChan → MetChan) : (s.setChan n k f).spill = s.spill := rfl
@[simp] theorem State.setChan_hostMem (n : Fin 32) (k : Fin 8) (f : MetChan → MetChan) : (s.setChan n k f).hostMem = s.hostMem := rfl
@[simp] theorem State.setChan_flights (n : Fin 32) (k : Fin 8) (f : MetChan → MetChan) : (s.setChan n k f).flights = s.flights := rfl
@[simp] theorem State.setChan_waiting (n : Fin 32) (k : Fin 8) (f : MetChan → MetChan) : (s.setChan n k f).waiting = s.waiting := rfl
@[simp] theorem State.setChan_intake (n : Fin 32) (k : Fin 8) (f : MetChan → MetChan) : (s.setChan n k f).intake = s.intake := rfl
@[simp] theorem State.setChan_queues (n : Fin 32) (k : Fin 8) (f : MetChan → MetChan) : (s.setChan n k f).queues = s.queues := rfl
@[simp] theorem State.setChan_lanes (n : Fin 32) (k : Fin 8) (f : MetChan → MetChan) : (s.setChan n k f).lanes = s.lanes := rfl
@[simp] theorem State.setChan_pmcan (n : Fin 32) (k : Fin 8) (f : MetChan → MetChan) : (s.setChan n k f).pmcan = s.pmcan := rfl
@[simp] theorem State.setChan_nrg (n : Fin 32) (k : Fin 8) (f : MetChan → MetChan) : (s.setChan n k f).nrg = s.nrg := rfl
@[simp] theorem State.setChan_book (n : Fin 32) (k : Fin 8) (f : MetChan → MetChan) : (s.setChan n k f).book = s.book := rfl
@[simp] theorem State.setChan_abc (n : Fin 32) (k : Fin 8) (f : MetChan → MetChan) : (s.setChan n k f).abc = s.abc := rfl
@[simp] theorem State.setChan_mgt (n : Fin 32) (k : Fin 8) (f : MetChan → MetChan) : (s.setChan n k f).mgt = s.mgt := rfl
@[simp] theorem State.setChan_keys (n : Fin 32) (k : Fin 8) (f : MetChan → MetChan) : (s.setChan n k f).keys = s.keys := rfl
@[simp] theorem State.setChan_link (n : Fin 32) (k : Fin 8) (f : MetChan → MetChan) : (s.setChan n k f).link = s.link := rfl
@[simp] theorem State.setChan_tok (n : Fin 32) (k : Fin 8) (f : MetChan → MetChan) : (s.setChan n k f).tok = s.tok := rfl
@[simp] theorem State.setChan_saf (n : Fin 32) (k : Fin 8) (f : MetChan → MetChan) : (s.setChan n k f).saf = s.saf := rfl
@[simp] theorem State.setChan_lsw (n : Fin 32) (k : Fin 8) (f : MetChan → MetChan) : (s.setChan n k f).lsw = s.lsw := rfl
@[simp] theorem State.setChan_pair (n : Fin 32) (k : Fin 8) (f : MetChan → MetChan) : (s.setChan n k f).pair = s.pair := rfl
@[simp] theorem State.setChan_line (n : Fin 32) (k : Fin 8) (f : MetChan → MetChan) : (s.setChan n k f).line = s.line := rfl
@[simp] theorem State.setChan_epd (n : Fin 32) (k : Fin 8) (f : MetChan → MetChan) : (s.setChan n k f).epd = s.epd := rfl
@[simp] theorem State.setChan_arb (n : Fin 32) (k : Fin 8) (f : MetChan → MetChan) : (s.setChan n k f).arb = s.arb := rfl
@[simp] theorem State.setChan_island (n : Fin 32) (k : Fin 8) (f : MetChan → MetChan) : (s.setChan n k f).island = s.island := rfl
@[simp] theorem State.setChan_fuses (n : Fin 32) (k : Fin 8) (f : MetChan → MetChan) : (s.setChan n k f).fuses = s.fuses := rfl
@[simp] theorem State.setChan_nv (n : Fin 32) (k : Fin 8) (f : MetChan → MetChan) : (s.setChan n k f).nv = s.nv := rfl
@[simp] theorem State.setChan_pending (n : Fin 32) (k : Fin 8) (f : MetChan → MetChan) : (s.setChan n k f).pending = s.pending := rfl

/-! ## setFeed -/

@[simp] theorem State.setFeed_htc (i : Fin 2) (x : Feed) : (s.setFeed i x).htc = s.htc := rfl
@[simp] theorem State.setFeed_htcLoaded (i : Fin 2) (x : Feed) : (s.setFeed i x).htcLoaded = s.htcLoaded := rfl
@[simp] theorem State.setFeed_outside (i : Fin 2) (x : Feed) : (s.setFeed i x).outside = s.outside := rfl
@[simp] theorem State.setFeed_freeCtr (i : Fin 2) (x : Feed) : (s.setFeed i x).freeCtr = s.freeCtr := rfl
@[simp] theorem State.setFeed_seq (i : Fin 2) (x : Feed) : (s.setFeed i x).seq = s.seq := rfl
@[simp] theorem State.setFeed_timers (i : Fin 2) (x : Feed) : (s.setFeed i x).timers = s.timers := rfl
@[simp] theorem State.setFeed_errs (i : Fin 2) (x : Feed) : (s.setFeed i x).errs = s.errs := rfl
@[simp] theorem State.setFeed_cfg (i : Fin 2) (x : Feed) : (s.setFeed i x).cfg = s.cfg := rfl
@[simp] theorem State.setFeed_clocks (i : Fin 2) (x : Feed) : (s.setFeed i x).clocks = s.clocks := rfl
@[simp] theorem State.setFeed_boot (i : Fin 2) (x : Feed) : (s.setFeed i x).boot = s.boot := rfl
@[simp] theorem State.setFeed_glb (i : Fin 2) (x : Feed) : (s.setFeed i x).glb = s.glb := rfl
@[simp] theorem State.setFeed_commit (i : Fin 2) (x : Feed) : (s.setFeed i x).commit = s.commit := rfl
@[simp] theorem State.setFeed_frozenAt (i : Fin 2) (x : Feed) : (s.setFeed i x).frozenAt = s.frozenAt := rfl
@[simp] theorem State.setFeed_chipResetDue (i : Fin 2) (x : Feed) : (s.setFeed i x).chipResetDue = s.chipResetDue := rfl
@[simp] theorem State.setFeed_hif (i : Fin 2) (x : Feed) : (s.setFeed i x).hif = s.hif := rfl
@[simp] theorem State.setFeed_spill (i : Fin 2) (x : Feed) : (s.setFeed i x).spill = s.spill := rfl
@[simp] theorem State.setFeed_hostMem (i : Fin 2) (x : Feed) : (s.setFeed i x).hostMem = s.hostMem := rfl
@[simp] theorem State.setFeed_flights (i : Fin 2) (x : Feed) : (s.setFeed i x).flights = s.flights := rfl
@[simp] theorem State.setFeed_waiting (i : Fin 2) (x : Feed) : (s.setFeed i x).waiting = s.waiting := rfl
@[simp] theorem State.setFeed_intake (i : Fin 2) (x : Feed) : (s.setFeed i x).intake = s.intake := rfl
@[simp] theorem State.setFeed_queues (i : Fin 2) (x : Feed) : (s.setFeed i x).queues = s.queues := rfl
@[simp] theorem State.setFeed_lanes (i : Fin 2) (x : Feed) : (s.setFeed i x).lanes = s.lanes := rfl
@[simp] theorem State.setFeed_pmcan (i : Fin 2) (x : Feed) : (s.setFeed i x).pmcan = s.pmcan := rfl
@[simp] theorem State.setFeed_met (i : Fin 2) (x : Feed) : (s.setFeed i x).met = s.met := rfl
@[simp] theorem State.setFeed_nrg (i : Fin 2) (x : Feed) : (s.setFeed i x).nrg = s.nrg := rfl
@[simp] theorem State.setFeed_book (i : Fin 2) (x : Feed) : (s.setFeed i x).book = s.book := rfl
@[simp] theorem State.setFeed_abc (i : Fin 2) (x : Feed) : (s.setFeed i x).abc = s.abc := rfl
@[simp] theorem State.setFeed_mgt (i : Fin 2) (x : Feed) : (s.setFeed i x).mgt = s.mgt := rfl
@[simp] theorem State.setFeed_keys (i : Fin 2) (x : Feed) : (s.setFeed i x).keys = s.keys := rfl
@[simp] theorem State.setFeed_link (i : Fin 2) (x : Feed) : (s.setFeed i x).link = s.link := rfl
@[simp] theorem State.setFeed_tok (i : Fin 2) (x : Feed) : (s.setFeed i x).tok = s.tok := rfl
@[simp] theorem State.setFeed_saf (i : Fin 2) (x : Feed) : (s.setFeed i x).saf = s.saf := rfl
@[simp] theorem State.setFeed_lsw (i : Fin 2) (x : Feed) : (s.setFeed i x).lsw = s.lsw := rfl
@[simp] theorem State.setFeed_pair (i : Fin 2) (x : Feed) : (s.setFeed i x).pair = s.pair := rfl
@[simp] theorem State.setFeed_line (i : Fin 2) (x : Feed) : (s.setFeed i x).line = s.line := rfl
@[simp] theorem State.setFeed_epd (i : Fin 2) (x : Feed) : (s.setFeed i x).epd = s.epd := rfl
@[simp] theorem State.setFeed_arb (i : Fin 2) (x : Feed) : (s.setFeed i x).arb = s.arb := rfl
@[simp] theorem State.setFeed_island (i : Fin 2) (x : Feed) : (s.setFeed i x).island = s.island := rfl
@[simp] theorem State.setFeed_fuses (i : Fin 2) (x : Feed) : (s.setFeed i x).fuses = s.fuses := rfl
@[simp] theorem State.setFeed_nv (i : Fin 2) (x : Feed) : (s.setFeed i x).nv = s.nv := rfl
@[simp] theorem State.setFeed_pending (i : Fin 2) (x : Feed) : (s.setFeed i x).pending = s.pending := rfl

/-! ## setRun -/

@[simp] theorem State.setRun_htc (q : Nat) (f : Run → Run) : (s.setRun q f).htc = s.htc := rfl
@[simp] theorem State.setRun_htcLoaded (q : Nat) (f : Run → Run) : (s.setRun q f).htcLoaded = s.htcLoaded := rfl
@[simp] theorem State.setRun_outside (q : Nat) (f : Run → Run) : (s.setRun q f).outside = s.outside := rfl
@[simp] theorem State.setRun_freeCtr (q : Nat) (f : Run → Run) : (s.setRun q f).freeCtr = s.freeCtr := rfl
@[simp] theorem State.setRun_seq (q : Nat) (f : Run → Run) : (s.setRun q f).seq = s.seq := rfl
@[simp] theorem State.setRun_timers (q : Nat) (f : Run → Run) : (s.setRun q f).timers = s.timers := rfl
@[simp] theorem State.setRun_errs (q : Nat) (f : Run → Run) : (s.setRun q f).errs = s.errs := rfl
@[simp] theorem State.setRun_cfg (q : Nat) (f : Run → Run) : (s.setRun q f).cfg = s.cfg := rfl
@[simp] theorem State.setRun_power (q : Nat) (f : Run → Run) : (s.setRun q f).power = s.power := rfl
@[simp] theorem State.setRun_clocks (q : Nat) (f : Run → Run) : (s.setRun q f).clocks = s.clocks := rfl
@[simp] theorem State.setRun_boot (q : Nat) (f : Run → Run) : (s.setRun q f).boot = s.boot := rfl
@[simp] theorem State.setRun_glb (q : Nat) (f : Run → Run) : (s.setRun q f).glb = s.glb := rfl
@[simp] theorem State.setRun_commit (q : Nat) (f : Run → Run) : (s.setRun q f).commit = s.commit := rfl
@[simp] theorem State.setRun_frozenAt (q : Nat) (f : Run → Run) : (s.setRun q f).frozenAt = s.frozenAt := rfl
@[simp] theorem State.setRun_chipResetDue (q : Nat) (f : Run → Run) : (s.setRun q f).chipResetDue = s.chipResetDue := rfl
@[simp] theorem State.setRun_hif (q : Nat) (f : Run → Run) : (s.setRun q f).hif = s.hif := rfl
@[simp] theorem State.setRun_spill (q : Nat) (f : Run → Run) : (s.setRun q f).spill = s.spill := rfl
@[simp] theorem State.setRun_hostMem (q : Nat) (f : Run → Run) : (s.setRun q f).hostMem = s.hostMem := rfl
@[simp] theorem State.setRun_flights (q : Nat) (f : Run → Run) : (s.setRun q f).flights = s.flights := rfl
@[simp] theorem State.setRun_waiting (q : Nat) (f : Run → Run) : (s.setRun q f).waiting = s.waiting := rfl
@[simp] theorem State.setRun_intake (q : Nat) (f : Run → Run) : (s.setRun q f).intake = s.intake := rfl
@[simp] theorem State.setRun_queues (q : Nat) (f : Run → Run) : (s.setRun q f).queues = s.queues := rfl
@[simp] theorem State.setRun_lanes (q : Nat) (f : Run → Run) : (s.setRun q f).lanes = s.lanes := rfl
@[simp] theorem State.setRun_pmcan (q : Nat) (f : Run → Run) : (s.setRun q f).pmcan = s.pmcan := rfl
@[simp] theorem State.setRun_met (q : Nat) (f : Run → Run) : (s.setRun q f).met = s.met := rfl
@[simp] theorem State.setRun_nrg (q : Nat) (f : Run → Run) : (s.setRun q f).nrg = s.nrg := rfl
@[simp] theorem State.setRun_book (q : Nat) (f : Run → Run) : (s.setRun q f).book = s.book := rfl
@[simp] theorem State.setRun_abc (q : Nat) (f : Run → Run) : (s.setRun q f).abc = s.abc := rfl
@[simp] theorem State.setRun_mgt (q : Nat) (f : Run → Run) : (s.setRun q f).mgt = s.mgt := rfl
@[simp] theorem State.setRun_keys (q : Nat) (f : Run → Run) : (s.setRun q f).keys = s.keys := rfl
@[simp] theorem State.setRun_tok (q : Nat) (f : Run → Run) : (s.setRun q f).tok = s.tok := rfl
@[simp] theorem State.setRun_saf (q : Nat) (f : Run → Run) : (s.setRun q f).saf = s.saf := rfl
@[simp] theorem State.setRun_lsw (q : Nat) (f : Run → Run) : (s.setRun q f).lsw = s.lsw := rfl
@[simp] theorem State.setRun_pair (q : Nat) (f : Run → Run) : (s.setRun q f).pair = s.pair := rfl
@[simp] theorem State.setRun_line (q : Nat) (f : Run → Run) : (s.setRun q f).line = s.line := rfl
@[simp] theorem State.setRun_epd (q : Nat) (f : Run → Run) : (s.setRun q f).epd = s.epd := rfl
@[simp] theorem State.setRun_arb (q : Nat) (f : Run → Run) : (s.setRun q f).arb = s.arb := rfl
@[simp] theorem State.setRun_island (q : Nat) (f : Run → Run) : (s.setRun q f).island = s.island := rfl
@[simp] theorem State.setRun_fuses (q : Nat) (f : Run → Run) : (s.setRun q f).fuses = s.fuses := rfl
@[simp] theorem State.setRun_nv (q : Nat) (f : Run → Run) : (s.setRun q f).nv = s.nv := rfl
@[simp] theorem State.setRun_pending (q : Nat) (f : Run → Run) : (s.setRun q f).pending = s.pending := rfl

/-! ## setNeigh -/

@[simp] theorem State.setNeigh_htc (a : Nat) (f : LineNeigh → LineNeigh) : (s.setNeigh a f).htc = s.htc := rfl
@[simp] theorem State.setNeigh_htcLoaded (a : Nat) (f : LineNeigh → LineNeigh) : (s.setNeigh a f).htcLoaded = s.htcLoaded := rfl
@[simp] theorem State.setNeigh_outside (a : Nat) (f : LineNeigh → LineNeigh) : (s.setNeigh a f).outside = s.outside := rfl
@[simp] theorem State.setNeigh_freeCtr (a : Nat) (f : LineNeigh → LineNeigh) : (s.setNeigh a f).freeCtr = s.freeCtr := rfl
@[simp] theorem State.setNeigh_seq (a : Nat) (f : LineNeigh → LineNeigh) : (s.setNeigh a f).seq = s.seq := rfl
@[simp] theorem State.setNeigh_timers (a : Nat) (f : LineNeigh → LineNeigh) : (s.setNeigh a f).timers = s.timers := rfl
@[simp] theorem State.setNeigh_errs (a : Nat) (f : LineNeigh → LineNeigh) : (s.setNeigh a f).errs = s.errs := rfl
@[simp] theorem State.setNeigh_cfg (a : Nat) (f : LineNeigh → LineNeigh) : (s.setNeigh a f).cfg = s.cfg := rfl
@[simp] theorem State.setNeigh_power (a : Nat) (f : LineNeigh → LineNeigh) : (s.setNeigh a f).power = s.power := rfl
@[simp] theorem State.setNeigh_clocks (a : Nat) (f : LineNeigh → LineNeigh) : (s.setNeigh a f).clocks = s.clocks := rfl
@[simp] theorem State.setNeigh_boot (a : Nat) (f : LineNeigh → LineNeigh) : (s.setNeigh a f).boot = s.boot := rfl
@[simp] theorem State.setNeigh_glb (a : Nat) (f : LineNeigh → LineNeigh) : (s.setNeigh a f).glb = s.glb := rfl
@[simp] theorem State.setNeigh_commit (a : Nat) (f : LineNeigh → LineNeigh) : (s.setNeigh a f).commit = s.commit := rfl
@[simp] theorem State.setNeigh_frozenAt (a : Nat) (f : LineNeigh → LineNeigh) : (s.setNeigh a f).frozenAt = s.frozenAt := rfl
@[simp] theorem State.setNeigh_chipResetDue (a : Nat) (f : LineNeigh → LineNeigh) : (s.setNeigh a f).chipResetDue = s.chipResetDue := rfl
@[simp] theorem State.setNeigh_hif (a : Nat) (f : LineNeigh → LineNeigh) : (s.setNeigh a f).hif = s.hif := rfl
@[simp] theorem State.setNeigh_spill (a : Nat) (f : LineNeigh → LineNeigh) : (s.setNeigh a f).spill = s.spill := rfl
@[simp] theorem State.setNeigh_hostMem (a : Nat) (f : LineNeigh → LineNeigh) : (s.setNeigh a f).hostMem = s.hostMem := rfl
@[simp] theorem State.setNeigh_flights (a : Nat) (f : LineNeigh → LineNeigh) : (s.setNeigh a f).flights = s.flights := rfl
@[simp] theorem State.setNeigh_waiting (a : Nat) (f : LineNeigh → LineNeigh) : (s.setNeigh a f).waiting = s.waiting := rfl
@[simp] theorem State.setNeigh_intake (a : Nat) (f : LineNeigh → LineNeigh) : (s.setNeigh a f).intake = s.intake := rfl
@[simp] theorem State.setNeigh_queues (a : Nat) (f : LineNeigh → LineNeigh) : (s.setNeigh a f).queues = s.queues := rfl
@[simp] theorem State.setNeigh_lanes (a : Nat) (f : LineNeigh → LineNeigh) : (s.setNeigh a f).lanes = s.lanes := rfl
@[simp] theorem State.setNeigh_pmcan (a : Nat) (f : LineNeigh → LineNeigh) : (s.setNeigh a f).pmcan = s.pmcan := rfl
@[simp] theorem State.setNeigh_met (a : Nat) (f : LineNeigh → LineNeigh) : (s.setNeigh a f).met = s.met := rfl
@[simp] theorem State.setNeigh_nrg (a : Nat) (f : LineNeigh → LineNeigh) : (s.setNeigh a f).nrg = s.nrg := rfl
@[simp] theorem State.setNeigh_book (a : Nat) (f : LineNeigh → LineNeigh) : (s.setNeigh a f).book = s.book := rfl
@[simp] theorem State.setNeigh_abc (a : Nat) (f : LineNeigh → LineNeigh) : (s.setNeigh a f).abc = s.abc := rfl
@[simp] theorem State.setNeigh_mgt (a : Nat) (f : LineNeigh → LineNeigh) : (s.setNeigh a f).mgt = s.mgt := rfl
@[simp] theorem State.setNeigh_keys (a : Nat) (f : LineNeigh → LineNeigh) : (s.setNeigh a f).keys = s.keys := rfl
@[simp] theorem State.setNeigh_link (a : Nat) (f : LineNeigh → LineNeigh) : (s.setNeigh a f).link = s.link := rfl
@[simp] theorem State.setNeigh_tok (a : Nat) (f : LineNeigh → LineNeigh) : (s.setNeigh a f).tok = s.tok := rfl
@[simp] theorem State.setNeigh_saf (a : Nat) (f : LineNeigh → LineNeigh) : (s.setNeigh a f).saf = s.saf := rfl
@[simp] theorem State.setNeigh_lsw (a : Nat) (f : LineNeigh → LineNeigh) : (s.setNeigh a f).lsw = s.lsw := rfl
@[simp] theorem State.setNeigh_pair (a : Nat) (f : LineNeigh → LineNeigh) : (s.setNeigh a f).pair = s.pair := rfl
@[simp] theorem State.setNeigh_epd (a : Nat) (f : LineNeigh → LineNeigh) : (s.setNeigh a f).epd = s.epd := rfl
@[simp] theorem State.setNeigh_arb (a : Nat) (f : LineNeigh → LineNeigh) : (s.setNeigh a f).arb = s.arb := rfl
@[simp] theorem State.setNeigh_island (a : Nat) (f : LineNeigh → LineNeigh) : (s.setNeigh a f).island = s.island := rfl
@[simp] theorem State.setNeigh_fuses (a : Nat) (f : LineNeigh → LineNeigh) : (s.setNeigh a f).fuses = s.fuses := rfl
@[simp] theorem State.setNeigh_nv (a : Nat) (f : LineNeigh → LineNeigh) : (s.setNeigh a f).nv = s.nv := rfl
@[simp] theorem State.setNeigh_pending (a : Nat) (f : LineNeigh → LineNeigh) : (s.setNeigh a f).pending = s.pending := rfl

/-! ## setSess -/

@[simp] theorem State.setSess_htc (n : Fin 32) (f : SessRec → SessRec) : (s.setSess n f).htc = s.htc := rfl
@[simp] theorem State.setSess_htcLoaded (n : Fin 32) (f : SessRec → SessRec) : (s.setSess n f).htcLoaded = s.htcLoaded := rfl
@[simp] theorem State.setSess_outside (n : Fin 32) (f : SessRec → SessRec) : (s.setSess n f).outside = s.outside := rfl
@[simp] theorem State.setSess_freeCtr (n : Fin 32) (f : SessRec → SessRec) : (s.setSess n f).freeCtr = s.freeCtr := rfl
@[simp] theorem State.setSess_seq (n : Fin 32) (f : SessRec → SessRec) : (s.setSess n f).seq = s.seq := rfl
@[simp] theorem State.setSess_timers (n : Fin 32) (f : SessRec → SessRec) : (s.setSess n f).timers = s.timers := rfl
@[simp] theorem State.setSess_errs (n : Fin 32) (f : SessRec → SessRec) : (s.setSess n f).errs = s.errs := rfl
@[simp] theorem State.setSess_cfg (n : Fin 32) (f : SessRec → SessRec) : (s.setSess n f).cfg = s.cfg := rfl
@[simp] theorem State.setSess_power (n : Fin 32) (f : SessRec → SessRec) : (s.setSess n f).power = s.power := rfl
@[simp] theorem State.setSess_clocks (n : Fin 32) (f : SessRec → SessRec) : (s.setSess n f).clocks = s.clocks := rfl
@[simp] theorem State.setSess_boot (n : Fin 32) (f : SessRec → SessRec) : (s.setSess n f).boot = s.boot := rfl
@[simp] theorem State.setSess_glb (n : Fin 32) (f : SessRec → SessRec) : (s.setSess n f).glb = s.glb := rfl
@[simp] theorem State.setSess_commit (n : Fin 32) (f : SessRec → SessRec) : (s.setSess n f).commit = s.commit := rfl
@[simp] theorem State.setSess_frozenAt (n : Fin 32) (f : SessRec → SessRec) : (s.setSess n f).frozenAt = s.frozenAt := rfl
@[simp] theorem State.setSess_chipResetDue (n : Fin 32) (f : SessRec → SessRec) : (s.setSess n f).chipResetDue = s.chipResetDue := rfl
@[simp] theorem State.setSess_hif (n : Fin 32) (f : SessRec → SessRec) : (s.setSess n f).hif = s.hif := rfl
@[simp] theorem State.setSess_spill (n : Fin 32) (f : SessRec → SessRec) : (s.setSess n f).spill = s.spill := rfl
@[simp] theorem State.setSess_hostMem (n : Fin 32) (f : SessRec → SessRec) : (s.setSess n f).hostMem = s.hostMem := rfl
@[simp] theorem State.setSess_flights (n : Fin 32) (f : SessRec → SessRec) : (s.setSess n f).flights = s.flights := rfl
@[simp] theorem State.setSess_waiting (n : Fin 32) (f : SessRec → SessRec) : (s.setSess n f).waiting = s.waiting := rfl
@[simp] theorem State.setSess_intake (n : Fin 32) (f : SessRec → SessRec) : (s.setSess n f).intake = s.intake := rfl
@[simp] theorem State.setSess_queues (n : Fin 32) (f : SessRec → SessRec) : (s.setSess n f).queues = s.queues := rfl
@[simp] theorem State.setSess_lanes (n : Fin 32) (f : SessRec → SessRec) : (s.setSess n f).lanes = s.lanes := rfl
@[simp] theorem State.setSess_pmcan (n : Fin 32) (f : SessRec → SessRec) : (s.setSess n f).pmcan = s.pmcan := rfl
@[simp] theorem State.setSess_met (n : Fin 32) (f : SessRec → SessRec) : (s.setSess n f).met = s.met := rfl
@[simp] theorem State.setSess_nrg (n : Fin 32) (f : SessRec → SessRec) : (s.setSess n f).nrg = s.nrg := rfl
@[simp] theorem State.setSess_abc (n : Fin 32) (f : SessRec → SessRec) : (s.setSess n f).abc = s.abc := rfl
@[simp] theorem State.setSess_mgt (n : Fin 32) (f : SessRec → SessRec) : (s.setSess n f).mgt = s.mgt := rfl
@[simp] theorem State.setSess_keys (n : Fin 32) (f : SessRec → SessRec) : (s.setSess n f).keys = s.keys := rfl
@[simp] theorem State.setSess_link (n : Fin 32) (f : SessRec → SessRec) : (s.setSess n f).link = s.link := rfl
@[simp] theorem State.setSess_tok (n : Fin 32) (f : SessRec → SessRec) : (s.setSess n f).tok = s.tok := rfl
@[simp] theorem State.setSess_saf (n : Fin 32) (f : SessRec → SessRec) : (s.setSess n f).saf = s.saf := rfl
@[simp] theorem State.setSess_lsw (n : Fin 32) (f : SessRec → SessRec) : (s.setSess n f).lsw = s.lsw := rfl
@[simp] theorem State.setSess_pair (n : Fin 32) (f : SessRec → SessRec) : (s.setSess n f).pair = s.pair := rfl
@[simp] theorem State.setSess_line (n : Fin 32) (f : SessRec → SessRec) : (s.setSess n f).line = s.line := rfl
@[simp] theorem State.setSess_epd (n : Fin 32) (f : SessRec → SessRec) : (s.setSess n f).epd = s.epd := rfl
@[simp] theorem State.setSess_arb (n : Fin 32) (f : SessRec → SessRec) : (s.setSess n f).arb = s.arb := rfl
@[simp] theorem State.setSess_island (n : Fin 32) (f : SessRec → SessRec) : (s.setSess n f).island = s.island := rfl
@[simp] theorem State.setSess_fuses (n : Fin 32) (f : SessRec → SessRec) : (s.setSess n f).fuses = s.fuses := rfl
@[simp] theorem State.setSess_nv (n : Fin 32) (f : SessRec → SessRec) : (s.setSess n f).nv = s.nv := rfl
@[simp] theorem State.setSess_pending (n : Fin 32) (f : SessRec → SessRec) : (s.setSess n f).pending = s.pending := rfl

/-! ## setMet -/

@[simp] theorem State.setMet_htc (n : Fin 32) (f : MetLane → MetLane) : (s.setMet n f).htc = s.htc := rfl
@[simp] theorem State.setMet_htcLoaded (n : Fin 32) (f : MetLane → MetLane) : (s.setMet n f).htcLoaded = s.htcLoaded := rfl
@[simp] theorem State.setMet_outside (n : Fin 32) (f : MetLane → MetLane) : (s.setMet n f).outside = s.outside := rfl
@[simp] theorem State.setMet_freeCtr (n : Fin 32) (f : MetLane → MetLane) : (s.setMet n f).freeCtr = s.freeCtr := rfl
@[simp] theorem State.setMet_seq (n : Fin 32) (f : MetLane → MetLane) : (s.setMet n f).seq = s.seq := rfl
@[simp] theorem State.setMet_timers (n : Fin 32) (f : MetLane → MetLane) : (s.setMet n f).timers = s.timers := rfl
@[simp] theorem State.setMet_errs (n : Fin 32) (f : MetLane → MetLane) : (s.setMet n f).errs = s.errs := rfl
@[simp] theorem State.setMet_cfg (n : Fin 32) (f : MetLane → MetLane) : (s.setMet n f).cfg = s.cfg := rfl
@[simp] theorem State.setMet_power (n : Fin 32) (f : MetLane → MetLane) : (s.setMet n f).power = s.power := rfl
@[simp] theorem State.setMet_clocks (n : Fin 32) (f : MetLane → MetLane) : (s.setMet n f).clocks = s.clocks := rfl
@[simp] theorem State.setMet_boot (n : Fin 32) (f : MetLane → MetLane) : (s.setMet n f).boot = s.boot := rfl
@[simp] theorem State.setMet_glb (n : Fin 32) (f : MetLane → MetLane) : (s.setMet n f).glb = s.glb := rfl
@[simp] theorem State.setMet_commit (n : Fin 32) (f : MetLane → MetLane) : (s.setMet n f).commit = s.commit := rfl
@[simp] theorem State.setMet_frozenAt (n : Fin 32) (f : MetLane → MetLane) : (s.setMet n f).frozenAt = s.frozenAt := rfl
@[simp] theorem State.setMet_chipResetDue (n : Fin 32) (f : MetLane → MetLane) : (s.setMet n f).chipResetDue = s.chipResetDue := rfl
@[simp] theorem State.setMet_hif (n : Fin 32) (f : MetLane → MetLane) : (s.setMet n f).hif = s.hif := rfl
@[simp] theorem State.setMet_spill (n : Fin 32) (f : MetLane → MetLane) : (s.setMet n f).spill = s.spill := rfl
@[simp] theorem State.setMet_hostMem (n : Fin 32) (f : MetLane → MetLane) : (s.setMet n f).hostMem = s.hostMem := rfl
@[simp] theorem State.setMet_flights (n : Fin 32) (f : MetLane → MetLane) : (s.setMet n f).flights = s.flights := rfl
@[simp] theorem State.setMet_waiting (n : Fin 32) (f : MetLane → MetLane) : (s.setMet n f).waiting = s.waiting := rfl
@[simp] theorem State.setMet_intake (n : Fin 32) (f : MetLane → MetLane) : (s.setMet n f).intake = s.intake := rfl
@[simp] theorem State.setMet_queues (n : Fin 32) (f : MetLane → MetLane) : (s.setMet n f).queues = s.queues := rfl
@[simp] theorem State.setMet_lanes (n : Fin 32) (f : MetLane → MetLane) : (s.setMet n f).lanes = s.lanes := rfl
@[simp] theorem State.setMet_pmcan (n : Fin 32) (f : MetLane → MetLane) : (s.setMet n f).pmcan = s.pmcan := rfl
@[simp] theorem State.setMet_nrg (n : Fin 32) (f : MetLane → MetLane) : (s.setMet n f).nrg = s.nrg := rfl
@[simp] theorem State.setMet_book (n : Fin 32) (f : MetLane → MetLane) : (s.setMet n f).book = s.book := rfl
@[simp] theorem State.setMet_abc (n : Fin 32) (f : MetLane → MetLane) : (s.setMet n f).abc = s.abc := rfl
@[simp] theorem State.setMet_mgt (n : Fin 32) (f : MetLane → MetLane) : (s.setMet n f).mgt = s.mgt := rfl
@[simp] theorem State.setMet_keys (n : Fin 32) (f : MetLane → MetLane) : (s.setMet n f).keys = s.keys := rfl
@[simp] theorem State.setMet_link (n : Fin 32) (f : MetLane → MetLane) : (s.setMet n f).link = s.link := rfl
@[simp] theorem State.setMet_tok (n : Fin 32) (f : MetLane → MetLane) : (s.setMet n f).tok = s.tok := rfl
@[simp] theorem State.setMet_saf (n : Fin 32) (f : MetLane → MetLane) : (s.setMet n f).saf = s.saf := rfl
@[simp] theorem State.setMet_lsw (n : Fin 32) (f : MetLane → MetLane) : (s.setMet n f).lsw = s.lsw := rfl
@[simp] theorem State.setMet_pair (n : Fin 32) (f : MetLane → MetLane) : (s.setMet n f).pair = s.pair := rfl
@[simp] theorem State.setMet_line (n : Fin 32) (f : MetLane → MetLane) : (s.setMet n f).line = s.line := rfl
@[simp] theorem State.setMet_epd (n : Fin 32) (f : MetLane → MetLane) : (s.setMet n f).epd = s.epd := rfl
@[simp] theorem State.setMet_arb (n : Fin 32) (f : MetLane → MetLane) : (s.setMet n f).arb = s.arb := rfl
@[simp] theorem State.setMet_island (n : Fin 32) (f : MetLane → MetLane) : (s.setMet n f).island = s.island := rfl
@[simp] theorem State.setMet_fuses (n : Fin 32) (f : MetLane → MetLane) : (s.setMet n f).fuses = s.fuses := rfl
@[simp] theorem State.setMet_nv (n : Fin 32) (f : MetLane → MetLane) : (s.setMet n f).nv = s.nv := rfl
@[simp] theorem State.setMet_pending (n : Fin 32) (f : MetLane → MetLane) : (s.setMet n f).pending = s.pending := rfl

/-! ## setCapture -/

@[simp] theorem State.setCapture_htc (i : Fin 4) (c : Option Capture) : (s.setCapture i c).htc = s.htc := rfl
@[simp] theorem State.setCapture_htcLoaded (i : Fin 4) (c : Option Capture) : (s.setCapture i c).htcLoaded = s.htcLoaded := rfl
@[simp] theorem State.setCapture_outside (i : Fin 4) (c : Option Capture) : (s.setCapture i c).outside = s.outside := rfl
@[simp] theorem State.setCapture_freeCtr (i : Fin 4) (c : Option Capture) : (s.setCapture i c).freeCtr = s.freeCtr := rfl
@[simp] theorem State.setCapture_seq (i : Fin 4) (c : Option Capture) : (s.setCapture i c).seq = s.seq := rfl
@[simp] theorem State.setCapture_timers (i : Fin 4) (c : Option Capture) : (s.setCapture i c).timers = s.timers := rfl
@[simp] theorem State.setCapture_errs (i : Fin 4) (c : Option Capture) : (s.setCapture i c).errs = s.errs := rfl
@[simp] theorem State.setCapture_cfg (i : Fin 4) (c : Option Capture) : (s.setCapture i c).cfg = s.cfg := rfl
@[simp] theorem State.setCapture_power (i : Fin 4) (c : Option Capture) : (s.setCapture i c).power = s.power := rfl
@[simp] theorem State.setCapture_clocks (i : Fin 4) (c : Option Capture) : (s.setCapture i c).clocks = s.clocks := rfl
@[simp] theorem State.setCapture_boot (i : Fin 4) (c : Option Capture) : (s.setCapture i c).boot = s.boot := rfl
@[simp] theorem State.setCapture_glb (i : Fin 4) (c : Option Capture) : (s.setCapture i c).glb = s.glb := rfl
@[simp] theorem State.setCapture_commit (i : Fin 4) (c : Option Capture) : (s.setCapture i c).commit = s.commit := rfl
@[simp] theorem State.setCapture_frozenAt (i : Fin 4) (c : Option Capture) : (s.setCapture i c).frozenAt = s.frozenAt := rfl
@[simp] theorem State.setCapture_chipResetDue (i : Fin 4) (c : Option Capture) : (s.setCapture i c).chipResetDue = s.chipResetDue := rfl
@[simp] theorem State.setCapture_hif (i : Fin 4) (c : Option Capture) : (s.setCapture i c).hif = s.hif := rfl
@[simp] theorem State.setCapture_spill (i : Fin 4) (c : Option Capture) : (s.setCapture i c).spill = s.spill := rfl
@[simp] theorem State.setCapture_hostMem (i : Fin 4) (c : Option Capture) : (s.setCapture i c).hostMem = s.hostMem := rfl
@[simp] theorem State.setCapture_flights (i : Fin 4) (c : Option Capture) : (s.setCapture i c).flights = s.flights := rfl
@[simp] theorem State.setCapture_waiting (i : Fin 4) (c : Option Capture) : (s.setCapture i c).waiting = s.waiting := rfl
@[simp] theorem State.setCapture_intake (i : Fin 4) (c : Option Capture) : (s.setCapture i c).intake = s.intake := rfl
@[simp] theorem State.setCapture_queues (i : Fin 4) (c : Option Capture) : (s.setCapture i c).queues = s.queues := rfl
@[simp] theorem State.setCapture_lanes (i : Fin 4) (c : Option Capture) : (s.setCapture i c).lanes = s.lanes := rfl
@[simp] theorem State.setCapture_pmcan (i : Fin 4) (c : Option Capture) : (s.setCapture i c).pmcan = s.pmcan := rfl
@[simp] theorem State.setCapture_nrg (i : Fin 4) (c : Option Capture) : (s.setCapture i c).nrg = s.nrg := rfl
@[simp] theorem State.setCapture_book (i : Fin 4) (c : Option Capture) : (s.setCapture i c).book = s.book := rfl
@[simp] theorem State.setCapture_abc (i : Fin 4) (c : Option Capture) : (s.setCapture i c).abc = s.abc := rfl
@[simp] theorem State.setCapture_mgt (i : Fin 4) (c : Option Capture) : (s.setCapture i c).mgt = s.mgt := rfl
@[simp] theorem State.setCapture_keys (i : Fin 4) (c : Option Capture) : (s.setCapture i c).keys = s.keys := rfl
@[simp] theorem State.setCapture_link (i : Fin 4) (c : Option Capture) : (s.setCapture i c).link = s.link := rfl
@[simp] theorem State.setCapture_tok (i : Fin 4) (c : Option Capture) : (s.setCapture i c).tok = s.tok := rfl
@[simp] theorem State.setCapture_saf (i : Fin 4) (c : Option Capture) : (s.setCapture i c).saf = s.saf := rfl
@[simp] theorem State.setCapture_lsw (i : Fin 4) (c : Option Capture) : (s.setCapture i c).lsw = s.lsw := rfl
@[simp] theorem State.setCapture_pair (i : Fin 4) (c : Option Capture) : (s.setCapture i c).pair = s.pair := rfl
@[simp] theorem State.setCapture_line (i : Fin 4) (c : Option Capture) : (s.setCapture i c).line = s.line := rfl
@[simp] theorem State.setCapture_epd (i : Fin 4) (c : Option Capture) : (s.setCapture i c).epd = s.epd := rfl
@[simp] theorem State.setCapture_arb (i : Fin 4) (c : Option Capture) : (s.setCapture i c).arb = s.arb := rfl
@[simp] theorem State.setCapture_island (i : Fin 4) (c : Option Capture) : (s.setCapture i c).island = s.island := rfl
@[simp] theorem State.setCapture_fuses (i : Fin 4) (c : Option Capture) : (s.setCapture i c).fuses = s.fuses := rfl
@[simp] theorem State.setCapture_nv (i : Fin 4) (c : Option Capture) : (s.setCapture i c).nv = s.nv := rfl
@[simp] theorem State.setCapture_pending (i : Fin 4) (c : Option Capture) : (s.setCapture i c).pending = s.pending := rfl

/-! ## setNrg -/

@[simp] theorem State.setNrg_htc (n : Fin 32) (f : NrgLane → NrgLane) : (s.setNrg n f).htc = s.htc := rfl
@[simp] theorem State.setNrg_htcLoaded (n : Fin 32) (f : NrgLane → NrgLane) : (s.setNrg n f).htcLoaded = s.htcLoaded := rfl
@[simp] theorem State.setNrg_outside (n : Fin 32) (f : NrgLane → NrgLane) : (s.setNrg n f).outside = s.outside := rfl
@[simp] theorem State.setNrg_freeCtr (n : Fin 32) (f : NrgLane → NrgLane) : (s.setNrg n f).freeCtr = s.freeCtr := rfl
@[simp] theorem State.setNrg_seq (n : Fin 32) (f : NrgLane → NrgLane) : (s.setNrg n f).seq = s.seq := rfl
@[simp] theorem State.setNrg_timers (n : Fin 32) (f : NrgLane → NrgLane) : (s.setNrg n f).timers = s.timers := rfl
@[simp] theorem State.setNrg_errs (n : Fin 32) (f : NrgLane → NrgLane) : (s.setNrg n f).errs = s.errs := rfl
@[simp] theorem State.setNrg_cfg (n : Fin 32) (f : NrgLane → NrgLane) : (s.setNrg n f).cfg = s.cfg := rfl
@[simp] theorem State.setNrg_power (n : Fin 32) (f : NrgLane → NrgLane) : (s.setNrg n f).power = s.power := rfl
@[simp] theorem State.setNrg_clocks (n : Fin 32) (f : NrgLane → NrgLane) : (s.setNrg n f).clocks = s.clocks := rfl
@[simp] theorem State.setNrg_boot (n : Fin 32) (f : NrgLane → NrgLane) : (s.setNrg n f).boot = s.boot := rfl
@[simp] theorem State.setNrg_glb (n : Fin 32) (f : NrgLane → NrgLane) : (s.setNrg n f).glb = s.glb := rfl
@[simp] theorem State.setNrg_commit (n : Fin 32) (f : NrgLane → NrgLane) : (s.setNrg n f).commit = s.commit := rfl
@[simp] theorem State.setNrg_frozenAt (n : Fin 32) (f : NrgLane → NrgLane) : (s.setNrg n f).frozenAt = s.frozenAt := rfl
@[simp] theorem State.setNrg_chipResetDue (n : Fin 32) (f : NrgLane → NrgLane) : (s.setNrg n f).chipResetDue = s.chipResetDue := rfl
@[simp] theorem State.setNrg_hif (n : Fin 32) (f : NrgLane → NrgLane) : (s.setNrg n f).hif = s.hif := rfl
@[simp] theorem State.setNrg_spill (n : Fin 32) (f : NrgLane → NrgLane) : (s.setNrg n f).spill = s.spill := rfl
@[simp] theorem State.setNrg_hostMem (n : Fin 32) (f : NrgLane → NrgLane) : (s.setNrg n f).hostMem = s.hostMem := rfl
@[simp] theorem State.setNrg_flights (n : Fin 32) (f : NrgLane → NrgLane) : (s.setNrg n f).flights = s.flights := rfl
@[simp] theorem State.setNrg_waiting (n : Fin 32) (f : NrgLane → NrgLane) : (s.setNrg n f).waiting = s.waiting := rfl
@[simp] theorem State.setNrg_intake (n : Fin 32) (f : NrgLane → NrgLane) : (s.setNrg n f).intake = s.intake := rfl
@[simp] theorem State.setNrg_queues (n : Fin 32) (f : NrgLane → NrgLane) : (s.setNrg n f).queues = s.queues := rfl
@[simp] theorem State.setNrg_lanes (n : Fin 32) (f : NrgLane → NrgLane) : (s.setNrg n f).lanes = s.lanes := rfl
@[simp] theorem State.setNrg_pmcan (n : Fin 32) (f : NrgLane → NrgLane) : (s.setNrg n f).pmcan = s.pmcan := rfl
@[simp] theorem State.setNrg_met (n : Fin 32) (f : NrgLane → NrgLane) : (s.setNrg n f).met = s.met := rfl
@[simp] theorem State.setNrg_book (n : Fin 32) (f : NrgLane → NrgLane) : (s.setNrg n f).book = s.book := rfl
@[simp] theorem State.setNrg_abc (n : Fin 32) (f : NrgLane → NrgLane) : (s.setNrg n f).abc = s.abc := rfl
@[simp] theorem State.setNrg_mgt (n : Fin 32) (f : NrgLane → NrgLane) : (s.setNrg n f).mgt = s.mgt := rfl
@[simp] theorem State.setNrg_keys (n : Fin 32) (f : NrgLane → NrgLane) : (s.setNrg n f).keys = s.keys := rfl
@[simp] theorem State.setNrg_link (n : Fin 32) (f : NrgLane → NrgLane) : (s.setNrg n f).link = s.link := rfl
@[simp] theorem State.setNrg_tok (n : Fin 32) (f : NrgLane → NrgLane) : (s.setNrg n f).tok = s.tok := rfl
@[simp] theorem State.setNrg_saf (n : Fin 32) (f : NrgLane → NrgLane) : (s.setNrg n f).saf = s.saf := rfl
@[simp] theorem State.setNrg_lsw (n : Fin 32) (f : NrgLane → NrgLane) : (s.setNrg n f).lsw = s.lsw := rfl
@[simp] theorem State.setNrg_pair (n : Fin 32) (f : NrgLane → NrgLane) : (s.setNrg n f).pair = s.pair := rfl
@[simp] theorem State.setNrg_line (n : Fin 32) (f : NrgLane → NrgLane) : (s.setNrg n f).line = s.line := rfl
@[simp] theorem State.setNrg_epd (n : Fin 32) (f : NrgLane → NrgLane) : (s.setNrg n f).epd = s.epd := rfl
@[simp] theorem State.setNrg_arb (n : Fin 32) (f : NrgLane → NrgLane) : (s.setNrg n f).arb = s.arb := rfl
@[simp] theorem State.setNrg_island (n : Fin 32) (f : NrgLane → NrgLane) : (s.setNrg n f).island = s.island := rfl
@[simp] theorem State.setNrg_fuses (n : Fin 32) (f : NrgLane → NrgLane) : (s.setNrg n f).fuses = s.fuses := rfl
@[simp] theorem State.setNrg_nv (n : Fin 32) (f : NrgLane → NrgLane) : (s.setNrg n f).nv = s.nv := rfl
@[simp] theorem State.setNrg_pending (n : Fin 32) (f : NrgLane → NrgLane) : (s.setNrg n f).pending = s.pending := rfl

/-! ## setPulse -/

@[simp] theorem State.setPulse_htc (k : Fin 8) (f : Pulse → Pulse) : (s.setPulse k f).htc = s.htc := rfl
@[simp] theorem State.setPulse_htcLoaded (k : Fin 8) (f : Pulse → Pulse) : (s.setPulse k f).htcLoaded = s.htcLoaded := rfl
@[simp] theorem State.setPulse_outside (k : Fin 8) (f : Pulse → Pulse) : (s.setPulse k f).outside = s.outside := rfl
@[simp] theorem State.setPulse_freeCtr (k : Fin 8) (f : Pulse → Pulse) : (s.setPulse k f).freeCtr = s.freeCtr := rfl
@[simp] theorem State.setPulse_seq (k : Fin 8) (f : Pulse → Pulse) : (s.setPulse k f).seq = s.seq := rfl
@[simp] theorem State.setPulse_timers (k : Fin 8) (f : Pulse → Pulse) : (s.setPulse k f).timers = s.timers := rfl
@[simp] theorem State.setPulse_errs (k : Fin 8) (f : Pulse → Pulse) : (s.setPulse k f).errs = s.errs := rfl
@[simp] theorem State.setPulse_cfg (k : Fin 8) (f : Pulse → Pulse) : (s.setPulse k f).cfg = s.cfg := rfl
@[simp] theorem State.setPulse_power (k : Fin 8) (f : Pulse → Pulse) : (s.setPulse k f).power = s.power := rfl
@[simp] theorem State.setPulse_clocks (k : Fin 8) (f : Pulse → Pulse) : (s.setPulse k f).clocks = s.clocks := rfl
@[simp] theorem State.setPulse_boot (k : Fin 8) (f : Pulse → Pulse) : (s.setPulse k f).boot = s.boot := rfl
@[simp] theorem State.setPulse_glb (k : Fin 8) (f : Pulse → Pulse) : (s.setPulse k f).glb = s.glb := rfl
@[simp] theorem State.setPulse_commit (k : Fin 8) (f : Pulse → Pulse) : (s.setPulse k f).commit = s.commit := rfl
@[simp] theorem State.setPulse_frozenAt (k : Fin 8) (f : Pulse → Pulse) : (s.setPulse k f).frozenAt = s.frozenAt := rfl
@[simp] theorem State.setPulse_chipResetDue (k : Fin 8) (f : Pulse → Pulse) : (s.setPulse k f).chipResetDue = s.chipResetDue := rfl
@[simp] theorem State.setPulse_hif (k : Fin 8) (f : Pulse → Pulse) : (s.setPulse k f).hif = s.hif := rfl
@[simp] theorem State.setPulse_spill (k : Fin 8) (f : Pulse → Pulse) : (s.setPulse k f).spill = s.spill := rfl
@[simp] theorem State.setPulse_hostMem (k : Fin 8) (f : Pulse → Pulse) : (s.setPulse k f).hostMem = s.hostMem := rfl
@[simp] theorem State.setPulse_flights (k : Fin 8) (f : Pulse → Pulse) : (s.setPulse k f).flights = s.flights := rfl
@[simp] theorem State.setPulse_waiting (k : Fin 8) (f : Pulse → Pulse) : (s.setPulse k f).waiting = s.waiting := rfl
@[simp] theorem State.setPulse_intake (k : Fin 8) (f : Pulse → Pulse) : (s.setPulse k f).intake = s.intake := rfl
@[simp] theorem State.setPulse_queues (k : Fin 8) (f : Pulse → Pulse) : (s.setPulse k f).queues = s.queues := rfl
@[simp] theorem State.setPulse_lanes (k : Fin 8) (f : Pulse → Pulse) : (s.setPulse k f).lanes = s.lanes := rfl
@[simp] theorem State.setPulse_pmcan (k : Fin 8) (f : Pulse → Pulse) : (s.setPulse k f).pmcan = s.pmcan := rfl
@[simp] theorem State.setPulse_met (k : Fin 8) (f : Pulse → Pulse) : (s.setPulse k f).met = s.met := rfl
@[simp] theorem State.setPulse_book (k : Fin 8) (f : Pulse → Pulse) : (s.setPulse k f).book = s.book := rfl
@[simp] theorem State.setPulse_abc (k : Fin 8) (f : Pulse → Pulse) : (s.setPulse k f).abc = s.abc := rfl
@[simp] theorem State.setPulse_mgt (k : Fin 8) (f : Pulse → Pulse) : (s.setPulse k f).mgt = s.mgt := rfl
@[simp] theorem State.setPulse_keys (k : Fin 8) (f : Pulse → Pulse) : (s.setPulse k f).keys = s.keys := rfl
@[simp] theorem State.setPulse_link (k : Fin 8) (f : Pulse → Pulse) : (s.setPulse k f).link = s.link := rfl
@[simp] theorem State.setPulse_tok (k : Fin 8) (f : Pulse → Pulse) : (s.setPulse k f).tok = s.tok := rfl
@[simp] theorem State.setPulse_saf (k : Fin 8) (f : Pulse → Pulse) : (s.setPulse k f).saf = s.saf := rfl
@[simp] theorem State.setPulse_lsw (k : Fin 8) (f : Pulse → Pulse) : (s.setPulse k f).lsw = s.lsw := rfl
@[simp] theorem State.setPulse_pair (k : Fin 8) (f : Pulse → Pulse) : (s.setPulse k f).pair = s.pair := rfl
@[simp] theorem State.setPulse_line (k : Fin 8) (f : Pulse → Pulse) : (s.setPulse k f).line = s.line := rfl
@[simp] theorem State.setPulse_epd (k : Fin 8) (f : Pulse → Pulse) : (s.setPulse k f).epd = s.epd := rfl
@[simp] theorem State.setPulse_arb (k : Fin 8) (f : Pulse → Pulse) : (s.setPulse k f).arb = s.arb := rfl
@[simp] theorem State.setPulse_island (k : Fin 8) (f : Pulse → Pulse) : (s.setPulse k f).island = s.island := rfl
@[simp] theorem State.setPulse_fuses (k : Fin 8) (f : Pulse → Pulse) : (s.setPulse k f).fuses = s.fuses := rfl
@[simp] theorem State.setPulse_nv (k : Fin 8) (f : Pulse → Pulse) : (s.setPulse k f).nv = s.nv := rfl
@[simp] theorem State.setPulse_pending (k : Fin 8) (f : Pulse → Pulse) : (s.setPulse k f).pending = s.pending := rfl

/-! ## setBook -/

@[simp] theorem State.setBook_htc (f : Book → Book) : (s.setBook f).htc = s.htc := rfl
@[simp] theorem State.setBook_htcLoaded (f : Book → Book) : (s.setBook f).htcLoaded = s.htcLoaded := rfl
@[simp] theorem State.setBook_outside (f : Book → Book) : (s.setBook f).outside = s.outside := rfl
@[simp] theorem State.setBook_freeCtr (f : Book → Book) : (s.setBook f).freeCtr = s.freeCtr := rfl
@[simp] theorem State.setBook_seq (f : Book → Book) : (s.setBook f).seq = s.seq := rfl
@[simp] theorem State.setBook_timers (f : Book → Book) : (s.setBook f).timers = s.timers := rfl
@[simp] theorem State.setBook_errs (f : Book → Book) : (s.setBook f).errs = s.errs := rfl
@[simp] theorem State.setBook_cfg (f : Book → Book) : (s.setBook f).cfg = s.cfg := rfl
@[simp] theorem State.setBook_power (f : Book → Book) : (s.setBook f).power = s.power := rfl
@[simp] theorem State.setBook_clocks (f : Book → Book) : (s.setBook f).clocks = s.clocks := rfl
@[simp] theorem State.setBook_boot (f : Book → Book) : (s.setBook f).boot = s.boot := rfl
@[simp] theorem State.setBook_glb (f : Book → Book) : (s.setBook f).glb = s.glb := rfl
@[simp] theorem State.setBook_commit (f : Book → Book) : (s.setBook f).commit = s.commit := rfl
@[simp] theorem State.setBook_frozenAt (f : Book → Book) : (s.setBook f).frozenAt = s.frozenAt := rfl
@[simp] theorem State.setBook_chipResetDue (f : Book → Book) : (s.setBook f).chipResetDue = s.chipResetDue := rfl
@[simp] theorem State.setBook_hif (f : Book → Book) : (s.setBook f).hif = s.hif := rfl
@[simp] theorem State.setBook_spill (f : Book → Book) : (s.setBook f).spill = s.spill := rfl
@[simp] theorem State.setBook_hostMem (f : Book → Book) : (s.setBook f).hostMem = s.hostMem := rfl
@[simp] theorem State.setBook_flights (f : Book → Book) : (s.setBook f).flights = s.flights := rfl
@[simp] theorem State.setBook_waiting (f : Book → Book) : (s.setBook f).waiting = s.waiting := rfl
@[simp] theorem State.setBook_intake (f : Book → Book) : (s.setBook f).intake = s.intake := rfl
@[simp] theorem State.setBook_queues (f : Book → Book) : (s.setBook f).queues = s.queues := rfl
@[simp] theorem State.setBook_lanes (f : Book → Book) : (s.setBook f).lanes = s.lanes := rfl
@[simp] theorem State.setBook_pmcan (f : Book → Book) : (s.setBook f).pmcan = s.pmcan := rfl
@[simp] theorem State.setBook_met (f : Book → Book) : (s.setBook f).met = s.met := rfl
@[simp] theorem State.setBook_nrg (f : Book → Book) : (s.setBook f).nrg = s.nrg := rfl
@[simp] theorem State.setBook_book (f : Book → Book) : (s.setBook f).book = f s.book := rfl
@[simp] theorem State.setBook_abc (f : Book → Book) : (s.setBook f).abc = s.abc := rfl
@[simp] theorem State.setBook_mgt (f : Book → Book) : (s.setBook f).mgt = s.mgt := rfl
@[simp] theorem State.setBook_keys (f : Book → Book) : (s.setBook f).keys = s.keys := rfl
@[simp] theorem State.setBook_link (f : Book → Book) : (s.setBook f).link = s.link := rfl
@[simp] theorem State.setBook_tok (f : Book → Book) : (s.setBook f).tok = s.tok := rfl
@[simp] theorem State.setBook_saf (f : Book → Book) : (s.setBook f).saf = s.saf := rfl
@[simp] theorem State.setBook_lsw (f : Book → Book) : (s.setBook f).lsw = s.lsw := rfl
@[simp] theorem State.setBook_pair (f : Book → Book) : (s.setBook f).pair = s.pair := rfl
@[simp] theorem State.setBook_line (f : Book → Book) : (s.setBook f).line = s.line := rfl
@[simp] theorem State.setBook_epd (f : Book → Book) : (s.setBook f).epd = s.epd := rfl
@[simp] theorem State.setBook_arb (f : Book → Book) : (s.setBook f).arb = s.arb := rfl
@[simp] theorem State.setBook_island (f : Book → Book) : (s.setBook f).island = s.island := rfl
@[simp] theorem State.setBook_fuses (f : Book → Book) : (s.setBook f).fuses = s.fuses := rfl
@[simp] theorem State.setBook_nv (f : Book → Book) : (s.setBook f).nv = s.nv := rfl
@[simp] theorem State.setBook_pending (f : Book → Book) : (s.setBook f).pending = s.pending := rfl

/-! ## setImg -/

@[simp] theorem State.setImg_htc (f : BookImage → BookImage) : (s.setImg f).htc = s.htc := rfl
@[simp] theorem State.setImg_htcLoaded (f : BookImage → BookImage) : (s.setImg f).htcLoaded = s.htcLoaded := rfl
@[simp] theorem State.setImg_outside (f : BookImage → BookImage) : (s.setImg f).outside = s.outside := rfl
@[simp] theorem State.setImg_freeCtr (f : BookImage → BookImage) : (s.setImg f).freeCtr = s.freeCtr := rfl
@[simp] theorem State.setImg_seq (f : BookImage → BookImage) : (s.setImg f).seq = s.seq := rfl
@[simp] theorem State.setImg_timers (f : BookImage → BookImage) : (s.setImg f).timers = s.timers := rfl
@[simp] theorem State.setImg_errs (f : BookImage → BookImage) : (s.setImg f).errs = s.errs := rfl
@[simp] theorem State.setImg_cfg (f : BookImage → BookImage) : (s.setImg f).cfg = s.cfg := rfl
@[simp] theorem State.setImg_power (f : BookImage → BookImage) : (s.setImg f).power = s.power := rfl
@[simp] theorem State.setImg_clocks (f : BookImage → BookImage) : (s.setImg f).clocks = s.clocks := rfl
@[simp] theorem State.setImg_boot (f : BookImage → BookImage) : (s.setImg f).boot = s.boot := rfl
@[simp] theorem State.setImg_glb (f : BookImage → BookImage) : (s.setImg f).glb = s.glb := rfl
@[simp] theorem State.setImg_commit (f : BookImage → BookImage) : (s.setImg f).commit = s.commit := rfl
@[simp] theorem State.setImg_frozenAt (f : BookImage → BookImage) : (s.setImg f).frozenAt = s.frozenAt := rfl
@[simp] theorem State.setImg_chipResetDue (f : BookImage → BookImage) : (s.setImg f).chipResetDue = s.chipResetDue := rfl
@[simp] theorem State.setImg_hif (f : BookImage → BookImage) : (s.setImg f).hif = s.hif := rfl
@[simp] theorem State.setImg_spill (f : BookImage → BookImage) : (s.setImg f).spill = s.spill := rfl
@[simp] theorem State.setImg_hostMem (f : BookImage → BookImage) : (s.setImg f).hostMem = s.hostMem := rfl
@[simp] theorem State.setImg_flights (f : BookImage → BookImage) : (s.setImg f).flights = s.flights := rfl
@[simp] theorem State.setImg_waiting (f : BookImage → BookImage) : (s.setImg f).waiting = s.waiting := rfl
@[simp] theorem State.setImg_intake (f : BookImage → BookImage) : (s.setImg f).intake = s.intake := rfl
@[simp] theorem State.setImg_queues (f : BookImage → BookImage) : (s.setImg f).queues = s.queues := rfl
@[simp] theorem State.setImg_lanes (f : BookImage → BookImage) : (s.setImg f).lanes = s.lanes := rfl
@[simp] theorem State.setImg_pmcan (f : BookImage → BookImage) : (s.setImg f).pmcan = s.pmcan := rfl
@[simp] theorem State.setImg_met (f : BookImage → BookImage) : (s.setImg f).met = s.met := rfl
@[simp] theorem State.setImg_nrg (f : BookImage → BookImage) : (s.setImg f).nrg = s.nrg := rfl
@[simp] theorem State.setImg_book (f : BookImage → BookImage) : (s.setImg f).book = { s.book with img := f s.book.img } := rfl
@[simp] theorem State.setImg_abc (f : BookImage → BookImage) : (s.setImg f).abc = s.abc := rfl
@[simp] theorem State.setImg_mgt (f : BookImage → BookImage) : (s.setImg f).mgt = s.mgt := rfl
@[simp] theorem State.setImg_keys (f : BookImage → BookImage) : (s.setImg f).keys = s.keys := rfl
@[simp] theorem State.setImg_link (f : BookImage → BookImage) : (s.setImg f).link = s.link := rfl
@[simp] theorem State.setImg_tok (f : BookImage → BookImage) : (s.setImg f).tok = s.tok := rfl
@[simp] theorem State.setImg_saf (f : BookImage → BookImage) : (s.setImg f).saf = s.saf := rfl
@[simp] theorem State.setImg_lsw (f : BookImage → BookImage) : (s.setImg f).lsw = s.lsw := rfl
@[simp] theorem State.setImg_pair (f : BookImage → BookImage) : (s.setImg f).pair = s.pair := rfl
@[simp] theorem State.setImg_line (f : BookImage → BookImage) : (s.setImg f).line = s.line := rfl
@[simp] theorem State.setImg_epd (f : BookImage → BookImage) : (s.setImg f).epd = s.epd := rfl
@[simp] theorem State.setImg_arb (f : BookImage → BookImage) : (s.setImg f).arb = s.arb := rfl
@[simp] theorem State.setImg_island (f : BookImage → BookImage) : (s.setImg f).island = s.island := rfl
@[simp] theorem State.setImg_fuses (f : BookImage → BookImage) : (s.setImg f).fuses = s.fuses := rfl
@[simp] theorem State.setImg_nv (f : BookImage → BookImage) : (s.setImg f).nv = s.nv := rfl
@[simp] theorem State.setImg_pending (f : BookImage → BookImage) : (s.setImg f).pending = s.pending := rfl

/-! ## setLine -/

@[simp] theorem State.setLine_htc (f : LineSt → LineSt) : (s.setLine f).htc = s.htc := rfl
@[simp] theorem State.setLine_htcLoaded (f : LineSt → LineSt) : (s.setLine f).htcLoaded = s.htcLoaded := rfl
@[simp] theorem State.setLine_outside (f : LineSt → LineSt) : (s.setLine f).outside = s.outside := rfl
@[simp] theorem State.setLine_freeCtr (f : LineSt → LineSt) : (s.setLine f).freeCtr = s.freeCtr := rfl
@[simp] theorem State.setLine_seq (f : LineSt → LineSt) : (s.setLine f).seq = s.seq := rfl
@[simp] theorem State.setLine_timers (f : LineSt → LineSt) : (s.setLine f).timers = s.timers := rfl
@[simp] theorem State.setLine_errs (f : LineSt → LineSt) : (s.setLine f).errs = s.errs := rfl
@[simp] theorem State.setLine_cfg (f : LineSt → LineSt) : (s.setLine f).cfg = s.cfg := rfl
@[simp] theorem State.setLine_power (f : LineSt → LineSt) : (s.setLine f).power = s.power := rfl
@[simp] theorem State.setLine_clocks (f : LineSt → LineSt) : (s.setLine f).clocks = s.clocks := rfl
@[simp] theorem State.setLine_boot (f : LineSt → LineSt) : (s.setLine f).boot = s.boot := rfl
@[simp] theorem State.setLine_glb (f : LineSt → LineSt) : (s.setLine f).glb = s.glb := rfl
@[simp] theorem State.setLine_commit (f : LineSt → LineSt) : (s.setLine f).commit = s.commit := rfl
@[simp] theorem State.setLine_frozenAt (f : LineSt → LineSt) : (s.setLine f).frozenAt = s.frozenAt := rfl
@[simp] theorem State.setLine_chipResetDue (f : LineSt → LineSt) : (s.setLine f).chipResetDue = s.chipResetDue := rfl
@[simp] theorem State.setLine_hif (f : LineSt → LineSt) : (s.setLine f).hif = s.hif := rfl
@[simp] theorem State.setLine_spill (f : LineSt → LineSt) : (s.setLine f).spill = s.spill := rfl
@[simp] theorem State.setLine_hostMem (f : LineSt → LineSt) : (s.setLine f).hostMem = s.hostMem := rfl
@[simp] theorem State.setLine_flights (f : LineSt → LineSt) : (s.setLine f).flights = s.flights := rfl
@[simp] theorem State.setLine_waiting (f : LineSt → LineSt) : (s.setLine f).waiting = s.waiting := rfl
@[simp] theorem State.setLine_intake (f : LineSt → LineSt) : (s.setLine f).intake = s.intake := rfl
@[simp] theorem State.setLine_queues (f : LineSt → LineSt) : (s.setLine f).queues = s.queues := rfl
@[simp] theorem State.setLine_lanes (f : LineSt → LineSt) : (s.setLine f).lanes = s.lanes := rfl
@[simp] theorem State.setLine_pmcan (f : LineSt → LineSt) : (s.setLine f).pmcan = s.pmcan := rfl
@[simp] theorem State.setLine_met (f : LineSt → LineSt) : (s.setLine f).met = s.met := rfl
@[simp] theorem State.setLine_nrg (f : LineSt → LineSt) : (s.setLine f).nrg = s.nrg := rfl
@[simp] theorem State.setLine_book (f : LineSt → LineSt) : (s.setLine f).book = s.book := rfl
@[simp] theorem State.setLine_abc (f : LineSt → LineSt) : (s.setLine f).abc = s.abc := rfl
@[simp] theorem State.setLine_mgt (f : LineSt → LineSt) : (s.setLine f).mgt = s.mgt := rfl
@[simp] theorem State.setLine_keys (f : LineSt → LineSt) : (s.setLine f).keys = s.keys := rfl
@[simp] theorem State.setLine_link (f : LineSt → LineSt) : (s.setLine f).link = s.link := rfl
@[simp] theorem State.setLine_tok (f : LineSt → LineSt) : (s.setLine f).tok = s.tok := rfl
@[simp] theorem State.setLine_saf (f : LineSt → LineSt) : (s.setLine f).saf = s.saf := rfl
@[simp] theorem State.setLine_lsw (f : LineSt → LineSt) : (s.setLine f).lsw = s.lsw := rfl
@[simp] theorem State.setLine_pair (f : LineSt → LineSt) : (s.setLine f).pair = s.pair := rfl
@[simp] theorem State.setLine_line (f : LineSt → LineSt) : (s.setLine f).line = f s.line := rfl
@[simp] theorem State.setLine_epd (f : LineSt → LineSt) : (s.setLine f).epd = s.epd := rfl
@[simp] theorem State.setLine_arb (f : LineSt → LineSt) : (s.setLine f).arb = s.arb := rfl
@[simp] theorem State.setLine_island (f : LineSt → LineSt) : (s.setLine f).island = s.island := rfl
@[simp] theorem State.setLine_fuses (f : LineSt → LineSt) : (s.setLine f).fuses = s.fuses := rfl
@[simp] theorem State.setLine_nv (f : LineSt → LineSt) : (s.setLine f).nv = s.nv := rfl
@[simp] theorem State.setLine_pending (f : LineSt → LineSt) : (s.setLine f).pending = s.pending := rfl

/-! ## setKeys -/

@[simp] theorem State.setKeys_htc (f : Keys → Keys) : (s.setKeys f).htc = s.htc := rfl
@[simp] theorem State.setKeys_htcLoaded (f : Keys → Keys) : (s.setKeys f).htcLoaded = s.htcLoaded := rfl
@[simp] theorem State.setKeys_outside (f : Keys → Keys) : (s.setKeys f).outside = s.outside := rfl
@[simp] theorem State.setKeys_freeCtr (f : Keys → Keys) : (s.setKeys f).freeCtr = s.freeCtr := rfl
@[simp] theorem State.setKeys_seq (f : Keys → Keys) : (s.setKeys f).seq = s.seq := rfl
@[simp] theorem State.setKeys_timers (f : Keys → Keys) : (s.setKeys f).timers = s.timers := rfl
@[simp] theorem State.setKeys_errs (f : Keys → Keys) : (s.setKeys f).errs = s.errs := rfl
@[simp] theorem State.setKeys_cfg (f : Keys → Keys) : (s.setKeys f).cfg = s.cfg := rfl
@[simp] theorem State.setKeys_power (f : Keys → Keys) : (s.setKeys f).power = s.power := rfl
@[simp] theorem State.setKeys_clocks (f : Keys → Keys) : (s.setKeys f).clocks = s.clocks := rfl
@[simp] theorem State.setKeys_boot (f : Keys → Keys) : (s.setKeys f).boot = s.boot := rfl
@[simp] theorem State.setKeys_glb (f : Keys → Keys) : (s.setKeys f).glb = s.glb := rfl
@[simp] theorem State.setKeys_commit (f : Keys → Keys) : (s.setKeys f).commit = s.commit := rfl
@[simp] theorem State.setKeys_frozenAt (f : Keys → Keys) : (s.setKeys f).frozenAt = s.frozenAt := rfl
@[simp] theorem State.setKeys_chipResetDue (f : Keys → Keys) : (s.setKeys f).chipResetDue = s.chipResetDue := rfl
@[simp] theorem State.setKeys_hif (f : Keys → Keys) : (s.setKeys f).hif = s.hif := rfl
@[simp] theorem State.setKeys_spill (f : Keys → Keys) : (s.setKeys f).spill = s.spill := rfl
@[simp] theorem State.setKeys_hostMem (f : Keys → Keys) : (s.setKeys f).hostMem = s.hostMem := rfl
@[simp] theorem State.setKeys_flights (f : Keys → Keys) : (s.setKeys f).flights = s.flights := rfl
@[simp] theorem State.setKeys_waiting (f : Keys → Keys) : (s.setKeys f).waiting = s.waiting := rfl
@[simp] theorem State.setKeys_intake (f : Keys → Keys) : (s.setKeys f).intake = s.intake := rfl
@[simp] theorem State.setKeys_queues (f : Keys → Keys) : (s.setKeys f).queues = s.queues := rfl
@[simp] theorem State.setKeys_lanes (f : Keys → Keys) : (s.setKeys f).lanes = s.lanes := rfl
@[simp] theorem State.setKeys_pmcan (f : Keys → Keys) : (s.setKeys f).pmcan = s.pmcan := rfl
@[simp] theorem State.setKeys_met (f : Keys → Keys) : (s.setKeys f).met = s.met := rfl
@[simp] theorem State.setKeys_nrg (f : Keys → Keys) : (s.setKeys f).nrg = s.nrg := rfl
@[simp] theorem State.setKeys_book (f : Keys → Keys) : (s.setKeys f).book = s.book := rfl
@[simp] theorem State.setKeys_abc (f : Keys → Keys) : (s.setKeys f).abc = s.abc := rfl
@[simp] theorem State.setKeys_mgt (f : Keys → Keys) : (s.setKeys f).mgt = s.mgt := rfl
@[simp] theorem State.setKeys_keys (f : Keys → Keys) : (s.setKeys f).keys = f s.keys := rfl
@[simp] theorem State.setKeys_link (f : Keys → Keys) : (s.setKeys f).link = s.link := rfl
@[simp] theorem State.setKeys_tok (f : Keys → Keys) : (s.setKeys f).tok = s.tok := rfl
@[simp] theorem State.setKeys_saf (f : Keys → Keys) : (s.setKeys f).saf = s.saf := rfl
@[simp] theorem State.setKeys_lsw (f : Keys → Keys) : (s.setKeys f).lsw = s.lsw := rfl
@[simp] theorem State.setKeys_pair (f : Keys → Keys) : (s.setKeys f).pair = s.pair := rfl
@[simp] theorem State.setKeys_line (f : Keys → Keys) : (s.setKeys f).line = s.line := rfl
@[simp] theorem State.setKeys_epd (f : Keys → Keys) : (s.setKeys f).epd = s.epd := rfl
@[simp] theorem State.setKeys_arb (f : Keys → Keys) : (s.setKeys f).arb = s.arb := rfl
@[simp] theorem State.setKeys_island (f : Keys → Keys) : (s.setKeys f).island = s.island := rfl
@[simp] theorem State.setKeys_fuses (f : Keys → Keys) : (s.setKeys f).fuses = s.fuses := rfl
@[simp] theorem State.setKeys_nv (f : Keys → Keys) : (s.setKeys f).nv = s.nv := rfl
@[simp] theorem State.setKeys_pending (f : Keys → Keys) : (s.setKeys f).pending = s.pending := rfl

/-! ## setMgt -/

@[simp] theorem State.setMgt_htc (f : Mgt → Mgt) : (s.setMgt f).htc = s.htc := rfl
@[simp] theorem State.setMgt_htcLoaded (f : Mgt → Mgt) : (s.setMgt f).htcLoaded = s.htcLoaded := rfl
@[simp] theorem State.setMgt_outside (f : Mgt → Mgt) : (s.setMgt f).outside = s.outside := rfl
@[simp] theorem State.setMgt_freeCtr (f : Mgt → Mgt) : (s.setMgt f).freeCtr = s.freeCtr := rfl
@[simp] theorem State.setMgt_seq (f : Mgt → Mgt) : (s.setMgt f).seq = s.seq := rfl
@[simp] theorem State.setMgt_timers (f : Mgt → Mgt) : (s.setMgt f).timers = s.timers := rfl
@[simp] theorem State.setMgt_errs (f : Mgt → Mgt) : (s.setMgt f).errs = s.errs := rfl
@[simp] theorem State.setMgt_cfg (f : Mgt → Mgt) : (s.setMgt f).cfg = s.cfg := rfl
@[simp] theorem State.setMgt_power (f : Mgt → Mgt) : (s.setMgt f).power = s.power := rfl
@[simp] theorem State.setMgt_clocks (f : Mgt → Mgt) : (s.setMgt f).clocks = s.clocks := rfl
@[simp] theorem State.setMgt_boot (f : Mgt → Mgt) : (s.setMgt f).boot = s.boot := rfl
@[simp] theorem State.setMgt_glb (f : Mgt → Mgt) : (s.setMgt f).glb = s.glb := rfl
@[simp] theorem State.setMgt_commit (f : Mgt → Mgt) : (s.setMgt f).commit = s.commit := rfl
@[simp] theorem State.setMgt_frozenAt (f : Mgt → Mgt) : (s.setMgt f).frozenAt = s.frozenAt := rfl
@[simp] theorem State.setMgt_chipResetDue (f : Mgt → Mgt) : (s.setMgt f).chipResetDue = s.chipResetDue := rfl
@[simp] theorem State.setMgt_hif (f : Mgt → Mgt) : (s.setMgt f).hif = s.hif := rfl
@[simp] theorem State.setMgt_spill (f : Mgt → Mgt) : (s.setMgt f).spill = s.spill := rfl
@[simp] theorem State.setMgt_hostMem (f : Mgt → Mgt) : (s.setMgt f).hostMem = s.hostMem := rfl
@[simp] theorem State.setMgt_flights (f : Mgt → Mgt) : (s.setMgt f).flights = s.flights := rfl
@[simp] theorem State.setMgt_waiting (f : Mgt → Mgt) : (s.setMgt f).waiting = s.waiting := rfl
@[simp] theorem State.setMgt_intake (f : Mgt → Mgt) : (s.setMgt f).intake = s.intake := rfl
@[simp] theorem State.setMgt_queues (f : Mgt → Mgt) : (s.setMgt f).queues = s.queues := rfl
@[simp] theorem State.setMgt_lanes (f : Mgt → Mgt) : (s.setMgt f).lanes = s.lanes := rfl
@[simp] theorem State.setMgt_pmcan (f : Mgt → Mgt) : (s.setMgt f).pmcan = s.pmcan := rfl
@[simp] theorem State.setMgt_met (f : Mgt → Mgt) : (s.setMgt f).met = s.met := rfl
@[simp] theorem State.setMgt_nrg (f : Mgt → Mgt) : (s.setMgt f).nrg = s.nrg := rfl
@[simp] theorem State.setMgt_book (f : Mgt → Mgt) : (s.setMgt f).book = s.book := rfl
@[simp] theorem State.setMgt_abc (f : Mgt → Mgt) : (s.setMgt f).abc = s.abc := rfl
@[simp] theorem State.setMgt_mgt (f : Mgt → Mgt) : (s.setMgt f).mgt = f s.mgt := rfl
@[simp] theorem State.setMgt_keys (f : Mgt → Mgt) : (s.setMgt f).keys = s.keys := rfl
@[simp] theorem State.setMgt_link (f : Mgt → Mgt) : (s.setMgt f).link = s.link := rfl
@[simp] theorem State.setMgt_tok (f : Mgt → Mgt) : (s.setMgt f).tok = s.tok := rfl
@[simp] theorem State.setMgt_saf (f : Mgt → Mgt) : (s.setMgt f).saf = s.saf := rfl
@[simp] theorem State.setMgt_lsw (f : Mgt → Mgt) : (s.setMgt f).lsw = s.lsw := rfl
@[simp] theorem State.setMgt_pair (f : Mgt → Mgt) : (s.setMgt f).pair = s.pair := rfl
@[simp] theorem State.setMgt_line (f : Mgt → Mgt) : (s.setMgt f).line = s.line := rfl
@[simp] theorem State.setMgt_epd (f : Mgt → Mgt) : (s.setMgt f).epd = s.epd := rfl
@[simp] theorem State.setMgt_arb (f : Mgt → Mgt) : (s.setMgt f).arb = s.arb := rfl
@[simp] theorem State.setMgt_island (f : Mgt → Mgt) : (s.setMgt f).island = s.island := rfl
@[simp] theorem State.setMgt_fuses (f : Mgt → Mgt) : (s.setMgt f).fuses = s.fuses := rfl
@[simp] theorem State.setMgt_nv (f : Mgt → Mgt) : (s.setMgt f).nv = s.nv := rfl
@[simp] theorem State.setMgt_pending (f : Mgt → Mgt) : (s.setMgt f).pending = s.pending := rfl

/-! ## setBoot -/

@[simp] theorem State.setBoot_htc (f : BootRec → BootRec) : (s.setBoot f).htc = s.htc := rfl
@[simp] theorem State.setBoot_htcLoaded (f : BootRec → BootRec) : (s.setBoot f).htcLoaded = s.htcLoaded := rfl
@[simp] theorem State.setBoot_outside (f : BootRec → BootRec) : (s.setBoot f).outside = s.outside := rfl
@[simp] theorem State.setBoot_freeCtr (f : BootRec → BootRec) : (s.setBoot f).freeCtr = s.freeCtr := rfl
@[simp] theorem State.setBoot_seq (f : BootRec → BootRec) : (s.setBoot f).seq = s.seq := rfl
@[simp] theorem State.setBoot_timers (f : BootRec → BootRec) : (s.setBoot f).timers = s.timers := rfl
@[simp] theorem State.setBoot_errs (f : BootRec → BootRec) : (s.setBoot f).errs = s.errs := rfl
@[simp] theorem State.setBoot_cfg (f : BootRec → BootRec) : (s.setBoot f).cfg = s.cfg := rfl
@[simp] theorem State.setBoot_power (f : BootRec → BootRec) : (s.setBoot f).power = s.power := rfl
@[simp] theorem State.setBoot_clocks (f : BootRec → BootRec) : (s.setBoot f).clocks = s.clocks := rfl
@[simp] theorem State.setBoot_boot (f : BootRec → BootRec) : (s.setBoot f).boot = s.boot := rfl
@[simp] theorem State.setBoot_glb (f : BootRec → BootRec) : (s.setBoot f).glb = s.glb := rfl
@[simp] theorem State.setBoot_commit (f : BootRec → BootRec) : (s.setBoot f).commit = s.commit := rfl
@[simp] theorem State.setBoot_frozenAt (f : BootRec → BootRec) : (s.setBoot f).frozenAt = s.frozenAt := rfl
@[simp] theorem State.setBoot_chipResetDue (f : BootRec → BootRec) : (s.setBoot f).chipResetDue = s.chipResetDue := rfl
@[simp] theorem State.setBoot_hif (f : BootRec → BootRec) : (s.setBoot f).hif = s.hif := rfl
@[simp] theorem State.setBoot_spill (f : BootRec → BootRec) : (s.setBoot f).spill = s.spill := rfl
@[simp] theorem State.setBoot_hostMem (f : BootRec → BootRec) : (s.setBoot f).hostMem = s.hostMem := rfl
@[simp] theorem State.setBoot_flights (f : BootRec → BootRec) : (s.setBoot f).flights = s.flights := rfl
@[simp] theorem State.setBoot_waiting (f : BootRec → BootRec) : (s.setBoot f).waiting = s.waiting := rfl
@[simp] theorem State.setBoot_intake (f : BootRec → BootRec) : (s.setBoot f).intake = s.intake := rfl
@[simp] theorem State.setBoot_queues (f : BootRec → BootRec) : (s.setBoot f).queues = s.queues := rfl
@[simp] theorem State.setBoot_lanes (f : BootRec → BootRec) : (s.setBoot f).lanes = s.lanes := rfl
@[simp] theorem State.setBoot_pmcan (f : BootRec → BootRec) : (s.setBoot f).pmcan = s.pmcan := rfl
@[simp] theorem State.setBoot_met (f : BootRec → BootRec) : (s.setBoot f).met = s.met := rfl
@[simp] theorem State.setBoot_nrg (f : BootRec → BootRec) : (s.setBoot f).nrg = s.nrg := rfl
@[simp] theorem State.setBoot_book (f : BootRec → BootRec) : (s.setBoot f).book = s.book := rfl
@[simp] theorem State.setBoot_abc (f : BootRec → BootRec) : (s.setBoot f).abc = s.abc := rfl
@[simp] theorem State.setBoot_mgt (f : BootRec → BootRec) : (s.setBoot f).mgt = s.mgt := rfl
@[simp] theorem State.setBoot_keys (f : BootRec → BootRec) : (s.setBoot f).keys = s.keys := rfl
@[simp] theorem State.setBoot_link (f : BootRec → BootRec) : (s.setBoot f).link = s.link := rfl
@[simp] theorem State.setBoot_tok (f : BootRec → BootRec) : (s.setBoot f).tok = s.tok := rfl
@[simp] theorem State.setBoot_saf (f : BootRec → BootRec) : (s.setBoot f).saf = s.saf := rfl
@[simp] theorem State.setBoot_lsw (f : BootRec → BootRec) : (s.setBoot f).lsw = s.lsw := rfl
@[simp] theorem State.setBoot_pair (f : BootRec → BootRec) : (s.setBoot f).pair = s.pair := rfl
@[simp] theorem State.setBoot_line (f : BootRec → BootRec) : (s.setBoot f).line = s.line := rfl
@[simp] theorem State.setBoot_epd (f : BootRec → BootRec) : (s.setBoot f).epd = s.epd := rfl
@[simp] theorem State.setBoot_arb (f : BootRec → BootRec) : (s.setBoot f).arb = s.arb := rfl
@[simp] theorem State.setBoot_island (f : BootRec → BootRec) : (s.setBoot f).island = s.island := rfl
@[simp] theorem State.setBoot_fuses (f : BootRec → BootRec) : (s.setBoot f).fuses = s.fuses := rfl
@[simp] theorem State.setBoot_nv (f : BootRec → BootRec) : (s.setBoot f).nv = s.nv.putBoot (f s.nv.boot) := rfl
@[simp] theorem State.setBoot_pending (f : BootRec → BootRec) : (s.setBoot f).pending = s.pending := rfl

/-! ## setEpd -/

@[simp] theorem State.setEpd_htc (p : Fin 4) (f : EpdPort → EpdPort) : (s.setEpd p f).htc = s.htc := rfl
@[simp] theorem State.setEpd_htcLoaded (p : Fin 4) (f : EpdPort → EpdPort) : (s.setEpd p f).htcLoaded = s.htcLoaded := rfl
@[simp] theorem State.setEpd_outside (p : Fin 4) (f : EpdPort → EpdPort) : (s.setEpd p f).outside = s.outside := rfl
@[simp] theorem State.setEpd_freeCtr (p : Fin 4) (f : EpdPort → EpdPort) : (s.setEpd p f).freeCtr = s.freeCtr := rfl
@[simp] theorem State.setEpd_seq (p : Fin 4) (f : EpdPort → EpdPort) : (s.setEpd p f).seq = s.seq := rfl
@[simp] theorem State.setEpd_timers (p : Fin 4) (f : EpdPort → EpdPort) : (s.setEpd p f).timers = s.timers := rfl
@[simp] theorem State.setEpd_errs (p : Fin 4) (f : EpdPort → EpdPort) : (s.setEpd p f).errs = s.errs := rfl
@[simp] theorem State.setEpd_cfg (p : Fin 4) (f : EpdPort → EpdPort) : (s.setEpd p f).cfg = s.cfg := rfl
@[simp] theorem State.setEpd_power (p : Fin 4) (f : EpdPort → EpdPort) : (s.setEpd p f).power = s.power := rfl
@[simp] theorem State.setEpd_clocks (p : Fin 4) (f : EpdPort → EpdPort) : (s.setEpd p f).clocks = s.clocks := rfl
@[simp] theorem State.setEpd_boot (p : Fin 4) (f : EpdPort → EpdPort) : (s.setEpd p f).boot = s.boot := rfl
@[simp] theorem State.setEpd_glb (p : Fin 4) (f : EpdPort → EpdPort) : (s.setEpd p f).glb = s.glb := rfl
@[simp] theorem State.setEpd_commit (p : Fin 4) (f : EpdPort → EpdPort) : (s.setEpd p f).commit = s.commit := rfl
@[simp] theorem State.setEpd_frozenAt (p : Fin 4) (f : EpdPort → EpdPort) : (s.setEpd p f).frozenAt = s.frozenAt := rfl
@[simp] theorem State.setEpd_chipResetDue (p : Fin 4) (f : EpdPort → EpdPort) : (s.setEpd p f).chipResetDue = s.chipResetDue := rfl
@[simp] theorem State.setEpd_hif (p : Fin 4) (f : EpdPort → EpdPort) : (s.setEpd p f).hif = s.hif := rfl
@[simp] theorem State.setEpd_spill (p : Fin 4) (f : EpdPort → EpdPort) : (s.setEpd p f).spill = s.spill := rfl
@[simp] theorem State.setEpd_hostMem (p : Fin 4) (f : EpdPort → EpdPort) : (s.setEpd p f).hostMem = s.hostMem := rfl
@[simp] theorem State.setEpd_flights (p : Fin 4) (f : EpdPort → EpdPort) : (s.setEpd p f).flights = s.flights := rfl
@[simp] theorem State.setEpd_waiting (p : Fin 4) (f : EpdPort → EpdPort) : (s.setEpd p f).waiting = s.waiting := rfl
@[simp] theorem State.setEpd_intake (p : Fin 4) (f : EpdPort → EpdPort) : (s.setEpd p f).intake = s.intake := rfl
@[simp] theorem State.setEpd_queues (p : Fin 4) (f : EpdPort → EpdPort) : (s.setEpd p f).queues = s.queues := rfl
@[simp] theorem State.setEpd_lanes (p : Fin 4) (f : EpdPort → EpdPort) : (s.setEpd p f).lanes = s.lanes := rfl
@[simp] theorem State.setEpd_pmcan (p : Fin 4) (f : EpdPort → EpdPort) : (s.setEpd p f).pmcan = s.pmcan := rfl
@[simp] theorem State.setEpd_met (p : Fin 4) (f : EpdPort → EpdPort) : (s.setEpd p f).met = s.met := rfl
@[simp] theorem State.setEpd_nrg (p : Fin 4) (f : EpdPort → EpdPort) : (s.setEpd p f).nrg = s.nrg := rfl
@[simp] theorem State.setEpd_book (p : Fin 4) (f : EpdPort → EpdPort) : (s.setEpd p f).book = s.book := rfl
@[simp] theorem State.setEpd_abc (p : Fin 4) (f : EpdPort → EpdPort) : (s.setEpd p f).abc = s.abc := rfl
@[simp] theorem State.setEpd_mgt (p : Fin 4) (f : EpdPort → EpdPort) : (s.setEpd p f).mgt = s.mgt := rfl
@[simp] theorem State.setEpd_keys (p : Fin 4) (f : EpdPort → EpdPort) : (s.setEpd p f).keys = s.keys := rfl
@[simp] theorem State.setEpd_link (p : Fin 4) (f : EpdPort → EpdPort) : (s.setEpd p f).link = s.link := rfl
@[simp] theorem State.setEpd_tok (p : Fin 4) (f : EpdPort → EpdPort) : (s.setEpd p f).tok = s.tok := rfl
@[simp] theorem State.setEpd_saf (p : Fin 4) (f : EpdPort → EpdPort) : (s.setEpd p f).saf = s.saf := rfl
@[simp] theorem State.setEpd_lsw (p : Fin 4) (f : EpdPort → EpdPort) : (s.setEpd p f).lsw = s.lsw := rfl
@[simp] theorem State.setEpd_pair (p : Fin 4) (f : EpdPort → EpdPort) : (s.setEpd p f).pair = s.pair := rfl
@[simp] theorem State.setEpd_line (p : Fin 4) (f : EpdPort → EpdPort) : (s.setEpd p f).line = s.line := rfl
@[simp] theorem State.setEpd_epd (p : Fin 4) (f : EpdPort → EpdPort) : (s.setEpd p f).epd = s.epd.set p (f s.epd[p]) := rfl
@[simp] theorem State.setEpd_arb (p : Fin 4) (f : EpdPort → EpdPort) : (s.setEpd p f).arb = s.arb := rfl
@[simp] theorem State.setEpd_island (p : Fin 4) (f : EpdPort → EpdPort) : (s.setEpd p f).island = s.island := rfl
@[simp] theorem State.setEpd_fuses (p : Fin 4) (f : EpdPort → EpdPort) : (s.setEpd p f).fuses = s.fuses := rfl
@[simp] theorem State.setEpd_nv (p : Fin 4) (f : EpdPort → EpdPort) : (s.setEpd p f).nv = s.nv := rfl
@[simp] theorem State.setEpd_pending (p : Fin 4) (f : EpdPort → EpdPort) : (s.setEpd p f).pending = s.pending := rfl

/-! ## setPair -/

@[simp] theorem State.setPair_htc (f : Pair → Pair) : (s.setPair f).htc = s.htc := rfl
@[simp] theorem State.setPair_htcLoaded (f : Pair → Pair) : (s.setPair f).htcLoaded = s.htcLoaded := rfl
@[simp] theorem State.setPair_outside (f : Pair → Pair) : (s.setPair f).outside = s.outside := rfl
@[simp] theorem State.setPair_freeCtr (f : Pair → Pair) : (s.setPair f).freeCtr = s.freeCtr := rfl
@[simp] theorem State.setPair_seq (f : Pair → Pair) : (s.setPair f).seq = s.seq := rfl
@[simp] theorem State.setPair_timers (f : Pair → Pair) : (s.setPair f).timers = s.timers := rfl
@[simp] theorem State.setPair_errs (f : Pair → Pair) : (s.setPair f).errs = s.errs := rfl
@[simp] theorem State.setPair_cfg (f : Pair → Pair) : (s.setPair f).cfg = s.cfg := rfl
@[simp] theorem State.setPair_power (f : Pair → Pair) : (s.setPair f).power = s.power := rfl
@[simp] theorem State.setPair_clocks (f : Pair → Pair) : (s.setPair f).clocks = s.clocks := rfl
@[simp] theorem State.setPair_boot (f : Pair → Pair) : (s.setPair f).boot = s.boot := rfl
@[simp] theorem State.setPair_glb (f : Pair → Pair) : (s.setPair f).glb = s.glb := rfl
@[simp] theorem State.setPair_commit (f : Pair → Pair) : (s.setPair f).commit = s.commit := rfl
@[simp] theorem State.setPair_frozenAt (f : Pair → Pair) : (s.setPair f).frozenAt = s.frozenAt := rfl
@[simp] theorem State.setPair_chipResetDue (f : Pair → Pair) : (s.setPair f).chipResetDue = s.chipResetDue := rfl
@[simp] theorem State.setPair_hif (f : Pair → Pair) : (s.setPair f).hif = s.hif := rfl
@[simp] theorem State.setPair_spill (f : Pair → Pair) : (s.setPair f).spill = s.spill := rfl
@[simp] theorem State.setPair_hostMem (f : Pair → Pair) : (s.setPair f).hostMem = s.hostMem := rfl
@[simp] theorem State.setPair_flights (f : Pair → Pair) : (s.setPair f).flights = s.flights := rfl
@[simp] theorem State.setPair_waiting (f : Pair → Pair) : (s.setPair f).waiting = s.waiting := rfl
@[simp] theorem State.setPair_intake (f : Pair → Pair) : (s.setPair f).intake = s.intake := rfl
@[simp] theorem State.setPair_queues (f : Pair → Pair) : (s.setPair f).queues = s.queues := rfl
@[simp] theorem State.setPair_lanes (f : Pair → Pair) : (s.setPair f).lanes = s.lanes := rfl
@[simp] theorem State.setPair_pmcan (f : Pair → Pair) : (s.setPair f).pmcan = s.pmcan := rfl
@[simp] theorem State.setPair_met (f : Pair → Pair) : (s.setPair f).met = s.met := rfl
@[simp] theorem State.setPair_nrg (f : Pair → Pair) : (s.setPair f).nrg = s.nrg := rfl
@[simp] theorem State.setPair_book (f : Pair → Pair) : (s.setPair f).book = s.book := rfl
@[simp] theorem State.setPair_abc (f : Pair → Pair) : (s.setPair f).abc = s.abc := rfl
@[simp] theorem State.setPair_mgt (f : Pair → Pair) : (s.setPair f).mgt = s.mgt := rfl
@[simp] theorem State.setPair_keys (f : Pair → Pair) : (s.setPair f).keys = s.keys := rfl
@[simp] theorem State.setPair_link (f : Pair → Pair) : (s.setPair f).link = s.link := rfl
@[simp] theorem State.setPair_tok (f : Pair → Pair) : (s.setPair f).tok = s.tok := rfl
@[simp] theorem State.setPair_saf (f : Pair → Pair) : (s.setPair f).saf = s.saf := rfl
@[simp] theorem State.setPair_lsw (f : Pair → Pair) : (s.setPair f).lsw = s.lsw := rfl
@[simp] theorem State.setPair_pair (f : Pair → Pair) : (s.setPair f).pair = f s.pair := rfl
@[simp] theorem State.setPair_line (f : Pair → Pair) : (s.setPair f).line = s.line := rfl
@[simp] theorem State.setPair_epd (f : Pair → Pair) : (s.setPair f).epd = s.epd := rfl
@[simp] theorem State.setPair_arb (f : Pair → Pair) : (s.setPair f).arb = s.arb := rfl
@[simp] theorem State.setPair_island (f : Pair → Pair) : (s.setPair f).island = s.island := rfl
@[simp] theorem State.setPair_fuses (f : Pair → Pair) : (s.setPair f).fuses = s.fuses := rfl
@[simp] theorem State.setPair_nv (f : Pair → Pair) : (s.setPair f).nv = s.nv := rfl
@[simp] theorem State.setPair_pending (f : Pair → Pair) : (s.setPair f).pending = s.pending := rfl

/-! ## setArb -/

@[simp] theorem State.setArb_htc (f : Arb → Arb) : (s.setArb f).htc = s.htc := rfl
@[simp] theorem State.setArb_htcLoaded (f : Arb → Arb) : (s.setArb f).htcLoaded = s.htcLoaded := rfl
@[simp] theorem State.setArb_outside (f : Arb → Arb) : (s.setArb f).outside = s.outside := rfl
@[simp] theorem State.setArb_freeCtr (f : Arb → Arb) : (s.setArb f).freeCtr = s.freeCtr := rfl
@[simp] theorem State.setArb_seq (f : Arb → Arb) : (s.setArb f).seq = s.seq := rfl
@[simp] theorem State.setArb_timers (f : Arb → Arb) : (s.setArb f).timers = s.timers := rfl
@[simp] theorem State.setArb_errs (f : Arb → Arb) : (s.setArb f).errs = s.errs := rfl
@[simp] theorem State.setArb_cfg (f : Arb → Arb) : (s.setArb f).cfg = s.cfg := rfl
@[simp] theorem State.setArb_power (f : Arb → Arb) : (s.setArb f).power = s.power := rfl
@[simp] theorem State.setArb_clocks (f : Arb → Arb) : (s.setArb f).clocks = s.clocks := rfl
@[simp] theorem State.setArb_boot (f : Arb → Arb) : (s.setArb f).boot = s.boot := rfl
@[simp] theorem State.setArb_glb (f : Arb → Arb) : (s.setArb f).glb = s.glb := rfl
@[simp] theorem State.setArb_commit (f : Arb → Arb) : (s.setArb f).commit = s.commit := rfl
@[simp] theorem State.setArb_frozenAt (f : Arb → Arb) : (s.setArb f).frozenAt = s.frozenAt := rfl
@[simp] theorem State.setArb_chipResetDue (f : Arb → Arb) : (s.setArb f).chipResetDue = s.chipResetDue := rfl
@[simp] theorem State.setArb_hif (f : Arb → Arb) : (s.setArb f).hif = s.hif := rfl
@[simp] theorem State.setArb_spill (f : Arb → Arb) : (s.setArb f).spill = s.spill := rfl
@[simp] theorem State.setArb_hostMem (f : Arb → Arb) : (s.setArb f).hostMem = s.hostMem := rfl
@[simp] theorem State.setArb_flights (f : Arb → Arb) : (s.setArb f).flights = s.flights := rfl
@[simp] theorem State.setArb_waiting (f : Arb → Arb) : (s.setArb f).waiting = s.waiting := rfl
@[simp] theorem State.setArb_intake (f : Arb → Arb) : (s.setArb f).intake = s.intake := rfl
@[simp] theorem State.setArb_queues (f : Arb → Arb) : (s.setArb f).queues = s.queues := rfl
@[simp] theorem State.setArb_lanes (f : Arb → Arb) : (s.setArb f).lanes = s.lanes := rfl
@[simp] theorem State.setArb_pmcan (f : Arb → Arb) : (s.setArb f).pmcan = s.pmcan := rfl
@[simp] theorem State.setArb_met (f : Arb → Arb) : (s.setArb f).met = s.met := rfl
@[simp] theorem State.setArb_nrg (f : Arb → Arb) : (s.setArb f).nrg = s.nrg := rfl
@[simp] theorem State.setArb_book (f : Arb → Arb) : (s.setArb f).book = s.book := rfl
@[simp] theorem State.setArb_abc (f : Arb → Arb) : (s.setArb f).abc = s.abc := rfl
@[simp] theorem State.setArb_mgt (f : Arb → Arb) : (s.setArb f).mgt = s.mgt := rfl
@[simp] theorem State.setArb_keys (f : Arb → Arb) : (s.setArb f).keys = s.keys := rfl
@[simp] theorem State.setArb_link (f : Arb → Arb) : (s.setArb f).link = s.link := rfl
@[simp] theorem State.setArb_tok (f : Arb → Arb) : (s.setArb f).tok = s.tok := rfl
@[simp] theorem State.setArb_saf (f : Arb → Arb) : (s.setArb f).saf = s.saf := rfl
@[simp] theorem State.setArb_lsw (f : Arb → Arb) : (s.setArb f).lsw = s.lsw := rfl
@[simp] theorem State.setArb_pair (f : Arb → Arb) : (s.setArb f).pair = s.pair := rfl
@[simp] theorem State.setArb_line (f : Arb → Arb) : (s.setArb f).line = s.line := rfl
@[simp] theorem State.setArb_epd (f : Arb → Arb) : (s.setArb f).epd = s.epd := rfl
@[simp] theorem State.setArb_arb (f : Arb → Arb) : (s.setArb f).arb = f s.arb := rfl
@[simp] theorem State.setArb_island (f : Arb → Arb) : (s.setArb f).island = s.island := rfl
@[simp] theorem State.setArb_fuses (f : Arb → Arb) : (s.setArb f).fuses = s.fuses := rfl
@[simp] theorem State.setArb_nv (f : Arb → Arb) : (s.setArb f).nv = s.nv := rfl
@[simp] theorem State.setArb_pending (f : Arb → Arb) : (s.setArb f).pending = s.pending := rfl

/-! ## setFlight -/

@[simp] theorem State.setFlight_htc (f g : Flight) : (s.setFlight f g).htc = s.htc := rfl
@[simp] theorem State.setFlight_htcLoaded (f g : Flight) : (s.setFlight f g).htcLoaded = s.htcLoaded := rfl
@[simp] theorem State.setFlight_outside (f g : Flight) : (s.setFlight f g).outside = s.outside := rfl
@[simp] theorem State.setFlight_freeCtr (f g : Flight) : (s.setFlight f g).freeCtr = s.freeCtr := rfl
@[simp] theorem State.setFlight_seq (f g : Flight) : (s.setFlight f g).seq = s.seq := rfl
@[simp] theorem State.setFlight_timers (f g : Flight) : (s.setFlight f g).timers = s.timers := rfl
@[simp] theorem State.setFlight_errs (f g : Flight) : (s.setFlight f g).errs = s.errs := rfl
@[simp] theorem State.setFlight_cfg (f g : Flight) : (s.setFlight f g).cfg = s.cfg := rfl
@[simp] theorem State.setFlight_power (f g : Flight) : (s.setFlight f g).power = s.power := rfl
@[simp] theorem State.setFlight_clocks (f g : Flight) : (s.setFlight f g).clocks = s.clocks := rfl
@[simp] theorem State.setFlight_boot (f g : Flight) : (s.setFlight f g).boot = s.boot := rfl
@[simp] theorem State.setFlight_glb (f g : Flight) : (s.setFlight f g).glb = s.glb := rfl
@[simp] theorem State.setFlight_commit (f g : Flight) : (s.setFlight f g).commit = s.commit := rfl
@[simp] theorem State.setFlight_frozenAt (f g : Flight) : (s.setFlight f g).frozenAt = s.frozenAt := rfl
@[simp] theorem State.setFlight_chipResetDue (f g : Flight) : (s.setFlight f g).chipResetDue = s.chipResetDue := rfl
@[simp] theorem State.setFlight_hif (f g : Flight) : (s.setFlight f g).hif = s.hif := rfl
@[simp] theorem State.setFlight_spill (f g : Flight) : (s.setFlight f g).spill = s.spill := rfl
@[simp] theorem State.setFlight_hostMem (f g : Flight) : (s.setFlight f g).hostMem = s.hostMem := rfl
@[simp] theorem State.setFlight_flights (f g : Flight) : (s.setFlight f g).flights = s.flights.map fun x => if x == f then g else x := rfl
@[simp] theorem State.setFlight_waiting (f g : Flight) : (s.setFlight f g).waiting = s.waiting := rfl
@[simp] theorem State.setFlight_intake (f g : Flight) : (s.setFlight f g).intake = s.intake := rfl
@[simp] theorem State.setFlight_queues (f g : Flight) : (s.setFlight f g).queues = s.queues := rfl
@[simp] theorem State.setFlight_lanes (f g : Flight) : (s.setFlight f g).lanes = s.lanes := rfl
@[simp] theorem State.setFlight_pmcan (f g : Flight) : (s.setFlight f g).pmcan = s.pmcan := rfl
@[simp] theorem State.setFlight_met (f g : Flight) : (s.setFlight f g).met = s.met := rfl
@[simp] theorem State.setFlight_nrg (f g : Flight) : (s.setFlight f g).nrg = s.nrg := rfl
@[simp] theorem State.setFlight_book (f g : Flight) : (s.setFlight f g).book = s.book := rfl
@[simp] theorem State.setFlight_abc (f g : Flight) : (s.setFlight f g).abc = s.abc := rfl
@[simp] theorem State.setFlight_mgt (f g : Flight) : (s.setFlight f g).mgt = s.mgt := rfl
@[simp] theorem State.setFlight_keys (f g : Flight) : (s.setFlight f g).keys = s.keys := rfl
@[simp] theorem State.setFlight_link (f g : Flight) : (s.setFlight f g).link = s.link := rfl
@[simp] theorem State.setFlight_tok (f g : Flight) : (s.setFlight f g).tok = s.tok := rfl
@[simp] theorem State.setFlight_saf (f g : Flight) : (s.setFlight f g).saf = s.saf := rfl
@[simp] theorem State.setFlight_lsw (f g : Flight) : (s.setFlight f g).lsw = s.lsw := rfl
@[simp] theorem State.setFlight_pair (f g : Flight) : (s.setFlight f g).pair = s.pair := rfl
@[simp] theorem State.setFlight_line (f g : Flight) : (s.setFlight f g).line = s.line := rfl
@[simp] theorem State.setFlight_epd (f g : Flight) : (s.setFlight f g).epd = s.epd := rfl
@[simp] theorem State.setFlight_arb (f g : Flight) : (s.setFlight f g).arb = s.arb := rfl
@[simp] theorem State.setFlight_island (f g : Flight) : (s.setFlight f g).island = s.island := rfl
@[simp] theorem State.setFlight_fuses (f g : Flight) : (s.setFlight f g).fuses = s.fuses := rfl
@[simp] theorem State.setFlight_nv (f g : Flight) : (s.setFlight f g).nv = s.nv := rfl
@[simp] theorem State.setFlight_pending (f g : Flight) : (s.setFlight f g).pending = s.pending := rfl

/-! ## writeHost -/

@[simp] theorem State.writeHost_htc (a : BitVec 64) (b : Bytes) : (s.writeHost a b).htc = s.htc := rfl
@[simp] theorem State.writeHost_htcLoaded (a : BitVec 64) (b : Bytes) : (s.writeHost a b).htcLoaded = s.htcLoaded := rfl
@[simp] theorem State.writeHost_outside (a : BitVec 64) (b : Bytes) : (s.writeHost a b).outside = s.outside := rfl
@[simp] theorem State.writeHost_freeCtr (a : BitVec 64) (b : Bytes) : (s.writeHost a b).freeCtr = s.freeCtr := rfl
@[simp] theorem State.writeHost_seq (a : BitVec 64) (b : Bytes) : (s.writeHost a b).seq = s.seq := rfl
@[simp] theorem State.writeHost_timers (a : BitVec 64) (b : Bytes) : (s.writeHost a b).timers = s.timers := rfl
@[simp] theorem State.writeHost_errs (a : BitVec 64) (b : Bytes) : (s.writeHost a b).errs = s.errs := rfl
@[simp] theorem State.writeHost_cfg (a : BitVec 64) (b : Bytes) : (s.writeHost a b).cfg = s.cfg := rfl
@[simp] theorem State.writeHost_power (a : BitVec 64) (b : Bytes) : (s.writeHost a b).power = s.power := rfl
@[simp] theorem State.writeHost_clocks (a : BitVec 64) (b : Bytes) : (s.writeHost a b).clocks = s.clocks := rfl
@[simp] theorem State.writeHost_boot (a : BitVec 64) (b : Bytes) : (s.writeHost a b).boot = s.boot := rfl
@[simp] theorem State.writeHost_glb (a : BitVec 64) (b : Bytes) : (s.writeHost a b).glb = s.glb := rfl
@[simp] theorem State.writeHost_commit (a : BitVec 64) (b : Bytes) : (s.writeHost a b).commit = s.commit := rfl
@[simp] theorem State.writeHost_frozenAt (a : BitVec 64) (b : Bytes) : (s.writeHost a b).frozenAt = s.frozenAt := rfl
@[simp] theorem State.writeHost_chipResetDue (a : BitVec 64) (b : Bytes) : (s.writeHost a b).chipResetDue = s.chipResetDue := rfl
@[simp] theorem State.writeHost_hif (a : BitVec 64) (b : Bytes) : (s.writeHost a b).hif = s.hif := rfl
@[simp] theorem State.writeHost_spill (a : BitVec 64) (b : Bytes) : (s.writeHost a b).spill = s.spill := rfl
@[simp] theorem State.writeHost_hostMem (a : BitVec 64) (b : Bytes) : (s.writeHost a b).hostMem = memWrite s.hostMem a.toNat b := rfl
@[simp] theorem State.writeHost_flights (a : BitVec 64) (b : Bytes) : (s.writeHost a b).flights = s.flights := rfl
@[simp] theorem State.writeHost_waiting (a : BitVec 64) (b : Bytes) : (s.writeHost a b).waiting = s.waiting := rfl
@[simp] theorem State.writeHost_intake (a : BitVec 64) (b : Bytes) : (s.writeHost a b).intake = s.intake := rfl
@[simp] theorem State.writeHost_queues (a : BitVec 64) (b : Bytes) : (s.writeHost a b).queues = s.queues := rfl
@[simp] theorem State.writeHost_lanes (a : BitVec 64) (b : Bytes) : (s.writeHost a b).lanes = s.lanes := rfl
@[simp] theorem State.writeHost_pmcan (a : BitVec 64) (b : Bytes) : (s.writeHost a b).pmcan = s.pmcan := rfl
@[simp] theorem State.writeHost_met (a : BitVec 64) (b : Bytes) : (s.writeHost a b).met = s.met := rfl
@[simp] theorem State.writeHost_nrg (a : BitVec 64) (b : Bytes) : (s.writeHost a b).nrg = s.nrg := rfl
@[simp] theorem State.writeHost_book (a : BitVec 64) (b : Bytes) : (s.writeHost a b).book = s.book := rfl
@[simp] theorem State.writeHost_abc (a : BitVec 64) (b : Bytes) : (s.writeHost a b).abc = s.abc := rfl
@[simp] theorem State.writeHost_mgt (a : BitVec 64) (b : Bytes) : (s.writeHost a b).mgt = s.mgt := rfl
@[simp] theorem State.writeHost_keys (a : BitVec 64) (b : Bytes) : (s.writeHost a b).keys = s.keys := rfl
@[simp] theorem State.writeHost_link (a : BitVec 64) (b : Bytes) : (s.writeHost a b).link = s.link := rfl
@[simp] theorem State.writeHost_tok (a : BitVec 64) (b : Bytes) : (s.writeHost a b).tok = s.tok := rfl
@[simp] theorem State.writeHost_saf (a : BitVec 64) (b : Bytes) : (s.writeHost a b).saf = s.saf := rfl
@[simp] theorem State.writeHost_lsw (a : BitVec 64) (b : Bytes) : (s.writeHost a b).lsw = s.lsw := rfl
@[simp] theorem State.writeHost_pair (a : BitVec 64) (b : Bytes) : (s.writeHost a b).pair = s.pair := rfl
@[simp] theorem State.writeHost_line (a : BitVec 64) (b : Bytes) : (s.writeHost a b).line = s.line := rfl
@[simp] theorem State.writeHost_epd (a : BitVec 64) (b : Bytes) : (s.writeHost a b).epd = s.epd := rfl
@[simp] theorem State.writeHost_arb (a : BitVec 64) (b : Bytes) : (s.writeHost a b).arb = s.arb := rfl
@[simp] theorem State.writeHost_island (a : BitVec 64) (b : Bytes) : (s.writeHost a b).island = s.island := rfl
@[simp] theorem State.writeHost_fuses (a : BitVec 64) (b : Bytes) : (s.writeHost a b).fuses = s.fuses := rfl
@[simp] theorem State.writeHost_nv (a : BitVec 64) (b : Bytes) : (s.writeHost a b).nv = s.nv := rfl
@[simp] theorem State.writeHost_pending (a : BitVec 64) (b : Bytes) : (s.writeHost a b).pending = s.pending := rfl

/-! ## A value drawn -/

@[simp] theorem State.draw_htc (b : Nat) : (s.draw b).2.htc = s.htc := rfl
@[simp] theorem State.draw_htcLoaded (b : Nat) : (s.draw b).2.htcLoaded = s.htcLoaded := rfl
@[simp] theorem State.draw_outside (b : Nat) : (s.draw b).2.outside = s.outside := rfl
@[simp] theorem State.draw_freeCtr (b : Nat) : (s.draw b).2.freeCtr = s.freeCtr + 1 := rfl
@[simp] theorem State.draw_seq (b : Nat) : (s.draw b).2.seq = s.seq := rfl
@[simp] theorem State.draw_timers (b : Nat) : (s.draw b).2.timers = s.timers := rfl
@[simp] theorem State.draw_errs (b : Nat) : (s.draw b).2.errs = s.errs := rfl
@[simp] theorem State.draw_cfg (b : Nat) : (s.draw b).2.cfg = s.cfg := rfl
@[simp] theorem State.draw_power (b : Nat) : (s.draw b).2.power = s.power := rfl
@[simp] theorem State.draw_clocks (b : Nat) : (s.draw b).2.clocks = s.clocks := rfl
@[simp] theorem State.draw_boot (b : Nat) : (s.draw b).2.boot = s.boot := rfl
@[simp] theorem State.draw_glb (b : Nat) : (s.draw b).2.glb = s.glb := rfl
@[simp] theorem State.draw_commit (b : Nat) : (s.draw b).2.commit = s.commit := rfl
@[simp] theorem State.draw_frozenAt (b : Nat) : (s.draw b).2.frozenAt = s.frozenAt := rfl
@[simp] theorem State.draw_chipResetDue (b : Nat) : (s.draw b).2.chipResetDue = s.chipResetDue := rfl
@[simp] theorem State.draw_hif (b : Nat) : (s.draw b).2.hif = s.hif := rfl
@[simp] theorem State.draw_spill (b : Nat) : (s.draw b).2.spill = s.spill := rfl
@[simp] theorem State.draw_hostMem (b : Nat) : (s.draw b).2.hostMem = s.hostMem := rfl
@[simp] theorem State.draw_flights (b : Nat) : (s.draw b).2.flights = s.flights := rfl
@[simp] theorem State.draw_waiting (b : Nat) : (s.draw b).2.waiting = s.waiting := rfl
@[simp] theorem State.draw_intake (b : Nat) : (s.draw b).2.intake = s.intake := rfl
@[simp] theorem State.draw_queues (b : Nat) : (s.draw b).2.queues = s.queues := rfl
@[simp] theorem State.draw_lanes (b : Nat) : (s.draw b).2.lanes = s.lanes := rfl
@[simp] theorem State.draw_pmcan (b : Nat) : (s.draw b).2.pmcan = s.pmcan := rfl
@[simp] theorem State.draw_met (b : Nat) : (s.draw b).2.met = s.met := rfl
@[simp] theorem State.draw_nrg (b : Nat) : (s.draw b).2.nrg = s.nrg := rfl
@[simp] theorem State.draw_book (b : Nat) : (s.draw b).2.book = s.book := rfl
@[simp] theorem State.draw_abc (b : Nat) : (s.draw b).2.abc = s.abc := rfl
@[simp] theorem State.draw_mgt (b : Nat) : (s.draw b).2.mgt = s.mgt := rfl
@[simp] theorem State.draw_keys (b : Nat) : (s.draw b).2.keys = s.keys := rfl
@[simp] theorem State.draw_link (b : Nat) : (s.draw b).2.link = s.link := rfl
@[simp] theorem State.draw_tok (b : Nat) : (s.draw b).2.tok = s.tok := rfl
@[simp] theorem State.draw_saf (b : Nat) : (s.draw b).2.saf = s.saf := rfl
@[simp] theorem State.draw_lsw (b : Nat) : (s.draw b).2.lsw = s.lsw := rfl
@[simp] theorem State.draw_pair (b : Nat) : (s.draw b).2.pair = s.pair := rfl
@[simp] theorem State.draw_line (b : Nat) : (s.draw b).2.line = s.line := rfl
@[simp] theorem State.draw_epd (b : Nat) : (s.draw b).2.epd = s.epd := rfl
@[simp] theorem State.draw_arb (b : Nat) : (s.draw b).2.arb = s.arb := rfl
@[simp] theorem State.draw_island (b : Nat) : (s.draw b).2.island = s.island := rfl
@[simp] theorem State.draw_fuses (b : Nat) : (s.draw b).2.fuses = s.fuses := rfl
@[simp] theorem State.draw_nv (b : Nat) : (s.draw b).2.nv = s.nv := rfl
@[simp] theorem State.draw_pending (b : Nat) : (s.draw b).2.pending = s.pending := rfl

/-! ## The stamp -/

@[simp] theorem State.cancel_now (k : TimerKind) (o u : Nat) : (s.cancel k o u).now = s.now := rfl
@[simp] theorem State.arm_now (k : TimerKind) (o d u : Nat) : (s.arm k o d u).now = s.now := rfl
@[simp] theorem State.setPower_now (f : Power → Power) : (s.setPower f).now = s.now := rfl
@[simp] theorem State.setVec_now (v : Fin 32) (f : Vec → Vec) : (s.setVec v f).now = s.now := rfl
@[simp] theorem State.setRing_now (n : Fin 16) (f : Ring → Ring) : (s.setRing n f).now = s.now := rfl
@[simp] theorem State.setSpill_now (n : Fin 16) (f : Spill → Spill) : (s.setSpill n f).now = s.now := rfl
@[simp] theorem State.setQueue_now (q : Fin 16) (f : IQueue → IQueue) : (s.setQueue q f).now = s.now := rfl
@[simp] theorem State.setLane_now (n : Fin 32) (f : Lane → Lane) : (s.setLane n f).now = s.now := rfl
@[simp] theorem State.setLink_now (n : Fin 32) (f : LinkLane → LinkLane) : (s.setLink n f).now = s.now := rfl
@[simp] theorem State.setReader_now (r : Fin 4) (f : Reader → Reader) : (s.setReader r f).now = s.now := rfl
@[simp] theorem State.setAbc_now (f : Abc → Abc) : (s.setAbc f).now = s.now := rfl
@[simp] theorem State.setGrant_now (g : Fin 36) (e : Option Grant) : (s.setGrant g e).now = s.now := rfl
@[simp] theorem State.setIsland_now (f : Saf → Saf) : (s.setIsland f).now = s.now := rfl
@[simp] theorem State.setSin_now (i : Fin 72) (f : Sin → Sin) : (s.setSin i f).now = s.now := rfl
@[simp] theorem State.setTps_now (k : Fin 4) (f : Tps → Tps) : (s.setTps k f).now = s.now := rfl
@[simp] theorem State.setSaf_now (n : Fin 32) (f : SafLane → SafLane) : (s.setSaf n f).now = s.now := rfl
@[simp] theorem State.setLsw_now (f : Lsw → Lsw) : (s.setLsw f).now = s.now := rfl
@[simp] theorem State.setCh_now (c : Fin 48) (f : Chan → Chan) : (s.setCh c f).now = s.now := rfl
@[simp] theorem State.setQuad_now (q : Fin 12) (f : Quad → Quad) : (s.setQuad q f).now = s.now := rfl
@[simp] theorem State.setChan_now (n : Fin 32) (k : Fin 8) (f : MetChan → MetChan) : (s.setChan n k f).now = s.now := rfl
@[simp] theorem State.setFeed_now (i : Fin 2) (x : Feed) : (s.setFeed i x).now = s.now := rfl
@[simp] theorem State.setRun_now (q : Nat) (f : Run → Run) : (s.setRun q f).now = s.now := rfl
@[simp] theorem State.setNeigh_now (a : Nat) (f : LineNeigh → LineNeigh) : (s.setNeigh a f).now = s.now := rfl
@[simp] theorem State.setSess_now (n : Fin 32) (f : SessRec → SessRec) : (s.setSess n f).now = s.now := rfl
@[simp] theorem State.setMet_now (n : Fin 32) (f : MetLane → MetLane) : (s.setMet n f).now = s.now := rfl
@[simp] theorem State.setCapture_now (i : Fin 4) (c : Option Capture) : (s.setCapture i c).now = s.now := rfl
@[simp] theorem State.setNrg_now (n : Fin 32) (f : NrgLane → NrgLane) : (s.setNrg n f).now = s.now := rfl
@[simp] theorem State.setPulse_now (k : Fin 8) (f : Pulse → Pulse) : (s.setPulse k f).now = s.now := rfl
@[simp] theorem State.setBook_now (f : Book → Book) : (s.setBook f).now = s.now := rfl
@[simp] theorem State.setImg_now (f : BookImage → BookImage) : (s.setImg f).now = s.now := rfl
@[simp] theorem State.setLine_now (f : LineSt → LineSt) : (s.setLine f).now = s.now := rfl
@[simp] theorem State.setKeys_now (f : Keys → Keys) : (s.setKeys f).now = s.now := rfl
@[simp] theorem State.setMgt_now (f : Mgt → Mgt) : (s.setMgt f).now = s.now := rfl
@[simp] theorem State.setBoot_now (f : BootRec → BootRec) : (s.setBoot f).now = s.now := rfl
@[simp] theorem State.setEpd_now (p : Fin 4) (f : EpdPort → EpdPort) : (s.setEpd p f).now = s.now := rfl
@[simp] theorem State.setPair_now (f : Pair → Pair) : (s.setPair f).now = s.now := rfl
@[simp] theorem State.setArb_now (f : Arb → Arb) : (s.setArb f).now = s.now := rfl
@[simp] theorem State.setFlight_now (f g : Flight) : (s.setFlight f g).now = s.now := rfl
@[simp] theorem State.writeHost_now (a : BitVec 64) (b : Bytes) : (s.writeHost a b).now = s.now := rfl

end Sys2Proof.Machine
end

