-- ==== Sys2Proof/Laws/Ops.lean ====
section
/-!
SUPPORT. What each shared operation can do, said once: every operation of this file keeps State.kept, the state without what error bits,
results, completions, records and commits may change. A proof cites these equations, or the reading of one field that follows from them,
instead of unfolding an operation.
-/
namespace Sys2Proof.Machine

open Sys2Proof

/-- The management core without what reactions and event records may change (R445, R450). -/
def Mgt.kept (m : Mgt) : Mgt := { m with nmi := [], blockDue := [], eseq := 0, edrop := 0, elog := [], eexp := 0 }

/-- MRAM and NAND without what commits, reactions and legal entries may change (R71, R448, R452). -/
def Nv.kept (n : Nv) : Nv := { n with slotA := none, slotB := none, bootA := none, bootB := none, llog := Nv.reset.llog }

/-- The HIF page without rings and vectors (R105, R120). -/
def Hif.kept (h : Hif) : Hif := { h with rings := Hif.reset.rings, vecs := Hif.reset.vecs }

/-- The sequencer without the keys that wait for their release (R29, R31). -/
def Sequencer.kept (q : Sequencer) : Sequencer := { q with waiting := [], issued := 0 }

/-- The state without what a result, a completion, an error bit with its reaction, a record or the start of a commit may change. -/
def State.kept (s : State) : State :=
  { s with seq := s.seq.kept, errs := State.reset.errs, glb := { s.glb with rstCause := 0 }, commit := none, frozenAt := none, chipResetDue := none,
           hif := s.hif.kept, spill := State.reset.spill, intake := State.reset.intake, flights := [], mgt := s.mgt.kept, nv := s.nv.kept }

/-- A fold of steps that each keep a reading keeps it. -/
theorem foldl_keeps {α β : Type} (g : State → β) (f : State → α → State) (h : ∀ s x, g (f s x) = g s) (l : List α) (s : State) :
    g (l.foldl f s) = g s := by
  induction l generalizing s with
  | nil => rfl
  | cons x l ih => rw [List.foldl_cons, ih, h]

/-! ## What keeps it by its definition -/

section
variable (s : State)
@[simp] theorem State.setRing_kept (n : Fin 16) (f : Ring → Ring) : (s.setRing n f).kept = s.kept := rfl
@[simp] theorem State.setVec_kept (v : Fin 32) (f : Vec → Vec) : (s.setVec v f).kept = s.kept := rfl
@[simp] theorem State.setSpill_kept (n : Fin 16) (f : Spill → Spill) : (s.setSpill n f).kept = s.kept := rfl
@[simp] theorem State.setFlight_kept (f g : Flight) : (s.setFlight f g).kept = s.kept := rfl
@[simp] theorem State.fire_kept (v : Fin 32) : (s.fire v).kept = s.kept := rfl
@[simp] theorem State.faultIrq_kept : s.faultIrq.kept = s.kept := rfl
end

/-! ## Vectors and rings -/

/-- A result that waits for a vector keeps it (R120). -/
@[simp] theorem State.pend_kept (s : State) (v : Fin 32) (x : Bool) : (s.pend v x).kept = s.kept := by
  simp only [State.pend]
  split <;> rfl

@[simp] theorem State.signal_kept (s : State) (n : Fin 16) (x : Bool) : (s.signal n x).kept = s.kept := by
  unfold State.signal
  split <;> simp

/-- A result written into a ring keeps it (R105). -/
@[simp] theorem State.ringWrite_kept (s : State) (n : Fin 16) (r : Result) (x : Bool) : (s.ringWrite n r x).kept = s.kept := by
  simp [State.ringWrite]

/-- Descriptors consumed keep it (R103). -/
@[simp] theorem State.consume_kept (s : State) (n : Fin 16) (k : Nat) : (s.consume n k).kept = s.kept := by
  simp only [State.consume]
  split <;> simp

/-! ## Order keys, the boot record, commits and reactions -/

@[simp] theorem State.note_kept (s : State) (c l i : Nat) : (s.note c l i).kept = s.kept := by
  unfold State.note
  split <;> rfl

@[simp] theorem Nv.putBoot_kept (n : Nv) (b : BootRec) : (n.putBoot b).kept = n.kept := by
  simp only [Nv.putBoot]
  split <;> rfl

/-- Only the copies of the boot record change when it is replaced (R457). -/
@[simp] theorem State.setBoot_kept (s : State) (f : BootRec → BootRec) : (s.setBoot f).kept = s.kept := by
  simp [State.setBoot, State.kept]

/-- A commit that starts keeps it (R68 to R71). -/
@[simp] theorem State.startCommit_kept (s : State) (k : Nat) (c : Option Nat) : (s.startCommit k c).kept = s.kept := by
  simp only [State.startCommit]
  repeat' split
  all_goals rfl

/-- A chip reset asked for keeps it (R75, R80). -/
@[simp] theorem State.requestChipReset_kept (s : State) (c : Nat) : (s.requestChipReset c).kept = s.kept := by
  simp only [State.requestChipReset, State.startCommit_kept]
  rfl

/-- A reaction other than a chip reset keeps it (Table 16-4). -/
@[simp] theorem State.reactPlain_kept (s : State) (r : ErrReg) (i c : Nat) : (s.reactPlain r i c).kept = s.kept := by
  unfold State.reactPlain
  split <;> rfl

@[simp] theorem State.stormRises_kept (s : State) : s.stormRises.kept = s.kept := by
  simp only [State.stormRises, State.reactPlain_kept]
  rfl

/-- A fault source's reaction keeps it (R445 to R448). -/
@[simp] theorem State.react_kept (s : State) (r : ErrReg) (i : Nat) : (s.react r i).kept = s.kept := by
  simp only [State.react]
  repeat' split
  all_goals simp

/-- Setting an error bit keeps it (R445). -/
@[simp] theorem State.setErr_kept (s : State) (r : ErrReg) (i : Nat) : (s.setErr r i).kept = s.kept := by
  simp only [State.setErr]
  split
  · rfl
  · split
    · simp only [State.react_kept]; rfl
    · rfl

/-! ## Results -/

/-- Held results that go out keep it (R108). -/
@[simp] theorem State.pour_kept (s : State) (n : Fin 16) (k : Nat) : (s.pour n k).kept = s.kept := by
  induction k generalizing s with
  | zero => rfl
  | succ k ih =>
    simp only [State.pour]
    split
    · rfl
    · split
      · rfl
      · split
        · rfl
        · rw [ih]; simp
        · rw [ih]; simp

@[simp] theorem State.spillFull_kept (s : State) (n : Fin 16) : (s.spillFull n).kept = s.kept := by simp [State.spillFull]

@[simp] theorem State.hold_kept (s : State) (n : Fin 16) (r : Result) (x y : Bool) : (s.hold n r x y).kept = s.kept := by
  simp only [State.hold]
  repeat' split
  all_goals simp

/-- Delivering a result keeps it (R108). -/
@[simp] theorem State.deliver_kept (s : State) (n : Fin 16) (r : Result) (x y : Bool) : (s.deliver n r x y).kept = s.kept := by
  simp only [State.deliver]
  split <;> simp

@[simp] theorem State.emit_kept (s : State) (n : Fin 16) (o u t i : Nat) (p : Bytes) : (s.emit n o u t i p).kept = s.kept := by
  simp only [State.emit]
  split
  · rfl
  · simp

/-- A completion keeps it (R112, R114). -/
@[simp] theorem State.complete_kept (s : State) (n o : Nat) (g : BitVec 16) (y : Bool) (u : BitVec 16) (k t i : Nat) (p : Bytes) :
    (s.complete n o g y u k t i p).kept = s.kept := by
  simp only [State.complete, State.deliver_kept]
  rfl

@[simp] theorem State.answer_kept (s : State) (n o : Nat) (y : Desc) (k t i : Nat) (p : Bytes) : (s.answer n o y k t i p).kept = s.kept :=
  State.complete_kept ..

/-- The settling of a command in flight keeps it (R114). -/
@[simp] theorem State.settleFlight_kept (s : State) (y : Flight) (k t i : Nat) (p : Bytes) : (s.settleFlight y k t i p).kept = s.kept := by
  simp only [State.settleFlight]
  split
  · rfl
  · simp only [State.complete_kept]; rfl

/-! ## Records -/

/-- A legal-log entry keeps it (R451 to R454). -/
@[simp] theorem State.legal_kept (s : State) (k : Nat) (p : Bytes) : (s.legal k p).kept = s.kept := by
  simp only [State.legal]
  repeat' split
  all_goals first | rfl | (rw [State.emit_kept]; rfl) | (rw [State.setErr_kept]; rfl)

/-- An event record keeps it (R450). -/
@[simp] theorem State.event_kept (s : State) (p k v l : Nat) (x : Bytes) : (s.event p k v l x).kept = s.kept := by
  simp only [State.event]
  split
  · simp only [State.setErr_kept]; rfl
  · split
    · rfl
    · simp only [State.emit_kept]; rfl

/-- A fault of R40 changes, of it, the mark of what is outside the guarantee only. -/
@[simp] theorem State.guaranteeLost_kept (s : State) (c : Nat) : (s.guaranteeLost c).kept = { s.kept with outside := true } := by
  simp only [State.guaranteeLost, State.legal_kept]
  rfl

/-! ## Members of flights (R115 to R117) -/

@[simp] theorem State.inverseEnd_kept (s : State) (y : Flight) (u : Nat) (k : Bool) : (s.inverseEnd y u k).kept = s.kept := by
  simp only [State.inverseEnd]
  split <;> simp

/-- A flight of which every member is done settles (R115, R116). -/
@[simp] theorem State.flightOk_kept (s : State) (y : Flight) : (s.flightOk y).kept = s.kept := by
  unfold State.flightOk
  split <;> simp

@[simp] theorem State.flightDone_kept (s : State) (y : Flight) (u : Nat) : (s.flightDone y u).kept = s.kept := by
  simp only [State.flightDone]
  repeat' split
  all_goals simp

@[simp] theorem State.flightFail_kept (s : State) (y : Flight) (u k : Nat) : (s.flightFail y u k).kept = s.kept := by
  unfold State.flightFail
  repeat' split
  all_goals simp

@[simp] theorem State.memberDone_kept (s : State) (p u : Nat) : (s.memberDone p u).kept = s.kept := foldl_keeps State.kept _ (fun _ _ => by simp) _ _
@[simp] theorem State.memberFail_kept (s : State) (p u k : Nat) (y : Bool) : (s.memberFail p u k y).kept = s.kept :=
  foldl_keeps State.kept _ (fun _ _ => by simp) _ _
@[simp] theorem State.settleAll_kept (s : State) (p u k i : Nat) : (s.settleAll p u k i).kept = s.kept := foldl_keeps State.kept _ (fun _ _ => by simp) _ _

/-! ## Requests -/

/-- What taking a request may do (R98, R103, R106, R107, R113, R546): nothing but wait, or accept it, refused or given to its opcode. -/
theorem State.accept_cases (s : State) (i : Instr) (n : Fin 16) (o : Nat) (x : Desc) (sc le pa : Bool) (act : State → State) :
    ∃ w k, s.accept i n o x sc le pa act = { s with waiting := w, intake := k } ∨
      s.accept i n o x sc le pa act =
        (let t := (({ s with waiting := w, intake := k } : State).consume n x.count).note (if n == 8 then 12 else 13) 32 n.val
         match refusal x sc le pa with
         | some st => if st == stBadAddr then (t.answer n.val o x st).setErr .hif 4 else t.answer n.val o x st
         | none => act t) := by
  have wait : ∀ t : State, (∃ v, t = { s with waiting := v }) → ∀ (c g : Bool) k h,
      ∃ w j, (let u := if c then { t with intake := k } else t
        { u with waiting := if g then h :: u.waiting else u.waiting ++ [h] } : State) = { s with waiting := w, intake := j } := by
    rintro _ ⟨v, rfl⟩ c g k h
    cases c <;> exact ⟨_, _, rfl⟩
  unfold State.accept State.arrive
  extract_lets r mine w0 isHead s0
  have h : ∃ v, s0 = { s with waiting := v } := by
    simp only [s0]
    split <;> exact ⟨_, rfl⟩
  split
  · obtain ⟨v, h⟩ := h
    exact ⟨v, s.intake, .inl h⟩
  · split
    · obtain ⟨w, j, e⟩ := wait s0 h (s.sourceHeld n) isHead (s0.intake.set n { s0.intake[n] with heldAt := some s.now }) ⟨n.val, i, x.count, false⟩
      exact ⟨w, j, .inl e⟩
    · obtain ⟨v, h⟩ := h
      refine ⟨v, s.intake, .inr ?_⟩
      rw [h] <;> cases refusal x sc le pa <;> rfl

/-! ## The reading of a field that each of them keeps -/

section
variable (s : State) (c l i : Nat)
@[simp] theorem State.note_htc : (s.note c l i).htc = s.htc := (congrArg State.htc (s.note_kept c l i) :)
@[simp] theorem State.note_htcLoaded : (s.note c l i).htcLoaded = s.htcLoaded := (congrArg State.htcLoaded (s.note_kept c l i) :)
@[simp] theorem State.note_outside : (s.note c l i).outside = s.outside := (congrArg State.outside (s.note_kept c l i) :)
@[simp] theorem State.note_freeCtr : (s.note c l i).freeCtr = s.freeCtr := (congrArg State.freeCtr (s.note_kept c l i) :)
@[simp] theorem State.note_timers : (s.note c l i).timers = s.timers := (congrArg State.timers (s.note_kept c l i) :)
@[simp] theorem State.note_cfg : (s.note c l i).cfg = s.cfg := (congrArg State.cfg (s.note_kept c l i) :)
@[simp] theorem State.note_power : (s.note c l i).power = s.power := (congrArg State.power (s.note_kept c l i) :)
@[simp] theorem State.note_clocks : (s.note c l i).clocks = s.clocks := (congrArg State.clocks (s.note_kept c l i) :)
@[simp] theorem State.note_boot : (s.note c l i).boot = s.boot := (congrArg State.boot (s.note_kept c l i) :)
@[simp] theorem State.note_hostMem : (s.note c l i).hostMem = s.hostMem := (congrArg State.hostMem (s.note_kept c l i) :)
@[simp] theorem State.note_waiting : (s.note c l i).waiting = s.waiting := (congrArg State.waiting (s.note_kept c l i) :)
@[simp] theorem State.note_queues : (s.note c l i).queues = s.queues := (congrArg State.queues (s.note_kept c l i) :)
@[simp] theorem State.note_lanes : (s.note c l i).lanes = s.lanes := (congrArg State.lanes (s.note_kept c l i) :)
@[simp] theorem State.note_pmcan : (s.note c l i).pmcan = s.pmcan := (congrArg State.pmcan (s.note_kept c l i) :)
@[simp] theorem State.note_met : (s.note c l i).met = s.met := (congrArg State.met (s.note_kept c l i) :)
@[simp] theorem State.note_nrg : (s.note c l i).nrg = s.nrg := (congrArg State.nrg (s.note_kept c l i) :)
@[simp] theorem State.note_book : (s.note c l i).book = s.book := (congrArg State.book (s.note_kept c l i) :)
@[simp] theorem State.note_abc : (s.note c l i).abc = s.abc := (congrArg State.abc (s.note_kept c l i) :)
@[simp] theorem State.note_keys : (s.note c l i).keys = s.keys := (congrArg State.keys (s.note_kept c l i) :)
@[simp] theorem State.note_link : (s.note c l i).link = s.link := (congrArg State.link (s.note_kept c l i) :)
@[simp] theorem State.note_tok : (s.note c l i).tok = s.tok := (congrArg State.tok (s.note_kept c l i) :)
@[simp] theorem State.note_saf : (s.note c l i).saf = s.saf := (congrArg State.saf (s.note_kept c l i) :)
@[simp] theorem State.note_lsw : (s.note c l i).lsw = s.lsw := (congrArg State.lsw (s.note_kept c l i) :)
@[simp] theorem State.note_pair : (s.note c l i).pair = s.pair := (congrArg State.pair (s.note_kept c l i) :)
@[simp] theorem State.note_line : (s.note c l i).line = s.line := (congrArg State.line (s.note_kept c l i) :)
@[simp] theorem State.note_epd : (s.note c l i).epd = s.epd := (congrArg State.epd (s.note_kept c l i) :)
@[simp] theorem State.note_arb : (s.note c l i).arb = s.arb := (congrArg State.arb (s.note_kept c l i) :)
@[simp] theorem State.note_island : (s.note c l i).island = s.island := (congrArg State.island (s.note_kept c l i) :)
@[simp] theorem State.note_fuses : (s.note c l i).fuses = s.fuses := (congrArg State.fuses (s.note_kept c l i) :)
@[simp] theorem State.note_pending : (s.note c l i).pending = s.pending := (congrArg State.pending (s.note_kept c l i) :)
@[simp] theorem State.note_now : (s.note c l i).now = s.now := (congrArg State.now (s.note_kept c l i) :)
end

section
variable (s : State) (v : Fin 32) (x : Bool)
@[simp] theorem State.pend_htc : (s.pend v x).htc = s.htc := (congrArg State.htc (s.pend_kept v x) :)
@[simp] theorem State.pend_htcLoaded : (s.pend v x).htcLoaded = s.htcLoaded := (congrArg State.htcLoaded (s.pend_kept v x) :)
@[simp] theorem State.pend_outside : (s.pend v x).outside = s.outside := (congrArg State.outside (s.pend_kept v x) :)
@[simp] theorem State.pend_freeCtr : (s.pend v x).freeCtr = s.freeCtr := (congrArg State.freeCtr (s.pend_kept v x) :)
@[simp] theorem State.pend_timers : (s.pend v x).timers = s.timers := (congrArg State.timers (s.pend_kept v x) :)
@[simp] theorem State.pend_cfg : (s.pend v x).cfg = s.cfg := (congrArg State.cfg (s.pend_kept v x) :)
@[simp] theorem State.pend_power : (s.pend v x).power = s.power := (congrArg State.power (s.pend_kept v x) :)
@[simp] theorem State.pend_clocks : (s.pend v x).clocks = s.clocks := (congrArg State.clocks (s.pend_kept v x) :)
@[simp] theorem State.pend_boot : (s.pend v x).boot = s.boot := (congrArg State.boot (s.pend_kept v x) :)
@[simp] theorem State.pend_hostMem : (s.pend v x).hostMem = s.hostMem := (congrArg State.hostMem (s.pend_kept v x) :)
@[simp] theorem State.pend_waiting : (s.pend v x).waiting = s.waiting := (congrArg State.waiting (s.pend_kept v x) :)
@[simp] theorem State.pend_queues : (s.pend v x).queues = s.queues := (congrArg State.queues (s.pend_kept v x) :)
@[simp] theorem State.pend_lanes : (s.pend v x).lanes = s.lanes := (congrArg State.lanes (s.pend_kept v x) :)
@[simp] theorem State.pend_pmcan : (s.pend v x).pmcan = s.pmcan := (congrArg State.pmcan (s.pend_kept v x) :)
@[simp] theorem State.pend_met : (s.pend v x).met = s.met := (congrArg State.met (s.pend_kept v x) :)
@[simp] theorem State.pend_nrg : (s.pend v x).nrg = s.nrg := (congrArg State.nrg (s.pend_kept v x) :)
@[simp] theorem State.pend_book : (s.pend v x).book = s.book := (congrArg State.book (s.pend_kept v x) :)
@[simp] theorem State.pend_abc : (s.pend v x).abc = s.abc := (congrArg State.abc (s.pend_kept v x) :)
@[simp] theorem State.pend_keys : (s.pend v x).keys = s.keys := (congrArg State.keys (s.pend_kept v x) :)
@[simp] theorem State.pend_link : (s.pend v x).link = s.link := (congrArg State.link (s.pend_kept v x) :)
@[simp] theorem State.pend_tok : (s.pend v x).tok = s.tok := (congrArg State.tok (s.pend_kept v x) :)
@[simp] theorem State.pend_saf : (s.pend v x).saf = s.saf := (congrArg State.saf (s.pend_kept v x) :)
@[simp] theorem State.pend_lsw : (s.pend v x).lsw = s.lsw := (congrArg State.lsw (s.pend_kept v x) :)
@[simp] theorem State.pend_pair : (s.pend v x).pair = s.pair := (congrArg State.pair (s.pend_kept v x) :)
@[simp] theorem State.pend_line : (s.pend v x).line = s.line := (congrArg State.line (s.pend_kept v x) :)
@[simp] theorem State.pend_epd : (s.pend v x).epd = s.epd := (congrArg State.epd (s.pend_kept v x) :)
@[simp] theorem State.pend_arb : (s.pend v x).arb = s.arb := (congrArg State.arb (s.pend_kept v x) :)
@[simp] theorem State.pend_island : (s.pend v x).island = s.island := (congrArg State.island (s.pend_kept v x) :)
@[simp] theorem State.pend_fuses : (s.pend v x).fuses = s.fuses := (congrArg State.fuses (s.pend_kept v x) :)
@[simp] theorem State.pend_pending : (s.pend v x).pending = s.pending := (congrArg State.pending (s.pend_kept v x) :)
@[simp] theorem State.pend_now : (s.pend v x).now = s.now := (congrArg State.now (s.pend_kept v x) :)
end

section
variable (s : State) (n : Fin 16) (k : Nat)
@[simp] theorem State.consume_htc : (s.consume n k).htc = s.htc := (congrArg State.htc (s.consume_kept n k) :)
@[simp] theorem State.consume_htcLoaded : (s.consume n k).htcLoaded = s.htcLoaded := (congrArg State.htcLoaded (s.consume_kept n k) :)
@[simp] theorem State.consume_outside : (s.consume n k).outside = s.outside := (congrArg State.outside (s.consume_kept n k) :)
@[simp] theorem State.consume_freeCtr : (s.consume n k).freeCtr = s.freeCtr := (congrArg State.freeCtr (s.consume_kept n k) :)
@[simp] theorem State.consume_timers : (s.consume n k).timers = s.timers := (congrArg State.timers (s.consume_kept n k) :)
@[simp] theorem State.consume_cfg : (s.consume n k).cfg = s.cfg := (congrArg State.cfg (s.consume_kept n k) :)
@[simp] theorem State.consume_power : (s.consume n k).power = s.power := (congrArg State.power (s.consume_kept n k) :)
@[simp] theorem State.consume_clocks : (s.consume n k).clocks = s.clocks := (congrArg State.clocks (s.consume_kept n k) :)
@[simp] theorem State.consume_boot : (s.consume n k).boot = s.boot := (congrArg State.boot (s.consume_kept n k) :)
@[simp] theorem State.consume_hostMem : (s.consume n k).hostMem = s.hostMem := (congrArg State.hostMem (s.consume_kept n k) :)
@[simp] theorem State.consume_waiting : (s.consume n k).waiting = s.waiting := (congrArg State.waiting (s.consume_kept n k) :)
@[simp] theorem State.consume_queues : (s.consume n k).queues = s.queues := (congrArg State.queues (s.consume_kept n k) :)
@[simp] theorem State.consume_lanes : (s.consume n k).lanes = s.lanes := (congrArg State.lanes (s.consume_kept n k) :)
@[simp] theorem State.consume_pmcan : (s.consume n k).pmcan = s.pmcan := (congrArg State.pmcan (s.consume_kept n k) :)
@[simp] theorem State.consume_met : (s.consume n k).met = s.met := (congrArg State.met (s.consume_kept n k) :)
@[simp] theorem State.consume_nrg : (s.consume n k).nrg = s.nrg := (congrArg State.nrg (s.consume_kept n k) :)
@[simp] theorem State.consume_book : (s.consume n k).book = s.book := (congrArg State.book (s.consume_kept n k) :)
@[simp] theorem State.consume_abc : (s.consume n k).abc = s.abc := (congrArg State.abc (s.consume_kept n k) :)
@[simp] theorem State.consume_keys : (s.consume n k).keys = s.keys := (congrArg State.keys (s.consume_kept n k) :)
@[simp] theorem State.consume_link : (s.consume n k).link = s.link := (congrArg State.link (s.consume_kept n k) :)
@[simp] theorem State.consume_tok : (s.consume n k).tok = s.tok := (congrArg State.tok (s.consume_kept n k) :)
@[simp] theorem State.consume_saf : (s.consume n k).saf = s.saf := (congrArg State.saf (s.consume_kept n k) :)
@[simp] theorem State.consume_lsw : (s.consume n k).lsw = s.lsw := (congrArg State.lsw (s.consume_kept n k) :)
@[simp] theorem State.consume_pair : (s.consume n k).pair = s.pair := (congrArg State.pair (s.consume_kept n k) :)
@[simp] theorem State.consume_line : (s.consume n k).line = s.line := (congrArg State.line (s.consume_kept n k) :)
@[simp] theorem State.consume_epd : (s.consume n k).epd = s.epd := (congrArg State.epd (s.consume_kept n k) :)
@[simp] theorem State.consume_arb : (s.consume n k).arb = s.arb := (congrArg State.arb (s.consume_kept n k) :)
@[simp] theorem State.consume_island : (s.consume n k).island = s.island := (congrArg State.island (s.consume_kept n k) :)
@[simp] theorem State.consume_fuses : (s.consume n k).fuses = s.fuses := (congrArg State.fuses (s.consume_kept n k) :)
@[simp] theorem State.consume_pending : (s.consume n k).pending = s.pending := (congrArg State.pending (s.consume_kept n k) :)
@[simp] theorem State.consume_now : (s.consume n k).now = s.now := (congrArg State.now (s.consume_kept n k) :)
end

section
variable (s : State) (x : ErrReg) (i : Nat)
@[simp] theorem State.setErr_htc : (s.setErr x i).htc = s.htc := (congrArg State.htc (s.setErr_kept x i) :)
@[simp] theorem State.setErr_htcLoaded : (s.setErr x i).htcLoaded = s.htcLoaded := (congrArg State.htcLoaded (s.setErr_kept x i) :)
@[simp] theorem State.setErr_outside : (s.setErr x i).outside = s.outside := (congrArg State.outside (s.setErr_kept x i) :)
@[simp] theorem State.setErr_freeCtr : (s.setErr x i).freeCtr = s.freeCtr := (congrArg State.freeCtr (s.setErr_kept x i) :)
@[simp] theorem State.setErr_timers : (s.setErr x i).timers = s.timers := (congrArg State.timers (s.setErr_kept x i) :)
@[simp] theorem State.setErr_cfg : (s.setErr x i).cfg = s.cfg := (congrArg State.cfg (s.setErr_kept x i) :)
@[simp] theorem State.setErr_power : (s.setErr x i).power = s.power := (congrArg State.power (s.setErr_kept x i) :)
@[simp] theorem State.setErr_clocks : (s.setErr x i).clocks = s.clocks := (congrArg State.clocks (s.setErr_kept x i) :)
@[simp] theorem State.setErr_boot : (s.setErr x i).boot = s.boot := (congrArg State.boot (s.setErr_kept x i) :)
@[simp] theorem State.setErr_hostMem : (s.setErr x i).hostMem = s.hostMem := (congrArg State.hostMem (s.setErr_kept x i) :)
@[simp] theorem State.setErr_waiting : (s.setErr x i).waiting = s.waiting := (congrArg State.waiting (s.setErr_kept x i) :)
@[simp] theorem State.setErr_queues : (s.setErr x i).queues = s.queues := (congrArg State.queues (s.setErr_kept x i) :)
@[simp] theorem State.setErr_lanes : (s.setErr x i).lanes = s.lanes := (congrArg State.lanes (s.setErr_kept x i) :)
@[simp] theorem State.setErr_pmcan : (s.setErr x i).pmcan = s.pmcan := (congrArg State.pmcan (s.setErr_kept x i) :)
@[simp] theorem State.setErr_met : (s.setErr x i).met = s.met := (congrArg State.met (s.setErr_kept x i) :)
@[simp] theorem State.setErr_nrg : (s.setErr x i).nrg = s.nrg := (congrArg State.nrg (s.setErr_kept x i) :)
@[simp] theorem State.setErr_book : (s.setErr x i).book = s.book := (congrArg State.book (s.setErr_kept x i) :)
@[simp] theorem State.setErr_abc : (s.setErr x i).abc = s.abc := (congrArg State.abc (s.setErr_kept x i) :)
@[simp] theorem State.setErr_keys : (s.setErr x i).keys = s.keys := (congrArg State.keys (s.setErr_kept x i) :)
@[simp] theorem State.setErr_link : (s.setErr x i).link = s.link := (congrArg State.link (s.setErr_kept x i) :)
@[simp] theorem State.setErr_tok : (s.setErr x i).tok = s.tok := (congrArg State.tok (s.setErr_kept x i) :)
@[simp] theorem State.setErr_saf : (s.setErr x i).saf = s.saf := (congrArg State.saf (s.setErr_kept x i) :)
@[simp] theorem State.setErr_lsw : (s.setErr x i).lsw = s.lsw := (congrArg State.lsw (s.setErr_kept x i) :)
@[simp] theorem State.setErr_pair : (s.setErr x i).pair = s.pair := (congrArg State.pair (s.setErr_kept x i) :)
@[simp] theorem State.setErr_line : (s.setErr x i).line = s.line := (congrArg State.line (s.setErr_kept x i) :)
@[simp] theorem State.setErr_epd : (s.setErr x i).epd = s.epd := (congrArg State.epd (s.setErr_kept x i) :)
@[simp] theorem State.setErr_arb : (s.setErr x i).arb = s.arb := (congrArg State.arb (s.setErr_kept x i) :)
@[simp] theorem State.setErr_island : (s.setErr x i).island = s.island := (congrArg State.island (s.setErr_kept x i) :)
@[simp] theorem State.setErr_fuses : (s.setErr x i).fuses = s.fuses := (congrArg State.fuses (s.setErr_kept x i) :)
@[simp] theorem State.setErr_pending : (s.setErr x i).pending = s.pending := (congrArg State.pending (s.setErr_kept x i) :)
@[simp] theorem State.setErr_now : (s.setErr x i).now = s.now := (congrArg State.now (s.setErr_kept x i) :)
end

section
variable (s : State) (n : Fin 16) (o u t i : Nat) (p : Bytes)
@[simp] theorem State.emit_htc : (s.emit n o u t i p).htc = s.htc := (congrArg State.htc (s.emit_kept n o u t i p) :)
@[simp] theorem State.emit_htcLoaded : (s.emit n o u t i p).htcLoaded = s.htcLoaded := (congrArg State.htcLoaded (s.emit_kept n o u t i p) :)
@[simp] theorem State.emit_outside : (s.emit n o u t i p).outside = s.outside := (congrArg State.outside (s.emit_kept n o u t i p) :)
@[simp] theorem State.emit_freeCtr : (s.emit n o u t i p).freeCtr = s.freeCtr := (congrArg State.freeCtr (s.emit_kept n o u t i p) :)
@[simp] theorem State.emit_timers : (s.emit n o u t i p).timers = s.timers := (congrArg State.timers (s.emit_kept n o u t i p) :)
@[simp] theorem State.emit_cfg : (s.emit n o u t i p).cfg = s.cfg := (congrArg State.cfg (s.emit_kept n o u t i p) :)
@[simp] theorem State.emit_power : (s.emit n o u t i p).power = s.power := (congrArg State.power (s.emit_kept n o u t i p) :)
@[simp] theorem State.emit_clocks : (s.emit n o u t i p).clocks = s.clocks := (congrArg State.clocks (s.emit_kept n o u t i p) :)
@[simp] theorem State.emit_boot : (s.emit n o u t i p).boot = s.boot := (congrArg State.boot (s.emit_kept n o u t i p) :)
@[simp] theorem State.emit_hostMem : (s.emit n o u t i p).hostMem = s.hostMem := (congrArg State.hostMem (s.emit_kept n o u t i p) :)
@[simp] theorem State.emit_waiting : (s.emit n o u t i p).waiting = s.waiting := (congrArg State.waiting (s.emit_kept n o u t i p) :)
@[simp] theorem State.emit_queues : (s.emit n o u t i p).queues = s.queues := (congrArg State.queues (s.emit_kept n o u t i p) :)
@[simp] theorem State.emit_lanes : (s.emit n o u t i p).lanes = s.lanes := (congrArg State.lanes (s.emit_kept n o u t i p) :)
@[simp] theorem State.emit_pmcan : (s.emit n o u t i p).pmcan = s.pmcan := (congrArg State.pmcan (s.emit_kept n o u t i p) :)
@[simp] theorem State.emit_met : (s.emit n o u t i p).met = s.met := (congrArg State.met (s.emit_kept n o u t i p) :)
@[simp] theorem State.emit_nrg : (s.emit n o u t i p).nrg = s.nrg := (congrArg State.nrg (s.emit_kept n o u t i p) :)
@[simp] theorem State.emit_book : (s.emit n o u t i p).book = s.book := (congrArg State.book (s.emit_kept n o u t i p) :)
@[simp] theorem State.emit_abc : (s.emit n o u t i p).abc = s.abc := (congrArg State.abc (s.emit_kept n o u t i p) :)
@[simp] theorem State.emit_keys : (s.emit n o u t i p).keys = s.keys := (congrArg State.keys (s.emit_kept n o u t i p) :)
@[simp] theorem State.emit_link : (s.emit n o u t i p).link = s.link := (congrArg State.link (s.emit_kept n o u t i p) :)
@[simp] theorem State.emit_tok : (s.emit n o u t i p).tok = s.tok := (congrArg State.tok (s.emit_kept n o u t i p) :)
@[simp] theorem State.emit_saf : (s.emit n o u t i p).saf = s.saf := (congrArg State.saf (s.emit_kept n o u t i p) :)
@[simp] theorem State.emit_lsw : (s.emit n o u t i p).lsw = s.lsw := (congrArg State.lsw (s.emit_kept n o u t i p) :)
@[simp] theorem State.emit_pair : (s.emit n o u t i p).pair = s.pair := (congrArg State.pair (s.emit_kept n o u t i p) :)
@[simp] theorem State.emit_line : (s.emit n o u t i p).line = s.line := (congrArg State.line (s.emit_kept n o u t i p) :)
@[simp] theorem State.emit_epd : (s.emit n o u t i p).epd = s.epd := (congrArg State.epd (s.emit_kept n o u t i p) :)
@[simp] theorem State.emit_arb : (s.emit n o u t i p).arb = s.arb := (congrArg State.arb (s.emit_kept n o u t i p) :)
@[simp] theorem State.emit_island : (s.emit n o u t i p).island = s.island := (congrArg State.island (s.emit_kept n o u t i p) :)
@[simp] theorem State.emit_fuses : (s.emit n o u t i p).fuses = s.fuses := (congrArg State.fuses (s.emit_kept n o u t i p) :)
@[simp] theorem State.emit_pending : (s.emit n o u t i p).pending = s.pending := (congrArg State.pending (s.emit_kept n o u t i p) :)
@[simp] theorem State.emit_now : (s.emit n o u t i p).now = s.now := (congrArg State.now (s.emit_kept n o u t i p) :)
end

section
variable (s : State) (n o : Nat) (y : Desc) (k t i : Nat) (p : Bytes)
@[simp] theorem State.answer_htc : (s.answer n o y k t i p).htc = s.htc := (congrArg State.htc (s.answer_kept n o y k t i p) :)
@[simp] theorem State.answer_htcLoaded : (s.answer n o y k t i p).htcLoaded = s.htcLoaded := (congrArg State.htcLoaded (s.answer_kept n o y k t i p) :)
@[simp] theorem State.answer_outside : (s.answer n o y k t i p).outside = s.outside := (congrArg State.outside (s.answer_kept n o y k t i p) :)
@[simp] theorem State.answer_freeCtr : (s.answer n o y k t i p).freeCtr = s.freeCtr := (congrArg State.freeCtr (s.answer_kept n o y k t i p) :)
@[simp] theorem State.answer_timers : (s.answer n o y k t i p).timers = s.timers := (congrArg State.timers (s.answer_kept n o y k t i p) :)
@[simp] theorem State.answer_cfg : (s.answer n o y k t i p).cfg = s.cfg := (congrArg State.cfg (s.answer_kept n o y k t i p) :)
@[simp] theorem State.answer_power : (s.answer n o y k t i p).power = s.power := (congrArg State.power (s.answer_kept n o y k t i p) :)
@[simp] theorem State.answer_clocks : (s.answer n o y k t i p).clocks = s.clocks := (congrArg State.clocks (s.answer_kept n o y k t i p) :)
@[simp] theorem State.answer_boot : (s.answer n o y k t i p).boot = s.boot := (congrArg State.boot (s.answer_kept n o y k t i p) :)
@[simp] theorem State.answer_hostMem : (s.answer n o y k t i p).hostMem = s.hostMem := (congrArg State.hostMem (s.answer_kept n o y k t i p) :)
@[simp] theorem State.answer_waiting : (s.answer n o y k t i p).waiting = s.waiting := (congrArg State.waiting (s.answer_kept n o y k t i p) :)
@[simp] theorem State.answer_queues : (s.answer n o y k t i p).queues = s.queues := (congrArg State.queues (s.answer_kept n o y k t i p) :)
@[simp] theorem State.answer_lanes : (s.answer n o y k t i p).lanes = s.lanes := (congrArg State.lanes (s.answer_kept n o y k t i p) :)
@[simp] theorem State.answer_pmcan : (s.answer n o y k t i p).pmcan = s.pmcan := (congrArg State.pmcan (s.answer_kept n o y k t i p) :)
@[simp] theorem State.answer_met : (s.answer n o y k t i p).met = s.met := (congrArg State.met (s.answer_kept n o y k t i p) :)
@[simp] theorem State.answer_nrg : (s.answer n o y k t i p).nrg = s.nrg := (congrArg State.nrg (s.answer_kept n o y k t i p) :)
@[simp] theorem State.answer_book : (s.answer n o y k t i p).book = s.book := (congrArg State.book (s.answer_kept n o y k t i p) :)
@[simp] theorem State.answer_abc : (s.answer n o y k t i p).abc = s.abc := (congrArg State.abc (s.answer_kept n o y k t i p) :)
@[simp] theorem State.answer_keys : (s.answer n o y k t i p).keys = s.keys := (congrArg State.keys (s.answer_kept n o y k t i p) :)
@[simp] theorem State.answer_link : (s.answer n o y k t i p).link = s.link := (congrArg State.link (s.answer_kept n o y k t i p) :)
@[simp] theorem State.answer_tok : (s.answer n o y k t i p).tok = s.tok := (congrArg State.tok (s.answer_kept n o y k t i p) :)
@[simp] theorem State.answer_saf : (s.answer n o y k t i p).saf = s.saf := (congrArg State.saf (s.answer_kept n o y k t i p) :)
@[simp] theorem State.answer_lsw : (s.answer n o y k t i p).lsw = s.lsw := (congrArg State.lsw (s.answer_kept n o y k t i p) :)
@[simp] theorem State.answer_pair : (s.answer n o y k t i p).pair = s.pair := (congrArg State.pair (s.answer_kept n o y k t i p) :)
@[simp] theorem State.answer_line : (s.answer n o y k t i p).line = s.line := (congrArg State.line (s.answer_kept n o y k t i p) :)
@[simp] theorem State.answer_epd : (s.answer n o y k t i p).epd = s.epd := (congrArg State.epd (s.answer_kept n o y k t i p) :)
@[simp] theorem State.answer_arb : (s.answer n o y k t i p).arb = s.arb := (congrArg State.arb (s.answer_kept n o y k t i p) :)
@[simp] theorem State.answer_island : (s.answer n o y k t i p).island = s.island := (congrArg State.island (s.answer_kept n o y k t i p) :)
@[simp] theorem State.answer_fuses : (s.answer n o y k t i p).fuses = s.fuses := (congrArg State.fuses (s.answer_kept n o y k t i p) :)
@[simp] theorem State.answer_pending : (s.answer n o y k t i p).pending = s.pending := (congrArg State.pending (s.answer_kept n o y k t i p) :)
@[simp] theorem State.answer_now : (s.answer n o y k t i p).now = s.now := (congrArg State.now (s.answer_kept n o y k t i p) :)
end

section
variable (s : State) (y : Flight) (k t i : Nat) (p : Bytes)
@[simp] theorem State.settleFlight_htc : (s.settleFlight y k t i p).htc = s.htc := (congrArg State.htc (s.settleFlight_kept y k t i p) :)
@[simp] theorem State.settleFlight_htcLoaded : (s.settleFlight y k t i p).htcLoaded = s.htcLoaded := (congrArg State.htcLoaded (s.settleFlight_kept y k t i p) :)
@[simp] theorem State.settleFlight_outside : (s.settleFlight y k t i p).outside = s.outside := (congrArg State.outside (s.settleFlight_kept y k t i p) :)
@[simp] theorem State.settleFlight_freeCtr : (s.settleFlight y k t i p).freeCtr = s.freeCtr := (congrArg State.freeCtr (s.settleFlight_kept y k t i p) :)
@[simp] theorem State.settleFlight_timers : (s.settleFlight y k t i p).timers = s.timers := (congrArg State.timers (s.settleFlight_kept y k t i p) :)
@[simp] theorem State.settleFlight_cfg : (s.settleFlight y k t i p).cfg = s.cfg := (congrArg State.cfg (s.settleFlight_kept y k t i p) :)
@[simp] theorem State.settleFlight_power : (s.settleFlight y k t i p).power = s.power := (congrArg State.power (s.settleFlight_kept y k t i p) :)
@[simp] theorem State.settleFlight_clocks : (s.settleFlight y k t i p).clocks = s.clocks := (congrArg State.clocks (s.settleFlight_kept y k t i p) :)
@[simp] theorem State.settleFlight_boot : (s.settleFlight y k t i p).boot = s.boot := (congrArg State.boot (s.settleFlight_kept y k t i p) :)
@[simp] theorem State.settleFlight_hostMem : (s.settleFlight y k t i p).hostMem = s.hostMem := (congrArg State.hostMem (s.settleFlight_kept y k t i p) :)
@[simp] theorem State.settleFlight_waiting : (s.settleFlight y k t i p).waiting = s.waiting := (congrArg State.waiting (s.settleFlight_kept y k t i p) :)
@[simp] theorem State.settleFlight_queues : (s.settleFlight y k t i p).queues = s.queues := (congrArg State.queues (s.settleFlight_kept y k t i p) :)
@[simp] theorem State.settleFlight_lanes : (s.settleFlight y k t i p).lanes = s.lanes := (congrArg State.lanes (s.settleFlight_kept y k t i p) :)
@[simp] theorem State.settleFlight_pmcan : (s.settleFlight y k t i p).pmcan = s.pmcan := (congrArg State.pmcan (s.settleFlight_kept y k t i p) :)
@[simp] theorem State.settleFlight_met : (s.settleFlight y k t i p).met = s.met := (congrArg State.met (s.settleFlight_kept y k t i p) :)
@[simp] theorem State.settleFlight_nrg : (s.settleFlight y k t i p).nrg = s.nrg := (congrArg State.nrg (s.settleFlight_kept y k t i p) :)
@[simp] theorem State.settleFlight_book : (s.settleFlight y k t i p).book = s.book := (congrArg State.book (s.settleFlight_kept y k t i p) :)
@[simp] theorem State.settleFlight_abc : (s.settleFlight y k t i p).abc = s.abc := (congrArg State.abc (s.settleFlight_kept y k t i p) :)
@[simp] theorem State.settleFlight_keys : (s.settleFlight y k t i p).keys = s.keys := (congrArg State.keys (s.settleFlight_kept y k t i p) :)
@[simp] theorem State.settleFlight_link : (s.settleFlight y k t i p).link = s.link := (congrArg State.link (s.settleFlight_kept y k t i p) :)
@[simp] theorem State.settleFlight_tok : (s.settleFlight y k t i p).tok = s.tok := (congrArg State.tok (s.settleFlight_kept y k t i p) :)
@[simp] theorem State.settleFlight_saf : (s.settleFlight y k t i p).saf = s.saf := (congrArg State.saf (s.settleFlight_kept y k t i p) :)
@[simp] theorem State.settleFlight_lsw : (s.settleFlight y k t i p).lsw = s.lsw := (congrArg State.lsw (s.settleFlight_kept y k t i p) :)
@[simp] theorem State.settleFlight_pair : (s.settleFlight y k t i p).pair = s.pair := (congrArg State.pair (s.settleFlight_kept y k t i p) :)
@[simp] theorem State.settleFlight_line : (s.settleFlight y k t i p).line = s.line := (congrArg State.line (s.settleFlight_kept y k t i p) :)
@[simp] theorem State.settleFlight_epd : (s.settleFlight y k t i p).epd = s.epd := (congrArg State.epd (s.settleFlight_kept y k t i p) :)
@[simp] theorem State.settleFlight_arb : (s.settleFlight y k t i p).arb = s.arb := (congrArg State.arb (s.settleFlight_kept y k t i p) :)
@[simp] theorem State.settleFlight_island : (s.settleFlight y k t i p).island = s.island := (congrArg State.island (s.settleFlight_kept y k t i p) :)
@[simp] theorem State.settleFlight_fuses : (s.settleFlight y k t i p).fuses = s.fuses := (congrArg State.fuses (s.settleFlight_kept y k t i p) :)
@[simp] theorem State.settleFlight_pending : (s.settleFlight y k t i p).pending = s.pending := (congrArg State.pending (s.settleFlight_kept y k t i p) :)
@[simp] theorem State.settleFlight_now : (s.settleFlight y k t i p).now = s.now := (congrArg State.now (s.settleFlight_kept y k t i p) :)
end

section
variable (s : State) (k : Nat) (p : Bytes)
@[simp] theorem State.legal_htc : (s.legal k p).htc = s.htc := (congrArg State.htc (s.legal_kept k p) :)
@[simp] theorem State.legal_htcLoaded : (s.legal k p).htcLoaded = s.htcLoaded := (congrArg State.htcLoaded (s.legal_kept k p) :)
@[simp] theorem State.legal_outside : (s.legal k p).outside = s.outside := (congrArg State.outside (s.legal_kept k p) :)
@[simp] theorem State.legal_freeCtr : (s.legal k p).freeCtr = s.freeCtr := (congrArg State.freeCtr (s.legal_kept k p) :)
@[simp] theorem State.legal_timers : (s.legal k p).timers = s.timers := (congrArg State.timers (s.legal_kept k p) :)
@[simp] theorem State.legal_cfg : (s.legal k p).cfg = s.cfg := (congrArg State.cfg (s.legal_kept k p) :)
@[simp] theorem State.legal_power : (s.legal k p).power = s.power := (congrArg State.power (s.legal_kept k p) :)
@[simp] theorem State.legal_clocks : (s.legal k p).clocks = s.clocks := (congrArg State.clocks (s.legal_kept k p) :)
@[simp] theorem State.legal_boot : (s.legal k p).boot = s.boot := (congrArg State.boot (s.legal_kept k p) :)
@[simp] theorem State.legal_hostMem : (s.legal k p).hostMem = s.hostMem := (congrArg State.hostMem (s.legal_kept k p) :)
@[simp] theorem State.legal_waiting : (s.legal k p).waiting = s.waiting := (congrArg State.waiting (s.legal_kept k p) :)
@[simp] theorem State.legal_queues : (s.legal k p).queues = s.queues := (congrArg State.queues (s.legal_kept k p) :)
@[simp] theorem State.legal_lanes : (s.legal k p).lanes = s.lanes := (congrArg State.lanes (s.legal_kept k p) :)
@[simp] theorem State.legal_pmcan : (s.legal k p).pmcan = s.pmcan := (congrArg State.pmcan (s.legal_kept k p) :)
@[simp] theorem State.legal_met : (s.legal k p).met = s.met := (congrArg State.met (s.legal_kept k p) :)
@[simp] theorem State.legal_nrg : (s.legal k p).nrg = s.nrg := (congrArg State.nrg (s.legal_kept k p) :)
@[simp] theorem State.legal_book : (s.legal k p).book = s.book := (congrArg State.book (s.legal_kept k p) :)
@[simp] theorem State.legal_abc : (s.legal k p).abc = s.abc := (congrArg State.abc (s.legal_kept k p) :)
@[simp] theorem State.legal_keys : (s.legal k p).keys = s.keys := (congrArg State.keys (s.legal_kept k p) :)
@[simp] theorem State.legal_link : (s.legal k p).link = s.link := (congrArg State.link (s.legal_kept k p) :)
@[simp] theorem State.legal_tok : (s.legal k p).tok = s.tok := (congrArg State.tok (s.legal_kept k p) :)
@[simp] theorem State.legal_saf : (s.legal k p).saf = s.saf := (congrArg State.saf (s.legal_kept k p) :)
@[simp] theorem State.legal_lsw : (s.legal k p).lsw = s.lsw := (congrArg State.lsw (s.legal_kept k p) :)
@[simp] theorem State.legal_pair : (s.legal k p).pair = s.pair := (congrArg State.pair (s.legal_kept k p) :)
@[simp] theorem State.legal_line : (s.legal k p).line = s.line := (congrArg State.line (s.legal_kept k p) :)
@[simp] theorem State.legal_epd : (s.legal k p).epd = s.epd := (congrArg State.epd (s.legal_kept k p) :)
@[simp] theorem State.legal_arb : (s.legal k p).arb = s.arb := (congrArg State.arb (s.legal_kept k p) :)
@[simp] theorem State.legal_island : (s.legal k p).island = s.island := (congrArg State.island (s.legal_kept k p) :)
@[simp] theorem State.legal_fuses : (s.legal k p).fuses = s.fuses := (congrArg State.fuses (s.legal_kept k p) :)
@[simp] theorem State.legal_pending : (s.legal k p).pending = s.pending := (congrArg State.pending (s.legal_kept k p) :)
@[simp] theorem State.legal_now : (s.legal k p).now = s.now := (congrArg State.now (s.legal_kept k p) :)
end

section
variable (s : State) (p k v l : Nat) (x : Bytes)
@[simp] theorem State.event_htc : (s.event p k v l x).htc = s.htc := (congrArg State.htc (s.event_kept p k v l x) :)
@[simp] theorem State.event_htcLoaded : (s.event p k v l x).htcLoaded = s.htcLoaded := (congrArg State.htcLoaded (s.event_kept p k v l x) :)
@[simp] theorem State.event_outside : (s.event p k v l x).outside = s.outside := (congrArg State.outside (s.event_kept p k v l x) :)
@[simp] theorem State.event_freeCtr : (s.event p k v l x).freeCtr = s.freeCtr := (congrArg State.freeCtr (s.event_kept p k v l x) :)
@[simp] theorem State.event_timers : (s.event p k v l x).timers = s.timers := (congrArg State.timers (s.event_kept p k v l x) :)
@[simp] theorem State.event_cfg : (s.event p k v l x).cfg = s.cfg := (congrArg State.cfg (s.event_kept p k v l x) :)
@[simp] theorem State.event_power : (s.event p k v l x).power = s.power := (congrArg State.power (s.event_kept p k v l x) :)
@[simp] theorem State.event_clocks : (s.event p k v l x).clocks = s.clocks := (congrArg State.clocks (s.event_kept p k v l x) :)
@[simp] theorem State.event_boot : (s.event p k v l x).boot = s.boot := (congrArg State.boot (s.event_kept p k v l x) :)
@[simp] theorem State.event_hostMem : (s.event p k v l x).hostMem = s.hostMem := (congrArg State.hostMem (s.event_kept p k v l x) :)
@[simp] theorem State.event_waiting : (s.event p k v l x).waiting = s.waiting := (congrArg State.waiting (s.event_kept p k v l x) :)
@[simp] theorem State.event_queues : (s.event p k v l x).queues = s.queues := (congrArg State.queues (s.event_kept p k v l x) :)
@[simp] theorem State.event_lanes : (s.event p k v l x).lanes = s.lanes := (congrArg State.lanes (s.event_kept p k v l x) :)
@[simp] theorem State.event_pmcan : (s.event p k v l x).pmcan = s.pmcan := (congrArg State.pmcan (s.event_kept p k v l x) :)
@[simp] theorem State.event_met : (s.event p k v l x).met = s.met := (congrArg State.met (s.event_kept p k v l x) :)
@[simp] theorem State.event_nrg : (s.event p k v l x).nrg = s.nrg := (congrArg State.nrg (s.event_kept p k v l x) :)
@[simp] theorem State.event_book : (s.event p k v l x).book = s.book := (congrArg State.book (s.event_kept p k v l x) :)
@[simp] theorem State.event_abc : (s.event p k v l x).abc = s.abc := (congrArg State.abc (s.event_kept p k v l x) :)
@[simp] theorem State.event_keys : (s.event p k v l x).keys = s.keys := (congrArg State.keys (s.event_kept p k v l x) :)
@[simp] theorem State.event_link : (s.event p k v l x).link = s.link := (congrArg State.link (s.event_kept p k v l x) :)
@[simp] theorem State.event_tok : (s.event p k v l x).tok = s.tok := (congrArg State.tok (s.event_kept p k v l x) :)
@[simp] theorem State.event_saf : (s.event p k v l x).saf = s.saf := (congrArg State.saf (s.event_kept p k v l x) :)
@[simp] theorem State.event_lsw : (s.event p k v l x).lsw = s.lsw := (congrArg State.lsw (s.event_kept p k v l x) :)
@[simp] theorem State.event_pair : (s.event p k v l x).pair = s.pair := (congrArg State.pair (s.event_kept p k v l x) :)
@[simp] theorem State.event_line : (s.event p k v l x).line = s.line := (congrArg State.line (s.event_kept p k v l x) :)
@[simp] theorem State.event_epd : (s.event p k v l x).epd = s.epd := (congrArg State.epd (s.event_kept p k v l x) :)
@[simp] theorem State.event_arb : (s.event p k v l x).arb = s.arb := (congrArg State.arb (s.event_kept p k v l x) :)
@[simp] theorem State.event_island : (s.event p k v l x).island = s.island := (congrArg State.island (s.event_kept p k v l x) :)
@[simp] theorem State.event_fuses : (s.event p k v l x).fuses = s.fuses := (congrArg State.fuses (s.event_kept p k v l x) :)
@[simp] theorem State.event_pending : (s.event p k v l x).pending = s.pending := (congrArg State.pending (s.event_kept p k v l x) :)
@[simp] theorem State.event_now : (s.event p k v l x).now = s.now := (congrArg State.now (s.event_kept p k v l x) :)
end

section
variable (s : State) (p u : Nat)
@[simp] theorem State.memberDone_htc : (s.memberDone p u).htc = s.htc := (congrArg State.htc (s.memberDone_kept p u) :)
@[simp] theorem State.memberDone_htcLoaded : (s.memberDone p u).htcLoaded = s.htcLoaded := (congrArg State.htcLoaded (s.memberDone_kept p u) :)
@[simp] theorem State.memberDone_outside : (s.memberDone p u).outside = s.outside := (congrArg State.outside (s.memberDone_kept p u) :)
@[simp] theorem State.memberDone_freeCtr : (s.memberDone p u).freeCtr = s.freeCtr := (congrArg State.freeCtr (s.memberDone_kept p u) :)
@[simp] theorem State.memberDone_timers : (s.memberDone p u).timers = s.timers := (congrArg State.timers (s.memberDone_kept p u) :)
@[simp] theorem State.memberDone_cfg : (s.memberDone p u).cfg = s.cfg := (congrArg State.cfg (s.memberDone_kept p u) :)
@[simp] theorem State.memberDone_power : (s.memberDone p u).power = s.power := (congrArg State.power (s.memberDone_kept p u) :)
@[simp] theorem State.memberDone_clocks : (s.memberDone p u).clocks = s.clocks := (congrArg State.clocks (s.memberDone_kept p u) :)
@[simp] theorem State.memberDone_boot : (s.memberDone p u).boot = s.boot := (congrArg State.boot (s.memberDone_kept p u) :)
@[simp] theorem State.memberDone_hostMem : (s.memberDone p u).hostMem = s.hostMem := (congrArg State.hostMem (s.memberDone_kept p u) :)
@[simp] theorem State.memberDone_waiting : (s.memberDone p u).waiting = s.waiting := (congrArg State.waiting (s.memberDone_kept p u) :)
@[simp] theorem State.memberDone_queues : (s.memberDone p u).queues = s.queues := (congrArg State.queues (s.memberDone_kept p u) :)
@[simp] theorem State.memberDone_lanes : (s.memberDone p u).lanes = s.lanes := (congrArg State.lanes (s.memberDone_kept p u) :)
@[simp] theorem State.memberDone_pmcan : (s.memberDone p u).pmcan = s.pmcan := (congrArg State.pmcan (s.memberDone_kept p u) :)
@[simp] theorem State.memberDone_met : (s.memberDone p u).met = s.met := (congrArg State.met (s.memberDone_kept p u) :)
@[simp] theorem State.memberDone_nrg : (s.memberDone p u).nrg = s.nrg := (congrArg State.nrg (s.memberDone_kept p u) :)
@[simp] theorem State.memberDone_book : (s.memberDone p u).book = s.book := (congrArg State.book (s.memberDone_kept p u) :)
@[simp] theorem State.memberDone_abc : (s.memberDone p u).abc = s.abc := (congrArg State.abc (s.memberDone_kept p u) :)
@[simp] theorem State.memberDone_keys : (s.memberDone p u).keys = s.keys := (congrArg State.keys (s.memberDone_kept p u) :)
@[simp] theorem State.memberDone_link : (s.memberDone p u).link = s.link := (congrArg State.link (s.memberDone_kept p u) :)
@[simp] theorem State.memberDone_tok : (s.memberDone p u).tok = s.tok := (congrArg State.tok (s.memberDone_kept p u) :)
@[simp] theorem State.memberDone_saf : (s.memberDone p u).saf = s.saf := (congrArg State.saf (s.memberDone_kept p u) :)
@[simp] theorem State.memberDone_lsw : (s.memberDone p u).lsw = s.lsw := (congrArg State.lsw (s.memberDone_kept p u) :)
@[simp] theorem State.memberDone_pair : (s.memberDone p u).pair = s.pair := (congrArg State.pair (s.memberDone_kept p u) :)
@[simp] theorem State.memberDone_line : (s.memberDone p u).line = s.line := (congrArg State.line (s.memberDone_kept p u) :)
@[simp] theorem State.memberDone_epd : (s.memberDone p u).epd = s.epd := (congrArg State.epd (s.memberDone_kept p u) :)
@[simp] theorem State.memberDone_arb : (s.memberDone p u).arb = s.arb := (congrArg State.arb (s.memberDone_kept p u) :)
@[simp] theorem State.memberDone_island : (s.memberDone p u).island = s.island := (congrArg State.island (s.memberDone_kept p u) :)
@[simp] theorem State.memberDone_fuses : (s.memberDone p u).fuses = s.fuses := (congrArg State.fuses (s.memberDone_kept p u) :)
@[simp] theorem State.memberDone_pending : (s.memberDone p u).pending = s.pending := (congrArg State.pending (s.memberDone_kept p u) :)
@[simp] theorem State.memberDone_now : (s.memberDone p u).now = s.now := (congrArg State.now (s.memberDone_kept p u) :)
end

section
variable (s : State) (p u k : Nat) (y : Bool)
@[simp] theorem State.memberFail_htc : (s.memberFail p u k y).htc = s.htc := (congrArg State.htc (s.memberFail_kept p u k y) :)
@[simp] theorem State.memberFail_htcLoaded : (s.memberFail p u k y).htcLoaded = s.htcLoaded := (congrArg State.htcLoaded (s.memberFail_kept p u k y) :)
@[simp] theorem State.memberFail_outside : (s.memberFail p u k y).outside = s.outside := (congrArg State.outside (s.memberFail_kept p u k y) :)
@[simp] theorem State.memberFail_freeCtr : (s.memberFail p u k y).freeCtr = s.freeCtr := (congrArg State.freeCtr (s.memberFail_kept p u k y) :)
@[simp] theorem State.memberFail_timers : (s.memberFail p u k y).timers = s.timers := (congrArg State.timers (s.memberFail_kept p u k y) :)
@[simp] theorem State.memberFail_cfg : (s.memberFail p u k y).cfg = s.cfg := (congrArg State.cfg (s.memberFail_kept p u k y) :)
@[simp] theorem State.memberFail_power : (s.memberFail p u k y).power = s.power := (congrArg State.power (s.memberFail_kept p u k y) :)
@[simp] theorem State.memberFail_clocks : (s.memberFail p u k y).clocks = s.clocks := (congrArg State.clocks (s.memberFail_kept p u k y) :)
@[simp] theorem State.memberFail_boot : (s.memberFail p u k y).boot = s.boot := (congrArg State.boot (s.memberFail_kept p u k y) :)
@[simp] theorem State.memberFail_hostMem : (s.memberFail p u k y).hostMem = s.hostMem := (congrArg State.hostMem (s.memberFail_kept p u k y) :)
@[simp] theorem State.memberFail_waiting : (s.memberFail p u k y).waiting = s.waiting := (congrArg State.waiting (s.memberFail_kept p u k y) :)
@[simp] theorem State.memberFail_queues : (s.memberFail p u k y).queues = s.queues := (congrArg State.queues (s.memberFail_kept p u k y) :)
@[simp] theorem State.memberFail_lanes : (s.memberFail p u k y).lanes = s.lanes := (congrArg State.lanes (s.memberFail_kept p u k y) :)
@[simp] theorem State.memberFail_pmcan : (s.memberFail p u k y).pmcan = s.pmcan := (congrArg State.pmcan (s.memberFail_kept p u k y) :)
@[simp] theorem State.memberFail_met : (s.memberFail p u k y).met = s.met := (congrArg State.met (s.memberFail_kept p u k y) :)
@[simp] theorem State.memberFail_nrg : (s.memberFail p u k y).nrg = s.nrg := (congrArg State.nrg (s.memberFail_kept p u k y) :)
@[simp] theorem State.memberFail_book : (s.memberFail p u k y).book = s.book := (congrArg State.book (s.memberFail_kept p u k y) :)
@[simp] theorem State.memberFail_abc : (s.memberFail p u k y).abc = s.abc := (congrArg State.abc (s.memberFail_kept p u k y) :)
@[simp] theorem State.memberFail_keys : (s.memberFail p u k y).keys = s.keys := (congrArg State.keys (s.memberFail_kept p u k y) :)
@[simp] theorem State.memberFail_link : (s.memberFail p u k y).link = s.link := (congrArg State.link (s.memberFail_kept p u k y) :)
@[simp] theorem State.memberFail_tok : (s.memberFail p u k y).tok = s.tok := (congrArg State.tok (s.memberFail_kept p u k y) :)
@[simp] theorem State.memberFail_saf : (s.memberFail p u k y).saf = s.saf := (congrArg State.saf (s.memberFail_kept p u k y) :)
@[simp] theorem State.memberFail_lsw : (s.memberFail p u k y).lsw = s.lsw := (congrArg State.lsw (s.memberFail_kept p u k y) :)
@[simp] theorem State.memberFail_pair : (s.memberFail p u k y).pair = s.pair := (congrArg State.pair (s.memberFail_kept p u k y) :)
@[simp] theorem State.memberFail_line : (s.memberFail p u k y).line = s.line := (congrArg State.line (s.memberFail_kept p u k y) :)
@[simp] theorem State.memberFail_epd : (s.memberFail p u k y).epd = s.epd := (congrArg State.epd (s.memberFail_kept p u k y) :)
@[simp] theorem State.memberFail_arb : (s.memberFail p u k y).arb = s.arb := (congrArg State.arb (s.memberFail_kept p u k y) :)
@[simp] theorem State.memberFail_island : (s.memberFail p u k y).island = s.island := (congrArg State.island (s.memberFail_kept p u k y) :)
@[simp] theorem State.memberFail_fuses : (s.memberFail p u k y).fuses = s.fuses := (congrArg State.fuses (s.memberFail_kept p u k y) :)
@[simp] theorem State.memberFail_pending : (s.memberFail p u k y).pending = s.pending := (congrArg State.pending (s.memberFail_kept p u k y) :)
@[simp] theorem State.memberFail_now : (s.memberFail p u k y).now = s.now := (congrArg State.now (s.memberFail_kept p u k y) :)
end

section
variable (s : State) (p u k i : Nat)
@[simp] theorem State.settleAll_htc : (s.settleAll p u k i).htc = s.htc := (congrArg State.htc (s.settleAll_kept p u k i) :)
@[simp] theorem State.settleAll_htcLoaded : (s.settleAll p u k i).htcLoaded = s.htcLoaded := (congrArg State.htcLoaded (s.settleAll_kept p u k i) :)
@[simp] theorem State.settleAll_outside : (s.settleAll p u k i).outside = s.outside := (congrArg State.outside (s.settleAll_kept p u k i) :)
@[simp] theorem State.settleAll_freeCtr : (s.settleAll p u k i).freeCtr = s.freeCtr := (congrArg State.freeCtr (s.settleAll_kept p u k i) :)
@[simp] theorem State.settleAll_timers : (s.settleAll p u k i).timers = s.timers := (congrArg State.timers (s.settleAll_kept p u k i) :)
@[simp] theorem State.settleAll_cfg : (s.settleAll p u k i).cfg = s.cfg := (congrArg State.cfg (s.settleAll_kept p u k i) :)
@[simp] theorem State.settleAll_power : (s.settleAll p u k i).power = s.power := (congrArg State.power (s.settleAll_kept p u k i) :)
@[simp] theorem State.settleAll_clocks : (s.settleAll p u k i).clocks = s.clocks := (congrArg State.clocks (s.settleAll_kept p u k i) :)
@[simp] theorem State.settleAll_boot : (s.settleAll p u k i).boot = s.boot := (congrArg State.boot (s.settleAll_kept p u k i) :)
@[simp] theorem State.settleAll_hostMem : (s.settleAll p u k i).hostMem = s.hostMem := (congrArg State.hostMem (s.settleAll_kept p u k i) :)
@[simp] theorem State.settleAll_waiting : (s.settleAll p u k i).waiting = s.waiting := (congrArg State.waiting (s.settleAll_kept p u k i) :)
@[simp] theorem State.settleAll_queues : (s.settleAll p u k i).queues = s.queues := (congrArg State.queues (s.settleAll_kept p u k i) :)
@[simp] theorem State.settleAll_lanes : (s.settleAll p u k i).lanes = s.lanes := (congrArg State.lanes (s.settleAll_kept p u k i) :)
@[simp] theorem State.settleAll_pmcan : (s.settleAll p u k i).pmcan = s.pmcan := (congrArg State.pmcan (s.settleAll_kept p u k i) :)
@[simp] theorem State.settleAll_met : (s.settleAll p u k i).met = s.met := (congrArg State.met (s.settleAll_kept p u k i) :)
@[simp] theorem State.settleAll_nrg : (s.settleAll p u k i).nrg = s.nrg := (congrArg State.nrg (s.settleAll_kept p u k i) :)
@[simp] theorem State.settleAll_book : (s.settleAll p u k i).book = s.book := (congrArg State.book (s.settleAll_kept p u k i) :)
@[simp] theorem State.settleAll_abc : (s.settleAll p u k i).abc = s.abc := (congrArg State.abc (s.settleAll_kept p u k i) :)
@[simp] theorem State.settleAll_keys : (s.settleAll p u k i).keys = s.keys := (congrArg State.keys (s.settleAll_kept p u k i) :)
@[simp] theorem State.settleAll_link : (s.settleAll p u k i).link = s.link := (congrArg State.link (s.settleAll_kept p u k i) :)
@[simp] theorem State.settleAll_tok : (s.settleAll p u k i).tok = s.tok := (congrArg State.tok (s.settleAll_kept p u k i) :)
@[simp] theorem State.settleAll_saf : (s.settleAll p u k i).saf = s.saf := (congrArg State.saf (s.settleAll_kept p u k i) :)
@[simp] theorem State.settleAll_lsw : (s.settleAll p u k i).lsw = s.lsw := (congrArg State.lsw (s.settleAll_kept p u k i) :)
@[simp] theorem State.settleAll_pair : (s.settleAll p u k i).pair = s.pair := (congrArg State.pair (s.settleAll_kept p u k i) :)
@[simp] theorem State.settleAll_line : (s.settleAll p u k i).line = s.line := (congrArg State.line (s.settleAll_kept p u k i) :)
@[simp] theorem State.settleAll_epd : (s.settleAll p u k i).epd = s.epd := (congrArg State.epd (s.settleAll_kept p u k i) :)
@[simp] theorem State.settleAll_arb : (s.settleAll p u k i).arb = s.arb := (congrArg State.arb (s.settleAll_kept p u k i) :)
@[simp] theorem State.settleAll_island : (s.settleAll p u k i).island = s.island := (congrArg State.island (s.settleAll_kept p u k i) :)
@[simp] theorem State.settleAll_fuses : (s.settleAll p u k i).fuses = s.fuses := (congrArg State.fuses (s.settleAll_kept p u k i) :)
@[simp] theorem State.settleAll_pending : (s.settleAll p u k i).pending = s.pending := (congrArg State.pending (s.settleAll_kept p u k i) :)
@[simp] theorem State.settleAll_now : (s.settleAll p u k i).now = s.now := (congrArg State.now (s.settleAll_kept p u k i) :)
end

end Sys2Proof.Machine
end

