-- ==== Sys2Proof/Machine/Balls.lean ====
section
/-!
DEFINITION. The signal balls (R48, R49): Table 2-4, and the level at which each driven ball stands.
-/
namespace Sys2Proof.Machine

open Sys2Proof

/-- Direction codes (R49). -/
inductive BallDir where
  | input | output | bidirectional | openDrain | analog | inputAnalog | outputAnalog | inputStrap | openDrainInput
  deriving DecidableEq, Repr

/-- The supply that sets a ball's levels (Table 2-4); fixed: a stated voltage limit instead of a rail. -/
inductive Rail where
  | vcp | vdda5 | vddIo33 | vddIo18 | vddDdr | vddPcie | vddaPcie | vddaPll | vtps | vls | vsys | vbat | pump | fixed | unstated
  deriving DecidableEq, Repr

/-- The clock domain of a ball; none: not clocked. -/
inductive BallClock where
  | none | met | mclk | plc | rfid | line | sys | ddr | pcie | rtc
  deriving DecidableEq, Repr

/-- What a ball does: a driven level, or how it rests (Table 2-4). -/
inductive BallLevel where
  | low | high | highZ | released | pullUp | pullDown | stateF | sink2mA | off | noCarrier | carrier | biased | midRail | driving
  | driverOff | receiverOff | sensing | oscillating | electricalIdle | drivenAndSensed | unpowered | unstated
  deriving DecidableEq, Repr

/-- A row of Table 2-4, or a part of one where the row gives its balls different resets. -/
structure BallRow where
  name : String
  count : Nat
  dir : BallDir
  hub : Bool
  rail : Rail
  clock : BallClock
  reset : BallLevel
  deriving DecidableEq, Repr

/-- Table 2-4; hub: the ball is on the D-die. -/
def ballRows : List BallRow :=
  [⟨"Lnn_CPO", 32, .outputAnalog, false, .vcp, .met, .stateF⟩, ⟨"Lnn_CPS", 32, .inputAnalog, false, .vdda5, .met, .highZ⟩,
   ⟨"Lnn_PP", 32, .inputAnalog, false, .vdda5, .met, .off⟩, ⟨"Lnn_FBA, Lnn_FBB", 64, .input, false, .fixed, .met, .sink2mA⟩,
   ⟨"Lnn_TSW", 32, .output, false, .vdda5, .met, .low⟩, ⟨"Lnn_PLTP, Lnn_PLTN", 64, .outputAnalog, false, .vdda5, .plc, .highZ⟩,
   ⟨"Lnn_PLRP, Lnn_PLRN", 64, .inputAnalog, false, .vdda5, .plc, .highZ⟩,
   ⟨"Lnn_MV1 … Lnn_MIDF", 256, .input, true, .vddIo33, .mclk, .pullDown⟩, ⟨"MCLK0–MCLK7", 8, .output, true, .vddIo33, .met, .low⟩,
   ⟨"SIN00–SIN71", 72, .input, false, .fixed, .met, .sink2mA⟩, ⟨"TPS0–TPS3", 4, .output, false, .vtps, .met, .off⟩]
  ++ [⟨"LS00_OUT–LS47_OUT", 96, .output, false, .vls, .none, .off⟩, ⟨"PULSE0–PULSE7", 8, .openDrain, true, .vddIo33, .met, .released⟩,
   ⟨"RFn_TXP, RFn_TXN", 8, .outputAnalog, false, .vdda5, .rfid, .noCarrier⟩, ⟨"RFn_RX", 4, .inputAnalog, false, .vdda5, .rfid, .highZ⟩,
   ⟨"RFn_VMID", 4, .analog, false, .vdda5, .none, .biased⟩, ⟨"ANT_SELn_0–ANT_SELn_2", 12, .output, true, .vddIo33, .sys, .low⟩,
   ⟨"EPn_D0–EPn_D7", 32, .output, true, .vddIo33, .sys, .low⟩,
   ⟨"EPn_SDCLK, SDLE, SDOE, GDCLK, GDSP, GDOE", 24, .output, true, .vddIo33, .sys, .low⟩,
   ⟨"EPn_SDCE_N", 4, .output, true, .vddIo33, .sys, .high⟩, ⟨"EPn_PMIC_EN, EPn_VCOM_EN, EPn_FL", 12, .output, true, .vddIo33, .sys, .low⟩,
   ⟨"EPn_PWRGOOD", 4, .input, true, .vddIo33, .sys, .pullDown⟩, ⟨"EPn_TXD", 4, .output, true, .vddIo33, .sys, .high⟩,
   ⟨"EPn_RXD", 4, .input, true, .vddIo33, .sys, .pullUp⟩]
  ++ [⟨"EP_SCL", 1, .openDrain, true, .vddIo33, .sys, .released⟩, ⟨"EP_SDA", 1, .bidirectional, true, .vddIo33, .sys, .released⟩,
   ⟨"LINE_TXP, LINE_TXN", 2, .outputAnalog, false, .vdda5, .line, .midRail⟩, ⟨"LINE_TXEN", 1, .output, false, .vdda5, .line, .low⟩,
   ⟨"LINE_RXP, LINE_RXN", 2, .inputAnalog, false, .vdda5, .line, .highZ⟩, ⟨"LINE_ZC", 1, .input, false, .vdda5, .line, .pullDown⟩,
   ⟨"PAIR_TXP/N, PAIR_TCKP/N", 4, .output, true, .vddIo18, .sys, .driverOff⟩,
   ⟨"PAIR_RXP/N, PAIR_RCKP/N", 4, .input, true, .vddIo18, .sys, .receiverOff⟩,
   ⟨"PAIR_HOLD_N", 1, .openDrainInput, false, .vddIo33, .met, .released⟩, ⟨"PAIR_PRI", 1, .inputStrap, true, .vddIo18, .none, .pullDown⟩,
   ⟨"PAIR_PRES_N", 1, .input, true, .vddIo18, .sys, .pullUp⟩, ⟨"PMCANn_TX", 4, .output, true, .vddIo33, .sys, .high⟩,
   ⟨"PMCANn_RX", 4, .input, true, .vddIo33, .sys, .pullUp⟩, ⟨"PMCANn_STB", 4, .output, true, .vddIo33, .sys, .high⟩]
  ++ [⟨"DDR_DQ0–DDR_DQ63, DDR_CB0–DDR_CB7", 72, .bidirectional, true, .vddDdr, .ddr, .highZ⟩,
   ⟨"DDR_DQS0P/N–DDR_DQS8P/N", 18, .bidirectional, true, .vddDdr, .ddr, .highZ⟩,
   ⟨"DDR_DM0_N–DDR_DM8_N", 9, .bidirectional, true, .vddDdr, .ddr, .highZ⟩,
   ⟨"DDR_A0–DDR_A16, BA, BG, ACT_N, PAR", 23, .output, true, .vddDdr, .ddr, .low⟩, ⟨"DDR_CK0P, DDR_CK1P", 2, .output, true, .vddDdr, .ddr, .low⟩,
   ⟨"DDR_CK0N, DDR_CK1N", 2, .output, true, .vddDdr, .ddr, .high⟩, ⟨"DDR_CKE0–1, DDR_ODT0–1", 4, .output, true, .vddDdr, .ddr, .low⟩,
   ⟨"DDR_CS0_N–DDR_CS1_N", 2, .output, true, .vddDdr, .ddr, .high⟩, ⟨"DDR_ALERT_N", 1, .input, true, .vddDdr, .ddr, .pullUp⟩,
   ⟨"DDR_RESET_N", 1, .output, true, .vddDdr, .none, .low⟩, ⟨"DDR_ZQ, DDR_VREFCA", 2, .analog, true, .vddDdr, .none, .unstated⟩,
   ⟨"PCIE_TXmP/N", 4, .output, true, .vddPcie, .pcie, .electricalIdle⟩, ⟨"PCIE_RXmP/N", 4, .input, true, .vddPcie, .pcie, .electricalIdle⟩,
   ⟨"PCIE_REFCLKP/N", 2, .input, true, .vddaPcie, .pcie, .highZ⟩, ⟨"PCIE_PERST_N", 1, .input, true, .vddIo33, .none, .pullDown⟩,
   ⟨"PCIE_WAKE_N, PCIE_CLKREQ_N", 2, .openDrain, true, .vddIo33, .none, .released⟩]
  ++ [⟨"QSPIn_CLK", 2, .output, true, .vddIo18, .sys, .low⟩, ⟨"QSPIn_CS_N", 2, .output, true, .vddIo18, .sys, .high⟩,
   ⟨"QSPIn_IO0–QSPIn_IO3", 8, .bidirectional, true, .vddIo18, .sys, .pullUp⟩, ⟨"MRAM_CLK, MRAM_SI", 2, .output, true, .vddIo18, .sys, .low⟩,
   ⟨"MRAM_CS_N", 1, .output, true, .vddIo18, .sys, .high⟩, ⟨"MRAM_SO", 1, .input, true, .vddIo18, .sys, .pullUp⟩,
   ⟨"MRAM_WP_N", 1, .output, true, .vddIo18, .none, .low⟩, ⟨"VIN_A, VIN_B", 2, .inputAnalog, false, .fixed, .none, .sensing⟩,
   ⟨"VIN_A_GATE, VIN_B_GATE", 2, .outputAnalog, false, .pump, .none, .off⟩, ⟨"VSYS_SNS", 1, .inputAnalog, false, .vsys, .none, .sensing⟩,
   ⟨"REGCA_*, REGCB_*", 8, .outputAnalog, false, .vsys, .none, .off⟩, ⟨"REGC_FBP, REGC_FBN", 2, .inputAnalog, false, .unstated, .none, .unstated⟩,
   ⟨"REGm_*", 20, .outputAnalog, false, .vsys, .none, .off⟩]
  ++ [⟨"CK_REF_XI/XO", 2, .analog, true, .vddaPll, .sys, .oscillating⟩, ⟨"CK_MET_XI/XO", 2, .analog, true, .vddaPll, .met, .oscillating⟩,
   ⟨"CK_RFID_XI/XO", 2, .analog, false, .vdda5, .rfid, .oscillating⟩, ⟨"CK_RTC_XI/XO", 2, .analog, false, .vbat, .rtc, .oscillating⟩,
   ⟨"RST_N", 1, .input, true, .vddIo33, .none, .pullUp⟩, ⟨"PROF0, PROF1", 2, .inputStrap, true, .vddIo18, .none, .pullDown⟩,
   ⟨"ERR_OUT_N", 1, .openDrain, true, .vddIo33, .none, .low⟩, ⟨"SEAL_N", 1, .input, false, .vbat, .rtc, .pullUp⟩,
   ⟨"TAMP_CASE_N", 1, .input, false, .vbat, .rtc, .pullUp⟩, ⟨"TAMP_MESH0O, TAMP_MESH1O", 2, .output, false, .vbat, .rtc, .drivenAndSensed⟩,
   ⟨"TAMP_MESH0I, TAMP_MESH1I", 2, .input, false, .vbat, .rtc, .drivenAndSensed⟩, ⟨"MAGX0–MAGX3", 4, .inputAnalog, false, .vdda5, .met, .highZ⟩,
   ⟨"JTAG_TCK, JTAG_TMS, JTAG_TDI", 3, .input, true, .vddIo18, .none, .pullUp⟩, ⟨"JTAG_TDO", 1, .output, true, .vddIo18, .none, .highZ⟩,
   ⟨"JTAG_TRST_N", 1, .input, true, .vddIo18, .none, .pullDown⟩, ⟨"TEST0, TEST1", 2, .input, true, .vddIo18, .none, .pullDown⟩]

/-- The row of a group of balls. -/
def ballRow? (name : String) : Option BallRow := ballRows.find? (·.name == name)

/-- Whether a rail is within limits. The part's own rails rise in the order of Table 3-1 (R61); the rails that the integrator supplies
(R63) count as present while VSYS is (log 112). -/
def State.railUp (s : State) (r : Rail) : Bool :=
  match r with
  | .vdda5 => decide (1 ≤ s.power.railsGood)
  | .vddIo33 => decide (2 ≤ s.power.railsGood)
  | .vddIo18 | .vddaPll | .vddaPcie => decide (3 ≤ s.power.railsGood)
  | .vddPcie => decide (4 ≤ s.power.railsGood)
  | .vddDdr => decide (5 ≤ s.power.railsGood)
  | .vbat => true
  | _ => s.power.vsysUp

/-- The balls that the part drives. -/
inductive Ball where
  | cpo (n : Fin 32) | tsw (n : Fin 32) | plt (n : Fin 32)
  | mclk (k : Fin 8) | tps (k : Fin 4) | ls (c : Fin 48) | pulse (k : Fin 8)
  | rfTx (r : Fin 4) | antSel (r : Fin 4) (b : Fin 3)
  | epD (p : Fin 4) | epControl (p : Fin 4) | epSdceN (p : Fin 4) | epPmicEn (p : Fin 4) | epVcomEn (p : Fin 4) | epFl (p : Fin 4)
  | epTxd (p : Fin 4)
  | lineTx | lineTxen | pairTx | pairHoldN | pmcanTx (k : Fin 4) | pmcanStb (k : Fin 4)
  | ddrCk | ddrCkN | ddrCke | ddrCsN | ddrResetN | pcieTx | pcieWakeN
  | qspiCsN | mramCsN | mramWpN | vinGate (f : Fin 2) | errOutN | jtagTdo
  deriving DecidableEq, Repr

/-- The group of Table 2-4 that a ball belongs to: its rail and its reset state. -/
def Ball.group : Ball → String
  | .cpo _ => "Lnn_CPO" | .tsw _ => "Lnn_TSW" | .plt _ => "Lnn_PLTP, Lnn_PLTN"
  | .mclk _ => "MCLK0–MCLK7" | .tps _ => "TPS0–TPS3" | .ls _ => "LS00_OUT–LS47_OUT" | .pulse _ => "PULSE0–PULSE7"
  | .rfTx _ => "RFn_TXP, RFn_TXN" | .antSel _ _ => "ANT_SELn_0–ANT_SELn_2"
  | .epD _ => "EPn_D0–EPn_D7" | .epControl _ => "EPn_SDCLK, SDLE, SDOE, GDCLK, GDSP, GDOE" | .epSdceN _ => "EPn_SDCE_N"
  | .epPmicEn _ | .epVcomEn _ | .epFl _ => "EPn_PMIC_EN, EPn_VCOM_EN, EPn_FL" | .epTxd _ => "EPn_TXD"
  | .lineTx => "LINE_TXP, LINE_TXN" | .lineTxen => "LINE_TXEN" | .pairTx => "PAIR_TXP/N, PAIR_TCKP/N" | .pairHoldN => "PAIR_HOLD_N"
  | .pmcanTx _ => "PMCANn_TX" | .pmcanStb _ => "PMCANn_STB"
  | .ddrCk => "DDR_CK0P, DDR_CK1P" | .ddrCkN => "DDR_CK0N, DDR_CK1N" | .ddrCke => "DDR_CKE0–1, DDR_ODT0–1"
  | .ddrCsN => "DDR_CS0_N–DDR_CS1_N" | .ddrResetN => "DDR_RESET_N" | .pcieTx => "PCIE_TXmP/N"
  | .pcieWakeN => "PCIE_WAKE_N, PCIE_CLKREQ_N" | .qspiCsN => "QSPIn_CS_N" | .mramCsN => "MRAM_CS_N" | .mramWpN => "MRAM_WP_N"
  | .vinGate _ => "VIN_A_GATE, VIN_B_GATE" | .errOutN => "ERR_OUT_N" | .jtagTdo => "JTAG_TDO"

/-- The owner of a ball has taken it (R49): what it drives there; none: the ball stays in its reset state. Within a frame, a transfer or a UART
byte a ball moves at times that no row shows; the level given is that of the stretch as a whole (log 112). -/
def State.ballDriven (s : State) (b : Ball) : Option BallLevel :=
  let on (c : Bool) (l : BallLevel) : Option BallLevel := if c then some l else none
  match b with
  | .cpo n => on (s.lanes[n].form != .minus12) .driving
  | .tsw n => on (s.tswLevel n) .high
  | .plt n => on (s.link.lanes[n].assoc != .off) .driving
  | .mclk k => on (s.met.mclk.getLsbD k.val) .driving
  | .tps k => if s.saf.tps[k].on then some (if s.tpsLevel k then .high else .low) else none
  | .ls c => on (if h : c.val < 32 then s.coilDriven ⟨c.val, h⟩ else s.lsw.chans[c].st == .start || s.lsw.chans[c].st == .on) .high
  | .pulse k => on s.nrg.pulses[k].active .low
  | .rfTx r => on s.tok.readers[r].field .carrier
  | .antSel r i => on (s.tok.readers[r].antenna.testBit i.val) .high
  | .epD p | .epControl p => on (s.epdDrives p) .driving
  | .epSdceN p => on (s.epdDrives p && (match s.epd[p].run with | some r => !r.lines.isEmpty | none => false)) .low
  | .epPmicEn p => on s.epd[p].pmicEn .high
  | .epVcomEn p => on s.epd[p].vcomEn .high
  | .epFl p => on (s.epd[p].duty != 0) (if s.epd[p].duty == 1000 then .high else .driving)
  | .epTxd p => on (decide (s.now < s.epd[p].txFree)) .driving
  | .lineTx => on ((match s.line.tx with | some t => decide (t.start ≤ s.now) | none => false) || (match s.line.test with | some t => t.kind < 2 | none => false)) .driving
  | .lineTxen => on (s.lineTxen s.now) .high
  | .pairTx => on s.paired .driving
  | .pairHoldN => on s.pair.drive .low
  | .pmcanTx k => on (s.pmcan[k].estate == 2) .high
  | .pmcanStb k => on (s.glb.profActiveValid && s.pf (0x2060 + 0x400 * k.val) 0 1 == 1) .low
  | .ddrCk | .ddrCkN => on (s.boot.ddrOk && s.clocks.ok.getLsbD 7) .driving
  | .ddrCke => on (s.boot.ddrOk && !s.clocks.selfRefresh) .high
  | .ddrCsN => on s.boot.ddrOk .driving
  | .ddrResetN => on s.boot.ddrOk .high
  | .pcieTx => on s.hif.linkUp .driving
  | .pcieWakeN => none
  | .qspiCsN => on (!s.abc.writing.isEmpty || s.abc.snap.isSome) .driving
  | .mramCsN => on s.commit.isSome .low
  | .mramWpN => on s.commit.isSome .high
  | .vinGate f => on (s.feed f).fetOn .high
  | .errOutN => some (if s.errOutLow then .low else .released)
  | .jtagTdo => none

/-- The level of a ball (R48, R49): undefined without its rail, what its owner drives, else its reset state. -/
def State.ballLevel (s : State) (b : Ball) : BallLevel :=
  match ballRow? b.group with
  | some r => if s.railUp r.rail then (s.ballDriven b).getD r.reset else .unpowered
  | none => .unstated

end Sys2Proof.Machine
end

