-- ==== Sys2Proof/WellFormed.lean ====
section
/-!
DEFINITION. What a command's inputs have to look like: a request's descriptors and payload, windows of modulator bits, received frames, registers.
-/
namespace Sys2Proof

/-- A request spans 1 to 16 descriptors, each but the last with CHAIN (R106); its payload is what LEN says, or none when the command writes to ADDR
or its transfer fails. -/
def Desc.wf (d : Desc) : Bool :=
  decide (1 ≤ d.count) && decide (d.count ≤ 16) && d.words.dropLast.all descChain && !descChain (d.words.getLastD 0) &&
    (d.payload.length == d.len.toNat || d.payload.isEmpty)

/-- The first 16 descriptors of a chain that is too long: all with CHAIN (R106). -/
def Desc.overlong (d : Desc) : Bool := d.count == 16 && d.words.all descChain

/-- The opcode of a request's row (Table 4-6 and the owning chapters). -/
def Instr.opcode (i : Instr) : Option Byte :=
  match i with
  | .commandNop _ => some 0x00
  | .laneAdmit _ => some 0x10 | .laneLimit _ => some 0x11 | .laneStop _ => some 0x12 | .laneService _ => some 0x13 | .laneClear _ => some 0x14
  | .vlkXtalkSurvey _ => some 0x30 | .vlkEimId _ => some 0x31 | .vlkTrustLoad _ => some 0x32 | .vlkRelayAnswer _ => some 0x33
  | .tokKillList _ => some 0x40 | .tokAntTest _ _ => some 0x41
  | .abcDelta _ _ => some 0x50 | .abcQuery _ _ => some 0x51 | .abcResync _ _ => some 0x52 | .abcSnapshot _ => some 0x53 | .abcRevoke _ _ => some 0x54
  | .safReset _ _ _ => some 0x60 | .safResTest _ => some 0x61 | .safIsoMeasure _ => some 0x62 | .safTrip _ => some 0x63
  | .lswSet _ => some 0x70 | .lswClear _ => some 0x71
  | .metCapture _ => some 0x78 | .metCaptureCancel _ => some 0x79 | .metRead _ => some 0x7A | .metCoefRead _ => some 0x7B
  | .nrgRead _ => some 0x80 | .nrgCalRead _ => some 0x81
  | .bookRead _ => some 0x90 | .bookClockSet _ => some 0x91 | .bookTariffLoad _ => some 0x92 | .bookCalWrite _ => some 0x93 | .bookBillClose _ => some 0x94
  | .lineSend _ => some 0xA0 | .lineSound _ => some 0xA1 | .lineTest _ => some 0xA2 | .lineNeighRead _ => some 0xA3
  | .keyOwnerEnrol _ => some 0xB0 | .keyUpdate _ => some 0xB1 | .keyAttest _ => some 0xB2
  | .mgtBundle _ => some 0xC0 | .mgtUpdSchedule _ => some 0xC1 | .mgtUpdCancel _ => some 0xC2 | .mgtLogRead _ => some 0xC3 | .mgtLogAck _ => some 0xC4
  | .mgtProfWrite _ => some 0xC5
  | .epdUpdate _ => some 0xD0 | .epdWaveLoad _ => some 0xD1 | .epdUnifLoad _ => some 0xD2 | .epdFl _ => some 0xD3 | .epdUartSend _ => some 0xD4
  | .pairHandover _ => some 0xD8 | .pairHandoverCancel _ => some 0xD9 | .arbClaimCheck _ => some 0xE0
  | _ => none

/-- A site-line reception ends after it begins (R389). -/
def LineRx.wf (f : LineRx) : Bool := decide (f.start ≤ f.fin)

/-- A single, double or triple UID (Table 7-1). -/
def uidOk (b : Bytes) : Bool := b.length == 4 || b.length == 7 || b.length == 10

/-- A block of a purse or a key is 16 bytes (Table 7-3). -/
def block16 (b : Bytes) : Bool := b.length == 16

/-- The checks of a command. -/
def Instr.wf (i : Instr) : Bool :=
  match i with
  | .commandNop d | .laneAdmit d | .laneLimit d | .laneStop d | .laneService d | .laneClear d | .vlkXtalkSurvey d | .vlkEimId d
  | .vlkTrustLoad d | .vlkRelayAnswer d | .tokKillList d | .tokAntTest d _ | .abcDelta d _ | .abcQuery d _ | .abcResync d _ | .abcSnapshot d
  | .abcRevoke d _ | .safReset d _ _ | .safResTest d | .safIsoMeasure d | .safTrip d | .lswSet d | .lswClear d | .metCapture d
  | .metCaptureCancel d | .metRead d | .metCoefRead d | .nrgRead d | .nrgCalRead d | .bookRead d | .bookClockSet d | .bookTariffLoad d
  | .bookCalWrite d | .bookBillClose d | .lineSend d | .lineSound d | .lineTest d | .lineNeighRead d | .keyOwnerEnrol d | .keyUpdate d
  | .keyAttest d | .mgtBundle d | .mgtUpdSchedule d | .mgtUpdCancel d | .mgtLogRead d | .mgtLogAck d | .mgtProfWrite d | .epdUpdate d
  | .epdWaveLoad d | .epdUnifLoad d | .epdFl d | .epdUartSend d | .pairHandover d | .pairHandoverCancel d | .arbClaimCheck d =>
    d.wf && Instr.opcode i == some d.opcode
  | .undefinedOpcode _ d => d.wf
  | .chainErr _ d _ => d.overlong
  | .registerWrite off _ _ crosses => crosses || off.toNat % 4 == 0
  | .latchedPairRead off _ crosses => crosses || off.toNat % 4 == 0
  | .inventoryComplete _ uids => uids.all uidOk
  | .authenticationComplete _ a b _ => block16 a.challenge && block16 a.proof && block16 b.challenge && block16 b.proof
  | .beaconReceived f | .advertReceived f | .lineAckReceived f | .dataReceived f | .deltaReceived f _ | .timeReceived f | .scheduleReceived f
  | .soundRptReceived f | .joinReceived f => f.wf
  | .sensorSample vs _ _ => vs.length == 10
  | _ => true

end Sys2Proof
end

