-- ==== Sys2Proof/Tests/Slice0.lean ====
section
/-!
SUPPORT. The model's own tests: a term that each check of WellFormed refuses, the spec's worked examples on the functions that compute them, a few
single steps, and for every statement with hypotheses a small state and operands that meet them.
-/
namespace Sys2Proof.Tests

set_option Elab.async false

open Sys2Proof Sys2Proof.Machine Sys2Proof.Claims

/-! Small states for the witnesses -/
/-- A running part: start-up over, every clock good, the host reached, nothing loaded by a profile. -/
def wOn : State :=
  { State.reset with
    htcLoaded := true, clocks := { Clocks.reset with ok := 0xFF },
    power := { Power.reset with biasGood := true, railsGood := 5 },
    boot := { Boot.reset with step := 14, phase := 7, ddrOk := true, rstNHigh := true, perstHigh := true },
    hif := { Hif.reset with run := true, bme := true, linkUp := true, configReady := true },
    lsw := { Lsw.reset with hb := true }, keys := { Keys.reset with rngOk := true } }
/-- The same with registers of the profile set. -/
def wCfg (m : RegMap) : State := { wOn with cfg := m, glb := { wOn.glb with profActiveValid := true } }
def wDark : State := { State.reset with power := { Power.reset with vsysUp := false } }
def wRails (k : Nat) : State :=
  { State.reset with power := { Power.reset with biasGood := true, starting := true, railsGood := k }, boot := { Boot.reset with step := 2 + k } }
def wRetry : State := { State.reset with power := { Power.reset with retryWait := true, attempts := 1 } }
def wFed : State := { wOn with power := { wOn.power with onVbat := false, vbatLow := false } }
def wFeeds : State := { wOn with power := { wOn.power with feedA := ⟨true, false⟩, feedB := ⟨true, false⟩ } }
def wHoldup : State := { wOn with power := { wOn.power with holdupNow := true } }
def wImage : CommitImage := ⟨1, 0, 1, 0, 0, false, 0, 0, Accs.reset, BookImage.reset, ⟨0, [], 0, false, 0⟩, []⟩
def wCommitShadow : State := { wOn with commit := some ⟨2, 5, 1, false, some wImage, false, none⟩ }
def wCommit : State := { wOn with commit := some ⟨2, 5, 1, false, none, false, none⟩ }
def wAtStep (k : Nat) : State :=
  { State.reset with
    htcLoaded := true, clocks := { Clocks.reset with ok := 0xFF }, power := { Power.reset with biasGood := true, railsGood := 5 },
    boot := { Boot.reset with step := k, phase := 2, rstNHigh := true } }
def wStep7 : State := wAtStep 7
def wStep8 : State := wAtStep 8
def wStep9 : State := wAtStep 9
def wStep10 : State := wAtStep 10
def wStep11 : State := wAtStep 11
def wRecSlot : CommitSlot := ⟨commitMagic, commitFormat, 1, 0, some wImage, some wImage.trailer⟩
def wStep9Rec : State := { wStep9 with nv := { Nv.reset with slotA := some wRecSlot } }
def wPerst : State := { wStep9 with boot := { wStep9.boot with perstHigh := true } }
def wProf : State := { wOn with glb := { wOn.glb with profActiveValid := true } }
def wPend : State := { wOn with glb := { wOn.glb with profPendingValid := true } }
def wLate : State := { wOn with htc := 2457600000 }
def wLateOn : State := { wOn with htc := 4000000000000 }
/-- Every ring enabled, each with 16 entries; rings towards the device hold 8 descriptors. -/
def wRingOf (n : Nat) : Ring :=
  { Ring.reset n with en := true, log2size := 4, prod := if [0, 8, 10, 14, 15].contains n then 8 else 0 }
def wHost : State := { wOn with hif := { wOn.hif with rings := .ofFn fun i => wRingOf i.val } }
def wHost16 : State := { wHost with hif := { wHost.hif with rings := wHost.hif.rings.set 0 { wRingOf 0 with prod := 16 } } }
def wHosted (s : State) : State := { s with hif := wHost.hif }
def wVec : State := { wOn with hif := { wOn.hif with vecs := wOn.hif.vecs.set 31 { Vec.reset with waiting := 1 } } }
def wT (k : TimerKind) (owner : Nat) (sub : Nat := 0) : State := { wOn with timers := [⟨k, owner, sub, 0, 0⟩] }
def wLaneT (k : TimerKind) (st : LaneSt) : State := (wT k 0 0).setLane 0 fun l => { l with st := st }
def wLaneC (st : LaneSt) : State := wHost.setLane 0 fun l => { l with st := st }
/-- A request of one descriptor with these fields of Table 4-4 and this payload. -/
def wD (u : Nat) (scope len p0 p1 : Nat := 0) (pay : Bytes := []) (op : Nat := 0) : Desc := ⟨[descWord op 0 0 scope u 0 len p0 p1], false, pay⟩
def wPilot : State :=
  { wOn with htc := 12288, lanes := .replicate 32 { Lane.reset with form := .plus12, formWas := .plus12, runClass := .b, runCount := 2 } }
def wWaveB : Wave := [(24576, 900)]
def wNextForm : State := ({ wOn with htc := 24576000 } : State).setLane 4 fun l => { l with next := some (.pwm 200) }
def wPp : State := ({ wCfg [(0x23E0, 1)] with htc := 2457600 } : State).setLane 31 fun l => { l with ppClass := ratingOf 80, ppCount := 2 }
/-- Lane 0 a DC lane of an active profile. -/
def wDc : State := wCfg [(0x2000, 0x5), (0x2060, 1)]
def wLink (a : Assoc) : State :=
  (wCfg [(0x2000, 1), (0x3000, 0x1FF), (0x3100, 1)]).setLink 0 fun l => { l with assoc := a }
def wLinkV : State := wLink .matched
def wRunRec (dec : Option (Nat × Nat × Nat × Nat × Nat × List Nat)) : Run := ⟨0, 0, 0, none, 1, 2, [0], [], false, dec⟩
def wRun (dec : Option (Nat × Nat × Nat × Nat × Nat × List Nat)) : State :=
  { wLink .sounding with link := { (wLink .sounding).link with runs := [wRunRec dec] } }
def wTls : State :=
  let s := (wLink .matched).setLink 0 fun l => { l with tcp := true }
  { s with link := { s.link with trust := [(3, [])], trustBefore := [(3, [])] }, keys := { Keys.reset with rngOk := true, keys := [⟨0x10, 1⟩] } }
def wPlc : PlcRx := ⟨0, [], [true]⟩
def wMsg : V2g := ⟨false, true, 10, true, true, 0, 7, []⟩
def wDlg (phase : Nat) : State :=
  (wLink .matched).setLink 0 fun l => { l with tcp := true, tls := 1, phase := phase, session := 7, setUp := true, proto := 2 }
def wDlgDc (phase : Nat) : State := { wDlg phase with cfg := [(0x2000, 5), (0x3000, 0x1FF), (0x3100, 1)] }
def wEimAsk : State := wDlg 4
def wEim : State := wHosted ((wDlg 4).setLink 0 fun l => { l with auth := 1 })
def wPoll : State := { (wCfg [(0x4000, 0xFF), (0x4004, 0xFFFFFFFF)]).setLane 0 (fun l => { l with st := .connected }) with htc := 4000000000000 }
def wTok (k : Nat) : State := wLateOn.setReader 3 fun x => { x with step := some k }
def wTokK (k : Nat) : State := { wTok k with keys := { Keys.reset with keys := [⟨1, 1⟩, ⟨2, 2⟩] } }
def wTokC (k : Nat) : State := (wTok k).setLane ((wTok k).readerLane 3) fun l => { l with st := .connected }
def wIdent : State := wOn.setLink 0 fun l => { l with identPending := true, identity := [7] }
/-- A first pass that proves the token, of a reader with no RndA drawn. -/
def wPass : TokAuth := ⟨[], Config.aesEncrypt 1 (xorBytes (Config.aesDecrypt 1 []) (swapHalves [])), 0⟩
/-- An answer with a right MAC under session key 0, and what it says to command k of the session. -/
def wAns : TokAns := ⟨[], 0, cmac8 0 [0]⟩
def wHeard (k : Nat) : Bytes := Config.cbcDecrypt 0 k []
def wTokWait : State := wOn.setReader 3 fun x => { x with awaiting := true }
def wGrantRec : Grant := ⟨0, 1, 0, 0, false, false, false, 0, 0, 0, 0⟩
def wGrant : State :=
  ({ wOn with abc := { Abc.reset with grants := Abc.reset.grants.set 0 (some wGrantRec), announces := [⟨0, 0, 0, 0, Grant.blank⟩] } } : State).setLane 0
    fun l => { l with st := .connected }
def wAnn : State :=
  { wTokWait with abc := { Abc.reset with grants := Abc.reset.grants.set 35 (some wGrantRec), announces := [⟨0, 0, 35, 0, Grant.blank⟩] } }
def wAnnT : State := { wAnn with abc := { wAnn.abc with announces := [] } }
def wTally : State := { wOn with abc := { Abc.reset with ready := true } }
def wSnapCopy : SnapCopy := ⟨1, 0, 0, [], none⟩
def wSnap : State := { wOn with abc := { Abc.reset with ready := true, snap := some wSnapCopy } }
def wFlight (op : Nat) : Flight := ⟨0, op, 0, false, false, 0, [], [], [], [], [], false, false, [], 0, 0, none⟩
def wLedger : State := { wHost with abc := { Abc.reset with ready := true }, cfg := [(0x5000, 1)] }
def wDelta : Desc := wD 1 (scope := 2) (len := 64) (pay := zeros 64)
def wAcctSlot : Nat := (slotsOf 5).headD 0
def wAcct : State := { wHost with abc := { Abc.reset with ready := true, dram := [(wAcctSlot, { Rec.empty with fp := fprint 5, state := 1 })] } }
def wSin : State := { wCfg [(0x6100, 0x1003)] with htc := 6144 }
def wSinP (now : Nat) : State :=
  { wCfg [(0x6000, 0xF), (0x6100, 0x1001)] with
    htc := BitVec.ofNat 72 now,
    saf := { Saf.reset with tps := .replicate 4 { Tps.reset with on := true }, sins := .replicate 72 { Sin.reset with closed := true } } }
def wMetLane : MetLane := { Met.reset.lanes[0] with run := true }
def wMetRun : State := { wHosted (wCfg [(0x2000, 3)]) with met := { Met.reset with lanes := .replicate 32 wMetLane } }
def wMetHost : State := wMetRun.setLane 0 fun l => { l with st := .idle }
def wRes : State :=
  { wMetRun with cfg := [(0x2000, 3), (0x6010, 0x80000001), (0x6400, 0x103)], htc := 4000000000 }
def wTest (half : Bool) : State :=
  { wLateOn with saf := { Saf.reset with lanes := .replicate 32 { SafLane.reset with testFrom := some 0, testHalf := half } } }
def wTestA : State := { wTest false with htc := BitVec.ofNat 72 (issue3 ((wTest false).firstSample 0 testTicks - 1)) }
def wTestB : State := { wTest true with htc := BitVec.ofNat 72 (issue3 ((wTest true).firstSample 0 (2 * testTicks))) }
def wIso (closed : Bool) : State :=
  { wCfg [(0x2000, 5), (0x6400, 8)] with
    htc := 4000000000000,
    saf := { Saf.reset with lanes := .replicate 32 { SafLane.reset with isoFrom := some 0, isoClosed := closed } } }
def wIsoHost : State := (wHosted (wIso false)).setLane 0 fun l => { l with st := .energised }
def wInsul : State :=
  { wCfg [(0x6020, 0)] with
    saf := { Saf.reset with lanes := .replicate 32 { SafLane.reset with isoReady := true, isoV := (1, 1), isoV2 := (1, 2) } } }
def wWeld : State :=
  { wT .tWeld 31 with nrg := { Nrg.reset with lanes := .replicate 32 { NrgLane.reset with scaled := [2000000] } } }
def wShuntCh : Fin 48 := 32
def wShunt : State := { wCfg [(0x6028, 0x02000000)] with saf := { Saf.reset with shuntUntil := some 0 } }
def wCoil (st : ChSt) : State := (wLateOn.setCh 31 fun c => { c with st := st })
def wCoilEn : State :=
  { wCfg [(0x2000, 1)] with
    saf := { Saf.reset with armed := true, lanes := .replicate 32 { SafLane.reset with latch := 0, scPermit := true, tested := true } },
    lanes := .replicate 32 { Lane.reset with st := .closing, grant := true, pilot := .c, rating := 4 } }
def wCoilFall : State :=
  ({ wCfg [(0x2000, 5)] with lanes := .replicate 32 { Lane.reset with coil := true } } : State).setCh 0 fun c => { c with st := .on }
def wAux (st : ChSt) : State := (wLateOn.setCh 47 fun c => { c with st := st })
def wOl : State := wCfg [(0x7100, 0x00040000)]
def wLsw (st : ChSt) : State := wHost.setCh 32 fun c => { c with st := st }
def wChain : State := { wLateOn with met := { Met.reset with lanes := Met.reset.lanes.set 0 { Met.reset.lanes[0] with start := some 0 } } }
def wMetAt (now : Nat) : State := { wMetRun with htc := BitVec.ofNat 72 now }
def wMetStart (now : Nat) : State := (wMetAt now).setMet 0 fun m => { m with start := some 0 }
def wMetStuck : State := (wMetStart 40925).setChan 0 0 fun x => { x with stuck := true, spells := [(0, none)] }
def wMetCut : State := { wMetRun with met := { wMetRun.met with lanes := .replicate 32 { wMetLane with cutAt := some 0 } } }
def wCycle : State := { wMetRun with htc := 493245 }
def wTrack : State := { wMetRun with htc := 3645 }
def wCalCutTick : Nat := 100
def wCalCut : State := { wMetRun with htc := 3645, met := { wMetRun.met with gOld := wMetRun.met.gOld.set 0 [(100, 0)] } }
def wPulse (l : List Nat) : State := wOn.setPulse 0 fun p => { p with sched := l }
def wPulseLate : State := wLateOn.setPulse 0 fun p => { p with sched := [1], lastStart := some 0 }
def wAlt : State := wCfg [(0x9008, 3)]
def wMetCap : State :=
  { wMetHost with met := { wMetHost.met with captures := wMetHost.met.captures.set 0 (some ⟨0, 0, 1, 0, 0, 1, false, 0, 0, 0, none, 0, []⟩) } }
def wClock : State := { wOn with book := { Book.reset with img := { BookImage.reset with clkValid := true } } }
def wNoclock : State := { wLateOn with book := { Book.reset with noclockFrom := some 0 } }
def wStep (src : Nat) : State := { wOn with book := { Book.reset with steps := [⟨0, 5, src, 1⟩] } }
def wMag (_ : Nat) : State := { wOn with book := { Book.reset with cal := [(0xA040, 100)] } }
def wRole : State :=
  { wHost with keys := { Keys.reset with rngOk := true, keys := [⟨5, 1⟩, ⟨6, 2⟩, ⟨7, 3⟩] },
               book := { Book.reset with img := { BookImage.reset with sealOpen := true } } }
/-- What the MAC of a request's authentication block covers: counter 1, no unit and no parameters. -/
def wAuthMsg (role op : Nat) (tail : Bytes) : Bytes :=
  leBytes 8 State.reset.fuses.dieIdD.toNat ++ [BitVec.ofNat 8 op] ++ leBytes 2 0 ++ leBytes 4 0 ++ leBytes 8 0 ++
    [BitVec.ofNat 8 role] ++ leBytes 8 1 ++ tail
/-- A request with an authentication block of a role, its MAC right, counter 1. -/
def wAuth (role op len : Nat) (tail : Bytes) : Desc :=
  wD 0 (len := len) (pay := (BitVec.ofNat 8 role :: zeros 7 ++ leBytes 8 1) ++
    (leBytes 8 (cmac8 role (wAuthMsg role op tail)) ++ (zeros 8 ++ tail)))
/-- The state once the authentication block of such a request has been checked. -/
def wAuthed (role op len : Nat) (h : role < 4) (tail : Bytes) : State :=
  (taken wRole 0 (wAuth role op len tail)).setImg fun i => { i with roleCtr := i.roleCtr.set role 1 h }
def wTable : Bytes :=
  leBytes 4 1 ++ zeros 7 ++ [0, 1, 0, 0, 0] ++ zeros 32 ++ zeros 8 ++
    ((List.range 8).flatMap fun _ => leBytes 2 0x8000 ++ zeros 22) ++ zeros 136
def wCalEntry : Bytes := leBytes 4 0x9800 ++ leBytes 4 5 ++ zeros 8
/-- The line: node 5 of network 0x0101 with its key, up. -/
def wLine : State :=
  { wHosted (wCfg [(0xB000, 1), (0xB004, 0x01010005), (0xB008, 0x00090009)]) with
    htc := 4000000000000, keys := { Keys.reset with keys := [⟨4, 1⟩] }, line := { LineSt.reset with st := 1 } }
def wLineReady : State := { wLine with abc := { Abc.reset with ready := true }, cfg := (0x5000, 1) :: wLine.cfg }
def wFrame (ty dst : Nat) (body : Bytes) : LineFrame :=
  { ty := ty, prio := 1, ackReq := false, hops := 0, route := [], src := 9, dst := dst, xmit := 9, next := dst, seq := 1, body := body }
def wRxOf (f : LineFrame) : LineRx := ⟨f.logical 0x0101 1 (lineMic 1 f 0x0101 1), true, [], [], 20, 1000, 1000⟩
def wRx (ty dst : Nat) : LineRx := wRxOf (wFrame ty dst (zeros 64))
def wRxDelta : LineRx := wRxOf (wFrame 4 5 (leBytes 2 1 ++ zeros 2 ++ zeros 64))
def wOut : LineOut := ⟨{ wFrame 3 9 [] with src := 5, xmit := 5 }, false, none, 0, 0, false, 0, none⟩
def wRxAck : LineRx := wRxOf (wFrame 2 5 (leBytes 2 5 ++ leBytes 2 1))
/-- An impulse that blanks more than half of a SOUND's symbols. -/
def wBlanked : List (Nat × Nat) := (List.range 200).map fun i => (320 * 16 + 16 * i, 20000)
def wLineAwait : State := wLine.setLine fun l => { l with awaiting := some wOut }
def wLineB : State := { wLine with cfg := [(0xB000, 3), (0xB004, 0x01010005), (0xB008, 0x00090009)] }
def wLineC : State := { wLineB.setLine (fun l => { l with st := 3 }) with cfg := [(0xB000, 5), (0xB004, 0x01010005), (0xB008, 0x00090009)] }
def wLineQ : State := wLine.setLine fun l => { l with queue := [wOut] }
def wTx (ackReq : Bool) : LineTx := ⟨{ wOut with f := { wOut.f with ackReq := ackReq } }, [], 0, 0, false⟩
def wMember : State :=
  { wLineB.setLine (fun l => { l with st := 2, members := [9, 5], slot := 1, beaconAt := some 0, soundReq := 5 }) with htc := 6500000 }
def wMemberHost : State := wHosted wMember
def wTakeover : State :=
  { wLineB.setLine (fun l => { l with st := 4, members := [9, 5], bp := 1, beaconAt := some 0 }) with
    cfg := [(0xB000, 0xB), (0xB004, 0x01010005), (0xB008, 0x00090009)] }
def wKeyMsg (done : Bool) : KeyPending := ⟨1, [], [], [], false, [], if done then 0 else 5, done⟩
def wKeyPend (done : Bool) : State := { wOn with keys := { Keys.reset with pendingMsg := some (wKeyMsg done) } }
def wRooted : State := { wHost with island := { wHost.island with root := some 1 } }
def wOwner : Bytes := zeros 133
def wKeyUpd : State :=
  { wRooted with fuses := { wRooted.fuses with owners := wRooted.fuses.owners.set 0 (some (Config.sha384 wOwner)) } }
def wKeyUpdD : Desc :=
  wD 0 (len := 558) (pay :=
    zeros 6 ++ [0, 1] ++ leBytes 8 wKeyUpd.fuses.dieIdD.toNat ++ [BitVec.ofNat 8 wKeyUpd.keyEpoch] ++ zeros 7 ++
      leBytes 8 1 ++ zeros 32 ++ zeros 133 ++ ([2, 0x10] ++ zeros 94) ++ wOwner ++ zeros 132)
def wKeyWork : KeyWork := ⟨[], [], [], false, []⟩
def wBundle (stage : Bool) : State :=
  { wOn with mgt := { Mgt.reset with download := some ⟨zeros 64, stage, true⟩ } }
def wSched (r : Option Nat) : State :=
  wLateOn.setBoot fun b => { b with state := 2, sched := some ⟨true, 5, 0, 0, 1, r⟩ }
def wSchedOld : State :=
  wLateOn.setBoot fun b => { b with state := 2, sched := some ⟨true, 5, 0, 0, 0, some 0⟩ }
def wTrial : State :=
  { wOn with mgt := { Mgt.reset with trial := true }, saf := { Saf.reset with armed := true, scRun := true }, abc := { Abc.reset with ready := true } }
def wSchedD : Desc := wD 0 (len := 64) (pay := [1, 0, 0, 0] ++ zeros 24 ++ leBytes 4 60 ++ zeros 32)
def wEpdLine : EpdLine := ⟨0, [0], [1]⟩
def wEpdRun : EpdRun := ⟨none, 0, [], 0, 0, 0, 0, 0⟩
def wEpdFrames : Nat := 1
def wWave : Bytes := List.replicate 256 1
def wEpdReading : State :=
  { wOn.setEpd 0 (fun e => { e with stage := .reading, run := some { wEpdRun with lines := [wEpdLine] } }) with
    nv := { Nv.reset with links := { NvLinks.reset with waves := (List.range 24).map fun k => (k, wWave ++ zeros 4096) } } }
def wEpdDriving (n : Nat) : State := wLateOn.setEpd 3 fun e => { e with stage := .driving, run := some { wEpdRun with frames := n } }
def wEpdHost : State := { wHosted (wCfg [(0xE100, 0x00101011)]) with htc := 4000000000000 }
def wPairCfg : RegMap := [(0xF000, 1)]
def wProbe : State := { wCfg wPairCfg with htc := 490, pair := { Pair.reset with drive := true } }
def wPaired : State := { wCfg wPairCfg with mgt := { Mgt.reset with mcRun := true } }
def wPairedUp : State := { wPaired with pair := { Pair.reset with linkUp := true }, abc := { Abc.reset with ready := true } }
def wHealthy : State :=
  { wPairedUp with htc := 4000000000000, saf := { Saf.reset with scRun := true, cfgMatch := true },
                   power := { wOn.power with feedA := ⟨true, true⟩ } }
def wClaim : State := { wHealthy with pair := { Pair.reset with highFrom := some 0 } }
def wHold : State := wPaired.setPair fun p => { p with hold := true }
def wHealth : Bytes := zeros 9 ++ [1] ++ zeros 54
def wJBlock : JBlock := ⟨1, 0, []⟩
def wResend : State :=
  { wPairedUp with pair := { Pair.reset with hold := true, linkUp := true }, abc := { Abc.reset with jseq := 1 },
                   nv := { Nv.reset with journal := [wJBlock] } }
def wRelease : State :=
  wPairedUp.setPair fun p => { p with byTakeback := true, drive := true, linkUp := true, pHealthy := true, pSync := true }
def wHandover : State :=
  wHosted (wPairedUp.setPair fun p => { p with hold := true, linkUp := true, pHealthy := true, pSync := true })
def wBadWrite : Option ArbWrite := some ⟨true, 0, [0]⟩
def wHog : State := { wOn with arb := { Arb.reset with grants := [⟨15, 3, 1, none⟩] } }
def wAttId : Nat := 0x20
def wAttD : Desc := wD wAttId (len := 32) (pay := zeros 32)
def wAttVal : Nat := (taken wRooted 0 wAttD).derivedScalar "TSU ATTEST"
def wAttOrigin : Nat := 1

/-- Such a request's authentication block holds. -/
theorem wAuth_right (role op len : Nat) (tail : Bytes) (h : role < 4) (h1 : 1 ≤ role) (hr : roleRight role op = true)
    (hk : (taken wRole 0 (wAuth role op len tail)).keyVal (roleKey role) = some role)
    (hc : (taken wRole 0 (wAuth role op len tail)).book.img.roleCtr = .replicate 4 0) 
    (hd : (taken wRole 0 (wAuth role op len tail)).fuses = State.reset.fuses)
    (hu : (wAuth role op len tail).unit.toNat = 0 ∧ (wAuth role op len tail).param0.toNat = 0 ∧ (wAuth role op len tail).param1.toNat = 0) :
    (taken wRole 0 (wAuth role op len tail)).authRole op (wAuth role op len tail) = (true, wAuthed role op len h tail) := by
  have hf : field (wAuth role op len tail).payload 16 8 = cmac8 role (wAuthMsg role op tail) := by
    unfold wAuth
    refine (field_append_right (BitVec.ofNat 8 role :: zeros 7 ++ leBytes 8 1) _ 8).trans ?_
    refine Eq.trans ?_ (leNat_leBytes_of_lt (n := 8) (Nat.mod_lt _ (by decide)))
    rw [List.take_append_of_le_length (by simp), List.take_of_length_le (by simp)]
  have e0 : field (wAuth role op len tail).payload 0 1 = role := by
    show (BitVec.ofNat 8 role).toNat + 256 * 0 = role
    rw [BitVec.toNat_ofNat]; omega
  have e1 : field (wAuth role op len tail).payload 1 7 = 0 := rfl
  have ep : (wAuth role op len tail).payload.take 1 = [BitVec.ofNat 8 role] := rfl
  have ew : (wAuth role op len tail).payload = (BitVec.ofNat 8 role :: zeros 7 ++ leBytes 8 1) ++
      (leBytes 8 (cmac8 role (wAuthMsg role op tail)) ++ (zeros 8 ++ tail)) := rfl
  have eq : ((wAuth role op len tail).payload.drop 8).take 8 = leBytes 8 1 := by
    rw [ew]
    rw [List.drop_append_of_le_length (by simp), List.take_append_of_le_length (by simp)]; rfl
  have e8 : field (wAuth role op len tail).payload 8 8 = 1 := by unfold field; rw [eq]; decide
  have e24 : field (wAuth role op len tail).payload 24 8 = 0 := by
    unfold field
    rw [ew, List.drop_append, List.drop_eq_nil_of_le (by simp), List.nil_append, List.drop_append, List.drop_eq_nil_of_le (by simp),
      List.nil_append, List.take_drop]
    simp; decide
  have et : (wAuth role op len tail).payload.drop 32 = tail := by
    rw [ew, ← List.append_assoc, ← List.append_assoc]
    exact List.drop_left' (by simp)
  have em : leBytes 8 (taken wRole 0 (wAuth role op len tail)).fuses.dieIdD.toNat ++ [BitVec.ofNat 8 op] ++ leBytes 2 (wAuth role op len tail).unit.toNat ++ leBytes 4 (wAuth role op len tail).param0.toNat ++
    leBytes 8 (wAuth role op len tail).param1.toNat ++ (wAuth role op len tail).payload.take 1 ++ ((wAuth role op len tail).payload.drop 8).take 8 ++ (wAuth role op len tail).payload.drop 32 = wAuthMsg role op tail := by
    rw [ep, eq, et, hd, hu.1, hu.2.1, hu.2.2]; rfl
  unfold State.authRole wAuthed
  simp only [em, e0, hf, hk, e8, e1, e24, hr]
  rw [dif_pos ⟨h1, by omega⟩]
  simp [hc]

/-- The bytes of such a frame before its MIC. -/
def wRxPre (f : LineFrame) : Bytes := f.header 0x0101 ++ (f.route.flatMap fun r => leBytes 2 r) ++ f.body ++ leBytes 4 1

theorem wRxOf_bytes (f : LineFrame) : ∃ c : Nat, c < 256 ^ 4 ∧ c = (crc32 (wRxPre f ++ leBytes 4 (lineMic 1 f 0x0101 1))).toNat ∧
    (wRxOf f).bytes = wRxPre f ++ (leBytes 4 (lineMic 1 f 0x0101 1) ++ leBytes 4 c) :=
  ⟨_, (crc32 _).isLt, rfl, List.append_assoc ..⟩

/-- The MIC of such a frame is the one under the key. -/
theorem wRxOf_mic (f : LineFrame) : lineMicIn (wRxOf f).bytes = lineMic 1 f 0x0101 1 := by
  obtain ⟨c, -, -, hb⟩ := wRxOf_bytes f
  unfold lineMicIn
  rw [hb, show (wRxPre f ++ (leBytes 4 (lineMic 1 f 0x0101 1) ++ leBytes 4 c)).length - 8 = (wRxPre f).length by simp,
    field_append_right, List.take_left' (by simp)]
  exact leNat_leBytes_of_lt (Nat.mod_lt _ (by decide))

/-- Its CRC is right. -/
theorem wRxOf_crc (f : LineFrame)
    (hl : ((wRxOf f).bytes.length == 28 + 2 * (field (wRxOf f).bytes 1 1 / 16 % 8) + field (wRxOf f).bytes 12 2) = true) :
    lineCrcOk (wRxOf f).bytes = true := by
  obtain ⟨c, hc, he, hb⟩ := wRxOf_bytes f
  unfold lineCrcOk
  simp only [hl, Bool.true_and]
  rw [hb, ← List.append_assoc]
  have hn : (wRxPre f ++ leBytes 4 (lineMic 1 f 0x0101 1) ++ leBytes 4 c).length - 4 =
      (wRxPre f ++ leBytes 4 (lineMic 1 f 0x0101 1)).length := by simp
  rw [hn, field_append_right, List.take_left' rfl, List.take_of_length_le (by simp), leNat_leBytes_of_lt hc, he]
  simp

/-- A frame so built arrives where all else that R397 to R400 ask holds. -/
theorem wRxOf_arrives (s : State) (f : LineFrame) (tys : List Nat) (hk : s.keyVal 4 = some 1) (hn : s.lineNid = 0x0101)
    (hl : ((wRxOf f).bytes.length == 28 + 2 * (field (wRxOf f).bytes 1 1 / 16 % 8) + field (wRxOf f).bytes 12 2) = true)
    (hp : parseLine (wRxOf f).bytes = f) (hc : lineFcnt (wRxOf f).bytes = 1)
    (ha : s.line.st ≠ 0 ∧ s.lineTxen 1000 = false ∧ 1000 ≤ s.now)
    (hb : f.body.length ≤ 1024 ∧ field (wRxOf f).bytes 2 2 = s.lineNid ∧ f.src ≠ s.lineAddr ∧ f.src < 1024 ∧ tys.contains f.ty = true)
    (hd : (f.dst = 0xFFFF ∨ (f.dst = s.lineAddr ∧ f.next = s.lineAddr ∧ f.ackReq = false)) ∧ s.lineAddr ≠ 0xFFFF)
    (he : (∀ p ∈ (heardFrame s (wRxOf f)).nv.links.lineSeen, p.1 ≠ f.src) ∧ (∀ p ∈ (heardFrame s (wRxOf f)).line.rxSeqs, p.1 ≠ f.src)) :
    Arrives s (wRxOf f) tys := by
  unfold Arrives
  rw [hp]
  exact ⟨ha.1, ha.2.1, Nat.le_refl _, ha.2.2, wRxOf_crc f hl, rfl, Or.inl rfl, hb.1, hb.2.1, hb.2.2.1, hb.2.2.2.1, hb.2.2.2.2,
    by rw [hk, hn, hc, wRxOf_mic]; simp, hd.1, hd.2, he.1, he.2⟩

/-- The first pass proves its token, whatever the cipher. -/
theorem wPass_proves (n : Nat) : (authPass n (some 1) [] wPass).2 ≠ none := by simp [authPass, wPass]

/-- An answer with its MAC is heard as data under a session key of 0. -/
theorem wAns_heard (x : Reader) (h : x.sessKey = 0) : x.hear wAns = .data (wHeard x.cmdCtr) := by
  simp [Reader.hear, wAns, wHeard, h]

/-- A block's CRC field holds the CRC of its other bytes. -/
theorem jblock_crc (b : JBlock) : field b.bytes 28 4 = (crc32 (b.bytes.take 28 ++ b.bytes.drop 32)).toNat := by
  obtain ⟨h, es, hl, hb⟩ : ∃ h es : Bytes, h.length = 28 ∧ b.bytes = h ++ (leBytes 4 (crc32 (h ++ es)).toNat ++ es) :=
    ⟨_, _, by simp, List.append_assoc ..⟩
  have h1 : b.bytes.take 28 = h := by rw [hb]; exact List.take_left' hl
  have h2 : b.bytes.drop 32 = es := by rw [hb, ← List.append_assoc]; exact List.drop_left' (by simp [hl])
  rw [h1, h2, hb, ← hl, field_append_right, List.take_left' (by simp)]
  exact leNat_leBytes_of_lt (crc32 _).isLt

theorem jblock_reads : jblockOfBytes wJBlock.bytes = some wJBlock := by
  have hc := jblock_crc wJBlock
  unfold jblockOfBytes
  simp only [← hc]
  rw [if_neg (by simp; decide +kernel)]
  decide +kernel

/-- A slot with its trailer is the newest valid record. -/
theorem wStep9Rec_newest : wStep9Rec.nv.newestSlot = some wRecSlot := by
  have h : wRecSlot.valid = true := by simp [CommitSlot.valid, wRecSlot, CommitImage.trailer, wImage]
  show (if (Nv.newestB { Nv.reset with slotA := some wRecSlot }) = true then _ else if wRecSlot.valid = true then some wRecSlot else none) = _
  rw [h]; rfl

theorem wAttD_key : (taken wRooted 0 wAttD).attestKey wAttD.unit.toNat = some (some wAttVal, wAttOrigin) := by
  have h : wAttD.unit.toNat = 0x20 := by decide +kernel
  simp [h, State.attestKey, wAttVal, wAttOrigin]

/-! ## Witnesses: every clause of every completion statement, met by a small state -/

theorem witness_RailsAndFeedsComplete :
  (∃ (s : State),
    s.power.vsysUp = false ∧
    s.power.lockedOut = false) ∧
  (∃ (s : State),
    s.power.vsysUp = true ∧
    s.power.biasGood = false ∧
    s.boot.step = 1) ∧
  (∃ (s : State) (rail : Fin 5),
    s.power.starting = true ∧
    s.power.railsGood = rail.val ∧
    rail ≠ 4) ∧
  (∃ (s : State),
    s.power.starting = true ∧
    s.power.railsGood = 4) ∧
  (∃ (s : State) (rail : Fin 5),
    s.power.starting = true ∧
    s.power.railsGood = rail.val) ∧
  (∃ (s : State),
    s.power.retryWait = true) ∧
  (∃ (s : State),
    s.power.vsysUp = true) ∧
  (∃ (s : State),
    s.power.vsysUp = false) ∧
  (∃ (s : State) (feed : Fin 2) (vin vsys : Nat),
    (s.feed feed).present = true ∧
    vsys + 20 < vin) ∧
  (∃ (_s : State) (_feed : Fin 2) (vin vsys : Nat),
    vin + 15 < vsys) ∧
  (∃ (s : State) (feed : Fin 2) (vin : Nat),
    (s.feed feed).present = false ∧
    8800 ≤ vin ∧
    vin ≤ 60600 ∧
    s.htcLoaded = true) ∧
  (∃ (s : State) (feed : Fin 2) (vin : Nat),
    (s.feed feed).present = true ∧
    vin < 8400 ∧
    s.htcLoaded = true) ∧
  (∃ (s : State) (feed : Fin 2) (vin : Nat),
    (s.feed feed).present = true ∧
    61000 < vin ∧
    s.htcLoaded = true) ∧
  (∃ (_s : State) (mv : Nat),
    2600 ≤ mv) ∧
  (∃ (s : State) (mv : Nat),
    1900 ≤ mv ∧
    mv < 2600 ∧
    s.power.vbatLow = false ∧
    s.htcLoaded = true) ∧
  (∃ (s : State) (mv : Nat),
    mv < 1900 ∧
    s.power.vbatLow = true ∧
    s.power.onVbat = true) ∧
  (∃ (_s : State) (mv : Nat),
    3000 < mv) ∧
  (∃ (_s : State) (mv : Nat),
    mv ≤ 3000) :=
  ⟨⟨wDark, by decide +kernel⟩,
    ⟨State.reset, by decide +kernel⟩,
    ⟨wRails 3, 3, by decide +kernel⟩,
    ⟨wRails 4, by decide +kernel⟩,
    ⟨wRails 4, 4, by decide +kernel⟩,
    ⟨wRetry, by decide +kernel⟩,
    ⟨State.reset, by decide +kernel⟩,
    ⟨wDark, by decide +kernel⟩,
    ⟨wFeeds, 1, 21, 0, by decide +kernel⟩,
    ⟨wFeeds, 0, 0, 16, by decide +kernel⟩,
    ⟨wOn, 0, 8800, by decide +kernel⟩,
    ⟨wFeeds, 1, 8399, by decide +kernel⟩,
    ⟨wFeeds, 1, 61001, by decide +kernel⟩,
    ⟨wOn, 2600, by decide +kernel⟩,
    ⟨wFed, 2599, by decide +kernel⟩,
    ⟨{ wOn with power := { wOn.power with vbatLow := true, onVbat := true } }, 1899, by decide +kernel⟩,
    ⟨State.reset, 3001, by decide +kernel⟩,
    ⟨wFed, 3000, by decide +kernel⟩⟩

theorem witness_HoldupAndCommitsComplete :
  (∃ (s : State) (mv us : Nat),
    7 ≤ s.boot.step ∧
    s.power.holdupNow = false ∧
    mv < s.vHu ∧
    50 ≤ us ∧
    s.htcLoaded = true) ∧
  (∃ (s : State) (k : Commit) (i : CommitImage),
    s.commit = some k ∧
    k.bodyDone = false ∧
    k.shadow = some i) ∧
  (∃ (s : State) (k : Commit),
    s.commit = some k ∧
    k.kind ≠ 1 ∧
    k.bodyDone = false ∧
    k.shadow = none) ∧
  (∃ (s : State) (k : Commit),
    s.commit = some k ∧
    k.bodyDone = true ∧
    k.slotB = false ∧
    s.chipResetDue = none) ∧
  (∃ (s : State) (k : Commit),
    s.commit = some k ∧
    k.bodyDone = true ∧
    k.slotB = true ∧
    s.chipResetDue = none) ∧
  (∃ (s : State),
    s.glb.ckptInterval.toNat ≠ 0 ∧
    s.now % (s.glb.ckptInterval.toNat * ticksPerS) = 0 ∧
    s.legalOn = true ∧
    s.commit = none ∧
    s.frozenAt = none ∧
    (∀ x ∈ s.nv.slotA, x.freeze ≠ s.now) ∧
    (∀ x ∈ s.nv.slotB, x.freeze ≠ s.now)) ∧
  (∃ (s : State) (mv ms : Nat),
    s.power.holdupNow = true ∧
    s.vHu + 1000 ≤ mv ∧
    100 ≤ ms ∧
    s.commit = none ∧
    s.frozenAt ≠ none) ∧
  (∃ (s : State) (mv ms : Nat),
    s.power.holdupNow = true ∧
    s.vHu + 1000 ≤ mv ∧
    100 ≤ ms ∧
    s.commit = none ∧
    s.frozenAt = none) :=
  ⟨⟨wOn, 7999, 50, by decide +kernel⟩,
    ⟨wCommitShadow, ⟨2, 5, 1, false, some wImage, false, none⟩, wImage, by decide +kernel⟩,
    ⟨wCommit, ⟨2, 5, 1, false, none, false, none⟩, by decide +kernel⟩,
    ⟨{ wOn with commit := some ⟨1, 0, 1, false, none, true, none⟩ }, ⟨1, 0, 1, false, none, true, none⟩, by decide +kernel⟩,
    ⟨{ wOn with commit := some ⟨1, 0, 1, true, none, true, none⟩ }, ⟨1, 0, 1, true, none, true, none⟩, by decide +kernel⟩,
    ⟨wOn, by decide +kernel⟩,
    ⟨{ wHoldup with frozenAt := some 0 }, 9000, 100, by decide +kernel⟩,
    ⟨wHoldup, 9000, 100, by decide +kernel⟩⟩

theorem witness_ClocksAndResetsComplete :
  (∃ (s : State),
    s.clocks.ok.getLsbD 0 = true ∧
    s.boot.step < 8) ∧
  (∃ (s : State),
    s.clocks.ok.getLsbD 0 = true ∧
    8 ≤ s.boot.step ∧
    s.boot.ddrOk = true) ∧
  (∃ (s : State),
    s.clocks.ok.getLsbD 1 = true ∧
    7 ≤ s.boot.step ∧
    s.htcLoaded = true) ∧
  (∃ (s : State),
    s.clocks.ok.getLsbD 2 = true) ∧
  (∃ (s : State),
    s.clocks.ok.getLsbD 3 = true) ∧
  (∃ (s : State) (pll : Fin 4),
    s.clocks.ok.getLsbD (4 + pll.val) = true ∧
    pll ≠ 3) ∧
  (∃ (s : State),
    s.clocks.ok.getLsbD 7 = true ∧
    s.boot.ddrOk = true) ∧
  (∃ (s : State) (_pll : Fin 4),
    8 ≤ s.boot.step) ∧
  (∃ (s : State) (us : Nat),
    1 ≤ us ∧
    7 ≤ s.boot.step) ∧
  (∃ (s : State) (us : Nat),
    1 ≤ us ∧
    s.boot.step < 7) ∧
  (∃ (_s : State) (val : BitVec 32),
    regField val 16 16 = 0xA5C3 ∧
    val.getLsbD 0 = true) ∧
  (∃ (_s : State) (val : BitVec 32),
    regField val 16 16 = 0xA5C3 ∧
    val.getLsbD 0 = false) ∧
  (∃ (s : State),
    s.htcLoaded = true) :=
  ⟨⟨wStep7, by decide +kernel⟩,
    ⟨wOn, by decide +kernel⟩,
    ⟨wOn, by decide +kernel⟩,
    ⟨wOn, by decide +kernel⟩,
    ⟨wOn, by decide +kernel⟩,
    ⟨wOn, 1, by decide +kernel⟩,
    ⟨wOn, by decide +kernel⟩,
    ⟨wOn, 2, by decide +kernel⟩,
    ⟨wOn, 1, by decide +kernel⟩,
    ⟨State.reset, 1, by decide +kernel⟩,
    ⟨wOn, 0xA5C30001, by decide +kernel⟩,
    ⟨wOn, 0xA5C37F00, by decide +kernel⟩,
    ⟨wOn, by decide +kernel⟩⟩

theorem witness_StartUpAndProfilesComplete :
  (∃ (s : State) (_prof : BitVec 2) (_pri _trst : Bool),
    s.boot.step = 7 ∧
    s.boot.rstNHigh = true ∧
    s.clocks.ok.getLsbD 0 = true) ∧
  (∃ (s : State) (code : Byte) (_ok : Bool),
    s.boot.step = 8 ∧
    code ≠ 0) ∧
  (∃ (s : State),
    s.boot.step = 8 ∧
    dieOk s.fuses.dieIdD = true ∧
    dieOk s.fuses.dieIdA = true ∧
    s.nv.newestSlot = none) ∧
  (∃ (s : State),
    s.boot.step = 9 ∧
    s.boot.phase = 2 ∧
    s.power.holdupNow = false ∧
    s.chipResetDue = none ∧
    s.nv.newestSlot = none) ∧
  (∃ (s : State) (i : CommitImage) (x : CommitSlot),
    s.boot.step = 9 ∧
    s.boot.phase = 2 ∧
    s.power.holdupNow = false ∧
    s.chipResetDue = none ∧
    s.nv.newestSlot = some x ∧
    x.image = some i) ∧
  (∃ (s : State),
    s.boot.step = 10) ∧
  (∃ (s : State) (_w _sp : BitVec 2),
    8 ≤ s.boot.step ∧
    s.boot.perstHigh = true) ∧
  (∃ (s : State),
    11 ≤ s.boot.step ∧
    s.boot.ddrOk = false ∧
    s.boot.phase ≠ 0xF) ∧
  (∃ (s : State),
    11 ≤ s.boot.step ∧
    s.boot.ddrOk = false ∧
    s.boot.phase ≠ 0xF) ∧
  (∃ (s : State) (i : BitVec 2),
    (s.glb.profActiveValid = false ∨ s.glb.profActive ≠ i)) ∧
  (∃ (s : State),
    s.glb.profActiveValid = true) ∧
  (∃ (s : State) (_cut : List (Fin 32 × List BitWindow × List BitWindow)),
    s.glb.profPendingValid = true ∧
    11 ≤ s.boot.step ∧
    s.quiescent = true ∧
    s.frozen = false) :=
  ⟨⟨wStep7, 3, true, true, by decide +kernel⟩,
    ⟨wStep8, 1, true, by decide +kernel⟩,
    ⟨wStep8, by decide +kernel⟩,
    ⟨wStep9, by decide +kernel⟩,
    by refine ⟨wStep9Rec, wImage, wRecSlot, ?_, ?_, ?_, ?_, wStep9Rec_newest, ?_⟩ <;> decide +kernel,
    ⟨wStep10, by decide +kernel⟩,
    ⟨wPerst, 2, 1, by decide +kernel⟩,
    ⟨wStep11, by decide +kernel⟩,
    ⟨wStep11, by decide +kernel⟩,
    ⟨wOn, 3, by decide +kernel⟩,
    ⟨wProf, by decide +kernel⟩,
    ⟨wPend, [], by decide +kernel⟩⟩

theorem witness_HostInterfaceComplete :
  (∃ (s : State) (tick : Nat),
    tick + 8 ≤ s.now) ∧
  (∃ (s : State) (ring : Fin 16),
    s.hif.rings[ring].en = false) ∧
  (∃ (s : State) (ring : Fin 16) (x : BitVec 16),
    toDevice ring = true ∧
    (x - s.hif.rings[ring].cons).toNat ≤ s.hif.rings[ring].size) ∧
  (∃ (s : State) (ring : Fin 16) (x : BitVec 16),
    toDevice ring = false ∧
    (x - s.hif.rings[ring].cons).toNat ≤ (s.hif.rings[ring].prod - s.hif.rings[ring].cons).toNat) ∧
  (∃ (s : State) (ring : Fin 16) (x : BitVec 16),
    toDevice ring = true ∧
    s.hif.rings[ring].size < (x - s.hif.rings[ring].cons).toNat) ∧
  (∃ (s : State) (ring : Fin 16) (x : BitVec 16),
    toDevice ring = false ∧
    (s.hif.rings[ring].prod - s.hif.rings[ring].cons).toNat < (x - s.hif.rings[ring].cons).toNat) ∧
  (∃ (s : State) (d : Desc),
    Ready s 0 d ∧
    Plain d ∧
    d.scope = 0 ∧
    d.len.toNat = 0) ∧
  (∃ (s : State) (ring : Fin 16) (d : Desc),
    toDevice ring = true ∧
    (ringOpcodes ring.val).contains d.opcode.toNat = false ∧
    Ready s ring d) ∧
  (∃ (s : State) (ring : Fin 16) (_d : Desc) (_rest : Nat),
    toDevice ring = true ∧
    s.hif.rings[ring].err = false ∧
    s.ringRun ring = true ∧
    16 ≤ s.hif.rings[ring].fill ∧
    (∀ w ∈ s.waiting, w.ring ≠ ring.val) ∧
    (s.boot.phase = 7 ∨ ring = 14)) ∧
  (∃ (s : State) (ring : Fin 16) (_code : Fin 4),
    toDevice ring = true ∧
    s.ringRun ring = true) ∧
  (∃ (s : State) (ring : Fin 16),
    toDevice ring = false ∧
    s.ringRun ring = true ∧
    s.spill[ring].dropped = 0) ∧
  (∃ (s : State) (vec : Fin 32),
    s.hif.vecs[vec].waiting ≠ 0 ∧
    s.hif.vecs[vec].oldest + ticksUs s.hif.vecs[vec].time.toNat ≤ s.now) ∧
  (∃ (s : State) (op : Byte) (unit : Nat),
    s.expired .tCommand unit op.toNat = true) ∧
  (∃ (_s : State) (be : BitVec 4) (_val : BitVec 32) (_off : BitVec 17) (x : Bool),
    (be ≠ 0xF ∨ x = true)) ∧
  (∃ (s : State) (_val : BitVec 32) (off : BitVec 17),
    off.toNat % 4 = 0 ∧
    0x2000 ≤ off.toNat ∧
    s.boot.phase ≠ 7) ∧
  (∃ (s : State) (_val : BitVec 32) (off : BitVec 17) (r : ErrReg),
    off.toNat % 4 = 0 ∧
    (s.boot.phase = 7 ∨ off.toNat < 0x2000) ∧
    errRegAt off.toNat = some r ∧
    r ≠ .mgt) ∧
  (∃ (s : State) (off : BitVec 17) (_be : BitVec 4) (hi v : Nat),
    off.toNat % 4 = 0 ∧
    off ≠ 0x48 ∧
    off ≠ 0x5100 ∧
    unitAt off.toNat 0x3118 0x20 32 = none ∧
    s.pairValue off.toNat = some (hi, v)) ∧
  (∃ (s : State) (off : BitVec 17) (_be : BitVec 4),
    off.toNat % 4 = 0 ∧
    off ≠ 0x48 ∧
    off ≠ 0x5100 ∧
    unitAt off.toNat 0x3118 0x20 32 = none ∧
    s.pairValue off.toNat = none) :=
  ⟨⟨wLate, 0, by decide +kernel⟩,
    ⟨State.reset, 15, by decide +kernel⟩,
    ⟨wHost, 0, 16, by decide +kernel⟩,
    ⟨wHost, 1, 0, by decide +kernel⟩,
    ⟨wHost, 0, 17, by decide +kernel⟩,
    ⟨wHost, 1, 1, by decide +kernel⟩,
    ⟨wHost, wD 0, by decide +kernel⟩,
    ⟨wHost, 0, wD 0 (op := 0xFF), by decide +kernel⟩,
    ⟨wHost16, 0, wD 0 (op := 0x10), 3, by decide +kernel⟩,
    ⟨wHost, 0, 3, by decide +kernel⟩,
    ⟨wHost, 1, by decide +kernel⟩,
    ⟨wVec, 31, by decide +kernel⟩,
    ⟨wT .tCommand 3 0x70, 0x70, 3, by decide +kernel⟩,
    ⟨wHost, 0xE, 0, 0x54, false, by decide +kernel⟩,
    ⟨State.reset, 0, 0x2000, by decide +kernel⟩,
    ⟨wHost, 1, 0x2038, .lane 0, by decide +kernel⟩,
    ⟨State.reset, 0x0004, 0xF, 8, 0, by decide +kernel⟩,
    ⟨wOn, 0x54, 0x3, by decide +kernel⟩⟩

theorem witness_LaneEventsComplete :
  (∃ (s : State) (_sense : List LaneSense) (_loads : List (Fin 48 × Nat)),
    s.now % 24576 = 0) ∧
  (∃ (s : State) (n : Fin 32) (f : PilotForm),
    s.now % 24576 = 0 ∧
    s.lanes[n].next = some f ∧
    s.lanes[n].nextFrom < s.now ∧
    (∀ m : Fin 32, m ≠ n → s.lanes[m].next = none)) ∧
  (∃ (s : State) (lane : Fin 32) (w : Wave),
    s.now % 24576 = sampleTick s.lanes[lane].form ∧
    (s.lanes[lane].samplePeriod (s.now - s.now % 24576) w).sampled = some s.now ∧
    3 ≤ (s.lanes[lane].samplePeriod (s.now - s.now % 24576) w).runCount ∧
    (s.lanes[lane].samplePeriod (s.now - s.now % 24576) w).pilot ≠ (s.lanes[lane].samplePeriod (s.now - s.now % 24576) w).runClass) ∧
  (∃ (s : State) (lane : Fin 32) (r : Nat),
    s.ppRead lane = true ∧
    s.now % 245760 = 0 ∧
    3 ≤ (s.lanes[lane].takePp r s.now).ppCount ∧
    (s.lanes[lane].takePp r s.now).rating ≠ (s.lanes[lane].takePp r s.now).ppClass ∧
    s.ratingValid lane = false) ∧
  (∃ (s : State) (lane : Fin 32) (mirror high : Bool),
    ((if mirror then s.lanes[lane].fbbHigh else s.lanes[lane].fbaHigh) = !high)) ∧
  (∃ (s : State) (lane : Fin 32),
    s.expired .tClose lane.val = true ∧
    s.lanes[lane].st = .closing) ∧
  (∃ (s : State) (lane : Fin 32),
    s.expired .tFb lane.val = true ∧
    s.lanes[lane].st = .closing) ∧
  (∃ (s : State) (lane : Fin 32),
    s.expired .tFb lane.val = true ∧
    s.lanes[lane].st = .opening ∧
    s.lanes[lane].target = .fault) ∧
  (∃ (s : State) (lane : Fin 32),
    s.expired .tStop lane.val = true ∧
    s.lanes[lane].st = .stopping) ∧
  (∃ (s : State) (lane : Fin 32),
    s.expired .tFaultHold lane.val = true ∧
    s.lanes[lane].st = .fault ∧
    s.lanePf lane 0 11 1 = 1 ∧
    s.lanes[lane].causes ≠ 0 ∧
    s.lanes[lane].causes &&& 0xFFFFFFF8 = 0) ∧
  (∃ (s : State) (lane : Fin 32),
    s.expired .tMod lane.val = true) ∧
  (∃ (s : State) (lane : Fin 32) (e : Nat),
    s.now % 245760 = 30720 * (lane.val % 8) ∧
    s.pmcan[laneCtl lane].tec.toNat + 8 * e < 256) ∧
  (∃ (s : State) (ctl : Fin 4) (a : BitVec 6) (bs : List (BitVec 8)) (e : Nat) (n : Fin 32),
    s.pf (0x2060 + 0x400 * ctl.val) 0 1 ≠ 0 ∧
    s.pmcan[ctl].estate ≠ 2 ∧
    bs.length = 16 ∧
    s.moduleLane ctl a.toNat = some n ∧
    field bs 0 1 ≠ 0x0F ∧
    (s.received ctl e).lanes[n].dc.state = field bs 0 1 % 16) ∧
  (∃ (s : State) (ctl : Fin 4) (e : Nat),
    s.pf (0x2060 + 0x400 * ctl.val) 0 1 ≠ 0 ∧
    s.pmcan[ctl].estate ≠ 2 ∧
    256 ≤ s.pmcan[ctl].tec.toNat + 8 * e) ∧
  (∃ (s : State) (ctl : Fin 4),
    s.pmcan[ctl].estate = 2) :=
  ⟨⟨wNextForm, [], [(3, 70)], by decide +kernel⟩,
    ⟨wNextForm, 4, .pwm 200, by decide +kernel⟩,
    ⟨wPilot, 0, wWaveB, by decide +kernel⟩,
    ⟨wPp, 31, 80, by decide +kernel⟩,
    ⟨wOn, 31, true, true, by decide +kernel⟩,
    ⟨wLaneT .tClose .closing, 0, by decide +kernel⟩,
    ⟨wLaneT .tFb .closing, 0, by decide +kernel⟩,
    ⟨(wLaneT .tFb .opening).setLane 0 fun l => { l with target := .fault }, 0, by decide +kernel⟩,
    ⟨wLaneT .tStop .stopping, 0, by decide +kernel⟩,
    ⟨(wLaneT .tFaultHold .fault).setLane 0 fun l => { l with causes := 1 }, 0, by decide +kernel⟩,
    ⟨wT .tMod 31 0, 31, by decide +kernel⟩,
    ⟨wOn, 24, 31, by decide +kernel⟩,
    ⟨wDc, 0, 0, zeros 16, 0, 0, by decide +kernel⟩,
    ⟨wDc, 0, 32, by decide +kernel⟩,
    ⟨{ wOn with pmcan := wOn.pmcan.set 3 { Pmcan.reset with estate := 2 } }, 3, by decide +kernel⟩⟩

theorem witness_LaneCommandsComplete :
  (∃ (s : State) (d : Desc) (n : Fin 32),
    Ready s 0 d ∧
    Plain d ∧
    d.scope = 0 ∧
    d.len = 0 ∧
    dbyte d 24 ≤ 1 ∧
    d.unit.toNat = n.val ∧
    (taken s 0 d).lanes[n].st ≠ .disabled) ∧
  (∃ (s : State) (d : Desc),
    Ready s 0 d ∧
    Plain d ∧
    d.scope = 1 ∧
    d.unit = 0 ∧
    d.len = 0 ∧
    dbyte d 24 ≤ 1 ∧
    (gangCheck 0x10 (maskUnits d.param0 0) (fun u => decide (u < 32)) (fun _ => false) (taken s 0 d).laneUsable = none)) ∧
  (∃ (s : State) (d : Desc) (n : Fin 32),
    Ready s 0 d ∧
    Plain d ∧
    d.scope = 0 ∧
    d.len = 0 ∧
    d.unit.toNat = n.val ∧
    (taken s 0 d).limitOk n.val (dparam d 24 2) = true ∧
    ((taken s 0 d).setLimit n (dparam d 24 2)).1 = true) ∧
  (∃ (s : State) (d : Desc) (n : Fin 32),
    Ready s 0 d ∧
    Plain d ∧
    d.scope = 0 ∧
    d.len = 0 ∧
    d.unit.toNat = n.val ∧
    (taken s 0 d).limitOk n.val (dparam d 24 2) = true ∧
    ((taken s 0 d).setLimit n (dparam d 24 2)).1 = false) ∧
  (∃ (s : State) (d : Desc),
    Ready s 0 d ∧
    Plain d ∧
    d.scope = 1 ∧
    d.unit = 0 ∧
    d.len = 0 ∧
    (gangCheck 0x11 (maskUnits d.param0 0) (fun u => decide (u < 32)) (fun _ => false) (fun u => (taken s 0 d).limitOk u (dparam d 24 2)) = none)) ∧
  (∃ (s : State) (d : Desc),
    Ready s 0 d ∧
    Plain d ∧
    d.scope = 2 ∧
    d.unit ≠ 0 ∧
    d.len.toNat = 16 * d.unit.toNat) ∧
  (∃ (s : State) (d : Desc) (n : Fin 32),
    Ready s 0 d ∧
    Plain d ∧
    d.scope = 0 ∧
    d.len = 0 ∧
    d.param1 = 0 ∧
    d.unit.toNat = n.val ∧
    (taken s 0 d).stopOk n.val = true) ∧
  (∃ (s : State) (d : Desc),
    Ready s 0 d ∧
    Plain d ∧
    d.scope = 2 ∧
    d.unit ≠ 0 ∧
    d.len.toNat = 16 * d.unit.toNat) ∧
  (∃ (s : State) (d : Desc) (n : Fin 32),
    Ready s 0 d ∧
    Plain d ∧
    d.scope = 0 ∧
    d.len = 0 ∧
    d.unit.toNat = n.val ∧
    dbyte d 24 = 1 ∧
    (taken s 0 d).serviceOk true n.val = true ∧
    (taken s 0 d).lanes[n].st ≠ .unavailable) ∧
  (∃ (s : State) (d : Desc) (n : Fin 32),
    Ready s 0 d ∧
    Plain d ∧
    d.scope = 0 ∧
    d.len = 0 ∧
    d.unit.toNat = n.val ∧
    dbyte d 24 = 0 ∧
    (taken s 0 d).lanes[n].st = .unavailable) ∧
  (∃ (s : State) (d : Desc),
    Ready s 0 d ∧
    Plain d ∧
    d.scope = 1 ∧
    d.unit = 0 ∧
    d.len = 0 ∧
    dbyte d 24 = 0 ∧
    (gangCheck 0x13 (maskUnits d.param0 0) (fun u => decide (u < 32)) (fun _ => false) ((taken s 0 d).serviceOk false) = none)) ∧
  (∃ (s : State) (d : Desc) (n : Fin 32),
    Ready s 0 d ∧
    Plain d ∧
    d.scope = 0 ∧
    d.len = 0 ∧
    d.param1 = 0 ∧
    d.unit.toNat = n.val ∧
    (taken s 0 d).lanes[n].st = .fault) ∧
  (∃ (s : State) (d : Desc),
    Ready s 0 d ∧
    Plain d ∧
    d.scope = 2 ∧
    d.unit ≠ 0 ∧
    d.len.toNat = 16 * d.unit.toNat) :=
  ⟨⟨wLaneC .connected, (wD 0 (p1 := 1)), 0, by decide +kernel⟩,
    ⟨wLaneC .connected, (wD 0 (scope := 1) (p0 := 1)), by decide +kernel⟩,
    ⟨wLaneC .idle, (wD 0 (p1 := 60)), 0, by decide +kernel⟩,
    ⟨(wLaneC .authorised).setLane 0 fun l => { l with form := .pwm 200, pilot := .b, rating := 4, limit := 630 }, (wD 0 (p1 := 100)), 0, by decide +kernel⟩,
    ⟨wLaneC .idle, (wD 0 (scope := 1) (p0 := 1) (p1 := 800)), by decide +kernel⟩,
    ⟨wLaneC .idle, (wD 1 (scope := 2) (len := 16) (pay := zeros 16)), by decide +kernel⟩,
    ⟨wLaneC .connected, wD 0, 0, by decide +kernel⟩,
    ⟨wLaneC .connected, (wD 1 (scope := 2) (len := 16) (pay := zeros 16)), by decide +kernel⟩,
    ⟨wLaneC .idle, (wD 0 (p1 := 1)), 0, by decide +kernel⟩,
    ⟨wLaneC .unavailable, wD 0, 0, by decide +kernel⟩,
    ⟨wLaneC .unavailable, (wD 0 (scope := 1) (p0 := 1)), by decide +kernel⟩,
    ⟨wLaneC .fault, wD 0, 0, by decide +kernel⟩,
    ⟨wLaneC .fault, (wD 1 (scope := 2) (len := 16) (pay := zeros 16)), by decide +kernel⟩⟩

theorem witness_AssociationEventsComplete :
  (∃ (s : State) (lane : Fin 32) (r : BitVec 64) (m : BitVec 48) (rx : PlcRx) (k : Nat) (t : State),
    s.laneEn lane = true ∧
    s.frameIn lane rx = (.taken, k, t) ∧
    (t.note 11 lane.val 0).runOf r m = none ∧
    (t.note 11 lane.val 0).link.runs.length < 32 ∧
    (t.note 11 lane.val 0).mayJoin lane = true) ∧
  (∃ (s : State) (lane : Fin 32) (r : BitVec 64) (m : BitVec 48) (x : Run) (rx : PlcRx) (k : Nat) (t : State),
    s.laneEn lane = true ∧
    s.frameIn lane rx = (.taken, k, t) ∧
    (t.note 11 lane.val 0).runOf r m = some x ∧
    x.attenInd = false) ∧
  (∃ (s : State) (lane : Fin 32) (r : BitVec 64) (m : BitVec 48) (cd : Nat) (_gs : List Nat) (x : Run) (rx : PlcRx) (k : Nat) (t : State),
    s.laneEn lane = true ∧
    s.frameIn lane rx = (.taken, k, t) ∧
    (t.note 11 lane.val cd).runOf r m = some x) ∧
  (∃ (s : State) (x : Run) (det b own snd cnt : Nat) (ms : List Nat),
    s.link.runs.find? (·.seq == x.seq) = some x ∧
    x.decision = some (det, b, own, snd, cnt, ms)) ∧
  (∃ (s : State) (lane : Fin 32) (r : BitVec 64) (m : BitVec 48) (rx : PlcRx) (k : Nat) (t : State),
    s.laneEn lane = true ∧
    s.frameIn lane rx = (.taken, k, t) ∧
    s.link.lanes[lane].assoc = .waitRsp ∧
    s.link.lanes[lane].run = r ∧
    s.link.lanes[lane].evMac = m) ∧
  (∃ (s : State) (lane : Fin 32) (r : BitVec 64) (m : BitVec 48) (rx : PlcRx) (k : Nat) (t : State),
    s.laneEn lane = true ∧
    s.frameIn lane rx = (.taken, k, t) ∧
    s.link.lanes[lane].assoc = .waitMatch ∧
    s.link.lanes[lane].run = r ∧
    s.link.lanes[lane].evMac = m ∧
    s.keys.rngOk = true) ∧
  (∃ (s : State) (lane : Fin 32) (f st : Nat) (rx : PlcRx) (k : Nat) (t : State),
    s.laneEn lane = true ∧
    s.frameIn lane rx = (.taken, k, t) ∧
    s.link.lanes[lane].assoc = .matched ∧
    (t.note 11 lane.val 0).pf 0x3000 8 1 ≠ 0 ∧
    ((s.link.lanes[lane].toggles.filter fun x => decide (f ≤ x)).length = st)) ∧
  (∃ (s : State) (lane : Fin 32),
    s.link.lanes[lane].assoc = .matched ∧
    s.link.lanes[lane].setUp = true) ∧
  (∃ (s : State) (lane : Fin 32),
    s.link.lanes[lane].assoc = .matched ∧
    s.link.lanes[lane].setUp = false) ∧
  (∃ (s : State) (lane : Fin 32),
    s.link.lanes[lane].assoc = .matched ∧
    s.vlcfg lane 0 1 = 1 ∧
    s.link.lanes[lane].tcp = false) ∧
  (∃ (s : State) (lane : Fin 32),
    s.link.lanes[lane].tcp = true ∧
    s.link.lanes[lane].assoc = .matched ∧
    s.link.lanes[lane].setUp = true) ∧
  (∃ (s : State) (lane : Fin 32),
    s.link.lanes[lane].tcp = true ∧
    s.link.lanes[lane].assoc = .matched ∧
    s.link.lanes[lane].setUp = false) ∧
  (∃ (s : State) (lane : Fin 32) (su : Fin 4) (gr : Fin 3) (b : Nat) (cl : Option Bytes),
    s.linked lane = true ∧
    s.link.lanes[lane].tls = 0 ∧
    s.suiteOk su gr (s.link.trustAt b) = true ∧
    (∀ x ∈ cl, Config.chainVerify (trustRole (s.link.trustAt b) 1) x = true)) ∧
  (∃ (s : State) (lane : Fin 32),
    s.link.lanes[lane].assoc = .matched ∧
    s.vlcfg lane 0 1 ≠ 0 ∧
    s.pf 0x3000 3 1 = 1 ∧
    s.link.lanes[lane].phase = 0) ∧
  (∃ (s : State) (lane : Fin 32),
    s.expired .tSlacInit lane.val = true) ∧
  (∃ (s : State) (lane : Fin 32),
    s.expired .tMatchSession lane.val = true) ∧
  (∃ (s : State) (lane : Fin 32),
    s.expired .tSetup lane.val = true) ∧
  (∃ (s : State) (lane : Fin 32),
    s.expired .tMatchResp lane.val = true ∧
    s.link.lanes[lane].resends < 2) ∧
  (∃ (s : State) (lane : Fin 32),
    s.expired .tMatchResp lane.val = true ∧
    2 ≤ s.link.lanes[lane].resends) ∧
  (∃ (s : State) (run : Nat) (x : Timer),
    (s.timers.find? (fun t => t.isOne .tMnbc run 0 && decide (t.expiry ≤ s.now)) = some x)) :=
  ⟨⟨wLink .waitParm, 0, 1, 2, wPlc, ((wLink .waitParm).frameIn 0 wPlc).2.1, ((wLink .waitParm).frameIn 0 wPlc).2.2, by decide +kernel⟩,
    ⟨wRun none, 0, 1, 2, wRunRec none, wPlc, ((wRun none).frameIn 0 wPlc).2.1, ((wRun none).frameIn 0 wPlc).2.2, by decide +kernel⟩,
    ⟨wRun none, 0, 1, 2, 0, [], wRunRec none, wPlc, ((wRun none).frameIn 0 wPlc).2.1, ((wRun none).frameIn 0 wPlc).2.2, by decide +kernel⟩,
    by refine ⟨wRun (some (1, 0, 255, 255, 0, [])), wRunRec (some (1, 0, 255, 255, 0, [])), 1, 0, 255, 255, 0, [], ?_, ?_⟩ <;> decide +kernel,
    ⟨wLink .waitRsp, 0, 0, 0, wPlc, ((wLink .waitRsp).frameIn 0 wPlc).2.1, ((wLink .waitRsp).frameIn 0 wPlc).2.2, by decide +kernel, by decide +kernel, by decide +kernel, rfl, rfl⟩,
    ⟨{ wLink .waitMatch with keys := { Keys.reset with rngOk := true } }, 0, 0, 0, wPlc, (({ wLink .waitMatch with keys := { Keys.reset with rngOk := true } }).frameIn 0 wPlc).2.1, (({ wLink .waitMatch with keys := { Keys.reset with rngOk := true } }).frameIn 0 wPlc).2.2, by decide +kernel, by decide +kernel, by decide +kernel, rfl, rfl, by decide +kernel⟩,
    ⟨wLinkV, 0, 0, 0, wPlc, ((wLinkV).frameIn 0 wPlc).2.1, ((wLinkV).frameIn 0 wPlc).2.2, by decide +kernel, by decide +kernel, by decide +kernel, by decide +kernel, rfl⟩,
    ⟨(wLink .matched).setLink 0 fun l => { l with setUp := true }, 0, by decide +kernel⟩,
    ⟨wLink .matched, 0, by decide +kernel⟩,
    ⟨wLink .matched, 0, by decide +kernel⟩,
    ⟨(wLink .matched).setLink 0 fun l => { l with tcp := true, setUp := true }, 0, by decide +kernel⟩,
    ⟨(wLink .matched).setLink 0 fun l => { l with tcp := true }, 0, by decide +kernel⟩,
    ⟨wTls, 0, 0, 0, 0, none, by decide +kernel⟩,
    ⟨wTls, 0, by decide +kernel⟩,
    ⟨wT .tSlacInit 31 0, 31, by decide +kernel⟩,
    ⟨wT .tMatchSession 31 0, 31, by decide +kernel⟩,
    ⟨wT .tSetup 31 0, 31, by decide +kernel⟩,
    ⟨wT .tMatchResp 31 0, 31, by decide +kernel⟩,
    ⟨(wT .tMatchResp 31 0).setLink 31 fun l => { l with resends := 2 }, 31, by decide +kernel⟩,
    ⟨wT .tMnbc 5 0, 5, ⟨.tMnbc, 5, 0, 0, 0⟩, by decide +kernel⟩⟩

theorem witness_DialogueComplete :
  (∃ (s : State) (lane : Fin 32) (m : V2g) (es : List (Fin 4 × Nat)) (p : Nat),
    Heard s lane m ∧
    s.link.lanes[lane].phase ≤ 2 ∧
    (heard s lane kSap).chooseProto lane es = some p) ∧
  (∃ (s : State) (lane : Fin 32) (m : V2g),
    Heard s lane m ∧
    (s.link.lanes[lane].phase = 2 ∨ s.link.lanes[lane].phase = 12) ∧
    s.link.lanes[lane].proto ≠ 0) ∧
  (∃ (s : State) (lane : Fin 32) (m : V2g) (_bpt _dy : Bool),
    Heard s lane m ∧
    m.session = s.link.lanes[lane].session ∧
    s.link.lanes[lane].setUp = true ∧
    (s.link.lanes[lane].phase = 2 ∨ s.link.lanes[lane].phase = 3)) ∧
  (∃ (s : State) (lane : Fin 32) (m : V2g) (_pnc : Bool) (_em _ch _sg : List (BitVec 8)),
    Heard s lane m ∧
    m.session = s.link.lanes[lane].session ∧
    (s.link.lanes[lane].phase = 3 ∨ s.link.lanes[lane].phase = 4) ∧
    s.link.lanes[lane].authDone = true) ∧
  (∃ (s : State) (lane : Fin 32) (m : V2g) (_em _ch _sg : List (BitVec 8)),
    Heard s lane m ∧
    m.session = s.link.lanes[lane].session ∧
    (s.link.lanes[lane].phase = 3 ∨ s.link.lanes[lane].phase = 4) ∧
    s.link.lanes[lane].authDone = false ∧
    s.link.lanes[lane].auth = 0 ∧
    ((heard s lane kAuth).phaseTo lane 4).eimOk lane = true) ∧
  (∃ (s : State) (lane : Fin 32) (m : V2g) (_vm _im _ir : Nat),
    Heard s lane m ∧
    m.session = s.link.lanes[lane].session ∧
    (s.link.lanes[lane].phase = 5 ∨ (s.link.lanes[lane].phase = 4 ∧ s.link.lanes[lane].authDone = true)) ∧
    s.isDc lane = false) ∧
  (∃ (s : State) (lane : Fin 32) (m : V2g) (_vm _im _ir : Nat),
    Heard s lane m ∧
    m.session = s.link.lanes[lane].session ∧
    s.link.lanes[lane].phase = 5 ∧
    s.isDc lane = true) ∧
  (∃ (s : State) (lane : Fin 32) (m : V2g),
    Heard s lane m ∧
    m.session = s.link.lanes[lane].session ∧
    s.isDc lane = true ∧
    s.link.lanes[lane].phase = 5 ∧
    s.lanes[lane].st = .energised) ∧
  (∃ (s : State) (lane : Fin 32) (m : V2g),
    Heard s lane m ∧
    m.session = s.link.lanes[lane].session ∧
    s.isDc lane = true ∧
    s.link.lanes[lane].phase = 6 ∧
    s.link.lanes[lane].cableClass = 1) ∧
  (∃ (s : State) (lane : Fin 32) (m : V2g) (_v _i : Nat),
    Heard s lane m ∧
    m.session = s.link.lanes[lane].session ∧
    s.isDc lane = true ∧
    (s.link.lanes[lane].phase = 7 ∨ (s.link.lanes[lane].phase = 6 ∧ s.link.lanes[lane].cableClass = 1))) ∧
  (∃ (s : State) (lane : Fin 32) (m : V2g) (tu : Nat),
    Heard s lane m ∧
    m.session = s.link.lanes[lane].session ∧
    (s.link.lanes[lane].phase = 8 ∨ s.link.lanes[lane].phase = (if s.isDc lane = true ∧ s.link.lanes[lane].reneg = false then 7 else 5)) ∧
    (s.link.lanes[lane].proto ≠ 2 ∨ (1 ≤ tu ∧ tu ≤ s.link.lanes[lane].tuples))) ∧
  (∃ (s : State) (lane : Fin 32) (m : V2g) (_tu : Nat),
    Heard s lane m ∧
    m.session = s.link.lanes[lane].session ∧
    5 ≤ s.link.lanes[lane].phase ∧
    s.link.lanes[lane].phase ≤ 9) ∧
  (∃ (s : State) (lane : Fin 32) (m : V2g) (_tu : Nat),
    Heard s lane m ∧
    m.session = s.link.lanes[lane].session ∧
    s.link.lanes[lane].proto = 2 ∧
    (s.link.lanes[lane].phase = 8 ∨ s.link.lanes[lane].phase = 9)) ∧
  (∃ (s : State) (lane : Fin 32) (m : V2g) (_v _i _r _p : Nat),
    Heard s lane m ∧
    m.session = s.link.lanes[lane].session ∧
    s.isDc lane = true ∧
    (s.link.lanes[lane].phase = 8 ∨ s.link.lanes[lane].phase = 9)) ∧
  (∃ (s : State) (lane : Fin 32) (m : V2g) (_v _i _r _p : Nat),
    Heard s lane m ∧
    m.session = s.link.lanes[lane].session ∧
    s.isDc lane = false ∧
    (s.link.lanes[lane].phase = 8 ∨ s.link.lanes[lane].phase = 9)) ∧
  (∃ (s : State) (lane : Fin 32) (m : V2g) (_pause : Bool),
    Heard s lane m ∧
    m.session = s.link.lanes[lane].session ∧
    s.link.lanes[lane].setUp = true ∧
    s.link.lanes[lane].phase ≠ 12) ∧
  (∃ (s : State) (lane : Fin 32) (m : V2g) (_up : Bool) (_body : List (BitVec 8)),
    Heard s lane m ∧
    m.session = s.link.lanes[lane].session ∧
    2 ≤ s.link.lanes[lane].proto ∧
    (s.link.lanes[lane].phase = 3 ∨ s.link.lanes[lane].phase = 4) ∧
    s.link.lanes[lane].relay = none) ∧
  (∃ (s : State) (lane : Fin 32) (x : Nat),
    s.link.lanes[lane].overFrom = some x ∧
    s.isDc lane = false ∧
    x + 5000 * ticksPerMs ≤ s.now) ∧
  (∃ (s : State) (lane : Fin 32),
    s.expired .tSeq lane.val = true) ∧
  (∃ (s : State) (lane : Fin 32),
    s.expired .tCpstate lane.val = true) ∧
  (∃ (s : State) (lane : Fin 32),
    s.expired .tAuth lane.val = true) ∧
  (∃ (s : State) (lane : Fin 32),
    s.expired .tCable lane.val = true) ∧
  (∃ (s : State) (lane : Fin 32),
    s.expired .tHost lane.val = true) :=
  ⟨⟨wDlg 1, 0, wMsg, [(2, 1)], 2, by decide +kernel⟩,
    ⟨wDlg 2, 0, wMsg, by decide +kernel⟩,
    ⟨wDlg 3, 0, wMsg, true, false, by decide +kernel⟩,
    ⟨(wDlg 4).setLink 0 fun l => { l with authDone := true }, 0, wMsg, false, [], [], [], by decide +kernel⟩,
    ⟨wEimAsk, 0, wMsg, [], [], [], by decide +kernel⟩,
    ⟨wDlg 5, 0, wMsg, 0, 0, 0, by decide +kernel⟩,
    ⟨wDlgDc 5, 0, wMsg, 0, 0, 0, by decide +kernel⟩,
    ⟨(wDlgDc 5).setLane 0 fun l => { l with st := .energised }, 0, wMsg, by decide +kernel⟩,
    ⟨(wDlgDc 6).setLink 0 fun l => { l with cableClass := 1 }, 0, wMsg, by decide +kernel⟩,
    ⟨wDlgDc 7, 0, wMsg, 1, 1, by decide +kernel⟩,
    ⟨(wDlg 5).setLink 0 fun l => { l with tuples := 1 }, 0, wMsg, 1, by decide +kernel⟩,
    ⟨wDlg 9, 0, wMsg, 0, by decide +kernel⟩,
    ⟨wDlg 9, 0, wMsg, 0, by decide +kernel⟩,
    ⟨wDlgDc 8, 0, wMsg, 1, 1, 1, 1, by decide +kernel⟩,
    ⟨wDlg 8, 0, wMsg, 1, 1, 1, 1, by decide +kernel⟩,
    ⟨wDlg 11, 0, wMsg, true, by decide +kernel⟩,
    ⟨wDlg 3, 0, wMsg, true, [], by decide +kernel⟩,
    ⟨{ (wDlg 8).setLink 0 fun l => { l with overFrom := some 0 } with htc := 4000000000000 }, 0, 0, by decide +kernel⟩,
    ⟨wT .tSeq 31 0, 31, by decide +kernel⟩,
    ⟨wT .tCpstate 31 0, 31, by decide +kernel⟩,
    ⟨wT .tAuth 31 0, 31, by decide +kernel⟩,
    ⟨wT .tCable 31 0, 31, by decide +kernel⟩,
    ⟨wT .tHost 31 0, 31, by decide +kernel⟩⟩

theorem witness_LinkCommandsComplete :
  (∃ (s : State) (d : Desc),
    Ready s 0 d ∧
    Plain d ∧
    d.scope = 0 ∧
    d.len.toNat = 0 ∧
    d.unit = 0 ∧
    s.link.survey = none ∧
    (taken s 0 d).surveyDisturbed = false) ∧
  (∃ (s : State) (_table : List Nat) (v : Survey),
    s.link.survey = some v ∧
    v.started + s.enabledLanes.length * 983040 ≤ s.now) ∧
  (∃ (s : State) (d : Desc) (n : Fin 32),
    Ready s 0 d ∧
    Plain d ∧
    d.scope = 0 ∧
    d.len.toNat ≤ 16777216 ∧
    1 ≤ d.len.toNat ∧
    d.len.toNat ≤ 64 ∧
    unitLane d = some n ∧
    (taken s 0 d).eimReady n = true) ∧
  (∃ (s : State) (d : Desc) (es : List (Nat × Bytes)),
    Ready s 0 d ∧
    Plain d ∧
    d.scope = 0 ∧
    d.len.toNat ≤ 16777216 ∧
    d.unit = 0 ∧
    trustEntries (d.payload.length + 1) d.payload = some es) ∧
  (∃ (s : State) (d : Desc) (n : Fin 32) (k : Nat),
    Ready s 0 d ∧
    Plain d ∧
    d.scope = 0 ∧
    d.len.toNat ≤ 16777216 ∧
    unitLane d = some n ∧
    s.link.lanes[n].relay = some (dparam d 24 4, k)) :=
  ⟨⟨wHost, wD 0, by decide +kernel⟩,
    ⟨{ wOn with link := { Link.reset with survey := some ⟨0⟩ } }, [], ⟨0⟩, by decide +kernel⟩,
    ⟨wEim, (wD 0 (len := 64) (pay := zeros 64)), 0, by decide +kernel⟩,
    ⟨wHost, (wD 0 (len := 5) (pay := [0, 0, 0, 0, 4])), [(4, [])], by decide +kernel⟩,
    ⟨wHost.setLink 31 fun l => { l with relay := some (7, 1) }, (wD 31 (p1 := 7)), 31, 1, by decide +kernel⟩⟩

theorem witness_TokenEventsComplete :
  (∃ (s : State) (r : Fin 4) (a : Nat),
    s.tok.readers[r].step = none ∧
    s.clocks.ok.getLsbD 2 = true ∧
    s.tok.readers[r].fieldOff + ticksPerMs ≤ s.now ∧
    s.nextAntenna r = some a) ∧
  (∃ (s : State) (r : Fin 4) (a : Nat),
    s.tok.readers[r].step = none ∧
    s.clocks.ok.getLsbD 2 = true ∧
    s.tok.readers[r].fieldOff + ticksPerMs ≤ s.now ∧
    s.nextAntenna r = some a) ∧
  (∃ (s : State) (r : Fin 4) (us : List Bytes) (u : Bytes),
    s.tok.readers[r].step = some 0 ∧
    inventory us = [u]) ∧
  (∃ (s : State) (r : Fin 4) (us : List Bytes),
    s.tok.readers[r].step = some 0 ∧
    2 ≤ (inventory us).length) ∧
  (∃ (s : State) (r : Fin 4) (p _q : TokAuth) (_a : TokAns),
    s.tok.readers[r].step = some 1 ∧
    p.status ≠ 0x7F ∧
    (authPass 0 (s.keyVal 1) (s.tok.readers[r].rnd.take 16) p).2 ≠ none) ∧
  (∃ (s : State) (r : Fin 4) (p _q : TokAuth) (_a : TokAns),
    s.tok.readers[r].step = some 1 ∧
    p.status ≠ 0x7F ∧
    (authPass 0 (s.keyVal 1) (s.tok.readers[r].rnd.take 16) p).2 = none) ∧
  (∃ (s : State) (r : Fin 4) (b1 b2 b3 : TokAns) (c1 c2 c3 : Bytes),
    s.tok.readers[r].step = some 2 ∧
    s.tok.readers[r].killHit = false ∧
    s.lanes[s.readerLane r].st = .connected ∧
    s.tok.readers[r].held = none ∧
    s.tok.readers[r].hear b1 = .data c1 ∧
    ((s.exchange r 0x20 [1] b1).2.exchange r 0x20 [2] b2).1 = .data c2 ∧
    (((s.exchange r 0x20 [1] b1).2.exchange r 0x20 [2] b2).2.exchange r 0x20 [3] b3).1 = .data c3) ∧
  (∃ (s : State) (r : Fin 4) (a : TokAns) (b : Bytes),
    s.tok.readers[r].step = some 2 ∧
    s.tok.readers[r].killHit = true ∧
    a.status ≠ 0x7F ∧
    (s.note 10 32 r.val).tok.readers[r].hear a = .data b) ∧
  (∃ (s : State) (r : Fin 4) (a : Announce) (t : State) (e : Grant),
    s.takeAnnounce 0 (readerEntry r).val = some (a, t) ∧
    t.frozen = false ∧
    t.tok.readers[r].awaiting = true ∧
    a.reason = 0 ∧
    t.ddrDown = false ∧
    t.grant (readerEntry r) = some e ∧
    e.stopped = false ∧
    e.revoked = false ∧
    t.tok.readers[r].t + e.g ≤ 2 ^ 40 - 1) ∧
  (∃ (s : State) (r : Fin 4) (a b : TokAns) (x y : Bytes),
    s.tok.readers[r].step = some 4 ∧
    s.tok.readers[r].hear a = .data x ∧
    ((s.exchange r 0x21 (2 :: s.repairBlock r) a).2.exchange r 0x20 [2] b).1 = .data y) ∧
  (∃ (s : State) (r : Fin 4) (a : TokAns) (x : Bytes),
    s.tok.readers[r].step = some 5 ∧
    s.tok.readers[r].hear a = .data x) ∧
  (∃ (s : State) (r : Fin 4) (a : TokAns) (x : Bytes),
    s.tok.readers[r].step = some 6 ∧
    s.tok.readers[r].hear a = .data x) ∧
  (∃ (s : State) (r : Fin 4),
    s.tok.readers[r].step = some 7 ∧
    s.tok.readers[r].committed = false ∧
    s.frozen = false) ∧
  (∃ (s : State) (r : Fin 4) (a : TokAns) (x : Bytes),
    s.tok.readers[r].step = some 8 ∧
    s.tok.readers[r].hear a = .data x) ∧
  (∃ (s : State) (r : Fin 4) (a : TokAns) (x : Bytes),
    s.tok.readers[r].step = some 9 ∧
    s.tok.readers[r].hear a = .data x) ∧
  (∃ (s : State) (r : Fin 4) (k : Nat),
    s.tok.readers[r].step = some k) ∧
  (∃ (s : State) (r : Fin 4) (k : Nat),
    s.tok.readers[r].step = some k ∧
    2 ≤ s.tok.readers[r].rfErrs) ∧
  (∃ (s : State) (r : Fin 4) (k : Nat),
    s.tok.readers[r].step = some k ∧
    s.tok.readers[r].rfErrs < 2) ∧
  (∃ (s : State) (r : Fin 4),
    s.expired .tProv r.val = true ∧
    s.tok.readers[r].awaiting = true) ∧
  (∃ (s : State) (r : Fin 4),
    s.expired .tFsess r.val = true) ∧
  (∃ (s : State) (r : Fin 4) (h : Held),
    s.expired .tRetap r.val = true ∧
    s.tok.readers[r].held = some h) ∧
  (∃ (s : State) (lane : Fin 32) (p : Nat),
    s.expired .tRepeat lane.val p = true) ∧
  (∃ (s : State) (d : Desc),
    Ready s 0 d ∧
    Plain d ∧
    d.scope = 0 ∧
    d.len.toNat ≤ 16777216 ∧
    d.len.toNat % 8 = 0 ∧
    d.len.toNat ≤ 32768 ∧
    d.unit = 0) ∧
  (∃ (s : State) (d : Desc) (n : Fin 32) (ma : Nat),
    Ready s 0 d ∧
    Plain d ∧
    d.scope = 0 ∧
    d.len.toNat = 0 ∧
    unitLane d = some n ∧
    s.tok.readers[n.val / 8].step = none ∧
    20 ≤ ma ∧
    ma < 300) ∧
  (∃ (s : State) (d : Desc) (n : Fin 32) (ma : Nat),
    Ready s 0 d ∧
    Plain d ∧
    d.scope = 0 ∧
    d.len.toNat = 0 ∧
    unitLane d = some n ∧
    s.tok.readers[n.val / 8].step = none ∧
    ma < 20) ∧
  (∃ (s : State) (d : Desc) (n : Fin 32) (ma : Nat),
    Ready s 0 d ∧
    Plain d ∧
    d.scope = 0 ∧
    d.len.toNat = 0 ∧
    unitLane d = some n ∧
    s.tok.readers[n.val / 8].step = none ∧
    300 ≤ ma) :=
  ⟨⟨wPoll, 0, 0, by decide +kernel⟩,
    ⟨wPoll, 0, 0, by decide +kernel⟩,
    ⟨wTok 0, 3, [[8, 1, 2, 3]], [8, 1, 2, 3], by decide +kernel⟩,
    ⟨wTok 0, 3, [[8, 1, 2, 3], [8, 1, 2, 4]], by decide +kernel⟩,
    by refine ⟨wTokK 1, 3, wPass, wPass, wAns, ?_, ?_, wPass_proves 0⟩ <;> decide +kernel,
    ⟨wTok 1, 3, wPass, wPass, wAns, by decide +kernel⟩,
    by refine ⟨wTokC 2, 3, wAns, wAns, wAns, wHeard 0, wHeard 1, wHeard 2, ?_, ?_, ?_, ?_, wAns_heard _ rfl, wAns_heard _ rfl, wAns_heard _ rfl⟩ <;> decide +kernel,
    by refine ⟨(wTok 2).setReader 3 fun x => { x with killHit := true }, 3, wAns, wHeard 0, ?_, ?_, ?_, wAns_heard _ rfl⟩ <;> decide +kernel,
    ⟨wAnn, 3, ⟨0, 0, 35, 0, Grant.blank⟩, wAnnT, wGrantRec, by decide +kernel⟩,
    by refine ⟨wTok 4, 3, wAns, wAns, wHeard 0, wHeard 1, ?_, wAns_heard _ rfl, wAns_heard _ rfl⟩; decide +kernel,
    by refine ⟨wTok 5, 3, wAns, wHeard 0, ?_, wAns_heard _ rfl⟩; decide +kernel,
    by refine ⟨wTokC 6, 3, wAns, wHeard 0, ?_, wAns_heard _ rfl⟩; decide +kernel,
    ⟨wTok 7, 3, by decide +kernel⟩,
    by refine ⟨wTok 8, 3, wAns, wHeard 0, ?_, wAns_heard _ rfl⟩; decide +kernel,
    by refine ⟨wTok 9, 3, wAns, wHeard 0, ?_, wAns_heard _ rfl⟩; decide +kernel,
    ⟨wTok 9, 3, 9, by decide +kernel⟩,
    ⟨(wTok 2).setReader 3 fun x => { x with rfErrs := 2 }, 3, 2, by decide +kernel⟩,
    ⟨wTok 2, 3, 2, by decide +kernel⟩,
    ⟨(wT .tProv 3 0).setReader 3 fun x => { x with awaiting := true }, 3, by decide +kernel⟩,
    ⟨wT .tFsess 3 0, 3, by decide +kernel⟩,
    ⟨(wT .tRetap 3 0).setReader 3 fun x => { x with held := some ⟨0, 0, 0, 0, 0, 0, 0⟩ }, 3, ⟨0, 0, 0, 0, 0, 0, 0⟩, by decide +kernel⟩,
    ⟨wT .tRepeat 31 9, 31, 9, by decide +kernel⟩,
    ⟨wHost, (wD 0 (len := 8) (pay := zeros 8)), by decide +kernel⟩,
    ⟨wHost, wD 31, 31, 20, by decide +kernel⟩,
    ⟨wHost, wD 31, 31, 19, by decide +kernel⟩,
    ⟨wHost, wD 31, 31, 300, by decide +kernel⟩⟩

theorem witness_LedgerEventsComplete :
  (∃ (s : State) (entry : Fin 36) (n : Fin 32) (ident : Bytes) (method : Fin 4) (_u : List Nat),
    entryLane entry = some n ∧
    s.submitted entry.val = false ∧
    s.frozen = false ∧
    s.grant entry = none ∧
    s.link.lanes[n].identPending = true ∧
    s.link.lanes[n].identity = ident ∧
    (method.val = 1 ∨ method.val = 2) ∧
    s.eimUnreleased n = false) ∧
  (∃ (s : State) (entry : Fin 36) (r : Reader) (_u : List Nat),
    entryLane entry = none ∧
    s.submitted entry.val = false ∧
    s.frozen = false ∧
    s.tok.readers[entryReader entry] = r ∧
    r.awaiting = true) ∧
  (∃ (s : State) (entry : Fin 36) (n : Fin 32) (a : Announce) (x : Grant) (t : State),
    entryLane entry = some n ∧
    s.takeAnnounce 0 entry.val = some (a, t) ∧
    t.frozen = false ∧
    a.reason = 0 ∧
    (t.note 9 n.val 0).ddrDown = false ∧
    (t.note 9 n.val 0).grant entry = some x ∧
    x.stopped = false ∧
    x.revoked = false ∧
    t.lanes[n].st = .connected) ∧
  (∃ (s : State) (entry : Fin 36) (n : Fin 32) (a : Announce) (t : State),
    entryLane entry = some n ∧
    s.takeAnnounce 0 entry.val = some (a, t) ∧
    t.frozen = false ∧
    a.reason ≠ 0 ∧
    (t.note 9 n.val 0).ddrDown = false) ∧
  (∃ (s : State) (lane : Fin 32) (a : Announce) (t : State),
    s.takeAnnounce 1 lane.val = some (a, t) ∧
    t.frozen = false) ∧
  (∃ (s : State) (lane : Fin 32) (a : Announce) (t : State),
    s.takeAnnounce 2 lane.val = some (a, t) ∧
    t.frozen = false) ∧
  (∃ (s : State),
    s.abc.ddrUnavailable = false) ∧
  (∃ (s : State),
    s.onMultiple (s.pf 0x5014 0 12 * ticksPerS) = true ∧
    s.frozen = false) ∧
  (∃ (s : State),
    s.onMultiple (s.pf 0x5014 12 14 * ticksPerMs) = true ∧
    s.abc.ready = true ∧
    s.frozen = false) ∧
  (∃ (s : State),
    s.frozen = false) ∧
  (∃ (s : State),
    (s.onMultiple (s.pf 0x5018 0 8 * 3600 * ticksPerS) = true ∨ s.journalFull = true) ∧
    s.abc.ready = true ∧
    s.abc.snap = none ∧
    s.frozen = false) ∧
  (∃ (s : State) (k : SnapCopy) (_bad _u : List Nat),
    s.frozen = false ∧
    s.abc.snap = some k ∧
    s.flights = [] ∧
    s.abc.snapB = false ∧
    s.abc.jheld = false ∧
    s.abc.snapDel = []) ∧
  (∃ (s : State) (k : SnapCopy) (_bad _u : List Nat),
    s.frozen = false ∧
    s.abc.snap = some k ∧
    s.flights = [] ∧
    s.abc.snapB = true ∧
    s.abc.jheld = false ∧
    s.abc.snapDel = []) ∧
  (∃ (s : State) (_x _y : Bool) (_bad : List Nat),
    s.boot.step = 14 ∧
    s.boot.phase = 7 ∧
    s.boot.ddrOk = true ∧
    s.abc.restoring = false ∧
    s.abc.ready = false ∧
    s.frozen = false) ∧
  (∃ (s : State),
    s.abc.restoring = true ∧
    s.frozen = false ∧
    (∀ f ∈ s.flights, f.opcode ≠ 0x53) ∧
    s.abc.waiting = []) :=
  ⟨⟨wIdent, 0, 0, [7], 1, [], by decide +kernel, by decide +kernel, by decide +kernel, by decide +kernel, by decide +kernel, rfl, by decide +kernel, by decide +kernel⟩,
    ⟨wTokWait, 35, wTokWait.tok.readers[3], [], by decide +kernel, by decide +kernel, by decide +kernel, rfl, by decide +kernel⟩,
    ⟨wGrant, 0, 0, ⟨0, 0, 0, 0, Grant.blank⟩, wGrantRec, { wGrant with abc := { wGrant.abc with announces := [] } }, by decide +kernel⟩,
    ⟨{ wGrant with abc := { wGrant.abc with announces := [⟨0, 0, 0, 2, Grant.blank⟩] } }, 0, 0, ⟨0, 0, 0, 2, Grant.blank⟩, { wGrant with abc := { wGrant.abc with announces := [] } }, by decide +kernel⟩,
    ⟨{ wGrant with abc := { wGrant.abc with announces := [⟨0, 1, 31, 0, Grant.blank⟩] } }, 31, ⟨0, 1, 31, 0, Grant.blank⟩, { wGrant with abc := { wGrant.abc with announces := [] } }, by decide +kernel⟩,
    ⟨{ wGrant with abc := { wGrant.abc with announces := [⟨0, 2, 31, 0, Grant.blank⟩] } }, 31, ⟨0, 2, 31, 0, Grant.blank⟩, { wGrant with abc := { wGrant.abc with announces := [] } }, by decide +kernel⟩,
    ⟨wOn, by decide +kernel⟩,
    ⟨wTally, by decide +kernel⟩,
    ⟨wTally, by decide +kernel⟩,
    ⟨wOn, by decide +kernel⟩,
    ⟨wTally, by decide +kernel⟩,
    ⟨wSnap, wSnapCopy, [], [], by decide +kernel⟩,
    ⟨{ wSnap with abc := { wSnap.abc with snapB := true } }, wSnapCopy, [], [], by decide +kernel⟩,
    ⟨wOn, false, false, [], by decide +kernel⟩,
    ⟨{ wOn with abc := { Abc.reset with restoring := true } }, by decide +kernel⟩⟩

theorem witness_LedgerCommandsComplete :
  (∃ (s : State) (d : Desc) (u : List (Nat × Nat)) (sts : List Nat) (t : State),
    Ready s 8 d ∧
    Plain d ∧
    d.scope = 2 ∧
    d.len.toNat = 64 * d.unit.toNat ∧
    1 ≤ d.unit.toNat ∧
    d.unit.toNat ≤ 1024 ∧
    applyDeltas u d.unit.toNat 0 d.payload (taken s 8 d) = (sts, t)) ∧
  (∃ (s : State) (d : Desc) (u : List Nat) (slot : Nat),
    Ready s 0 d ∧
    Plain d ∧
    d.scope = 0 ∧
    d.len.toNat = 64 ∧
    d.unit = 0 ∧
    (taken s 0 d).abc.ready = true ∧
    (taken s 0 d).lookup d.param1.toNat = some slot ∧
    u.contains slot = false) ∧
  (∃ (s : State) (d : Desc) (_u : List Nat),
    Ready s 0 d ∧
    Plain d ∧
    d.scope = 0 ∧
    d.len.toNat = 64 ∧
    d.unit = 0 ∧
    (taken s 0 d).abc.ready = true ∧
    (taken s 0 d).lookup d.param1.toNat = none) ∧
  (∃ (s : State) (d : Desc) (_u : List Nat),
    Ready s 0 d ∧
    Plain d ∧
    d.scope = 0 ∧
    d.len.toNat = 0 ∧
    d.unit = 0 ∧
    (taken s 0 d).abc.ready = true) ∧
  (∃ (s : State) (d : Desc),
    Ready s 0 d ∧
    Plain d ∧
    d.scope = 0 ∧
    d.len.toNat = 0 ∧
    d.unit = 0 ∧
    (taken s 0 d).abc.ready = true ∧
    (taken s 0 d).abc.snap = none ∧
    (∀ f ∈ (taken s 0 d).flights, f.opcode ≠ 0x53)) ∧
  (∃ (s : State) (d : Desc) (u : List Nat) (slot : Nat),
    Ready s 0 d ∧
    Plain d ∧
    d.scope = 0 ∧
    d.len.toNat = 0 ∧
    d.unit = 0 ∧
    ((taken s 0 d).readSlots (slotsOf d.param1.toNat) u).lookup d.param1.toNat = some slot) ∧
  (∃ (s : State) (d : Desc) (u : List Nat),
    Ready s 0 d ∧
    Plain d ∧
    d.scope = 0 ∧
    d.len.toNat = 0 ∧
    d.unit = 0 ∧
    ((taken s 0 d).readSlots (slotsOf d.param1.toNat) u).lookup d.param1.toNat = none) :=
  ⟨⟨wLedger, wDelta, [], (applyDeltas [] 1 0 wDelta.payload (taken wLedger 8 wDelta)).1, (applyDeltas [] 1 0 wDelta.payload (taken wLedger 8 wDelta)).2, by decide +kernel⟩,
    ⟨wAcct, (wD 0 (len := 64) (p1 := 5)), [], wAcctSlot, by decide +kernel⟩,
    ⟨wAcct, (wD 0 (len := 64) (p1 := 6)), [], by decide +kernel⟩,
    ⟨wAcct, wD 0, [], by decide +kernel⟩,
    ⟨wAcct, wD 0, by decide +kernel⟩,
    ⟨wAcct, (wD 0 (p1 := 5)), [], wAcctSlot, by decide +kernel⟩,
    ⟨wAcct, wD 0, [], by decide +kernel⟩⟩

theorem witness_SafetyEventsComplete :
  (∃ (s : State) (sin : Fin 72) (level : Bool) (k : Nat),
    s.sinType sin ≠ 0 ∧
    s.now % 6144 = 0 ∧
    s.sinBlankedAt s.now sin = false ∧
    s.saf.sins[sin].closed = !level ∧
    s.sinNeeds sin level ≤ k) ∧
  (∃ (s : State) (sin : Fin 72) (_b _a : Bool),
    s.sinPulsed sin = true ∧
    s.sinReads sin = true ∧
    s.saf.tps[s.sinTps sin].on = true ∧
    s.pulsePhase (s.sinTps sin).val = 6144) ∧
  (∃ (s : State) (sin : Fin 72) (tps : Fin 4),
    s.sinPulsed sin = true ∧
    s.sinReads sin = true ∧
    s.saf.tps[tps].on = true ∧
    tps ≠ s.sinTps sin ∧
    s.pulsePhase tps.val = 24576) ∧
  (∃ (s : State) (k : Fin 4) (_lo _hi _lim : Nat),
    s.pf 0x6000 k.val 1 ≠ 0 ∧
    s.saf.tps[k].on = true ∧
    s.pulsePhase k.val = 0) ∧
  (∃ (s : State) (pair : Fin 36),
    s.expired .tDisc pair.val = true) ∧
  (∃ (s : State) (lane : Fin 32),
    s.expired .tAutorst lane.val = true) ∧
  (∃ (s : State) (lane : Fin 32) (w : List Int),
    s.resRuns lane = true ∧
    s.isDc lane = false ∧
    s.safLcfg lane 0 1 = 1 ∧
    s.latched lane 1 = false ∧
    s.resWindow lane * (s.thr lane (s.safLcfg lane 8 10)) ^ 2 ≤ sumSq (newest (s.resWindow lane) w)) ∧
  (∃ (s : State) (lane : Fin 32) (p : Fin 4) (start least : Nat),
    s.resRuns lane = true ∧
    s.safLcfg lane 1 1 = 1 ∧
    s.dcPoint p 31 1 = 1 ∧
    s.saf.lanes[lane].pointFrom ≤ start ∧
    start + s.dcPoint p 13 16 * ticksPerMs = s.now ∧
    2 * s.resWindow lane * s.thr lane (s.dcPoint p 0 13) ≤ least) ∧
  (∃ (s : State) (lane : Fin 32) (_w : List Int) (f : Nat),
    s.saf.lanes[lane].testFrom = some f ∧
    s.now = issue3 (s.firstSample lane (f + testTicks) - 1) ∧
    s.saf.lanes[lane].testHalf = false) ∧
  (∃ (s : State) (lane : Fin 32) (_w : List Int) (f : Nat),
    s.saf.lanes[lane].testFrom = some f ∧
    s.now = issue3 (s.firstSample lane (f + 2 * testTicks)) ∧
    s.saf.lanes[lane].testHalf = true ∧
    s.saf.lanes[lane].testOk = false) ∧
  (∃ (s : State) (lane : Fin 32) (_a _b m : Int) (f : Nat),
    s.saf.lanes[lane].isoFrom = some f ∧
    s.isoOn lane = true ∧
    f + (s.pf 0x6024 0 10 + s.pf 0x6024 10 10) * ticksPerMs ≤ s.now ∧
    s.saf.lanes[lane].isoReady = false ∧
    s.saf.lanes[lane].isoClosed = false ∧
    s.saf.lanes[lane].isoBad = false ∧
    (s.pf 0x6020 24 8 * 10000 : Int) ≤ m) ∧
  (∃ (s : State) (lane : Fin 32) (_a _b m : Int) (f : Nat),
    s.saf.lanes[lane].isoFrom = some f ∧
    s.isoOn lane = true ∧
    f + (s.pf 0x6024 0 10 + s.pf 0x6024 10 10) * ticksPerMs ≤ s.now ∧
    s.saf.lanes[lane].isoReady = false ∧
    s.saf.lanes[lane].isoClosed = true ∧
    s.saf.lanes[lane].isoBad = false ∧
    (s.pf 0x6020 24 8 * 10000 : Int) ≤ m) ∧
  (∃ (s : State) (lane : Fin 32) (r : Option (Nat × Nat) × Option (Nat × Nat)) (t : State),
    s.saf.lanes[lane].isoReady = true ∧
    s.isoResistances lane = (r, t) ∧
    isoClass r.1 r.2 (s.pf 0x6020 0 12) (s.pf 0x6020 12 12) (s.lanePf lane 0x10 8 12) = 1) ∧
  (∃ (s : State) (lane : Fin 32),
    s.expired .tWeld lane.val = true ∧
    s.nrg.lanes[lane].scaled = [] ∧
    0 < s.pf 0x6028 10 10) ∧
  (∃ (s : State) (lane : Fin 32) (v : Int),
    s.expired .tWeld lane.val = true ∧
    s.nrg.lanes[lane].scaled.getD 0 0 = v ∧
    (s.pf 0x6028 10 10 * 1000 : Int) ≤ v) ∧
  (∃ (s : State) (lane : Fin 32) (j : Judge),
    (s.saf.judges.find? (fun j => j.lane == lane.val && j.due ≤ s.now) = some j) ∧
    j.kind ≠ 2) ∧
  (∃ (s : State) (lane : Fin 32) (j : Judge),
    (s.saf.judges.find? (fun j => j.lane == lane.val && j.due ≤ s.now) = some j) ∧
    j.kind = 2) ∧
  (∃ (s : State) (u : Nat) (k : Fin 48),
    s.saf.shuntUntil = some u ∧
    u ≤ s.now ∧
    s.shuntCh = some k) ∧
  (∃ (s : State) (_sins : List (BitVec 72)) (_high _crc : BitVec 32),
    s.now % 24576 = 0 ∧
    s.boot.phase = 7 ∧
    s.saf.dead = false ∧
    s.saf.lastCycle ≠ some s.now) ∧
  (∃ (s : State) (_sins : List (BitVec 72)) (_high _crc : BitVec 32) (k : Nat),
    s.now % 24576 = 0 ∧
    s.boot.phase = 7 ∧
    s.saf.dead = false ∧
    s.saf.lastCycle = some k ∧
    k ≠ s.now) ∧
  (∃ (s : State),
    s.saf.dead = false ∧
    s.saf.scRun = true) ∧
  (∃ (s : State) (lane : Fin 32) (_on : Nat) (_high : Bool),
    s.pf 0x6000 4 1 ≠ 1 ∧
    s.lsw.chans[coilCh lane].st = .on ∧
    s.now % econPeriod = econPeriod - 1) ∧
  (∃ (s : State) (lane : Fin 32) (_high : Bool),
    s.pf 0x6000 4 1 ≠ 0 ∧
    s.lsw.chans[coilCh lane].st = .on ∧
    s.now % (s.pf 0x6000 16 12 * ticksPerMs) = lane.val * (s.pf 0x6000 16 12 * ticksPerMs / 32)) :=
  ⟨⟨wSin, 0, true, 10, by decide +kernel⟩,
    ⟨wSinP 6144, 0, true, true, by decide +kernel⟩,
    ⟨wSinP (122880 + 24576), 0, 1, by decide +kernel⟩,
    ⟨wSinP 0, 0, 4999, 18001, 24575, by decide +kernel⟩,
    ⟨wT .tDisc 35 0, 35, by decide +kernel⟩,
    ⟨wT .tAutorst 31 0, 31, by decide +kernel⟩,
    ⟨wRes, 0, List.replicate 100 1000000, by decide +kernel⟩,
    ⟨wRes, 0, 0, wRes.now - wRes.dcPoint 0 13 16 * ticksPerMs, 2 * wRes.resWindow 0 * wRes.thr 0 (wRes.dcPoint 0 0 13), by decide +kernel⟩,
    ⟨wTestA, 0, [], 0, by decide +kernel⟩,
    ⟨wTestB, 0, [], 0, by decide +kernel⟩,
    ⟨wIso false, 0, 1, 2, 4000000, 0, by decide +kernel⟩,
    ⟨wIso true, 0, 1, 2, 4000000, 0, by decide +kernel⟩,
    ⟨wInsul, 0, (wInsul.isoResistances 0).1, (wInsul.isoResistances 0).2, by decide +kernel⟩,
    ⟨wT .tWeld 31 0, 31, by decide +kernel⟩,
    ⟨wWeld, 31, 2000000, by decide +kernel, rfl, by decide +kernel⟩,
    ⟨{ wOn with saf := { Saf.reset with judges := [⟨0, 5, 0⟩] } }, 5, ⟨0, 5, 0⟩, by decide +kernel⟩,
    ⟨{ wOn with saf := { Saf.reset with judges := [⟨0, 5, 2⟩] } }, 5, ⟨0, 5, 2⟩, by decide +kernel⟩,
    ⟨wShunt, 0, wShuntCh, by decide +kernel⟩,
    ⟨wOn, [], 0, 0, by decide +kernel⟩,
    ⟨{ wOn with saf := { Saf.reset with lastCycle := some 1 } }, [], 0, 0, 1, by decide +kernel⟩,
    ⟨{ wOn with saf := { Saf.reset with scRun := true } }, by decide +kernel⟩,
    ⟨{ wCoil .on with htc := 1535 }, 31, 500, true, by decide +kernel⟩,
    ⟨({ wOn with cfg := [(0x6000, 0x00140010)] } : State).setCh 0 fun x => { x with st := .on }, 0, true, by decide +kernel⟩⟩

theorem witness_SafetyCommandsComplete :
  (∃ (s : State) (d : Desc) (_h : BitVec 32) (_ws : List (Fin 32 × List Int)),
    Ready s 0 d ∧
    Plain d ∧
    d.scope = 0 ∧
    d.len.toNat = 0 ∧
    d.unit = 0 ∧
    dbyte d 24 = 0) ∧
  (∃ (s : State) (d : Desc) (_h : BitVec 32) (_ws : List (Fin 32 × List Int)),
    Ready s 0 d ∧
    Plain d ∧
    d.scope = 0 ∧
    d.len.toNat = 0 ∧
    d.unit = 0 ∧
    dbyte d 24 = 1) ∧
  (∃ (s : State) (d : Desc) (_h : BitVec 32) (_ws : List (Fin 32 × List Int)),
    Ready s 0 d ∧
    Plain d ∧
    d.scope = 0 ∧
    d.len.toNat = 0 ∧
    d.unit = 0 ∧
    dbyte d 24 = 2 ∧
    d.param0 = 0) ∧
  (∃ (s : State) (d : Desc) (n : Fin 32),
    Ready s 0 d ∧
    Plain d ∧
    d.scope = 0 ∧
    d.len.toNat = 0 ∧
    unitLane d = some n ∧
    (taken s 0 d).laneEn n = true ∧
    (taken s 0 d).met.lanes[n].run = true ∧
    (taken s 0 d).isDc n = false ∧
    (taken s 0 d).coilOn n = false ∧
    (taken s 0 d).saf.lanes[n].testFrom = none) ∧
  (∃ (s : State) (d : Desc) (n : Fin 32),
    Ready s 0 d ∧
    Plain d ∧
    d.scope = 0 ∧
    d.len.toNat = 0 ∧
    unitLane d = some n ∧
    (taken s 0 d).isoOn n = true ∧
    (taken s 0 d).lanes[n].st = .energised) ∧
  (∃ (s : State) (d : Desc),
    Ready s 0 d ∧
    Plain d ∧
    d.scope = 0 ∧
    d.len.toNat = 0 ∧
    d.unit = 0 ∧
    d.param0 ≠ 0) :=
  ⟨⟨wHost, (wD 0 (p0 := 0xFFFFFFFF)), 0, [], by decide +kernel⟩,
    ⟨wHost, (wD 0 (p0 := 0xFFFFFFFF) (p1 := 1)), 0, [], by decide +kernel⟩,
    ⟨wHost, (wD 0 (p1 := 2)), 0, [], by decide +kernel⟩,
    ⟨wMetRun, wD 0, 0, by decide +kernel⟩,
    ⟨wIsoHost, wD 0, 0, by decide +kernel⟩,
    ⟨wHost, (wD 0 (p0 := 1)), by decide +kernel⟩⟩

theorem witness_LoadSwitchEventsComplete :
  (∃ (s : State) (ch : Fin 32),
    s.lanes[ch].coil = false ∧
    s.coilEnable ch = true ∧
    s.lsw.chans[coilCh ch].st = .off ∧
    s.lsw.chans[coilCh ch].tripped = false) ∧
  (∃ (s : State) (ch : Fin 32),
    s.lanes[ch].coil = true ∧
    s.coilEnable ch = false ∧
    s.lsw.chans[coilCh ch].driving = true ∧
    s.isDc ch = true) ∧
  (∃ (s : State) (ch : Fin 32),
    s.lsw.chans[coilCh ch].st = .start ∧
    s.lsw.chans[coilCh ch].since + s.ccfg (coilCh ch) 0 8 * ticksPerMs ≤ s.now) ∧
  (∃ (s : State) (ch : Fin 32) (k : Nat),
    s.coilEnable ch = true ∧
    s.lsw.chans[coilCh ch].st = .start ∧
    49152 ≤ k ∧
    s.lsw.chans[coilCh ch].left ≤ 1) ∧
  (∃ (s : State) (ch : Fin 32) (k : Nat),
    s.coilEnable ch = true ∧
    s.lsw.chans[coilCh ch].st = .on ∧
    32 ≤ k ∧
    2 ≤ s.lsw.chans[coilCh ch].left) ∧
  (∃ (s : State) (ch : Fin 32),
    s.lsw.chans[coilCh ch].st = .on ∧
    s.lsw.chans[coilCh ch].since + 245760000 ≤ s.now) ∧
  (∃ (s : State) (m : Fin 16),
    s.lsw.chans[auxCh m].st = .start ∧
    s.lsw.chans[auxCh m].since + s.acfg (auxCh m) 0 6 * ticksPerMs ≤ s.now) ∧
  (∃ (s : State) (m : Fin 16) (_i k : Nat),
    s.lsw.chans[auxCh m].st = .start ∧
    49152 ≤ k) ∧
  (∃ (s : State) (m : Fin 16) (_i k : Nat),
    s.lsw.chans[auxCh m].st = .on ∧
    24576 ≤ k) ∧
  (∃ (s : State) (m : Fin 16) (i k : Nat),
    s.lsw.chans[auxCh m].st = .on ∧
    s.acfg (auxCh m) 8 11 ≤ i ∧
    s.acfg2 (auxCh m) 0 8 * 10 * ticksPerMs ≤ k) ∧
  (∃ (s : State) (m : Fin 16),
    s.expired .tRetry (auxCh m).val = true ∧
    s.lsw.chans[auxCh m].st = .retryWait) ∧
  (∃ (s : State) (m : Fin 16),
    s.lsw.chans[auxCh m].st = .on ∧
    s.lsw.chans[auxCh m].since + 245760000 ≤ s.now) ∧
  (∃ (s : State) (ch : Fin 48) (k : Nat),
    s.olActive ch = true ∧
    245760 ≤ k ∧
    s.lsw.chans[ch].openLoad = false) ∧
  (∃ (s : State) (ch : Fin 48) (k : Nat),
    s.olActive ch = true ∧
    245760 ≤ k ∧
    s.lsw.chans[ch].openLoad = true) ∧
  (∃ (s : State) (m : Fin 16) (cur k : Nat),
    s.lsw.chans[auxCh m].st = .on ∧
    cur < 50 ∧
    2457600 ≤ k ∧
    s.lsw.chans[auxCh m].underload = false) ∧
  (∃ (s : State) (q : Fin 12) (temp : Int),
    s.now % 6144 = 0 ∧
    (s.pf 0x7000 8 8 : Int) < temp ∧
    s.lsw.quads[q].warn = false) ∧
  (∃ (s : State) (q : Fin 12) (temp : Int),
    s.now % 6144 = 0 ∧
    temp ≤ (s.pf 0x7000 8 8 : Int) ∧
    s.lsw.quads[q].warn = true) ∧
  (∃ (s : State) (q : Fin 12) (temp : Int),
    s.now % 6144 = 0 ∧
    175 < temp ∧
    s.lsw.quads[q].therm = false) ∧
  (∃ (s : State) (q : Fin 12) (temp : Int),
    s.now % 6144 = 0 ∧
    temp < 160 ∧
    s.lsw.quads[q].therm = true) ∧
  (∃ (s : State) (mv us : Nat),
    mv < 7500 ∧
    20 ≤ us ∧
    s.lsw.uv = false) ∧
  (∃ (s : State) (mv k : Nat),
    8500 < mv ∧
    245760 ≤ k ∧
    s.lsw.uv = true) ∧
  (∃ (s : State) (q : Fin 12) (r : Nat),
    s.lsw.restart = some r ∧
    r + q.val * 24576 ≤ s.now ∧
    s.lsw.restarted.contains q.val = false ∧
    s.lsw.hb = true) ∧
  (∃ (s : State) (mv k : Nat),
    (mv * 10 < (if s.pf 0x7000 0 1 == 1 then 24000 else 12000) * 8) ∧
    245760 ≤ k) ∧
  (∃ (s : State) (us : Nat),
    5000 ≤ us ∧
    s.lsw.hb = true) ∧
  (∃ (s : State),
    s.lsw.hb = false) :=
  ⟨⟨wCoilEn, 0, by decide +kernel⟩,
    ⟨wCoilFall, 0, by decide +kernel⟩,
    ⟨wCoil .start, 31, by decide +kernel⟩,
    ⟨wCoilEn.setCh 0 fun x => { x with st := .start }, 0, 49152, by decide +kernel⟩,
    ⟨wCoilEn.setCh 0 fun x => { x with st := .on, left := 2 }, 0, 32, by decide +kernel⟩,
    ⟨wCoil .on, 31, by decide +kernel⟩,
    ⟨wAux .start, 15, by decide +kernel⟩,
    ⟨wAux .start, 15, 0, 49152, by decide +kernel⟩,
    ⟨wAux .on, 15, 0, 24576, by decide +kernel⟩,
    ⟨wAux .on, 15, 2047, 999999999, by decide +kernel⟩,
    ⟨{ wAux .retryWait with timers := [⟨.tRetry, 47, 0, 0, 0⟩] }, 15, by decide +kernel⟩,
    ⟨wAux .on, 15, by decide +kernel⟩,
    ⟨wOl, 0, 245760, by decide +kernel⟩,
    ⟨wOl.setCh 0 fun x => { x with openLoad := true }, 0, 245760, by decide +kernel⟩,
    ⟨wAux .on, 15, 49, 2457600, by decide +kernel⟩,
    ⟨wOn, 11, 256, by decide +kernel⟩,
    ⟨wOn.setQuad 11 fun x => { x with warn := true }, 11, -40, by decide +kernel⟩,
    ⟨wOn, 11, 176, by decide +kernel⟩,
    ⟨wOn.setQuad 11 fun x => { x with therm := true }, 11, 159, by decide +kernel⟩,
    ⟨wOn, 7499, 20, by decide +kernel⟩,
    ⟨wOn.setLsw fun l => { l with uv := true }, 8501, 245760, by decide +kernel⟩,
    ⟨wLateOn.setLsw fun l => { l with restart := some 0, hb := true }, 11, 0, by decide +kernel⟩,
    ⟨wOn, 9599, 245760, by decide +kernel⟩,
    ⟨wOn.setLsw fun l => { l with hb := true }, 5000, by decide +kernel⟩,
    ⟨wOn.setLsw fun l => { l with hb := false }, by decide +kernel⟩⟩

theorem witness_LoadSwitchCommandsComplete :
  (∃ (s : State) (d : Desc) (k : Fin 48),
    Ready s 0 d ∧
    Plain d ∧
    d.scope = 0 ∧
    d.len = 0 ∧
    dbyte d 24 = 1 ∧
    unitAux d.unit.toNat = some k ∧
    (taken s 0 d).claimed k = false ∧
    (taken s 0 d).auxReady k true = true ∧
    (taken s 0 d).lsw.chans[k].st ≠ .on) ∧
  (∃ (s : State) (d : Desc) (k : Fin 48),
    Ready s 0 d ∧
    Plain d ∧
    d.scope = 0 ∧
    d.len = 0 ∧
    dbyte d 24 = 1 ∧
    unitAux d.unit.toNat = some k ∧
    (taken s 0 d).claimed k = false ∧
    (taken s 0 d).auxReady k true = true ∧
    (taken s 0 d).lsw.chans[k].st = .on) ∧
  (∃ (s : State) (d : Desc) (k : Fin 48),
    Ready s 0 d ∧
    Plain d ∧
    d.scope = 0 ∧
    d.len = 0 ∧
    dbyte d 24 = 0 ∧
    unitAux d.unit.toNat = some k ∧
    (taken s 0 d).claimed k = false) ∧
  (∃ (s : State) (d : Desc) (k : Fin 48),
    Ready s 0 d ∧
    Plain d ∧
    d.scope = 0 ∧
    d.len = 0 ∧
    d.param1 = 0 ∧
    d.unit.toNat = k.val) ∧
  (∃ (s : State) (d : Desc),
    Ready s 0 d ∧
    Plain d ∧
    d.scope = 2 ∧
    d.unit ≠ 0 ∧
    d.len.toNat = 16 * d.unit.toNat) :=
  ⟨⟨wLsw .off, (wD 32 (p1 := 1)), 32, by decide +kernel⟩,
    ⟨wLsw .on, (wD 32 (p1 := 1)), 32, by decide +kernel⟩,
    ⟨wLsw .on, wD 32, 32, by decide +kernel⟩,
    ⟨wLsw .latched, wD 32, 32, by decide +kernel⟩,
    ⟨wLsw .latched, (wD 1 (scope := 2) (len := 16) (pay := zeros 16)), by decide +kernel⟩⟩

theorem witness_IntakeEventsComplete :
  (∃ (s : State) (g : Fin 8) (x : Nat × Nat × Bool),
    (s.met.mclkDue.find? (fun x => x.2.1 == g.val && x.1 ≤ s.now) = some x) ∧
    x.2.2 = false) ∧
  (∃ (s : State) (g : Fin 8) (x : Nat × Nat × Bool),
    (s.met.mclkDue.find? (fun x => x.2.1 == g.val && x.1 ≤ s.now) = some x) ∧
    x.2.2 = true) ∧
  (∃ (s : State) (lane : Fin 32) (st : Nat),
    s.met.lanes[lane].start = some st ∧
    st + 32768 ≤ s.now ∧
    s.met.lanes[lane].run = false) ∧
  (∃ (s : State) (lane : Fin 32) (ch : Fin 8) (_level : Bool) (k st : Nat),
    s.met.lanes[lane].start = some st ∧
    st + 32768 ≤ s.now - 2525 ∧
    channelUsed (s.laneMode lane) ch.val = true ∧
    s.met.lanes[lane].chans[ch].stuck = false ∧
    2048 ≤ k ∧
    s.now % 512 = 477 ∧
    s.frozen = false) ∧
  (∃ (s : State) (lane : Fin 32) (ch : Fin 8) (level : Bool) (_k st : Nat),
    s.met.lanes[lane].start = some st ∧
    st + 32768 ≤ s.now - 2525 ∧
    channelUsed (s.laneMode lane) ch.val = true ∧
    s.met.lanes[lane].chans[ch].stuck = true ∧
    level ≠ s.met.lanes[lane].chans[ch].stuckLevel ∧
    s.now % 512 = 477 ∧
    s.frozen = false) ∧
  (∃ (s : State) (lane : Fin 32) (_wins _rw : List BitWindow) (_ue : Bool) (x : Nat),
    s.met.lanes[lane].run = true ∧
    s.frozen = false ∧
    s.met.lanes[lane].cutAt = some x) ∧
  (∃ (s : State) (lane : Fin 32) (_wins rw : List BitWindow) (ue : Bool) (t : State),
    s.met.lanes[lane].run = true ∧
    s.frozen = false ∧
    s.met.lanes[lane].cutAt = none ∧
    ((if ue = true then s.legalUe else s).placeCycle lane rw = t) ∧
    t.cutTick lane = none ∧
    (t.issues lane).getLast? = some s.now) ∧
  (∃ (s : State) (lane : Fin 32) (_rw : List BitWindow),
    s.met.lanes[lane].run = true ∧
    s.isDc lane = false ∧
    s.leader lane = none ∧
    s.frozen = false ∧
    (s.issues lane).head? = some s.now) ∧
  (∃ (s : State) (lane : Fin 32) (ch : Fin 8) (_y : Int) (_ys : List Int),
    s.met.lanes[lane].run = true ∧
    channelUsed (s.laneMode lane) ch.val = true ∧
    s.frozen = false) ∧
  (∃ (s : State) (lane : Fin 32) (_wins rw : List BitWindow) (t : State) (x : Nat),
    s.met.lanes[lane].run = true ∧
    s.frozen = false ∧
    s.placeCycle lane rw = t ∧
    t.cutTick lane = some x ∧
    (t.issues lane).getLast?.getD x = s.now) ∧
  (∃ (s : State) (slot : Fin 4),
    s.expired .tTrig slot.val = true) ∧
  (∃ (s : State) (k : Fin 8) (d : Nat) (rest : List Nat),
    s.nrg.pulses[k].sched = d :: rest ∧
    d = s.now ∧
    s.nrg.pulses[k].lastStart = none ∧
    s.altSel k = false ∧
    s.legalOn = true) ∧
  (∃ (s : State) (k : Fin 8) (d l : Nat) (rest : List Nat),
    s.nrg.pulses[k].sched = d :: rest ∧
    d < s.now ∧
    s.nrg.pulses[k].lastStart = some l ∧
    l + 2 * s.pulseWidth k ≤ s.now ∧
    s.altSel k = false ∧
    s.legalOn = true) ∧
  (∃ (s : State) (k : Fin 8),
    s.nrg.pulses[k].active = true ∧
    s.nrg.pulses[k].endAt ≤ s.now) ∧
  (∃ (s : State),
    s.altSel 6 = true ∧
    s.now % ticksPerS = 0 ∧
    s.nrg.pulses[6].altLast ≠ some s.now ∧
    s.legalOn = true) ∧
  (∃ (s : State) (k : Fin 8),
    k ≠ 6 ∧
    s.altSel k = true ∧
    s.nrg.pulses[k].altLast ≠ some s.island.rtcSec ∧
    s.legalOn = true) :=
  ⟨⟨{ wOn with met := { Met.reset with mclkDue := [(0, 7, false)] } }, 7, (0, 7, false), by decide +kernel⟩,
    ⟨{ wOn with met := { Met.reset with mclkDue := [(0, 7, true)] } }, 7, (0, 7, true), by decide +kernel⟩,
    ⟨wChain, 0, 0, by decide +kernel⟩,
    ⟨wMetStart 40925, 0, 0, true, 2048, 0, by decide +kernel⟩,
    ⟨wMetStuck, 0, 0, true, 1, 0, by decide +kernel⟩,
    ⟨wMetCut, 0, [], [], false, 0, by decide +kernel⟩,
    ⟨wCycle, 0, [], [], false, wCycle.placeCycle 0 [], by decide +kernel, by decide +kernel, by decide +kernel, rfl, by decide +kernel, by decide +kernel⟩,
    ⟨wTrack, 0, [], by decide +kernel⟩,
    ⟨wMetAt 40477, 0, 0, 1, [2], by decide +kernel⟩,
    ⟨wCalCut, 0, [], [], wCalCut.placeCycle 0 [], wCalCutTick, by decide +kernel, by decide +kernel, rfl, by decide +kernel, by decide +kernel⟩,
    ⟨wT .tTrig 3 0, 3, by decide +kernel⟩,
    ⟨wPulse [0], 0, 0, [], by decide +kernel⟩,
    ⟨wPulseLate, 0, 1, 0, [], by decide +kernel⟩,
    ⟨wOn.setPulse 7 fun p => { p with active := true }, 7, by decide +kernel⟩,
    ⟨wAlt, by decide +kernel⟩,
    ⟨wAlt, 7, by decide +kernel⟩⟩

theorem witness_MeteringCommandsComplete :
  (∃ (s : State) (d : Desc) (n : Fin 32) (i : Fin 4),
    Ready s 0 d ∧
    Plain d ∧
    d.scope = 0 ∧
    d.len.toNat = 0 ∧
    captureRanges d = true ∧
    (taken s 0 d).metLane d = some n ∧
    (taken s 0 d).badCapture n d = false ∧
    ((List.finRange 4).find? (fun i => ((taken s 0 d).met.captures[i]).isNone) = some i) ∧
    dparam d 28 2 = 0) ∧
  (∃ (s : State) (d : Desc) (n : Fin 32) (i : Fin 4),
    Ready s 0 d ∧
    Plain d ∧
    d.scope = 0 ∧
    d.len.toNat = 0 ∧
    (taken s 0 d).metLane d = some n ∧
    ((List.finRange 4).find? (fun i => match (taken s 0 d).met.captures[i] with | some k => k.tag.toNat == dparam d 24 2 && k.lane == n | none => false) = some i)) ∧
  (∃ (s : State) (d : Desc) (n : Fin 32),
    Ready s 0 d ∧
    Plain d ∧
    d.scope = 0 ∧
    d.len.toNat = 192 ∧
    (taken s 0 d).metLane d = some n) ∧
  (∃ (s : State) (d : Desc),
    Ready s 0 d ∧
    Plain d ∧
    d.scope = 0 ∧
    d.len.toNat = 4296 ∧
    d.unit = 0) ∧
  (∃ (s : State) (d : Desc) (n : Fin 32),
    Ready s 0 d ∧
    Plain d ∧
    d.scope = 0 ∧
    d.len.toNat = 400 ∧
    unitLane d = some n ∧
    (taken s 0 d).laneEn n = true ∧
    (taken s 0 d).met.lanes[n].run = true) ∧
  (∃ (s : State) (d : Desc) (n : Fin 32),
    Ready s 0 d ∧
    Plain d ∧
    d.scope = 0 ∧
    d.len.toNat = 356 ∧
    unitLane d = some n) :=
  ⟨⟨wMetHost, (wD 0 (p0 := 0x01000001)), 0, 0, by decide +kernel⟩,
    ⟨wMetCap, wD 0, 0, 0, by decide +kernel⟩,
    ⟨wMetHost, (wD 0 (len := 192)), 0, by decide +kernel⟩,
    ⟨wHost, (wD 0 (len := 4296)), by decide +kernel⟩,
    ⟨wMetRun, (wD 0 (len := 400)), 0, by decide +kernel⟩,
    ⟨wHost, (wD 31 (len := 356)), 31, by decide +kernel⟩⟩

theorem witness_BookEventsComplete :
  (∃ (s : State),
    s.clocks.ok.getLsbD 3 = true ∧
    s.legalOn = false) ∧
  (∃ (s : State) (t : State),
    s.clocks.ok.getLsbD 3 = true ∧
    ({ s with island := { s.island with rtcSec := (s.island.rtcSec + 1) % 2 ^ 55, elapsed := s.island.elapsed + 1 } } : State) = t ∧
    t.legalOn = true ∧
    ((t.settleRate.note 6 32 0).lineRollover).book.img.clkValid = true ∧
    ((t.settleRate.note 6 32 0).lineRollover).book.outage = none) ∧
  (∃ (s : State) (f : Nat),
    s.book.noclockFrom = some f ∧
    f + tblLen s.table * ticksPerS ≤ s.now ∧
    s.legalOn = true) ∧
  (∃ (s : State) (r : StepReq) (t : State),
    s.stepDue = some r ∧
    s.legalOn = true ∧
    r.source = 0 ∧
    ((s.setBook fun b => { b with steps := b.steps.erase r }).clockStep 0 r.role r.newSec = t)) ∧
  (∃ (s : State) (r : StepReq),
    s.stepDue = some r ∧
    s.legalOn = true ∧
    r.source = 1 ∧
    s.pf 0xA000 1 1 ≠ 0 ∧
    s.stepTooFar r.newSec = false) ∧
  (∃ (s : State) (o : Bool) (ms : Nat),
    10 ≤ ms ∧
    s.island.sealOpen = !o ∧
    s.legalOn = true) ∧
  (∃ (s : State) (o : Bool) (ms : Nat),
    10 ≤ ms ∧
    s.island.sealOpen = !o ∧
    s.legalOn = false) ∧
  (∃ (s : State) (k : Fin 4) (v : Nat),
    s.now % 24576 = 0 ∧
    s.legalOn = true ∧
    0 < (s.calv (0xA040 + 8 * k.val)).toNat ∧
    (s.calv (0xA040 + 8 * k.val)).toNat ≤ v ∧
    s.book.img.magOn.getLsbD k.val = false) ∧
  (∃ (s : State) (o : Bool),
    s.island.caseOpen = !o ∧
    s.legalOn = true) ∧
  (∃ (s : State),
    s.island.caseOpen = false ∧
    s.legalOn = false ∧
    s.island.caseOpenings = 0) :=
  ⟨⟨State.reset, by decide +kernel⟩,
    ⟨wClock, { wClock with island := { wClock.island with rtcSec := (wClock.island.rtcSec + 1) % 2 ^ 55, elapsed := wClock.island.elapsed + 1 } }, by decide +kernel, rfl, by decide +kernel, by decide +kernel, by decide +kernel⟩,
    ⟨wNoclock, 0, by decide +kernel⟩,
    ⟨wStep 0, ⟨0, 5, 0, 1⟩, (({ wStep 0 with book := { (wStep 0).book with steps := [] } } : State).clockStep 0 1 5), by decide +kernel, by decide +kernel, by decide +kernel, rfl⟩,
    ⟨{ wStep 1 with cfg := [(0xA000, 0xFFF02)] }, ⟨0, 5, 1, 1⟩, by decide +kernel⟩,
    ⟨wOn, true, 10, by decide +kernel⟩,
    ⟨State.reset, true, 10, by decide +kernel⟩,
    ⟨wMag 0, 0, 100, by decide +kernel⟩,
    ⟨wOn, true, by decide +kernel⟩,
    ⟨State.reset, by decide +kernel⟩⟩

theorem witness_BookCommandsComplete :
  (∃ (s : State) (d : Desc) (n : Fin 32),
    Ready s 0 d ∧
    Plain d ∧
    d.scope = 0 ∧
    d.len.toNat = 0 ∧
    d.unit.toNat = n.val) ∧
  (∃ (s : State) (d : Desc),
    Ready s 0 d ∧
    Plain d ∧
    d.scope = 0 ∧
    d.len.toNat = 0 ∧
    d.unit.toNat = 32) ∧
  (∃ (s : State) (d : Desc) (t : State),
    Ready s 0 d ∧
    Plain d ∧
    d.scope = 0 ∧
    d.len.toNat = 40 ∧
    d.unit = 0 ∧
    (taken s 0 d).authRole 0x91 d = (true, t) ∧
    field d.payload 32 7 < 2 ^ 55 ∧
    field d.payload 39 1 = 0 ∧
    (field d.payload 0 1 ≠ 1 ∨ t.stepTooFar (field d.payload 32 7) = false)) ∧
  (∃ (s : State) (d : Desc) (t : State),
    Ready s 0 d ∧
    Plain d ∧
    d.scope = 0 ∧
    d.len.toNat = 416 ∧
    d.unit = 0 ∧
    (taken s 0 d).authRole 0x92 d = (true, t) ∧
    tableOk (d.payload.drop 32) = true ∧
    t.book.img.tblActive < field (d.payload.drop 32) 0 4 ∧
    t.book.img.tblPending < field (d.payload.drop 32) 0 4) ∧
  (∃ (s : State) (d : Desc) (t u : State) (m : Nat),
    1 ≤ m ∧
    m ≤ 64 ∧
    Ready s 0 d ∧
    Plain d ∧
    d.scope = 0 ∧
    d.len.toNat = 32 + 16 * m ∧
    d.unit = 0 ∧
    (taken s 0 d).authRole 0x93 d = (true, t) ∧
    t.book.img.sealOpen = true ∧
    calBad t.book.cal (entries16 m (d.payload.drop 32)) = none ∧
    ((entries16 m (d.payload.drop 32)).foldl (fun s e => s.calWrite e) t = u)) ∧
  (∃ (s : State) (d : Desc) (t : State),
    Ready s 0 d ∧
    Plain d ∧
    d.scope = 0 ∧
    d.len.toNat = 32 ∧
    d.unit = 0 ∧
    (taken s 0 d).authRole 0x94 d = (true, t)) :=
  ⟨⟨wHost, wD 31, 31, by decide +kernel⟩,
    ⟨wHost, wD 32, by decide +kernel⟩,
    by refine ⟨wRole, wAuth 2 0x91 40 (zeros 8), wAuthed 2 0x91 40 (by decide) (zeros 8), ?_, ?_, ?_, ?_, ?_, by apply wAuth_right <;> decide +kernel, ?_, ?_, ?_⟩ <;> decide +kernel,
    by refine ⟨wRole, wAuth 2 0x92 416 wTable, wAuthed 2 0x92 416 (by decide) wTable, ?_, ?_, ?_, ?_, ?_, by apply wAuth_right <;> decide +kernel, ?_, ?_, ?_⟩ <;> decide +kernel,
    by refine ⟨wRole, wAuth 3 0x93 48 wCalEntry, wAuthed 3 0x93 48 (by decide) wCalEntry, (entries16 1 ((wAuth 3 0x93 48 wCalEntry).payload.drop 32)).foldl (fun s e => s.calWrite e) (wAuthed 3 0x93 48 (by decide) wCalEntry), 1, ?_, ?_, ?_, ?_, ?_, ?_, ?_, by apply wAuth_right <;> decide +kernel, ?_, ?_, rfl⟩ <;> decide +kernel,
    by refine ⟨wRole, wAuth 2 0x94 32 [], wAuthed 2 0x94 32 (by decide) [], ?_, ?_, ?_, ?_, ?_, by apply wAuth_right <;> decide +kernel⟩ <;> decide +kernel⟩

theorem witness_LineReceptionsComplete :
  (∃ (s : State) (f : LineRx),
    Arrives s f [3, 5, 11] ∧
    (parseLine f.bytes).ty = 3) ∧
  (∃ (s : State) (f : LineRx) (u : State) (_x : List (Nat × Nat)),
    Arrives s f [4] ∧
    (parseLine f.bytes).dst = s.lineAddr ∧
    field (parseLine f.bytes).body 0 2 ≠ 0 ∧
    (parseLine f.bytes).body.length = 4 + 64 * field (parseLine f.bytes).body 0 2 ∧
    (arrived s f).frozen = false ∧
    u = (arrived s f).note 12 32 16 ∧
    u.abc.ready = false) ∧
  (∃ (s : State) (f : LineRx) (u : State) (_x : List (Nat × Nat)),
    Arrives s f [4] ∧
    (parseLine f.bytes).dst = s.lineAddr ∧
    field (parseLine f.bytes).body 0 2 ≠ 0 ∧
    (parseLine f.bytes).body.length = 4 + 64 * field (parseLine f.bytes).body 0 2 ∧
    (arrived s f).frozen = false ∧
    u = (arrived s f).note 12 32 16 ∧
    u.abc.ready = true ∧
    u.abc.jheld = false ∧
    u.pf 0x5000 0 1 ≠ 0) ∧
  (∃ (s : State) (f : LineRx) (t : Nat),
    Arrives s f [6] ∧
    (parseLine f.bytes).src = (arrived s f).pf 0xB008 16 10 ∧
    t = field (parseLine f.bytes).body 0 7 + (field (parseLine f.bytes).body 8 4 + ((arrived s f).now - (f.start + 24 * lineSym)) * 1000 / 24576) / 1000000 ∧
    (arrived s f).book.img.clkValid = false) ∧
  (∃ (s : State) (f : LineRx),
    Arrives s f [7]) ∧
  (∃ (s : State) (f : LineRx) (o : Option LineOut) (x : LineOut),
    Arrives s f [2] ∧
    o = (arrived s f).line.awaiting ∧
    o = some x ∧
    field (parseLine f.bytes).body 0 2 = x.f.src ∧
    field (parseLine f.bytes).body 2 2 = x.f.seq ∧
    (∀ k ∈ (arrived s f).flights, k.opcode ≠ 0xA0)) ∧
  (∃ (s : State) (f : LineRx) (t : State),
    Arrives s f [1] ∧
    (t = ((arrived s f).note 14 32 41).setNeigh (parseLine f.bytes).xmit fun n => { n with level := field (parseLine f.bytes).body 0 1 })) ∧
  (∃ (s : State) (f : LineRx),
    Arrives s f [0] ∧
    (arrived s f).lineRole ≠ 0 ∧
    (arrived s f).line.st ≠ 3) ∧
  (∃ (s : State) (f : LineRx),
    Arrives s f [9] ∧
    (arrived s f).line.st ≠ 3) ∧
  (∃ (s : State) (f : LineRx),
    Arrives s f [10] ∧
    (arrived s f).line.st = 3 ∧
    (∀ m ∈ (arrived s f).line.members, m % 1024 ≠ (parseLine f.bytes).src)) ∧
  (∃ (s : State) (src : Nat) (_snrs : List Nat) (hi : List (Nat × Nat)),
    s.line.st ≠ 0 ∧
    s.lineTxen s.now = false ∧
    src ≠ s.lineAddr ∧
    src < 1024 ∧
    hitsHead (blankSpans (s.pf 0xB018 0 16) hi) 16 = false ∧
    (((List.range 16).filter fun j => blankedIn (blankSpans (s.pf 0xB018 0 16) hi) (16 + j) == 0).length < 8)) ∧
  (∃ (s : State) (src : Nat) (snrs : List Nat) (hi : List (Nat × Nat)) (n : LineNeigh) (t : State),
    s.line.st ≠ 0 ∧
    s.lineTxen s.now = false ∧
    src ≠ s.lineAddr ∧
    src < 1024 ∧
    hitsHead (blankSpans (s.pf 0xB018 0 16) hi) 16 = false ∧
    (8 ≤ ((List.range 16).filter fun j => blankedIn (blankSpans (s.pf 0xB018 0 16) hi) (16 + j) == 0).length) ∧
    (t = ((s.setLine fun l => { l with blank := min (l.blank + (blankSpans (s.pf 0xB018 0 16) hi).length) 0xFFFF }).note 14 32 41).lineHear src (snrs.foldl (· + ·) 0 / max 1 snrs.length)) ∧
    t.neigh src = some n) :=
  ⟨by refine ⟨wLine, wRx 3 0xFFFF, by apply wRxOf_arrives <;> decide +kernel, ?_⟩; decide +kernel,
    by refine ⟨wLine, wRxDelta, (arrived wLine wRxDelta).note 12 32 16, [], by apply wRxOf_arrives <;> decide +kernel, ?_, ?_, ?_, ?_, rfl, ?_⟩ <;> decide +kernel,
    by refine ⟨wLineReady, wRxDelta, (arrived wLineReady wRxDelta).note 12 32 16, [], by apply wRxOf_arrives <;> decide +kernel, ?_, ?_, ?_, ?_, rfl, ?_, ?_, ?_⟩ <;> decide +kernel,
    by refine ⟨wLine, wRx 6 0xFFFF, (field (parseLine (wRx 6 0xFFFF).bytes).body 0 7 + (field (parseLine (wRx 6 0xFFFF).bytes).body 8 4 + ((arrived wLine (wRx 6 0xFFFF)).now - ((wRx 6 0xFFFF).start + 24 * lineSym)) * 1000 / 24576) / 1000000), by apply wRxOf_arrives <;> decide +kernel, ?_, rfl, ?_⟩ <;> decide +kernel,
    ⟨wLine, wRx 7 0xFFFF, by apply wRxOf_arrives <;> decide +kernel⟩,
    by refine ⟨wLineAwait, wRxAck, some wOut, wOut, by apply wRxOf_arrives <;> decide +kernel, rfl, rfl, ?_, ?_, ?_⟩ <;> decide +kernel,
    ⟨wLine, wRx 1 0xFFFF, ((arrived wLine (wRx 1 0xFFFF)).note 14 32 41).setNeigh (parseLine (wRx 1 0xFFFF).bytes).xmit fun n => { n with level := field (parseLine (wRx 1 0xFFFF).bytes).body 0 1 }, by apply wRxOf_arrives <;> decide +kernel, rfl⟩,
    by refine ⟨wLineB, wRx 0 0xFFFF, by apply wRxOf_arrives <;> decide +kernel, ?_, ?_⟩ <;> decide +kernel,
    by refine ⟨wLine, wRx 9 0xFFFF, by apply wRxOf_arrives <;> decide +kernel, ?_⟩; decide +kernel,
    by refine ⟨wLineC, wRx 10 0xFFFF, by apply wRxOf_arrives <;> decide +kernel, ?_, ?_⟩ <;> decide +kernel,
    ⟨wLine, 9, [], wBlanked, by decide +kernel⟩,
    ⟨wLine, 9, [], [], ⟨9, 15, [0], none, none, none⟩, ((wLine.setLine fun l => { l with blank := min (l.blank + 0) 0xFFFF }).note 14 32 41).lineHear 9 0, by decide +kernel⟩⟩

theorem witness_LineTimesComplete :
  (∃ (s : State) (t : LineTx),
    s.line.tx = some t ∧
    t.stop ≤ s.now ∧
    t.out.f.ackReq = true ∧
    t.ack = false) ∧
  (∃ (s : State) (t : LineTx),
    s.line.tx = some t ∧
    t.stop ≤ s.now ∧
    t.ack = true ∧
    t.out.f.ty ≠ 8) ∧
  (∃ (s : State) (sp : Nat) (rs : List CarrierReading) (_ok : Bool) (o : LineOut) (t : State),
    s.lineIdle = true ∧
    s.mayContend = true ∧
    s.lineReports = t ∧
    pickFrame t.sendable = some o ∧
    (55 + 40 * o.f.prio) * ticksPerMs ≤ s.idleFor sp rs + txLead) ∧
  (∃ (s : State) (_ok : Bool) (due : Nat) (o : LineOut) (rest : List (Nat × LineOut)),
    s.line.acks = (due, o) :: rest ∧
    due ≤ s.now ∧
    s.line.tx = none) ∧
  (∃ (s : State) (o : LineOut),
    s.expired .tAck 0 = true ∧
    s.line.awaiting = some o ∧
    o.sends ≤ s.pf 0xB010 19 3 ∧
    o.upward = false) ∧
  (∃ (s : State) (o : LineOut),
    s.expired .tAck 0 = true ∧
    s.line.awaiting = some o ∧
    s.pf 0xB010 19 3 < o.sends ∧
    (∀ f ∈ (((s.expire .tAck 0).setLine fun l => { l with awaiting := none }).setErr .line 6).flights, f.opcode ≠ 0xA0)) ∧
  (∃ (s : State) (_ok : Bool),
    s.line.tx = none ∧
    s.line.test = none ∧
    s.line.st = 3 ∧
    s.line.beaconAt = none) ∧
  (∃ (s : State) (_ok : Bool) (b : Nat),
    s.line.tx = none ∧
    s.line.test = none ∧
    s.line.st = 3 ∧
    s.line.beaconAt = some b ∧
    b + s.pf 0xB010 0 8 * 100 * ticksPerMs ≤ s.now) ∧
  (∃ (s : State) (_ok : Bool) (i b : Nat),
    s.lineIndex = some i ∧
    s.line.beaconAt = some b ∧
    s.line.st = 2 ∧
    s.lineIdle = true ∧
    b + (250 + i * s.line.slot * 10) * ticksPerMs ≤ s.now + txLead ∧
    s.now + txLead < b + (250 + i * s.line.slot * 10) * ticksPerMs + s.line.slot * 10 * ticksPerMs ∧
    s.line.soundReq = s.lineAddr) ∧
  (∃ (s : State),
    s.expired .tBeacon 0 = true ∧
    s.line.st = 2) ∧
  (∃ (s : State) (i b : Nat),
    s.lineIndex = some i ∧
    s.line.beaconAt = some b ∧
    s.line.st = 4 ∧
    s.pf 0xB000 3 1 ≠ 0 ∧
    i ≠ 0 ∧
    (b + (s.pf 0xB010 16 3 + (((s.line.members.take i).drop 1).filter fun m => hasBit m 15).length + 1) * s.line.bp * 100 * ticksPerMs ≤ s.now)) ∧
  (∃ (s : State),
    s.lineRole = 0 ∧
    (s.line.st = 1 ∨ s.line.st = 5) ∧
    s.line.advAt + s.pf 0xB014 10 12 * ticksPerS ≤ s.now) ∧
  (∃ (s : State) (a n : Nat) (f : Flight),
    s.line.sounding = some (a, n) ∧
    s.flights.find? (·.opcode == 0xA1) = some f ∧
    a + 2000 * ticksPerMs ≤ s.now) ∧
  (∃ (s : State) (_noise : List Nat) (t : LineTestRun) (f : Flight),
    s.line.test = some t ∧
    t.until_ ≤ s.now ∧
    t.kind = 2 ∧
    s.flights.find? (·.opcode == 0xA2) = some f) ∧
  (∃ (s : State) (_noise : List Nat) (t : LineTestRun) (f : Flight),
    s.line.test = some t ∧
    t.until_ ≤ s.now ∧
    t.kind < 2 ∧
    s.flights.find? (·.opcode == 0xA2) = some f) :=
  ⟨⟨wLine.setLine fun l => { l with tx := some (wTx true) }, wTx true, by decide +kernel⟩,
    ⟨wLine.setLine fun l => { l with tx := some { wTx true with ack := true } }, { wTx true with ack := true }, by decide +kernel⟩,
    ⟨wLineQ, 999999999, [], true, wOut, wLineQ.lineReports, by decide +kernel, by decide +kernel, rfl, by decide +kernel, by decide +kernel⟩,
    ⟨wLine.setLine fun l => { l with acks := [(0, wOut)] }, true, 0, wOut, [], by decide +kernel⟩,
    ⟨{ wLineAwait with timers := [⟨.tAck, 0, 0, 0, 0⟩] }, wOut, by decide +kernel⟩,
    ⟨{ wLineAwait with timers := [⟨.tAck, 0, 0, 0, 0⟩], line := { wLineAwait.line with awaiting := some { wOut with sends := 9 } } }, { wOut with sends := 9 }, by decide +kernel⟩,
    ⟨wLineC, true, by decide +kernel⟩,
    ⟨wLineC.setLine fun l => { l with beaconAt := some 0 }, true, 0, by decide +kernel⟩,
    ⟨wMember, true, 1, 0, by decide +kernel⟩,
    ⟨{ wMember with timers := [⟨.tBeacon, 0, 0, 0, 0⟩] }, by decide +kernel⟩,
    ⟨wTakeover, 1, 0, by decide +kernel⟩,
    ⟨wLine, by decide +kernel⟩,
    ⟨{ wLine.setLine (fun l => { l with sounding := some (0, 3) }) with flights := [wFlight 0xA1] }, 0, 3, wFlight 0xA1, by decide +kernel⟩,
    ⟨{ wLine.setLine (fun l => { l with test := some ⟨2, 0, 0⟩ }) with flights := [wFlight 0xA2] }, [5], ⟨2, 0, 0⟩, wFlight 0xA2, by decide +kernel⟩,
    ⟨{ wLine.setLine (fun l => { l with test := some ⟨1, 0, 0⟩ }) with flights := [wFlight 0xA2] }, [], ⟨1, 0, 0⟩, wFlight 0xA2, by decide +kernel⟩⟩

theorem witness_LineCommandsComplete :
  (∃ (s : State) (d : Desc),
    Ready s 10 d ∧
    Plain d ∧
    d.scope = 0 ∧
    (d.len.toNat ≤ if hasBit (dbyte d 21) 3 then 1024 else 256) ∧
    s.lineEn = true ∧
    d.unit = 0xFFFF ∧
    dbyte d 21 < 16 ∧
    dbyte d 20 = 3 ∧
    dbyte d 21 % 4 ≠ 0 ∧
    (taken s 10 d).lineRole = 0) ∧
  (∃ (s : State) (d : Desc) (n : Nat) (up : Bool),
    Ready s 10 d ∧
    Plain d ∧
    d.scope = 0 ∧
    (d.len.toNat ≤ if hasBit (dbyte d 21) 3 then 1024 else 256) ∧
    s.lineEn = true ∧
    d.unit.toNat < 1024 ∧
    dbyte d 21 < 16 ∧
    dbyte d 20 = 7 ∧
    (taken s 10 d).lineIndex ≠ none ∧
    (taken s 10 d).lineRole ≠ 0 ∧
    (taken s 10 d).lineRoute d.unit.toNat = some (n, up)) ∧
  (∃ (s : State) (d : Desc),
    Ready s 0 d ∧
    Plain d ∧
    d.scope = 0 ∧
    d.len.toNat = 0 ∧
    s.lineEn = true ∧
    d.unit = 0 ∧
    (∀ f ∈ (taken s 0 d).flights, f.opcode ≠ 0xA1)) ∧
  (∃ (s : State) (d : Desc),
    Ready s 0 d ∧
    Plain d ∧
    d.scope = 0 ∧
    dbyte d 24 ≤ 2 ∧
    (d.len.toNat = if dbyte d 24 = 2 then 36 else 0) ∧
    s.lineEn = true ∧
    d.unit = 0 ∧
    (dbyte d 24 ≠ 0 ∨ dbyte d 25 ≤ 45) ∧
    1 ≤ dparam d 26 2 ∧
    dparam d 26 2 ≤ 60000 ∧
    s.line.st ≠ 3 ∧
    (taken s 0 d).line.test = none) ∧
  (∃ (s : State) (d : Desc),
    Ready s 0 d ∧
    Plain d ∧
    d.scope = 0 ∧
    d.len.toNat = 1024 ∧
    s.lineEn = true ∧
    d.unit = 0) :=
  ⟨⟨wLine, (wD 0xFFFF (p0 := 0x0103)), by decide +kernel⟩,
    ⟨wMemberHost, (wD 9 (p0 := 0x0407)), 9, false, by decide +kernel⟩,
    ⟨wLine, wD 0, by decide +kernel⟩,
    ⟨wLine, (wD 0 (len := 36) (p1 := 0x10002)), by decide +kernel⟩,
    ⟨wLine, (wD 0 (len := 1024)), by decide +kernel⟩⟩

theorem witness_KeyEventsComplete :
  (∃ (s : State) (x : TamperSign),
    s.tampered x = true ∧
    tamperCause x ≠ 2 ∧
    s.htcLoaded = true) ∧
  (∃ (s : State) (x : TamperSign),
    s.tampered x = true ∧
    tamperCause x = 2 ∧
    s.htcLoaded = true) ∧
  (∃ (s : State) (x : TamperSign),
    s.tampered x = true ∧
    s.htcLoaded = false) ∧
  (∃ (s : State) (v : Nat) (t : State),
    s.keys.generating = true ∧
    s.keys.rngOk = true ∧
    s.draw (2 ^ 256) = (v, t) ∧
    s.fuses.epoch < 59) ∧
  (∃ (_s : State) (n : Nat),
    4096 ≤ n) ∧
  (∃ (s : State) (m : KeyPending),
    s.keys.pendingMsg = some m ∧
    m.copyDone = false ∧
    s.frozen = false ∧
    s.now < m.switchAt) ∧
  (∃ (s : State) (m : KeyPending),
    s.keys.pendingMsg = some m ∧
    m.copyDone = false ∧
    s.frozen = false ∧
    s.now < m.switchAt) ∧
  (∃ (s : State) (m : KeyPending),
    s.keys.pendingMsg = some m ∧
    m.switchAt ≤ s.now ∧
    s.frozenAt = none ∧
    m.copyDone = true) ∧
  (∃ (s : State) (m : KeyPending),
    s.keys.pendingMsg = some m ∧
    m.switchAt ≤ s.now ∧
    s.frozenAt = none ∧
    m.copyDone = false) :=
  ⟨⟨wOn, .mesh 1 true true, by decide +kernel⟩,
    ⟨{ wOn with island := { Island.reset with caseTrig := true } }, .caseSwitch, by decide +kernel⟩,
    ⟨State.reset, .glitch (some 1799) 101, by decide +kernel⟩,
    by refine ⟨{ wOn with keys := { Keys.reset with generating := true, rngOk := true } }, (State.draw { wOn with keys := { Keys.reset with generating := true, rngOk := true } } (2 ^ 256)).1, (State.draw { wOn with keys := { Keys.reset with generating := true, rngOk := true } } (2 ^ 256)).2, ?_, ?_, rfl, ?_⟩ <;> decide +kernel,
    ⟨wOn, 4096, by decide +kernel⟩,
    ⟨wKeyPend false, wKeyMsg false, by decide +kernel⟩,
    ⟨wKeyPend false, wKeyMsg false, by decide +kernel⟩,
    ⟨(wKeyPend true), wKeyMsg true, by decide +kernel⟩,
    ⟨{ wOn with keys := { Keys.reset with pendingMsg := some { wKeyMsg false with switchAt := 0 } } }, { wKeyMsg false with switchAt := 0 }, by decide +kernel⟩⟩

theorem witness_KeyCommandsComplete :
  (∃ (s : State) (d : Desc),
    Ready s 0 d ∧
    Plain d ∧
    d.scope = 0 ∧
    d.len.toNat = 133 ∧
    d.unit = 0 ∧
    (taken s 0 d).ownerProg = 0 ∧
    (taken s 0 d).keys.debug = false ∧
    (taken s 0 d).rootStat = 1) ∧
  (∃ (s : State) (d : Desc) (m slot : Nat) (t : State) (w : KeyWork) (owner : Bytes),
    Ready s 0 d ∧
    Plain d ∧
    d.scope = 0 ∧
    d.unit = 0 ∧
    t = taken s 0 d ∧
    m = field d.payload 7 1 ∧
    1 ≤ m ∧
    m ≤ 16 ∧
    d.len.toNat = 462 + 96 * m ∧
    t.rootStat = 1 ∧
    t.keys.pendingMsg = none ∧
    t.keys.debug = false ∧
    owner = (d.payload.drop (197 + 96 * m)).take 133 ∧
    slot = field d.payload 6 1 ∧
    slot < 4 ∧
    t.fuses.owners.toList.getD slot none = some (Config.sha384 owner) ∧
    t.fuses.revoked.getLsbD slot = false ∧
    field d.payload 8 8 = t.fuses.dieIdD.toNat ∧
    field d.payload 16 1 = t.keyEpoch ∧
    t.island.keyTally < field d.payload 24 8 ∧
    t.keyEntries (t.kek ((d.payload.drop 64).take 133) (field d.payload 24 8)) slot ((keyOps m ((d.payload.drop 197).take (96 * m))).any (·.op == 4)) 0 ⟨t.keys.keys, [], [], false, []⟩ (keyOps m ((d.payload.drop 197).take (96 * m))) = .ok w ∧
    w.generated = []) ∧
  (∃ (s : State) (d : Desc) (v o : Nat),
    Ready s 0 d ∧
    Plain d ∧
    d.scope = 0 ∧
    d.len.toNat = 32 ∧
    (taken s 0 d).rootStat = 1 ∧
    (taken s 0 d).attestKey d.unit.toNat = some (some v, o)) :=
  ⟨⟨wRooted, (wD 0 (len := 133) (pay := zeros 133)), by decide +kernel⟩,
    by refine ⟨wKeyUpd, wKeyUpdD, 1, 0, taken wKeyUpd 0 wKeyUpdD, wKeyWork, zeros 133, ?_, ?_, ?_, ?_, rfl, rfl, ?_, ?_, ?_, ?_, ?_, ?_, rfl, rfl, ?_, rfl, ?_, ?_, ?_, ?_, rfl, ?_⟩ <;> decide +kernel,
    by refine ⟨wRooted, wAttD, wAttVal, wAttOrigin, ?_, ?_, ?_, ?_, ?_, wAttD_key⟩ <;> decide +kernel⟩

theorem witness_ManagementEventsComplete :
  (∃ (s : State) (t : State),
    s.mgt.mcRun = true ∧
    ((((((s.setErr .mgt 2).abortOps mcOpcodes).cancelHandover).epdAbortAll).setMgt fun m => { m with download := none, schedWait := [], nmi := [] }) = t)) ∧
  (∃ (s : State) (f : Nat),
    s.mgt.shed < 3 ∧
    shedLevel s.mgt.shed (min f 1024) < 4) ∧
  (∃ (s : State) (f : Nat),
    s.mgt.shed < 4 ∧
    shedLevel s.mgt.shed (min f 1024) = 4) ∧
  (∃ (s : State) (vs : List Int) (_me : MemorySigns) (_hz : Nat),
    s.now % 245760 = 0 ∧
    s.htcLoaded = true ∧
    vs.length = 10) ∧
  (∃ (s : State) (x : Download) (v : Nat),
    s.mgt.download = some x ∧
    x.last = true ∧
    x.stage = false ∧
    v = field x.bytes 8 4 ∧
    v < 2 ^ 32 ∧
    s.island.antiRollback ≤ v) ∧
  (∃ (s : State) (x : Download),
    s.mgt.download = some x ∧
    x.last = true ∧
    x.stage = true ∧
    s.mgt.shed < 4 ∧
    field x.bytes 16 2 = s.mgt.runFormat ∧
    s.island.antiRollback ≤ (BitVec.ofNat 32 (field x.bytes 8 4)).toNat) ∧
  (∃ (s : State) (k : Schedule),
    s.nv.boot.sched = some k ∧
    k.htcForm = true ∧
    k.time ≤ s.now ∧
    s.paired = false ∧
    s.nv.boot.state = 2 ∧
    k.reachedAt = none) ∧
  (∃ (s : State) (k : Schedule) (r : Nat),
    s.nv.boot.sched = some k ∧
    s.nv.boot.state = 2 ∧
    k.reachedAt = some r ∧
    s.now ≤ r + k.window * ticksPerS ∧
    s.quiescent = true ∧
    s.frozenAt = none ∧
    (∀ x ∈ s.commit, x.kind = 1)) ∧
  (∃ (s : State) (k : Schedule) (r : Nat),
    s.nv.boot.sched = some k ∧
    k.reachedAt = some r ∧
    s.nv.boot.state = 2 ∧
    r + k.window * ticksPerS ≤ s.now) ∧
  (∃ (s : State),
    s.mgt.trial = true ∧
    s.saf.armed = true ∧
    s.abc.ready = true ∧
    s.saf.scRun = true ∧
    s.anyResetSource = false ∧
    s.frozen = false) ∧
  (∃ (s : State) (t : State),
    s.expired .tConfirm 0 = true ∧
    (t = (s.expire .tConfirm 0).setBoot fun b => { b with state := 5 })) ∧
  (∃ (s : State),
    s.mgt.trialEnded = true ∧
    s.quiescent = true ∧
    s.chipResetDue = none) ∧
  (∃ (s : State),
    s.mgt.copyDue = true) :=
  ⟨⟨{ wOn with mgt := { Mgt.reset with mcRun := true } }, ((((({ wOn with mgt := { Mgt.reset with mcRun := true } } : State).setErr .mgt 2).abortOps mcOpcodes).cancelHandover).epdAbortAll).setMgt fun m => { m with download := none, schedWait := [], nmi := [] }, by decide +kernel, rfl⟩,
    ⟨wOn, 600, by decide +kernel⟩,
    ⟨wOn, 1024, by decide +kernel⟩,
    ⟨wOn, List.replicate 10 20, ⟨true, false, false⟩, 50, by decide +kernel⟩,
    ⟨wBundle false, ⟨zeros 64, false, true⟩, 0, by decide +kernel⟩,
    ⟨wBundle true, ⟨zeros 64, true, true⟩, by decide +kernel⟩,
    ⟨wSched none, ⟨true, 5, 0, 0, 1, none⟩, by decide +kernel⟩,
    ⟨{ wSched (some 0) with htc := 0 }, ⟨true, 5, 0, 0, 1, some 0⟩, 0, by decide +kernel⟩,
    ⟨wSchedOld, ⟨true, 5, 0, 0, 0, some 0⟩, 0, by decide +kernel⟩,
    ⟨wTrial, by decide +kernel⟩,
    ⟨wT .tConfirm 0 0, ((wT .tConfirm 0 0).expire .tConfirm 0).setBoot fun b => { b with state := 5 }, by decide +kernel⟩,
    ⟨{ wOn with mgt := { Mgt.reset with trialEnded := true } }, by decide +kernel⟩,
    ⟨{ wOn with mgt := { Mgt.reset with copyDue := true } }, by decide +kernel⟩⟩

theorem witness_ManagementCommandsComplete :
  (∃ (s : State) (d : Desc),
    Ready s 14 d ∧
    Plain d ∧
    d.scope = 0 ∧
    d.len.toNat ≤ 16777216 ∧
    d.unit = 0 ∧
    hasBit (dbyte d 28) 1 = true ∧
    hasBit (dbyte d 28) 0 = false ∧
    (taken s 14 d).boot.phase = 7 ∧
    (taken s 14 d).mgt.download = none ∧
    dparam d 24 4 = 0) ∧
  (∃ (s : State) (d : Desc),
    Ready s 14 d ∧
    Plain d ∧
    d.scope = 0 ∧
    d.len.toNat ≤ 16777216 ∧
    d.unit = 0 ∧
    hasBit (dbyte d 28) 1 = false ∧
    hasBit (dbyte d 28) 0 = true ∧
    (taken s 14 d).boot.phase = 5 ∧
    (taken s 14 d).mgt.download = none ∧
    dparam d 24 4 = 0) ∧
  (∃ (s : State) (d : Desc) (ok : Bool) (t : State),
    Ready s 0 d ∧
    Plain d ∧
    d.scope = 0 ∧
    d.len.toNat = 64 ∧
    d.unit = 0 ∧
    schedOk (d.payload.take 64) = true ∧
    (taken s 0 d).mgt.shed < 4 ∧
    (taken s 0 d).takeSched (d.payload.take 64) = (ok, t)) ∧
  (∃ (s : State) (d : Desc),
    Ready s 0 d ∧
    Plain d ∧
    d.scope = 0 ∧
    d.len.toNat = 0 ∧
    d.unit = 0 ∧
    (taken s 0 d).nv.boot.state = 2) ∧
  (∃ (s : State) (d : Desc) (es : List LogEntry),
    Ready s 0 d ∧
    Plain d ∧
    d.scope = 0 ∧
    d.len.toNat = 0 ∧
    d.unit = 0 ∧
    1 ≤ d.param0.toNat ∧
    d.param0.toNat ≤ 4096 ∧
    (es = s.nv.llog.entries.filter fun e => decide (d.param1.toNat ≤ e.lseq.toNat) && decide (e.lseq.toNat < d.param1.toNat + d.param0.toNat))) ∧
  (∃ (s : State) (d : Desc) (t : State),
    Ready s 0 d ∧
    Plain d ∧
    d.scope = 0 ∧
    d.len.toNat = 40 ∧
    d.unit = 0 ∧
    (taken s 0 d).authRole 0xC4 d = (true, t) ∧
    t.nv.llog.ack.toNat ≤ field d.payload 32 8 ∧
    (field d.payload 32 8 ≤ (match t.nv.llog.entries.getLast? with | some e => e.lseq.toNat | none => t.nv.llog.ack.toNat))) ∧
  (∃ (s : State) (d : Desc) (n : Fin 4),
    Ready s 0 d ∧
    Plain d ∧
    d.scope = 0 ∧
    64 ≤ d.len.toNat ∧
    d.len.toNat ≤ 65536 ∧
    d.unit.toNat = n.val ∧
    (taken s 0 d).updating = false ∧
    (taken s 0 d).mgt.download = none) :=
  ⟨⟨wHost, (wD 0 (p1 := 0x200000000) (len := 1) (pay := [7])), by decide +kernel⟩,
    ⟨{ wHost with boot := { wHost.boot with phase := 5 } }, (wD 0 (p1 := 0x100000000) (len := 1) (pay := [7])), by decide +kernel⟩,
    ⟨wHost, wSchedD, ((taken wHost 0 wSchedD).takeSched (wSchedD.payload.take 64)).1, ((taken wHost 0 wSchedD).takeSched (wSchedD.payload.take 64)).2, by decide +kernel⟩,
    ⟨wHost.setBoot fun b => { b with state := 2 }, wD 0, by decide +kernel⟩,
    ⟨wHost, (wD 0 (p0 := 1)), [], by decide +kernel⟩,
    by refine ⟨wRole, wAuth 2 0xC4 40 (zeros 8), wAuthed 2 0xC4 40 (by decide) (zeros 8), ?_, ?_, ?_, ?_, ?_, by apply wAuth_right <;> decide +kernel, ?_, ?_⟩ <;> decide +kernel,
    ⟨wHost, (wD 3 (len := 64) (pay := zeros 64)), 3, by decide +kernel⟩⟩

theorem witness_DisplayEventsComplete :
  (∃ (s : State) (p : Fin 4) (temp : Int) (r : EpdRun) (n : Nat) (t : State),
    s.epd[p].run = some r ∧
    s.epd[p].stage = .reading ∧
    (t = s.setEpd p fun e => { e with temp := some (epdReading temp, s.now) }) ∧
    signedByte (t.epdPf p 0x0C 0 8) ≤ epdReading temp ∧
    epdReading temp ≤ signedByte (t.epdPf p 0x0C 8 8) ∧
    s.epd[p].framesOf (t.waveOf p (t.epdBand p (epdReading temp)) r.mode) r.lines = some n ∧
    n ≠ 0) ∧
  (∃ (s : State) (p : Fin 4) (_temp : Int) (r : EpdRun),
    s.epd[p].run = some r ∧
    s.epd[p].stage = .reading ∧
    ((s.setErr (.epd p) 1).epd[p]).temp = none) ∧
  (∃ (s : State) (p : Fin 4) (_temp : Int),
    s.epd[p].pmicEn = true) ∧
  (∃ (s : State) (p : Fin 4) (_temp : Int),
    s.epd[p].pmicEn = true) ∧
  (∃ (s : State) (p : Fin 4),
    s.epd[p].stage = .powering ∧
    s.now ≤ s.pgExpiry p) ∧
  (∃ (s : State) (p : Fin 4),
    (s.epd[p].stage ≠ .powering ∨ s.pgExpiry p < s.now)) ∧
  (∃ (s : State) (p : Fin 4) (r : EpdRun),
    s.epd[p].run = some r ∧
    s.epd[p].stage = .powering ∧
    s.pgExpiry p ≤ s.now) ∧
  (∃ (s : State) (p : Fin 4),
    s.epd[p].vcomEn = false) ∧
  (∃ (s : State) (p : Fin 4),
    s.epd[p].vcomEn = true) ∧
  (∃ (s : State) (p : Fin 4) (r : EpdRun),
    s.epd[p].run = some r ∧
    (s.epd[p].stage = .ready ∨ s.epd[p].stage = .driving) ∧
    s.epdFrameEnd p r ≤ s.now ∧
    r.frame + 1 < r.frames) ∧
  (∃ (s : State) (p : Fin 4) (r : EpdRun),
    s.epd[p].run = some r ∧
    (s.epd[p].stage = .ready ∨ s.epd[p].stage = .driving) ∧
    s.epdFrameEnd p r ≤ s.now ∧
    r.frames ≤ r.frame + 1) ∧
  (∃ (s : State) (p : Fin 4),
    s.epd[p].stage = .idle ∧
    s.epd[p].since + s.epdPf p 0x10 0 16 * ticksPerMs ≤ s.now) ∧
  (∃ (s : State) (p : Fin 4),
    s.epd[p].stage = .down ∧
    s.epd[p].since + ticksPerMs ≤ s.now) ∧
  (∃ (s : State) (p : Fin 4) (r : Nat),
    s.epd[p].refusedAt = some r ∧
    r + 60 * ticksPerS ≤ s.now) ∧
  (∃ (s : State) (p : Fin 4) (b : Bytes) (_us : Nat),
    s.epd[p].rx.length + b.length ≤ 256) ∧
  (∃ (s : State) (p : Fin 4) (b : Bytes) (_us : Nat),
    256 < s.epd[p].rx.length + b.length) :=
  ⟨by refine ⟨wEpdReading, 0, 20, { wEpdRun with lines := [wEpdLine] }, wEpdFrames, wEpdReading.setEpd 0 fun e => { e with temp := some (20, wEpdReading.now) }, ?_, ?_, rfl, ?_, ?_, ?_, ?_⟩ <;> decide +kernel,
    ⟨wEpdReading, 0, 20, { wEpdRun with lines := [wEpdLine] }, by decide +kernel⟩,
    ⟨wOn.setEpd 3 fun e => { e with pmicEn := true }, 3, -5, by decide +kernel⟩,
    ⟨wOn.setEpd 3 fun e => { e with pmicEn := true }, 3, -5, by decide +kernel⟩,
    ⟨wOn.setEpd 3 fun e => { e with stage := .powering }, 3, by decide +kernel⟩,
    ⟨wOn, 3, by decide +kernel⟩,
    ⟨wLateOn.setEpd 3 fun e => { e with stage := .powering, run := some wEpdRun }, 3, wEpdRun, by decide +kernel⟩,
    ⟨wOn, 3, by decide +kernel⟩,
    ⟨wOn.setEpd 3 fun e => { e with vcomEn := true }, 3, by decide +kernel⟩,
    ⟨wEpdDriving 2, 3, { wEpdRun with frames := 2 }, by decide +kernel⟩,
    ⟨wEpdDriving 1, 3, { wEpdRun with frames := 1 }, by decide +kernel⟩,
    ⟨wLateOn.setEpd 3 fun e => { e with stage := .idle }, 3, by decide +kernel⟩,
    ⟨wLateOn.setEpd 3 fun e => { e with stage := .down }, 3, by decide +kernel⟩,
    ⟨wLateOn.setEpd 3 fun e => { e with refusedAt := some 0 }, 3, 0, by decide +kernel⟩,
    ⟨wOn, 3, [1, 2], 2000, by decide +kernel⟩,
    ⟨wOn, 3, zeros 257, 2000, by decide +kernel⟩⟩

theorem witness_DisplayCommandsComplete :
  (∃ (s : State) (d : Desc) (p : Fin 4),
    Ready s 15 d ∧
    Plain d ∧
    d.scope = 0 ∧
    d.unit.toNat = p.val ∧
    s.epdEn p = true ∧
    dbyte d 24 ≤ 1 ∧
    d.param0.toNat % 65536 ≤ d.param0.toNat / 65536 ∧
    d.param0.toNat / 65536 < s.epdHeight p ∧
    d.len.toNat = (d.param0.toNat / 65536 - d.param0.toNat % 65536 + 1) * (s.epdWidth p / 2) ∧
    d.len.toNat ≤ 16777216) ∧
  (∃ (s : State) (d : Desc) (p : Fin 4),
    Ready s 15 d ∧
    Plain d ∧
    d.scope = 0 ∧
    d.unit.toNat = p.val ∧
    s.epdEn p = true ∧
    dbyte d 24 = 2 ∧
    d.len = 0) ∧
  (∃ (s : State) (d : Desc) (p : Fin 4),
    Ready s 0 d ∧
    Plain d ∧
    d.scope = 0 ∧
    d.len.toNat = 4352 ∧
    d.unit.toNat = p.val ∧
    s.epdEn p = true ∧
    dbyte d 24 < 8 ∧
    dbyte d 25 < 3 ∧
    (taken s 0 d).epdBusy p = false) ∧
  (∃ (s : State) (d : Desc) (p : Fin 4),
    Ready s 15 d ∧
    Plain d ∧
    d.scope = 0 ∧
    d.unit.toNat = p.val ∧
    s.epdEn p = true ∧
    d.len.toNat = s.epdHeight p * (s.epdWidth p / 2) ∧
    d.len.toNat ≤ 16777216 ∧
    (taken s 15 d).epdBusy p = false) ∧
  (∃ (s : State) (d : Desc) (p : Fin 4),
    Ready s 0 d ∧
    Plain d ∧
    d.scope = 0 ∧
    d.len.toNat = 0 ∧
    d.unit.toNat = p.val ∧
    s.epdEn p = true ∧
    dparam d 24 2 ≤ 1000) ∧
  (∃ (s : State) (d : Desc) (p : Fin 4),
    Ready s 0 d ∧
    Plain d ∧
    d.scope = 0 ∧
    1 ≤ d.len.toNat ∧
    d.len.toNat ≤ 256 ∧
    d.unit.toNat = p.val ∧
    s.epdEn p = true) :=
  ⟨⟨wEpdHost, (wD 0 (len := (wEpdHost.epdWidth 0 / 2))), 0, by decide +kernel⟩,
    ⟨wEpdHost, (wD 0 (p1 := 2)), 0, by decide +kernel⟩,
    ⟨wEpdHost, (wD 0 (len := 4352)), 0, by decide +kernel⟩,
    ⟨wEpdHost, (wD 0 (len := (wEpdHost.epdHeight 0 * (wEpdHost.epdWidth 0 / 2)))), 0, by decide +kernel⟩,
    ⟨wEpdHost, (wD 0 (p1 := 1000)), 0, by decide +kernel⟩,
    ⟨wEpdHost, (wD 0 (len := 256) (pay := zeros 256)), 0, by decide +kernel⟩⟩

theorem witness_PairEventsComplete :
  (∃ (s : State),
    s.pair.drive = true ∧
    s.pair.probeWin ≠ some (s.now / 24576) ∧
    s.now % 24576 % 512 = 490 ∧
    s.now % 24576 / 512 < 40) ∧
  (∃ (s : State) (t : State),
    s.pair.drive = true ∧
    s.pair.probeWin ≠ some (s.now / 24576) ∧
    s.now % 24576 % 512 = 490 ∧
    s.now % 24576 / 512 < 40 ∧
    (((((((s.setPair fun p => { p with probeWin := some (s.now / 24576) }).note 0 32 102).setPair fun p => { p with contend := p.contend + 1, probes := 0 }).setErr .pair 0).pairResult 2).holdFall) = t) ∧
    t.pair.pri = false) ∧
  (∃ (s : State),
    s.mayClaim = true) ∧
  (∃ (s : State),
    s.expired .tSwitch 0 = true ∧
    s.pair.hold = true) ∧
  (∃ (s : State),
    s.pairLinkOn = true ∧
    s.now % 245760 = 0) ∧
  (∃ (s : State) (b : Bytes),
    s.pairLinkOn = true ∧
    b.length = 64 ∧
    s.pair.linkUp = true ∧
    field b 9 1 = s.pf 0xF000 0 2 ∧
    field b 10 3 = s.hubId) ∧
  (∃ (s : State) (bs : Bytes) (b : JBlock) (t : State),
    jblockOfBytes bs = some b ∧
    s.pairLinkOn = true ∧
    s.frozen = false ∧
    s.abc.ready = true ∧
    t = b.entries.foldl State.joinEntry (s.goodFrame.note 12 32 24) ∧
    b.seq ≤ t.pair.joined + 1) ∧
  (∃ (s : State) (b : Bytes),
    s.pairLinkOn = true ∧
    b.length = 8) ∧
  (∃ (s : State) (b : JBlock) (bs : List JBlock),
    s.pairLinkOn = true ∧
    s.pair.hold = true ∧
    s.pair.linkUp = true ∧
    s.now % 2457600 = 0 ∧
    s.pair.acked < s.abc.jseq ∧
    (s.nv.journal.filter (fun b => decide (s.pair.acked < b.seq)) = b :: bs) ∧
    b.seq ≤ s.pair.acked + 1) ∧
  (∃ (s : State) (b : Bytes),
    s.pairLinkOn = true ∧
    b.length = 2052 ∧
    s.frozen = false ∧
    s.abc.ready = true ∧
    s.pair.hold = false ∧
    field b 0 4 = 0) ∧
  (∃ (s : State) (_b : Bytes),
    s.pairLinkOn = true) ∧
  (∃ (s : State),
    s.pairLinkOn = true ∧
    s.pair.hold = true) ∧
  (∃ (s : State),
    s.pairLinkOn = true ∧
    s.pair.hold = false) ∧
  (∃ (s : State),
    s.pairLinkOn = true) ∧
  (∃ (s : State),
    s.expired .tLink 0 = true) ∧
  (∃ (s : State),
    s.expired .tSettle 0 = true) ∧
  (∃ (s : State),
    s.pair.tbAsked = true ∧
    s.pair.linkUp = true ∧
    s.pair.tbAt + ticksPerS ≤ s.now) ∧
  (∃ (s : State),
    s.pairHold = true ∧
    s.pair.drive = true ∧
    s.quiescent = true ∧
    s.pair.linkUp = true ∧
    s.pair.pHealthy = true ∧
    s.pair.pSync = true) ∧
  (∃ (s : State) (t : State),
    s.expired .tTbwin 0 = true ∧
    (s.expire .tTbwin 0).pairHold = true ∧
    (((s.expire .tTbwin 0).dropPairHold.setErr .pair 5).pairResult 7) = t) ∧
  (∃ (s : State),
    s.expired .tTbwin 0 = true ∧
    (s.expire .tTbwin 0).pairHold = false ∧
    s.pair.tbAsked = true) ∧
  (∃ (s : State) (r : Nat),
    s.pair.releasedAt = some r ∧
    r + ticksPerS ≤ s.now) :=
  ⟨⟨wProbe, by decide +kernel⟩,
    ⟨wProbe, ((((((wProbe.setPair fun p => { p with probeWin := some (wProbe.now / 24576) }).note 0 32 102).setPair fun p => { p with contend := p.contend + 1, probes := 0 }).setErr .pair 0).pairResult 2).holdFall), by decide +kernel, by decide +kernel, by decide +kernel, by decide +kernel, rfl, by decide +kernel⟩,
    ⟨wClaim, by decide +kernel⟩,
    ⟨{ wHold with timers := [⟨.tSwitch, 0, 0, 0, 0⟩] }, by decide +kernel⟩,
    ⟨wPaired, by decide +kernel⟩,
    ⟨wPairedUp, wHealth, by decide +kernel⟩,
    by refine ⟨wPairedUp, wJBlock.bytes, wJBlock, wJBlock.entries.foldl State.joinEntry (wPairedUp.goodFrame.note 12 32 24), jblock_reads, ?_, ?_, ?_, rfl, ?_⟩ <;> decide +kernel,
    ⟨wPairedUp, zeros 8, by decide +kernel⟩,
    ⟨wResend, wJBlock, [], by decide +kernel⟩,
    ⟨wPairedUp, zeros 2052, by decide +kernel⟩,
    ⟨wPairedUp, zeros 64, by decide +kernel⟩,
    ⟨wPairedUp.setPair fun p => { p with hold := true }, by decide +kernel⟩,
    ⟨wPairedUp, by decide +kernel⟩,
    ⟨wPairedUp, by decide +kernel⟩,
    ⟨wT .tLink 0 0, by decide +kernel⟩,
    ⟨wT .tSettle 0 0, by decide +kernel⟩,
    ⟨wLateOn.setPair fun p => { p with tbAsked := true, linkUp := true }, by decide +kernel⟩,
    ⟨wRelease, by decide +kernel⟩,
    ⟨{ wRelease with timers := [⟨.tTbwin, 0, 0, 0, 0⟩] }, ((({ wRelease with timers := [⟨.tTbwin, 0, 0, 0, 0⟩] } : State).expire .tTbwin 0).dropPairHold.setErr .pair 5).pairResult 7, by decide +kernel, by decide +kernel, rfl⟩,
    ⟨(wT .tTbwin 0 0).setPair fun p => { p with tbAsked := true }, by decide +kernel⟩,
    ⟨wLateOn.setPair fun p => { p with releasedAt := some 0 }, 0, by decide +kernel⟩⟩

theorem witness_PairCommandsComplete :
  (∃ (s : State) (d : Desc),
    Ready s 0 d ∧
    Plain d ∧
    d.scope = 0 ∧
    d.len.toNat = 0 ∧
    d.unit = 0 ∧
    (taken s 0 d).pair.hold = true ∧
    (taken s 0 d).pair.linkUp = true ∧
    (taken s 0 d).pair.pHealthy = true ∧
    (taken s 0 d).pair.pSync = true) ∧
  (∃ (s : State) (d : Desc),
    Ready s 0 d ∧
    Plain d ∧
    d.scope = 0 ∧
    d.len.toNat = 0 ∧
    d.unit = 0 ∧
    (taken s 0 d).pair.byHandover = true) :=
  ⟨⟨wHandover, wD 0, by decide +kernel⟩,
    ⟨wHandover.setPair fun p => { p with byHandover := true }, wD 0, by decide +kernel⟩⟩

theorem witness_BoardComplete :
  (∃ (s : State) (n : Nat),
    s.pf 0x10000 0 16 ≤ n) ∧
  (∃ (s : State) (r : Fin 16) (_t b : Nat) (w : Option ArbWrite) (_ended : Bool),
    s.refusesWrite r b w = false ∧
    b ≠ 0) ∧
  (∃ (s : State) (r : Fin 16) (_t b : Nat) (w : Option ArbWrite) (_ended : Bool),
    s.refusesWrite r b w = false ∧
    b = 0) ∧
  (∃ (s : State) (r : Fin 16) (_t b : Nat) (w : Option ArbWrite) (_ended : Bool),
    s.refusesWrite r b w = true) ∧
  (∃ (s : State) (t n : Nat) (g : ArbReq),
    s.arbHolder t = some g ∧
    urgent g.requester = false ∧
    s.arbLimit g.requester < n) ∧
  (∃ (s : State) (t : Nat) (g : ArbReq),
    s.arbHolder t = some g) ∧
  (∃ (s : State) (d : Desc),
    Ready s 0 d ∧
    Plain d ∧
    d.scope = 0 ∧
    d.len.toNat = 0 ∧
    d.unit.toNat < 4) :=
  ⟨⟨wOn, 65535, by decide +kernel⟩,
    ⟨wOn, 15, 3, 1, none, false, by decide +kernel⟩,
    ⟨wOn, 15, 3, 0, none, false, by decide +kernel⟩,
    ⟨wOn, 5, 3, 1, wBadWrite, false, by decide +kernel⟩,
    ⟨wHog, 3, 999999, ⟨15, 3, 1, none⟩, by decide +kernel⟩,
    ⟨wHog, 3, ⟨15, 3, 1, none⟩, by decide +kernel⟩,
    ⟨wHost, wD 3, by decide +kernel⟩⟩

/-! ## Well-formedness: each check refuses an ill-formed term (and admits a well-formed one) -/

theorem test_wf_request : (Instr.commandNop (wD 0)).wf = true := by decide +kernel
theorem test_wf_opcode : (Instr.laneStop (wD 0)).wf = false := by decide +kernel
theorem test_wf_no_descriptor : (Instr.commandNop { wD 0 with words := [] }).wf = false := by decide
theorem test_wf_too_many_descriptors : (Instr.commandNop { wD 0 with words := List.replicate 17 0 }).wf = false := by decide +kernel
/-- R106: every descriptor of a command but its last has CHAIN. -/
theorem test_wf_chain : (Instr.commandNop { wD 0 with words := [0, 0] }).wf = false := by decide +kernel
theorem test_wf_last_has_no_chain : (Instr.commandNop { wD 0 with words := [descWord 0 2 0 0 0 0 0 0 0] }).wf = false := by decide +kernel
theorem test_wf_payload_length : (Instr.lineSend (wD 0 (len := 3) (pay := [1, 2]) (op := 0xA0))).wf = false := by decide +kernel
theorem test_wf_overlong : (Instr.chainErr 0 (wD 0) 0).wf = false := by decide
theorem test_wf_register_offset : (Instr.registerWrite 6 0xF 0 false).wf = false := by decide
theorem test_wf_read_offset : (Instr.latchedPairRead 2 0xF false).wf = false := by decide
theorem test_wf_uid : (Instr.inventoryComplete 0 [[1, 2, 3, 4], [1, 2, 3]]).wf = false := by decide
theorem test_wf_block : (Instr.authenticationComplete 0 ⟨zeros 16, zeros 15, 0⟩ ⟨zeros 16, zeros 16, 0⟩ ⟨[], 0, 0⟩).wf = false := by decide
theorem test_wf_reception : (Instr.beaconReceived ⟨[], true, [], [], 0, 5, 4⟩).wf = false := by decide
theorem test_wf_sensor_sample : (Instr.sensorSample [1, 2, 3] ⟨false, false, false⟩ 50).wf = false := by decide

/-! ## The spec's worked examples -/

/-- R132: 16.0 A gives d = 266, 80.0 A gives 960. -/
theorem test_duty : dutyOf 160 = 266 ∧ dutyOf 800 = 960 := by decide
/-- The worked example of the outlet lanes: 20 A shows 333, high for 8,183 ticks. -/
theorem test_high_time : dutyOf 200 = 333 ∧ highTicks 333 = 8183 := by decide
/-- R20: lane 21 is served by SC2 and its events appear on ring 4. -/
theorem test_ring_of_lane_21 : laneRing 21 = 4 := by decide
/-- R29 and Table 1-7: on one stamp a decision (class 9) stands before a timer expiry (class 15). -/
theorem test_decision_before_expiry : keyLe ⟨5, 9, 12, 0, 1⟩ ⟨5, 15, 12, 0, 0⟩ = true ∧ keyLe ⟨5, 15, 12, 0, 0⟩ ⟨5, 9, 12, 0, 1⟩ = false := by decide
/-- Table 12-3, cycle 1. -/
theorem test_residues_import : residueStep ⟨40000, 10000, 30000⟩ 3300000 1300000 3560000 = (⟨63200, 64816, 51056⟩, 50, 19, 54) := by decide
/-- Table 12-3, cycle 2: the pending import reduces the first export. -/
theorem test_residues_export : residueStep ⟨63200, 64816, 51056⟩ (-1000000) 2500000 2700000 = (⟨-19296, 8912, 64080⟩, -14, 39, 41) := by decide
/-- Cycle 2 adds to A−, Q2 and S−. -/
theorem test_quadrant_two : groupIncs (-1000000) (-14) 39 41 = [0, 14, 0, 39, 0, 0, 0, 41] := by decide
/-- Table 12-6, step 2: the due instant of the pulse. -/
theorem test_pulse_due : pulseDues 491520 62914560 40000000 70000000 100000000 = [860160] := by decide
/-- Table 14-3: a 96-byte frame takes two codewords; a burst over symbols 240 to 253 erases two bytes of each, so three further errors in each
can be corrected and a fourth cannot. -/
theorem test_codewords : codewords 96 = 2 ∧ toneDecodes 96 [(76800, 81440)] [3, 3] = true ∧ toneDecodes 96 [(76800, 81440)] [4, 0] = false := by
  decide +kernel
/-- R266: 200 kΩ from DC− lies between the limits 100 kΩ and 500 kΩ, so WARN; the other resistance is unbounded. -/
theorem test_insulation_warn :
    (let r := insulation 68571 (-11429) 60000 (-20000) 1000000 1000000; (kOhm r.1, isoClass r.1 r.2 500 100 1000)) = (65535, 2) := by decide

/-- Table 2-4 lists 1,137 signal balls. -/
theorem test_signal_balls : (ballRows.map (·.count)).foldl (· + ·) 0 = 1137 := by decide
/-- Table 2-4: with the rails up and nothing driven, SDCE_N stands high and MRAM_WP_N low; ERR_OUT_N is held low before step 9. -/
theorem test_balls_at_rest : (wAtStep 8).ballLevel (.epSdceN 0) = .high ∧ (wAtStep 8).ballLevel .mramWpN = .low ∧
    (wAtStep 8).ballLevel .errOutN = .low := by decide +kernel
/-- Table 3-12: the part number 0x3272 in GLB_ID, at any time. -/
theorem test_part_number : State.reset.readReg 0x0 / 2 ^ 16 = 0x3272 := by decide +kernel
/-- Table 4-4: the fields of a descriptor. -/
theorem test_descriptor_fields : (let d := wD 0x1234 (scope := 1) (len := 7) (p0 := 0x89ABCDEF) (p1 := 5) (op := 0x11)
    (d.opcode, d.unit, d.scope, d.len, d.param0, d.param1)) = (0x11, 0x1234, 1, 7, 0x89ABCDEF, 5) := by decide +kernel

/-! ## Single steps -/

/-- A NOP with FENCE set. -/
def wFence : Desc := { wD 0 with words := [descWord 0 4 0 0 0 0 0 0 0] }

/-- A reading of the state after a command. -/
def wAfter {α : Type} (c : Instr) (s : State) (f : State → α) : Option α :=
  match exec c s with
  | .next t => some (f t)
  | _ => none

/-- R104: index 9 on a doorbell of 8 descriptors moves P to 9. -/
theorem test_doorbell_moves : (wHost.doorbell 0 9).hif.rings[(0 : Fin 16)].prod = 9 := by decide +kernel
/-- R104: an index more than a ring's size ahead is refused with DB_RANGE. -/
theorem test_doorbell_range : (wHost.doorbell 0 17).hif.rings[(0 : Fin 16)].prod = 8 ∧ ((wHost.doorbell 0 17).err .hif).getLsbD 2 = true := by
  decide +kernel
/-- R106: a command that is accepted takes its descriptor from the ring. -/
theorem test_nop_taken : wAfter (.commandNop (wD 0)) wHost (fun t => t.hif.rings[(0 : Fin 16)].cons) = some 1 := by decide +kernel
/-- R107: a fenced descriptor waits while a command of its ring is unsettled. -/
theorem test_fence_waits : 
    wAfter (.commandNop wFence) { wHost with flights := [wFlight 0x11] }
      (fun t => (t.waiting.length, t.hif.rings[(0 : Fin 16)].cons)) = some (1, 0) := by decide +kernel
/-- A write of ones clears an error bit. -/
theorem test_error_write_clears : wAfter (.registerWrite 0x1008 0xF 4 false) (wHost.doorbell 0 17) (fun t => (t.err .hif).getLsbD 2) = some false := by decide +kernel
/-- A write of the part's host memory reads back, and replaces what lay there. -/
theorem test_memory_replaces : memWrite [(4, 1), (6, 2)] 5 [7, 8] = [(4, 1), (5, 7), (6, 8)] := by decide

/-! ## Witnesses of the other statements' hypotheses -/

/-- An idle queue whose stamp has an expiry. -/
theorem witness_IdleStepRunsTheClock : ∃ s : State, s.pending = [] ∧ s.htcLoaded = true ∧ s.expiries ≠ [] ∧ s.seq.swept ≠ some s.now :=
  ⟨wT .tClose 0, by decide +kernel⟩
theorem witness_StepKeepsHostMemoryCanonical : ∃ s t : State, Safety.memory s ∧ step s = .next t :=
  ⟨State.reset, _, ⟨rfl, rfl, rfl⟩, rfl⟩
theorem witness_StepKeepsPacketCounters : ∃ s t : State, CountsPackets s ∧ step s = .next t :=
  ⟨State.reset, _, by decide +kernel, rfl⟩
theorem witness_FusesOnlyBlow : ∃ s t : State, step s = .next t := ⟨State.reset, _, rfl⟩
theorem witness_CommandsLeaveTheQueue : ∃ (c : Instr) (s t : State), exec c s = .next t := ⟨.powerOn, wDark, _, rfl⟩
theorem witness_OnlyReadingsWriteHostMemory : ∃ (c : Instr) (s t : State), WritesHost c = false ∧ exec c s = .next t :=
  ⟨.ringDoorbell 0 9, wHost, _, rfl, rfl⟩
/-- A request whose buffer is at an address. -/
def wDAt (addr len : Nat) : Desc := ⟨[descWord 0 0 0 0 0 addr len 0 0], false, []⟩

/-- Each reading, and an address below and above its buffer. -/
theorem witness_ReadingsStayInTheirBuffers :
    (∃ (d : Desc) (s t : State) (a : Nat), exec (.metRead d) s = .next t ∧ a < d.addr.toNat) ∧
    (∃ (d : Desc) (s t : State) (a : Nat), exec (.metCoefRead d) s = .next t ∧ d.addr.toNat + d.len.toNat ≤ a) ∧
    (∃ (d : Desc) (s t : State) (a : Nat), exec (.nrgRead d) s = .next t ∧ a < d.addr.toNat) ∧
    (∃ (d : Desc) (s t : State) (a : Nat), exec (.nrgCalRead d) s = .next t ∧ d.addr.toNat + d.len.toNat ≤ a) ∧
    (∃ (d : Desc) (u : List Nat) (s t : State) (a : Nat), exec (.abcQuery d u) s = .next t ∧ a < d.addr.toNat) ∧
    (∃ (d : Desc) (s t : State) (a : Nat), exec (.lineNeighRead d) s = .next t ∧ d.addr.toNat + d.len.toNat ≤ a) :=
  ⟨⟨wDAt 64 192, wHost, _, 63, rfl, by decide⟩,
   ⟨wDAt 64 4296, wHost, _, 4360, rfl, by decide⟩,
   ⟨wDAt 64 400, wHost, _, 63, rfl, by decide⟩,
   ⟨wDAt 64 356, wHost, _, 420, rfl, by decide⟩,
   ⟨wDAt 64 64, [], wHost, _, 63, rfl, by decide⟩,
   ⟨wDAt 64 1024, wHost, _, 1088, rfl, by decide⟩⟩
/-- In range to the last index and one beyond, on a ring of each direction; and another ring. -/
theorem witness_DoorbellMovesTheIndex :
    (∃ (s : State) (n : Fin 16) (x : BitVec 16), toDevice n = true ∧ (x - s.hif.rings[n].cons).toNat = s.hif.rings[n].size) ∧
    (∃ (s : State) (n : Fin 16) (x : BitVec 16), toDevice n = true ∧ (x - s.hif.rings[n].cons).toNat = s.hif.rings[n].size + 1) ∧
    (∃ (s : State) (n : Fin 16) (x : BitVec 16), toDevice n = false ∧ x = s.hif.rings[n].prod) ∧
    (∃ (s : State) (n : Fin 16) (x : BitVec 16), toDevice n = false ∧ (s.hif.rings[n].prod - s.hif.rings[n].cons).toNat < (x - s.hif.rings[n].cons).toNat) ∧
    (∃ n m : Fin 16, m ≠ n) :=
  ⟨⟨wHost, 0, 16, by decide +kernel⟩, ⟨wHost, 0, 17, by decide +kernel⟩, ⟨wHost, 1, 0, by decide +kernel⟩, ⟨wHost, 1, 1, by decide +kernel⟩,
   ⟨0, 1, by decide⟩⟩
theorem witness_FencedCommandsWait :
    (∃ (s : State) (ring : Fin 16) (d : Desc), d.fence = true ∧ s.unsettled ring.val = true) ∧
    (∃ (s : State) (i : Instr) (ring : Fin 16) (w : Waiting), s.waiting.find? (·.ring == ring.val) = some w ∧ w.cmd ≠ i) :=
  ⟨⟨{ wHost with flights := [wFlight 0x11] }, 0, wFence, by decide +kernel⟩,
   ⟨{ wHost with waiting := [⟨0, .commandNop (wD 1), 1, false⟩] }, .commandNop (wD 0), 0, ⟨0, .commandNop (wD 1), 1, false⟩, by decide +kernel⟩⟩
theorem witness_CommitTakesTheNextGeneration :
    ∃ (s : State) (kind : Nat) (cause : Option Nat) (k : Commit), (s.startCommit kind cause).commit = some k ∧ s.commit ≠ some k :=
  ⟨wOn, 1, none, ⟨1, 0, 1, false, none, false, none⟩, by decide +kernel, by decide +kernel⟩
theorem witness_CheckpointsFallOnMultiples :
    (∃ s : State, s.glb.ckptInterval.toNat = 0) ∧
    (∃ s : State, s.glb.ckptInterval.toNat ≠ 0 ∧ s.now % (s.glb.ckptInterval.toNat * ticksPerS) ≠ 0) ∧
    (∃ s : State, s.glb.ckptInterval.toNat ≠ 0 ∧ s.now % (s.glb.ckptInterval.toNat * ticksPerS) = 0 ∧ s.legalOn = true ∧ s.commit = none ∧
      s.frozenAt = none ∧ (∀ x ∈ s.nv.slotA, x.freeze ≠ s.now) ∧ (∀ x ∈ s.nv.slotB, x.freeze ≠ s.now)) :=
  ⟨⟨{ wOn with glb := { wOn.glb with ckptInterval := 0 } }, by decide⟩, ⟨{ wOn with htc := 1 }, by decide +kernel⟩,
   ⟨{ wOn with htc := 24576000 }, by decide +kernel⟩⟩
/-- The first and the last lane of a session core. -/
theorem witness_LaneEventsGoToTheirSessionCore :
    (∃ (n : Fin 32) (k : Nat), k < 4 ∧ n.val = 8 * k) ∧ (∃ (n : Fin 32) (k : Nat), k < 4 ∧ n.val = 8 * k + 7) :=
  ⟨⟨24, 3, by decide⟩, ⟨31, 3, by decide⟩⟩
theorem witness_SeveralTokensAreRefused :
    ∃ (s : State) (r : Fin 4) (us : List Bytes), s.tok.readers[r].step = some 0 ∧ 2 ≤ (inventory us).length :=
  ⟨wTok 0, 3, [[8, 1, 2, 3], [8, 1, 2, 4]], by decide +kernel⟩
theorem witness_QuantumWithoutEntryIsNotCharged : ∃ (s : State) (n : Fin 32), s.frozen = false ∧ s.grant (laneEntry n) = none :=
  ⟨State.reset, 31, by decide +kernel⟩
/-- At reset no timer of any kind runs. -/
theorem witness_CancelledTimersNeverExpire : ∀ (k : TimerKind) (owner sub : Nat), State.reset.armed k owner sub = false :=
  fun _ _ _ => rfl
theorem witness_EventOrderIsTotal :
    (∃ a b : EventKey, keyLe a b = true ∧ keyLe b a = true) ∧ (∃ a b c : EventKey, keyLe a b = true ∧ keyLe b c = true) :=
  ⟨⟨⟨5, 1, 2, 3, 4⟩, ⟨5, 1, 2, 3, 4⟩, by decide⟩, ⟨⟨5, 1, 2, 3, 4⟩, ⟨5, 1, 2, 3, 5⟩, ⟨6, 0, 0, 0, 0⟩, by decide⟩⟩
/-- At the last tick that allows it. -/
theorem witness_EventsAreReleasedInOrder : ∃ (s : State) (tick : Nat), tick + 8 = s.now := ⟨{ wOn with htc := 8 }, 0, by decide +kernel⟩
theorem witness_DisarmedIslandGivesNoPermit :
    (∃ s : State, s.saf.armed = false) ∧ (∃ (s : State) (n : Fin 32), s.coilOn n = true) :=
  ⟨⟨State.reset, by decide +kernel⟩, ⟨wCoilEn.setLane 0 fun l => { l with coil := true }, 0, by decide +kernel⟩⟩
/-- For the case's trigger and for another. -/
theorem witness_ZeroisationSparesTheLegalPath :
    (∃ (s t : State), s.tampered .caseSwitch = true ∧ exec (.tamperTrigger .caseSwitch) s = .next t) ∧
    (∃ (s t : State) (x : TamperSign), tamperCause x ≠ 2 ∧ s.tampered x = true ∧ exec (.tamperTrigger x) s = .next t) :=
  ⟨⟨{ wOn with island := { Island.reset with caseTrig := true } }, _, by decide +kernel, rfl⟩,
   ⟨wOn, _, .mesh 1 true true, by decide, by decide +kernel, rfl⟩⟩
/-- The first and the last word that no page has, and an error register. -/
theorem witness_ReservedOffsetsReadZero :
    (∃ off : BitVec 17, off.toNat % 4 = 0 ∧ off.toNat = 0x11000) ∧ (∃ off : BitVec 17, off.toNat % 4 = 0 ∧ off.toNat = 0x1FFFC) ∧
    (∃ (off : BitVec 17) (r : ErrReg), off.toNat % 4 = 0 ∧ errRegAt off.toNat = some r) :=
  ⟨⟨0x11000, by decide⟩, ⟨0x1FFFC, by decide⟩, ⟨0x10080, .arb, by decide⟩⟩
/-- A supply still high at the end of its pulse. -/
theorem witness_TpsLate : ∃ (s : State) (k : Fin 4) (p mv : Nat), s.saf.tps[k].on = true ∧ s.saf.tps[k].last = some p ∧
    s.saf.tps[k].lowSeen = some mv ∧ p + tpsPulse ≤ s.now ∧ tpsLow ≤ mv :=
  ⟨{ wLateOn with saf := { Saf.reset with tps := .replicate 4 { Tps.reset with on := true, last := some 0, lowSeen := some tpsLow } } },
   3, 0, tpsLow, by decide +kernel⟩
/-- A transfer that writes one byte, at its last byte; and a transfer that can be cut off or withdrawn. -/
theorem witness_TransferEnds :
    (∃ (s : State) (t i : Nat) (g : ArbReq) (w : ArbWrite), s.arbHolder t = some g ∧ g.write = some w ∧ w.dram = true ∧ i < w.data.length ∧
      i < 64 * g.beats) ∧
    (∃ (s u : State) (t n : Nat), exec (.bankHogCutoff t n) s = .next u) ∧ (∃ (s u : State) (t n : Nat), exec (.grantWithdraw t n) s = .next u) :=
  ⟨⟨{ wOn with arb := { Arb.reset with grants := [⟨15, 3, 1, some ⟨true, 0, [7]⟩⟩] } }, 3, 0, ⟨15, 3, 1, some ⟨true, 0, [7]⟩⟩, ⟨true, 0, [7]⟩,
    by decide +kernel⟩, ⟨wHog, _, 3, 999999, rfl⟩, ⟨wHog, _, 3, 0, rfl⟩⟩
/-- In start-up below 0x2000, and after it above. -/
theorem witness_ErrorBitsClearOnlyByWritingOnes :
    (∃ (s t : State) (off : BitVec 17) (val : BitVec 32) (r : ErrReg), off.toNat % 4 = 0 ∧ off.toNat < 0x2000 ∧ errRegAt off.toNat = some r ∧
      r ≠ .mgt ∧ exec (.registerWrite off 0xF val false) s = .next t) ∧
    (∃ (s t : State) (off : BitVec 17) (val : BitVec 32) (r : ErrReg), off.toNat % 4 = 0 ∧ s.boot.phase = 7 ∧ errRegAt off.toNat = some r ∧
      r ≠ .mgt ∧ exec (.registerWrite off 0xF val false) s = .next t) :=
  ⟨⟨State.reset, _, 0x1008, 4, .hif, by decide, by decide, rfl, by decide, rfl⟩,
   ⟨wOn, _, 0x60A4, 4, .saf, by decide, by decide +kernel, rfl, by decide, rfl⟩⟩

end Sys2Proof.Tests
end

/-! The order of events (R29) -/

section
namespace Sys2Proof.Machine

open Sys2Proof

/-- One key of R29: where it differs it decides, where it is equal the order of the later keys does. -/
theorem keyStep_iff (m n : Nat) (later : Bool) :
    (if m != n then decide (m ≤ n) else later) = true ↔ m < n ∨ (m = n ∧ later = true) := by
  by_cases equal : m = n
  · simp only [equal, bne_self_eq_false, Bool.false_eq_true, if_false, Nat.lt_irrefl, true_and, false_or]
  · simp only [equal, bne_iff_ne, ne_eq, not_false_eq_true, if_true, decide_eq_true_eq, false_and, or_false]
    omega

theorem keyLe_iff (a b : EventKey) :
    keyLe a b = true ↔ a.stamp < b.stamp ∨ (a.stamp = b.stamp ∧ (a.cls < b.cls ∨ (a.cls = b.cls ∧ (a.lane < b.lane ∨
      (a.lane = b.lane ∧ (a.index < b.index ∨ (a.index = b.index ∧ a.order ≤ b.order))))))) := by
  simp only [keyLe, keyStep_iff, decide_eq_true_eq]

/-! One key before a later order: the three properties of the later order carry over. -/

section
variable {m n p : Nat} {later later' later'' : Prop}

theorem lexStep_total (h : later ∨ later') : (m < n ∨ (m = n ∧ later)) ∨ (n < m ∨ (n = m ∧ later')) := by
  rcases Nat.lt_trichotomy m n with less | equal | greater
  · exact .inl (.inl less)
  · exact h.imp (fun l => .inr ⟨equal, l⟩) (fun l => .inr ⟨equal.symm, l⟩)
  · exact .inr (.inl greater)

theorem lexStep_antisymm (hmn : m < n ∨ (m = n ∧ later)) (hnm : n < m ∨ (n = m ∧ later')) : m = n ∧ later ∧ later' := by
  rcases hmn with less | ⟨equal, l⟩
  · omega
  · rcases hnm with greater | ⟨-, l'⟩
    · omega
    · exact ⟨equal, l, l'⟩

theorem lexStep_trans (h : later → later' → later'') (hmn : m < n ∨ (m = n ∧ later)) (hnp : n < p ∨ (n = p ∧ later')) :
    m < p ∨ (m = p ∧ later'') := by
  rcases hmn with less | ⟨rfl, l⟩
  · exact .inl (by omega)
  · exact hnp.imp_right fun ⟨equal, l'⟩ => ⟨equal, h l l'⟩

end

theorem keyLe_total (a b : EventKey) : keyLe a b = true ∨ keyLe b a = true := by
  simp only [keyLe_iff]
  exact lexStep_total (lexStep_total (lexStep_total (lexStep_total (Nat.le_total a.order b.order))))

theorem keyLe_antisymm {a b : EventKey} (hab : keyLe a b = true) (hba : keyLe b a = true) : a = b := by
  obtain ⟨stamp, ab, ba⟩ := lexStep_antisymm ((keyLe_iff a b).1 hab) ((keyLe_iff b a).1 hba)
  obtain ⟨cls, ab, ba⟩ := lexStep_antisymm ab ba
  obtain ⟨lane, ab, ba⟩ := lexStep_antisymm ab ba
  obtain ⟨index, ab, ba⟩ := lexStep_antisymm ab ba
  exact EventKey.mk.injEq .. |>.mpr ⟨stamp, cls, lane, index, Nat.le_antisymm ab ba⟩

theorem keyLe_trans {a b c : EventKey} (hab : keyLe a b = true) (hbc : keyLe b c = true) : keyLe a c = true :=
  (keyLe_iff a c).2 <| lexStep_trans (lexStep_trans (lexStep_trans (lexStep_trans Nat.le_trans)))
    ((keyLe_iff a b).1 hab) ((keyLe_iff b c).1 hbc)

/-- Settles O54: `keyLe` is the lexicographic order of the five keys, and each key keeps the properties of the order after it. -/
theorem eventOrderIsTotal : Obligations.EventOrderIsTotal :=
  ⟨keyLe_iff, keyLe_total, fun _ _ => keyLe_antisymm, fun _ _ _ => keyLe_trans⟩

end Sys2Proof.Machine
end

/-! Timers that do not run (R36) -/

section
namespace Sys2Proof.Machine

open Sys2Proof

@[simp] theorem State.armed_cancel (s : State) (k : TimerKind) (o i : Nat) : (s.cancel k o i).armed k o i = false := by
  simp only [State.armed, State.cancel_timers, List.any_filter, Bool.not_and_self]
  exact List.any_eq_false.2 fun _ _ => Bool.false_ne_true

section
variable {s : State} {k : TimerKind} {o i : Nat}

/-- An expiry is the expiry of a timer that runs. -/
theorem State.armed_of_expired (h : s.expired k o i = true) : s.armed k o i = true := by
  obtain ⟨t, mem, due⟩ := List.any_eq_true.1 h
  exact List.any_eq_true.2 ⟨t, mem, (Bool.and_eq_true_iff.1 due).1⟩

theorem State.expired_of_not_armed (h : s.armed k o i = false) : s.expired k o i = false :=
  Bool.eq_false_iff.2 fun expired => Bool.eq_false_iff.1 h (State.armed_of_expired expired)

/-- The guard of most expiry rows: with the timer not running nothing fires. -/
theorem guarded_of_not_armed {α : Type} {idle fired : α} (h : s.armed k o i = false) :
    (if !s.expired k o i then idle else fired) = idle := by
  simp only [State.expired_of_not_armed h, Bool.not_false, if_true]

/-- The same guard with its branches the other way round. -/
theorem fired_of_not_armed {α : Type} {idle fired : α} (h : s.armed k o i = false) :
    (if s.expired k o i then fired else idle) = idle := by
  simp only [State.expired_of_not_armed h, Bool.false_eq_true, if_false]

/-- T_MNBC takes the key of the timer that it finds; with none running it finds none. -/
theorem execTMnbcExpiry_of_not_armed (h : s.armed .tMnbc o = false) : execTMnbcExpiry o s = .next s := by
  have none_found : s.timers.find? (fun t => t.isOne .tMnbc o 0 && decide (t.expiry ≤ s.now)) = none :=
    List.find?_eq_none.2 (List.any_eq_false.1 (State.expired_of_not_armed h))
  simp only [execTMnbcExpiry, none_found]

/-- An expiry row that is a failed link attempt. -/
theorem attemptRow_of_not_armed {n : Fin 32} (h : s.armed k n.val = false) :
    (.next (s.attemptTimer k n) : Host.Outcome State Fault Refusal) = .next s :=
  congrArg _ (guarded_of_not_armed h)

/-- An expiry row that answers the vehicle and stops the lane. -/
theorem stopRow_of_not_armed {n : Fin 32} {code : Nat} {answer : Option (Nat × Nat)} (h : s.armed k n.val = false) :
    (.next (s.stopTimer k n code answer) : Host.Outcome State Fault Refusal) = .next s :=
  congrArg _ (guarded_of_not_armed h)

end

/-- Settles O53: a stopped timer is filtered out of those that run, and each expiry row asks first for a running timer that is due. The rows
stand in the order of the statement, each with the form of its guard. -/
theorem cancelledTimersNeverExpire : Obligations.CancelledTimersNeverExpire :=
  ⟨State.armed_cancel,
   fun _ _ =>
    ⟨guarded_of_not_armed, guarded_of_not_armed, guarded_of_not_armed, guarded_of_not_armed, guarded_of_not_armed,
     attemptRow_of_not_armed, guarded_of_not_armed, attemptRow_of_not_armed, attemptRow_of_not_armed,
     stopRow_of_not_armed, stopRow_of_not_armed, guarded_of_not_armed, stopRow_of_not_armed, stopRow_of_not_armed,
     guarded_of_not_armed, guarded_of_not_armed⟩,
   fun _ _ => ⟨guarded_of_not_armed, fired_of_not_armed, guarded_of_not_armed, guarded_of_not_armed⟩,
   fun _ _ _ => fired_of_not_armed,
   fun _ _ => execTMnbcExpiry_of_not_armed,
   fun _ _ => guarded_of_not_armed,
   fun _ _ => guarded_of_not_armed,
   fun _ _ _ => guarded_of_not_armed,
   fun _ => ⟨guarded_of_not_armed, guarded_of_not_armed, guarded_of_not_armed, guarded_of_not_armed, guarded_of_not_armed,
     guarded_of_not_armed, guarded_of_not_armed⟩⟩

end Sys2Proof.Machine
end

/-! The ring of a lane (R20) -/

section
namespace Sys2Proof.Machine

open Sys2Proof

theorem laneRing_val (n : Fin 32) : (laneRing n).val = 2 + n.val / 8 := rfl

/-- The eight lanes of a session core share its ring. -/
theorem laneRing_val_of_core {n : Fin 32} {k : Nat} (low : 8 * k ≤ n.val) (high : n.val ≤ 8 * k + 7) : (laneRing n).val = 2 + k := by
  have core : n.val / 8 = k := by omega
  rw [laneRing_val, core]

/-- Settles O50: a lane result is emitted on `laneRing`, the ring of the lane's session core. -/
theorem laneEventsGoToTheirSessionCore : Obligations.LaneEventsGoToTheirSessionCore :=
  fun _ n _ _ _ _ _ low high => ⟨laneRing n, laneRing_val_of_core low high, rfl⟩

end Sys2Proof.Machine
end

/-! The generation of a commit that begins (R71) -/

section
namespace Sys2Proof.Machine

open Sys2Proof

theorem Nv.nextGen_eq (nv : Nv) : nv.nextGen = 1 + max ((nv.slotA.map (·.gen)).getD 0) ((nv.slotB.map (·.gen)).getD 0) := by
  unfold Nv.nextGen
  cases nv.slotA <;> cases nv.slotB <;> rfl

/-- Asked for a commit, the model keeps the one in progress (or none), or begins one in a slot with the next generation (R68 to R71, R75). -/
theorem State.startCommit_commit (s : State) (kind : Nat) (cause : Option Nat) :
    (s.startCommit kind cause).commit = s.commit ∨
      ∃ slotB, (s.startCommit kind cause).commit = some ⟨kind, s.now, s.nv.nextGen, slotB, none, false, cause⟩ := by
  simp only [State.startCommit]
  split
  case isTrue beforeLegalPath => exact .inl rfl
  case isFalse =>
    split
    next idle =>
      split
      case isTrue frozen => exact .inl rfl
      case isFalse => exact .inr ⟨_, rfl⟩
    next running _ =>
      split
      case isTrue abandonsCheckpoint => exact .inr ⟨running.slotB, rfl⟩
      case isFalse => exact .inl rfl

/-- Settles O48: a commit that was not in progress before is one that begins, and its generation is `Nv.nextGen`. -/
theorem commitTakesTheNextGeneration : Obligations.CommitTakesTheNextGeneration := by
  intro s kind cause k after before
  obtain kept | ⟨slotB, begun⟩ := s.startCommit_commit kind cause
  · exact absurd (kept.symm.trans after) before
  · obtain rfl := Option.some.inj (begun.symm.trans after)
    exact s.nv.nextGen_eq

end Sys2Proof.Machine
end

/-! Several tokens in a round (R195) -/

section
namespace Sys2Proof.Machine

open Sys2Proof

section
variable (s : State) (r : Fin 4)

@[simp] theorem State.setReader_reader (f : Reader → Reader) : (s.setReader r f).tok.readers[r] = f s.tok.readers[r] :=
  Vector.getElem_set_self r.isLt

@[simp] theorem State.tokResult_lanes (opcode detail inline : Nat) : (s.tokResult r opcode detail inline).lanes = s.lanes := by
  simp only [State.tokResult, State.tokSay, State.emit_lanes]

@[simp] theorem State.tapOver_lanes : (s.tapOver r).lanes = s.lanes := by
  simp only [State.tapOver, State.setReader_lanes, State.cancel_lanes]

/-- After a session the field is off, its UID and its key material are forgotten (R197), and the reader polls again; what it counts and the
reservation it holds stay. -/
theorem State.tapOver_reader : (s.tapOver r).tok.readers[r] =
    { s.tok.readers[r] with step := none, field := false, fieldOff := s.now, awaiting := false, refuse := 0, killHit := false, uid := [],
                            rnd := [], sessKey := 0 } := by
  simp only [State.tapOver, State.setReader_reader, State.cancel_tok]

end

/-- The refusal of every token of a round that selects two or more (R195). -/
theorem execInventoryComplete_of_several {s : State} {r : Fin 4} {us : List Bytes} (atS0 : s.tok.readers[r].step = some 0)
    (several : 2 ≤ (inventory us).length) :
    execInventoryComplete r us s = .next ((((s.note 10 32 r.val).setReader r fun x => { x with multi := min (x.multi + 1) 65535 }).tokResult r 0x06
      (min (inventory us).length 255) 0).tapOver r) := by
  simp only [execInventoryComplete, atS0]
  match found : inventory us with
  | [] => simp [found] at several
  | [_] => simp [found] at several
  | _ :: _ :: _ => rfl

/-- Settles O51: the round is refused by its own branch of S0's end; the session's end names the reader's new fields, and neither the note, the
result nor the session's end touches a lane. -/
theorem severalTokensAreRefused : Obligations.SeveralTokensAreRefused := by
  intro s r us atS0 several
  refine ⟨_, execInventoryComplete_of_several atS0 several, rfl, ?field, ?step, ?lanes⟩
  case field => rw [State.tapOver_reader]
  case step => rw [State.tapOver_reader]
  case lanes => simp only [State.tapOver_lanes, State.tokResult_lanes, State.setReader_lanes, State.note_lanes]

end Sys2Proof.Machine
end

/-! ABC_ERR under the operations that report -/

section
namespace Sys2Proof.Machine

open Sys2Proof

section
variable (s : State) (r : ErrReg)

theorem State.err_abc : s.err .abc = s.errs.abc := rfl

theorem setBitR_getLsbD_self (v : Reg) {b : Nat} (inside : b < 32) : (setBitR v b).getLsbD b = true := by
  simp only [setBitR, BitVec.getLsbD_or, BitVec.getLsbD_ofNat, inside, decide_true, Nat.testBit_two_pow_self, Bool.and_self, Bool.or_true]

theorem Errs.put_abc_of_ne (e : Errs) {r : ErrReg} (other : r ≠ .abc) (v : Reg) : (e.put r v).abc = e.abc := by
  cases r
  case abc => exact absurd rfl other
  all_goals rfl

/-! A fault's reaction writes no error register but MGT_ERR (R445 to R448). -/

@[simp] theorem State.note_errs (cls lane index : Nat) : (s.note cls lane index).errs = s.errs := by
  unfold State.note
  split <;> rfl

@[simp] theorem State.startCommit_errs (kind : Nat) (cause : Option Nat) : (s.startCommit kind cause).errs = s.errs := by
  simp only [State.startCommit]
  repeat' split
  all_goals rfl

@[simp] theorem State.requestChipReset_errs (cause : Nat) : (s.requestChipReset cause).errs = s.errs := by
  simp only [State.requestChipReset, State.startCommit_errs]

@[simp] theorem State.faultIrq_errs : s.faultIrq.errs = s.errs := rfl

@[simp] theorem State.reactPlain_errs (src code : Nat) : (s.reactPlain r src code).errs = s.errs := by
  unfold State.reactPlain
  split <;> rfl

/-- RESET_STORM is a bit of MGT_ERR (R448). -/
@[simp] theorem State.stormRises_errs_abc : s.stormRises.errs.abc = s.errs.abc := by
  simp only [State.stormRises, State.reactPlain_errs]

@[simp] theorem State.react_errs_abc (src : Nat) : (s.react r src).errs.abc = s.errs.abc := by
  simp only [State.react]
  repeat' split
  all_goals simp only [State.reactPlain_errs, State.faultIrq_errs, State.stormRises_errs_abc, State.requestChipReset_errs, State.note_errs,
    State.setBoot_errs]

theorem State.setErr_errs_abc_of_ne {r : ErrReg} (other : r ≠ .abc) (b : Nat) : (s.setErr r b).errs.abc = s.errs.abc := by
  simp only [State.setErr]
  repeat' split
  case isTrue => rfl
  all_goals simp only [State.react_errs_abc, Errs.put_abc_of_ne _ other]

theorem State.setErr_errs_abc_getLsbD {b : Nat} (inside : b < 32) : (s.setErr .abc b).errs.abc.getLsbD b = true := by
  simp only [State.setErr, faultSource]
  split
  case isTrue already => exact already
  case isFalse => simp only [State.react_errs_abc, Errs.put, setBitR_getLsbD_self _ inside]

/-! A result that is held can set HIF_ERR.SPILL (R108) and no other bit of its own. -/

@[simp] theorem State.pend_errs (v : Fin 32) (atOnce : Bool) : (s.pend v atOnce).errs = s.errs := by
  simp only [State.pend]
  split <;> rfl

@[simp] theorem State.signal_errs (n : Fin 16) (irq : Bool) : (s.signal n irq).errs = s.errs := by
  unfold State.signal
  split
  · exact State.pend_errs ..
  · rfl

@[simp] theorem State.ringWrite_errs (n : Fin 16) (res : Result) (irq : Bool) : (s.ringWrite n res irq).errs = s.errs := by
  simp only [State.ringWrite, State.signal_errs, State.setRing_errs]

@[simp] theorem State.pour_errs (n : Fin 16) (k : Nat) : (s.pour n k).errs = s.errs := by
  induction k generalizing s with
  | zero => rfl
  | succ k ih =>
    simp only [State.pour]
    repeat' split
    all_goals simp only [ih, State.signal_errs, State.setSpill_errs, State.setRing_errs]

@[simp] theorem State.spillFull_errs_abc (n : Fin 16) : (s.spillFull n).errs.abc = s.errs.abc :=
  State.setErr_errs_abc_of_ne _ (by decide) _

@[simp] theorem State.hold_errs_abc (n : Fin 16) (res : Result) (completion irq : Bool) :
    (s.hold n res completion irq).errs.abc = s.errs.abc := by
  simp only [State.hold]
  repeat' split
  all_goals simp only [State.spillFull_errs_abc, State.pour_errs, State.setSpill_errs]

@[simp] theorem State.deliver_errs_abc (n : Fin 16) (res : Result) (completion irq : Bool) :
    (s.deliver n res completion irq).errs.abc = s.errs.abc := by
  simp only [State.deliver]
  split
  · rw [State.ringWrite_errs]
  · rw [State.hold_errs_abc]

@[simp] theorem State.emit_errs_abc (ring : Fin 16) (opcode unit detail inline : Nat) (payload : Bytes) :
    (s.emit ring opcode unit detail inline payload).errs.abc = s.errs.abc := by
  simp only [State.emit]
  split
  · rfl
  · exact State.deliver_errs_abc ..

end

end Sys2Proof.Machine
end

/-! A quantum of a lane without an entry (R230) -/

section
namespace Sys2Proof.Machine

open Sys2Proof

section
variable (s : State) (opcode unit detail : Nat) (payload : Bytes)

/-- A ledger result counts and is offered to the site line (R237); no record changes. -/
@[simp] theorem State.ledgerResult_dram : (s.ledgerResult opcode unit detail payload).abc.dram = s.abc.dram := by
  simp only [State.ledgerResult]
  repeat' split
  all_goals simp only [State.setErr_abc, State.setAbc_abc, State.emit_abc]

/-- The site line's own bit is the only one that a ledger result sets beside those of its delivery. -/
@[simp] theorem State.ledgerResult_errs_abc : (s.ledgerResult opcode unit detail payload).errs.abc = s.errs.abc := by
  simp only [State.ledgerResult]
  repeat' split
  all_goals simp only [State.setErr_errs_abc_of_ne _ (show ErrReg.line ≠ .abc by decide), State.setAbc_errs, State.emit_errs_abc]

end

@[simp] theorem State.note_grant (s : State) (cls lane index : Nat) (g : Fin 36) : (s.note cls lane index).grant g = s.grant g := by
  simp only [State.grant, State.note_abc]

/-- The branch of R230: the quantum is an event of class 8, ORPHAN_Q is set, and the SESSION result names no slot. -/
theorem State.quantum_of_no_entry {s : State} {n : Fin 32} (running : s.frozen = false) (empty : s.grant (laneEntry n) = none) (q : Nat)
    (final : Bool) :
    s.quantum n q final = ((s.note 8 n.val 0).setErr .abc 8).ledgerResult 0x03 n.val 0
      (((s.note 8 n.val 0).setErr .abc 8).ledgerPayload Grant.blank.slot Rec.empty (some { Grant.blank with d := q })) := by
  simp only [State.quantum, running, State.note_grant, empty, Bool.false_eq_true, if_false]

/-- Settles O52: the branch of R230 sets ORPHAN_Q and reports; neither the event, the error bit nor the report touches a record, and the report
leaves ABC_ERR as it was set. -/
theorem quantumWithoutEntryIsNotCharged : Obligations.QuantumWithoutEntryIsNotCharged := by
  intro s n q final running empty
  have branch := State.quantum_of_no_entry running empty q final
  refine ⟨branch, ?records, ?orphan⟩
  case records => simp only [branch, State.ledgerResult_dram, State.setErr_abc, State.note_abc]
  case orphan =>
    rw [branch, State.err_abc, State.ledgerResult_errs_abc]
    exact State.setErr_errs_abc_getLsbD _ (by decide)

end Sys2Proof.Machine
end

/-! The stores that every operation keeps: the queue of commands, host memory, the internal queues, the fuses, and the memory of transfers -/

section
namespace Sys2Proof.Machine

open Sys2Proof Sys2Proof.Claims

/-- What the part stores for good: the queue of commands, host memory, the internal queues, the fuses, and the memory written by transfers. -/
structure Stores where
  pending : List Instr
  hostMem : List Host.Cell
  queues : Vector IQueue 16
  fuses : Fuses
  dram : List Host.Cell
  sram : List Host.Cell

def State.stores (s : State) : Stores := ⟨s.pending, s.hostMem, s.queues, s.fuses, s.arb.dram, s.arb.sram⟩

section
variable (htc htcLoaded outside freeCtr seq timers errs cfg power clocks boot glb commit frozenAt chipResetDue hif spill hostMem flights
  waiting intake queues lanes pmcan met nrg book abc mgt keys link tok saf lsw pair line epd arb island fuses nv pending)

/-- The stores after an update are those that the update names. -/
@[simp] theorem State.stores_mk :
    (State.mk htc htcLoaded outside freeCtr seq timers errs cfg power clocks boot glb commit frozenAt chipResetDue hif spill hostMem flights
      waiting intake queues lanes pmcan met nrg book abc mgt keys link tok saf lsw pair line epd arb island fuses nv pending).stores =
      ⟨pending, hostMem, queues, fuses, arb.dram, arb.sram⟩ := by cases arb; rfl

end

@[simp] theorem State.stores_fold (s : State) : Stores.mk s.pending s.hostMem s.queues s.fuses s.arb.dram s.arb.sram = s.stores := by
  cases s; rfl

@[simp] theorem State.stores_ite (c : Prop) [Decidable c] (s t : State) : (if c then s else t).stores = if c then s.stores else t.stores :=
  apply_ite State.stores c s t


@[simp] theorem foldl_stores {α : Type} (f : State → α → State) (h : ∀ s x, (f s x).stores = s.stores) (l : List α) (s : State) :
    (l.foldl f s).stores = s.stores := foldl_keeps State.stores f h l s

@[simp] theorem stores_snd_ite {α : Type} (c : Prop) [Decidable c] (p q : α × State) :
    (if c then p else q).2.stores = if c then p.2.stores else q.2.stores := apply_ite (fun p : α × State => p.2.stores) c p q

@[simp] theorem State.setArb_stores (s : State) (f : Arb → Arb) (hd : (f s.arb).dram = s.arb.dram) (hs : (f s.arb).sram = s.arb.sram) :
    (s.setArb f).stores = s.stores := by simp [State.setArb, hd, hs]

/-! ### Shared operations -/

@[simp] theorem State.cancel_stores (s : State) (k : TimerKind) (owner : Nat) (sub : Nat) : (s.cancel k owner sub).stores = s.stores := by
  simp [State.cancel]

@[simp] theorem State.arm_stores (s : State) (k : TimerKind) (owner dur : Nat) (sub : Nat) : (s.arm k owner dur sub).stores = s.stores := by
  simp [State.arm]

@[simp] theorem State.note_stores (s : State) (cls lane index : Nat) : (s.note cls lane index).stores = s.stores :=
  (congrArg State.stores (s.note_kept cls lane index) :)

@[simp] theorem State.noteTimeout_stores (s : State) (base : Nat) : (s.noteTimeout base).stores = s.stores := by simp [State.noteTimeout]

@[simp] theorem State.expire_stores (s : State) (k : TimerKind) (owner : Nat) (sub : Nat) : (s.expire k owner sub).stores = s.stores := by
  simp only [State.expire]
  repeat' split
  all_goals simp

@[simp] theorem State.draw_stores (s : State) (bound : Nat) : (s.draw bound).2.stores = s.stores := by simp [State.draw]

@[simp] theorem State.setVec_stores (s : State) (v : Fin 32) (f : Vec → Vec) : (s.setVec v f).stores = s.stores :=
  (congrArg State.stores (s.setVec_kept v f) :)

@[simp] theorem State.fire_stores (s : State) (v : Fin 32) : (s.fire v).stores = s.stores :=
  (congrArg State.stores (s.fire_kept v) :)

@[simp] theorem State.pend_stores (s : State) (v : Fin 32) (atOnce : Bool) : (s.pend v atOnce).stores = s.stores :=
  (congrArg State.stores (s.pend_kept v atOnce) :)

@[simp] theorem State.setRing_stores (s : State) (n : Fin 16) (f : Ring → Ring) : (s.setRing n f).stores = s.stores :=
  (congrArg State.stores (s.setRing_kept n f) :)

@[simp] theorem State.setSpill_stores (s : State) (n : Fin 16) (f : Spill → Spill) : (s.setSpill n f).stores = s.stores :=
  (congrArg State.stores (s.setSpill_kept n f) :)

@[simp] theorem State.signal_stores (s : State) (n : Fin 16) (irq : Bool) : (s.signal n irq).stores = s.stores :=
  (congrArg State.stores (s.signal_kept n irq) :)

@[simp] theorem State.ringWrite_stores (s : State) (n : Fin 16) (res : Result) (irq : Bool) : (s.ringWrite n res irq).stores = s.stores :=
  (congrArg State.stores (s.ringWrite_kept n res irq) :)

@[simp] theorem State.startCommit_stores (s : State) (kind : Nat) (cause : Option Nat) : (s.startCommit kind cause).stores = s.stores :=
  (congrArg State.stores (s.startCommit_kept kind cause) :)

@[simp] theorem State.requestChipReset_stores (s : State) (cause : Nat) : (s.requestChipReset cause).stores = s.stores :=
  (congrArg State.stores (s.requestChipReset_kept cause) :)

@[simp] theorem State.setBoot_stores (s : State) (f : BootRec → BootRec) : (s.setBoot f).stores = s.stores :=
  (congrArg State.stores (s.setBoot_kept f) :)

@[simp] theorem State.faultIrq_stores (s : State) : s.faultIrq.stores = s.stores := (congrArg State.stores s.faultIrq_kept :)

@[simp] theorem State.reactPlain_stores (s : State) (r : ErrReg) (src code : Nat) : (s.reactPlain r src code).stores = s.stores :=
  (congrArg State.stores (s.reactPlain_kept r src code) :)

@[simp] theorem State.stormRises_stores (s : State) : s.stormRises.stores = s.stores := (congrArg State.stores s.stormRises_kept :)

@[simp] theorem State.react_stores (s : State) (r : ErrReg) (src : Nat) : (s.react r src).stores = s.stores :=
  (congrArg State.stores (s.react_kept r src) :)

@[simp] theorem State.setErr_stores (s : State) (r : ErrReg) (b : Nat) : (s.setErr r b).stores = s.stores :=
  (congrArg State.stores (s.setErr_kept r b) :)

@[simp] theorem State.pour_stores (s : State) (n : Fin 16) (k : Nat) : (s.pour n k).stores = s.stores :=
  (congrArg State.stores (s.pour_kept n k) :)

@[simp] theorem State.spillFull_stores (s : State) (n : Fin 16) : (s.spillFull n).stores = s.stores :=
  (congrArg State.stores (s.spillFull_kept n) :)

@[simp] theorem State.hold_stores (s : State) (n : Fin 16) (res : Result) (completion irq : Bool) : (s.hold n res completion irq).stores = s.stores :=
  (congrArg State.stores (s.hold_kept n res completion irq) :)

@[simp] theorem State.deliver_stores (s : State) (n : Fin 16) (res : Result) (completion irq : Bool) :
    (s.deliver n res completion irq).stores = s.stores :=
  (congrArg State.stores (s.deliver_kept n res completion irq) :)

@[simp] theorem State.emit_stores (s : State) (ring : Fin 16) (opcode unit detail inline : Nat) (payload : Bytes) :
    (s.emit ring opcode unit detail inline payload).stores = s.stores :=
  (congrArg State.stores (s.emit_kept ring opcode unit detail inline payload) :)

@[simp] theorem State.complete_stores (s : State) (ring opcode : Nat) (tag : BitVec 16) (irq : Bool) (unit : BitVec 16) (status detail inline : Nat)
    (payload : Bytes) :
    (s.complete ring opcode tag irq unit status detail inline payload).stores = s.stores :=
  (congrArg State.stores (s.complete_kept ring opcode tag irq unit status detail inline payload) :)

@[simp] theorem State.legal_stores (s : State) (kind : Nat) (payload : Bytes) : (s.legal kind payload).stores = s.stores :=
  (congrArg State.stores (s.legal_kept kind payload) :)

@[simp] theorem State.guaranteeLost_stores (s : State) (cause : Nat) : (s.guaranteeLost cause).stores = s.stores := by simp [State.guaranteeLost]

@[simp] theorem State.event_stores (s : State) (page kind severity lane : Nat) (data : Bytes) :
    (s.event page kind severity lane data).stores = s.stores :=
  (congrArg State.stores (s.event_kept page kind severity lane data) :)

@[simp] theorem State.forLanes_stores (s : State) (f : State → Fin 32 → State) (h : ∀ s n, (f s n).stores = s.stores) :
    (s.forLanes f).stores = s.stores := foldl_stores f h _ s

/-! ### Requests and flights -/

@[simp] theorem State.consume_stores (s : State) (ring : Fin 16) (n : Nat) : (s.consume ring n).stores = s.stores :=
  (congrArg State.stores (s.consume_kept ring n) :)

@[simp] theorem State.answer_stores (s : State) (ring opcode : Nat) (d : Desc) (status : Nat) (detail inline : Nat) (payload : Bytes) :
    (s.answer ring opcode d status detail inline payload).stores = s.stores :=
  (congrArg State.stores (s.answer_kept ring opcode d status detail inline payload) :)

@[simp] theorem State.arrive_stores (s : State) (i : Instr) (ring : Fin 16) (count : Nat) (wait : Bool) (act : State → State)
    (h : ∀ u, (act u).stores = u.stores) : (s.arrive i ring count wait act).stores = s.stores := by
  simp [State.arrive, h]

@[simp] theorem State.accept_stores (s : State) (i : Instr) (ring : Fin 16) (opcode : Nat) (d : Desc) (a b c : Bool) (act : State → State)
    (h : ∀ u, (act u).stores = u.stores) : (s.accept i ring opcode d a b c act).stores = s.stores := by
  refine State.arrive_stores _ _ _ _ _ _ fun u => ?_
  cases refusal d a b c <;> simp [h]

@[simp] theorem State.acceptSingle_stores (s : State) (i : Instr) (opcode : Nat) (d : Desc) (len : Nat) (paramOk : Bool) (act : State → State)
    (h : ∀ u, (act u).stores = u.stores) : (s.acceptSingle i opcode d len paramOk act).stores = s.stores :=
  State.accept_stores _ _ _ _ _ _ _ _ _ h

@[simp] theorem State.launch_stores (s : State) (ring opcode : Nat) (d : Desc) (gang : Bool) (members : List Nat) (prev : List (Nat × Nat))
    (arg : Nat) (batch : Option (List (Nat × Nat))) :
    (s.launch ring opcode d gang members prev arg batch).stores = s.stores := by simp [State.launch]

@[simp] theorem State.settleFlight_stores (s : State) (f : Flight) (status detail inline : Nat) (payload : Bytes) :
    (s.settleFlight f status detail inline payload).stores = s.stores :=
  (congrArg State.stores (s.settleFlight_kept f status detail inline payload) :)

@[simp] theorem State.setFlight_stores (s : State) (f g : Flight) : (s.setFlight f g).stores = s.stores :=
  (congrArg State.stores (s.setFlight_kept f g) :)

@[simp] theorem State.settleAll_stores (s : State) (opcode unit status inline : Nat) : (s.settleAll opcode unit status inline).stores = s.stores :=
  (congrArg State.stores (s.settleAll_kept opcode unit status inline) :)

@[simp] theorem State.inverseEnd_stores (s : State) (f : Flight) (unit : Nat) (ok : Bool) : (s.inverseEnd f unit ok).stores = s.stores :=
  (congrArg State.stores (s.inverseEnd_kept f unit ok) :)

@[simp] theorem State.flightOk_stores (s : State) (f : Flight) : (s.flightOk f).stores = s.stores :=
  (congrArg State.stores (s.flightOk_kept f) :)

@[simp] theorem State.flightDone_stores (s : State) (f : Flight) (unit : Nat) : (s.flightDone f unit).stores = s.stores :=
  (congrArg State.stores (s.flightDone_kept f unit) :)

@[simp] theorem State.memberDone_stores (s : State) (opcode unit : Nat) : (s.memberDone opcode unit).stores = s.stores :=
  (congrArg State.stores (s.memberDone_kept opcode unit) :)

@[simp] theorem State.flightFail_stores (s : State) (f : Flight) (unit status : Nat) : (s.flightFail f unit status).stores = s.stores :=
  (congrArg State.stores (s.flightFail_kept f unit status) :)

@[simp] theorem State.memberFail_stores (s : State) (opcode unit status : Nat) (single : Bool) :
    (s.memberFail opcode unit status single).stores = s.stores :=
  (congrArg State.stores (s.memberFail_kept opcode unit status single) :)

@[simp] theorem runBatch_stores (f : State → Nat → Nat → Nat × State) (h : ∀ s u p, (f s u p).2.stores = s.stores) (l : List (Nat × Nat))
    (s : State) :
    
    (runBatch f l s).2.stores = s.stores := by
  induction l generalizing s with
  | nil => rfl
  | cons e l ih => simp [runBatch, ih, h]

@[simp] theorem State.answerBatch_stores (s : State) (ring opcode : Nat) (d : Desc) (ok : Nat → Bool) (sts : List Nat) :
    (s.answerBatch ring opcode d ok sts).stores = s.stores := by simp [State.answerBatch]

@[simp] theorem State.endBatch_stores (s : State) (opcode : Nat) (d : Desc) (sts : List (Nat × Nat)) (waits : Nat → Bool) :
    (s.endBatch opcode d sts waits).stores = s.stores := by simp [State.endBatch]

/-! ### Basics -/

@[simp] theorem State.setLane_stores (s : State) (n : Fin 32) (f : Lane → Lane) : (s.setLane n f).stores = s.stores := by simp [State.setLane]

/-! ### Sample intake -/

@[simp] theorem State.setMet_stores (s : State) (n : Fin 32) (f : MetLane → MetLane) : (s.setMet n f).stores = s.stores := by simp [State.setMet]

@[simp] theorem State.trackDecide_stores (s : State) (n : Fin 32) (wins : List BitWindow) : (s.trackDecide n wins).stores = s.stores := by
  simp [State.trackDecide]

@[simp] theorem State.placeCycle_stores (s : State) (n : Fin 32) (refWins : List BitWindow) : (s.placeCycle n refWins).stores = s.stores := by
  simp only [State.placeCycle]
  repeat' split
  all_goals simp

@[simp] theorem State.setCapture_stores (s : State) (i : Fin 4) (c : Option Capture) : (s.setCapture i c).stores = s.stores := by
  simp [State.setCapture]

@[simp] theorem State.triggerCaptures_stores (s : State) (n : Fin 32) (evBit sampleTime : Nat) :
    (s.triggerCaptures n evBit sampleTime).stores = s.stores :=
  foldl_stores _ (fun _ _ => by split <;> simp) _ _

@[simp] theorem State.envEvent_stores (s : State) (n : Fin 32) (c kind e : Nat) : (s.envEvent n c kind e).stores = s.stores := by
  simp [State.envEvent]

@[simp] theorem State.setChan_stores (s : State) (n : Fin 32) (c : Fin 8) (f : MetChan → MetChan) : (s.setChan n c f).stores = s.stores := by
  simp [State.setChan]

@[simp] theorem State.envSample_stores (s : State) (n : Fin 32) (c : Fin 8) (y : Int) (issued : Nat) : (s.envSample n c y issued).stores = s.stores := by
  simp [State.envSample]

@[simp] theorem State.detect_stores (s : State) (c : Cycle) : (s.detect c).stores = s.stores := by simp [State.detect]

@[simp] theorem State.nextCycle_stores (s : State) (c : Cycle) (begin_ : Nat) : (s.nextCycle c begin_).stores = s.stores := by simp [State.nextCycle]

/-! ### Association of a lane -/

@[simp] theorem State.setLink_stores (s : State) (n : Fin 32) (f : LinkLane → LinkLane) : (s.setLink n f).stores = s.stores := by simp [State.setLink]

@[simp] theorem State.assocTo_stores (s : State) (n : Fin 32) (a : Assoc) : (s.assocTo n a).stores = s.stores := by simp [State.assocTo]

@[simp] theorem State.leaveRuns_stores (s : State) (n : Fin 32) (but : Option Nat) : (s.leaveRuns n but).stores = s.stores := by
  simp [State.leaveRuns]

@[simp] theorem State.cancelLink_stores (s : State) (n : Fin 32) : (s.cancelLink n).stores = s.stores := by simp [State.cancelLink]

@[simp] theorem State.assocStart_stores (s : State) (n : Fin 32) : (s.assocStart n).stores = s.stores := by simp [State.assocStart]

@[simp] theorem State.assocOff_stores (s : State) (n : Fin 32) : (s.assocOff n).stores = s.stores := by simp [State.assocOff]

@[simp] theorem State.overdraw_stores (s : State) (n : Fin 32) (amps : List Int) : (s.overdraw n amps).stores = s.stores := by simp [State.overdraw]

@[simp] theorem State.violation_stores (s : State) (n : Fin 32) (cls msg : Nat) (raw : Bytes) : (s.violation n cls msg raw).stores = s.stores := by
  simp [State.violation]

/-! ### Energy -/

@[simp] theorem State.setNrg_stores (s : State) (n : Fin 32) (f : NrgLane → NrgLane) : (s.setNrg n f).stores = s.stores := by simp [State.setNrg]

@[simp] theorem State.addAcc_stores (s : State) (n : Fin 32) (a : Fin 32) (x : Nat) : (s.addAcc n a x).stores = s.stores := by simp [State.addAcc]

@[simp] theorem State.setPulse_stores (s : State) (k : Fin 8) (f : Pulse → Pulse) : (s.setPulse k f).stores = s.stores := by simp [State.setPulse]

@[simp] theorem State.schedulePulse_stores (s : State) (k : Fin 8) (due : Nat) : (s.schedulePulse k due).stores = s.stores := by
  simp [State.schedulePulse]

@[simp] theorem State.pulseTake_stores (s : State) (n : Fin 32) (incs : List Nat) (len : Nat) (k : Fin 8) :
    (s.pulseTake n incs len k).stores = s.stores := by simp [State.pulseTake]

@[simp] theorem State.groupUpdate_stores (s : State) (n : Fin 32) (g : Fin 4) (p q a : Int) : (s.groupUpdate n g p q a).2.stores = s.stores := by
  simp [State.groupUpdate]

@[simp] theorem State.flagRun_stores (s : State) (n : Fin 32) (flags : Byte) : (s.flagRun n flags).stores = s.stores := by simp [State.flagRun]

@[simp] theorem State.energyCycle_stores (s : State) (c : Cycle) : (s.energyCycle c).2.stores = s.stores := by
  simp only [State.energyCycle]
  repeat' split
  all_goals simp

/-! ### The ledger -/

@[simp] theorem State.setAbc_stores (s : State) (f : Abc → Abc) : (s.setAbc f).stores = s.stores := by simp [State.setAbc]

@[simp] theorem State.flush_stores (s : State) : s.flush.stores = s.stores := by simp [State.flush]

@[simp] theorem State.blockDone_stores (s : State) : s.blockDone.stores = s.stores := by
  simp only [State.blockDone]
  repeat' split
  all_goals simp

@[simp] theorem State.drainJournal_stores (s : State) : s.drainJournal.stores = s.stores := by simp [State.drainJournal]

@[simp] theorem State.roomInPending_stores (s : State) : s.roomInPending.stores = s.stores := by simp [State.roomInPending]

@[simp] theorem State.putRec_stores (s : State) (slot : Nat) (r : Rec) (kind : Nat) : (s.putRec slot r kind).stores = s.stores := by
  simp [State.putRec]

@[simp] theorem State.pin_stores (s : State) (slot : Nat) : (s.pin slot).stores = s.stores := by simp [State.pin]

@[simp] theorem State.unpin_stores (s : State) : s.unpin.stores = s.stores := by simp [State.unpin]

@[simp] theorem State.setGrant_stores (s : State) (g : Fin 36) (e : Option Grant) : (s.setGrant g e).stores = s.stores := by simp [State.setGrant]

@[simp] theorem State.nameSlot_stores (s : State) (slot k : Nat) : (s.nameSlot slot k).stores = s.stores := by simp [State.nameSlot]

@[simp] theorem State.ledgerResult_stores (s : State) (opcode unit detail : Nat) (payload : Bytes) :
    (s.ledgerResult opcode unit detail payload).stores = s.stores := by simp [State.ledgerResult]

@[simp] theorem State.tally_stores (s : State) (slot detail : Nat) (e : Option Grant) : (s.tally slot detail e).stores = s.stores := by
  simp [State.tally]

@[simp] theorem State.release_stores (s : State) (g : Fin 36) : (s.release g).stores = s.stores := by simp [State.release]

@[simp] theorem State.announce_stores (s : State) (delay kind target reason : Nat) (about : Grant) :
    (s.announce delay kind target reason about).stores = s.stores := by simp [State.announce]

theorem State.takeAnnounce_stores {s t : State} {kind target : Nat} {a : Announce} (h : s.takeAnnounce kind target = some (a, t)) :
    t.stores = s.stores := by
  simp only [State.takeAnnounce] at h
  split at h
  · cases h; simp
  · cases h

@[simp] theorem State.revokeSlot_stores (s : State) (slot : Nat) : (s.revokeSlot slot).2.stores = s.stores := by
  refine List.foldlRecOn (motive := fun p : Nat × State => p.2.stores = s.stores) _ _ rfl fun p same g _ => ?_
  simp only
  repeat' split
  all_goals simp [same]

@[simp] theorem State.quarantine_stores (s : State) (slot : Nat) : (s.quarantine slot).stores = s.stores := by simp [State.quarantine]

@[simp] theorem State.readSlots_stores (s : State) (slots ues : List Nat) : (s.readSlots slots ues).stores = s.stores := by simp [State.readSlots]

@[simp] theorem State.authorise_stores (s : State) (a : AuthReq) : (s.authorise a).stores = s.stores := by
  simp only [State.authorise]
  repeat' split
  all_goals simp

@[simp] theorem State.requestAuth_stores (s : State) (a : AuthReq) : (s.requestAuth a).stores = s.stores := by simp [State.requestAuth]

@[simp] theorem State.finishEntry_stores (s : State) (n : Fin 32) (e : Grant) : (s.finishEntry n e).stores = s.stores := by simp [State.finishEntry]

@[simp] theorem State.quantum_stores (s : State) (n : Fin 32) (q : Nat) (final : Bool) : (s.quantum n q final).stores = s.stores := by
  simp only [State.quantum]
  repeat' split
  all_goals simp

@[simp] theorem State.orphan_stores (s : State) (e : Grant) (lane : Nat) : (s.orphan e lane).stores = s.stores := by simp [State.orphan]

@[simp] theorem State.abandon_stores (s : State) (g : Fin 36) (orphanFlag : Bool) (lane : Nat) : (s.abandon g orphanFlag lane).stores = s.stores := by
  simp only [State.abandon]
  repeat' split
  all_goals simp

@[simp] theorem State.slotsMoved_stores (s : State) (ch : List Nat) : (s.slotsMoved ch).stores = s.stores := by simp [State.slotsMoved]

@[simp] theorem State.applyDelta_stores (s : State) (b : Bytes) (ues : List Nat) : (s.applyDelta b ues).2.stores = s.stores := by
  unfold State.applyDelta
  extract_lets kind key hub here own macOk found read empty fresh target uver credit settled ack pack packValid st
  have read_same : read.stores = s.stores := State.readSlots_stores ..
  have target_same : ∀ e ∈ target, e.2.2.stores = s.stores := by
    intro e he
    cases stored : found
    case some slot =>
      simp only [target, stored, Option.mem_def, Option.some.injEq] at he
      simp [← he, read_same]
    case none =>
      simp only [target, stored, Option.mem_def] at he
      split at he
      · cases he
      · split at he <;> cases he
        simp [read_same]
  clear_value target
  match target with
  | none => simp [read_same]
  | some (slot, r, u) =>
    have u_same : u.stores = s.stores := target_same _ rfl
    simp [read_same, u_same]

@[simp] theorem applyDeltas_stores (ues : List (Nat × Nat)) (k : Nat) (k2 : Nat) (b : Bytes) (s : State) :
    (applyDeltas ues k k2 b s).2.stores = s.stores := by
  induction k generalizing k2 b s with
  | zero => rfl
  | succ k ih => simp [applyDeltas, ih]

@[simp] theorem State.startSnapshot_stores (s : State) : s.startSnapshot.stores = s.stores := by simp [State.startSnapshot]

@[simp] theorem State.restoreAbc_stores (s : State) (i : AbcImage) : (s.restoreAbc i).stores = s.stores := by simp [State.restoreAbc]

@[simp] theorem State.restoreLedger_stores (s : State) : s.restoreLedger.stores = s.stores := by simp [State.restoreLedger]

/-! ### The register book -/

@[simp] theorem State.setBook_stores (s : State) (f : Book → Book) : (s.setBook f).stores = s.stores := by simp [State.setBook]

@[simp] theorem State.setImg_stores (s : State) (f : BookImage → BookImage) : (s.setImg f).stores = s.stores := by simp [State.setImg]

@[simp] theorem State.rateSwitch_stores (s : State) : s.rateSwitch.stores = s.stores := by simp [State.rateSwitch]

@[simp] theorem State.settleRate_stores (s : State) : s.settleRate.stores = s.stores := by
  simp only [State.settleRate]
  repeat' split
  all_goals simp

@[simp] theorem State.intervalEnd_stores (s : State) (openFlags : BitVec 4) : (s.intervalEnd openFlags).stores = s.stores := by
  simp [State.intervalEnd]

@[simp] theorem State.gather_stores (s : State) (f : BitVec 4) : (s.gather f).stores = s.stores := by simp [State.gather]

@[simp] theorem State.billClose_stores (s : State) (kind sec : Nat) : (s.billClose kind sec).stores = s.stores := by simp [State.billClose]

@[simp] theorem State.activateTable_stores (s : State) (own : Bool) : (s.activateTable own).stores = s.stores := by
  simp only [State.activateTable]
  repeat' split
  all_goals simp

@[simp] theorem State.boundary_stores (s : State) (own : Bool) (kind sec : Nat) : (s.boundary own kind sec).stores = s.stores := by
  simp [State.boundary]

@[simp] theorem State.takePoints_stores (s : State) : s.takePoints.stores = s.stores := by
  simp only [State.takePoints]
  repeat' split
  all_goals simp

@[simp] theorem State.closesIn_stores (s : State) (kind a b : Nat) : (s.closesIn kind a b).stores = s.stores := by
  simp only [State.closesIn]
  repeat' split
  all_goals simp

@[simp] theorem State.completeOutage_stores (s : State) (f fSec : Nat) : (s.completeOutage f fSec).stores = s.stores := by
  simp only [State.completeOutage]
  repeat' split
  all_goals simp

@[simp] theorem State.markClock_stores (s : State) : s.markClock.stores = s.stores := by simp [State.markClock]

@[simp] theorem State.clockEntry_stores (s : State) (source role old new : Nat) : (s.clockEntry source role old new).stores = s.stores := by
  simp [State.clockEntry]

@[simp] theorem State.clockInvalid_stores (s : State) : s.clockInvalid.stores = s.stores := by simp [State.clockInvalid]

@[simp] theorem State.spanPoints_stores (s : State) (old new : Nat) : (s.spanPoints old new).stores = s.stores := by
  simp only [State.spanPoints]
  repeat' split
  all_goals simp

@[simp] theorem State.clockStep_stores (s : State) (source role new : Nat) : (s.clockStep source role new).stores = s.stores := by
  simp [State.clockStep]

@[simp] theorem State.setSess_stores (s : State) (n : Fin 32) (f : SessRec → SessRec) : (s.setSess n f).stores = s.stores := by simp [State.setSess]

@[simp] theorem State.bookCycle_stores (s : State) (n : Fin 32) (incs : List Nat) (flags : Byte) : (s.bookCycle n incs flags).stores = s.stores := by
  simp [State.bookCycle]

@[simp] theorem State.openSession_stores (s : State) (n : Fin 32) : (s.openSession n).stores = s.stores := by simp [State.openSession]

@[simp] theorem State.closeSession_stores (s : State) (n : Fin 32) (cause : Nat) : (s.closeSession n cause).stores = s.stores := by
  simp [State.closeSession]

@[simp] theorem State.keepOldCal_stores (s : State) (target : Nat) : (s.keepOldCal target).stores = s.stores := by simp [State.keepOldCal]

@[simp] theorem State.pulseCal_stores (s : State) (target : Nat) (v : Reg) : (s.pulseCal target v).2.2.stores = s.stores := by
  simp only [State.pulseCal]
  repeat' split
  all_goals simp

@[simp] theorem State.calWrite_stores (s : State) (e : Bytes) : (s.calWrite e).stores = s.stores := by simp [State.calWrite]

@[simp] theorem State.calCopy_stores (s : State) : s.calCopy.stores = s.stores := by simp [State.calCopy]

@[simp] theorem State.calLoad_stores (s : State) : s.calLoad.stores = s.stores := by
  simp only [State.calLoad]
  repeat' split
  all_goals simp

@[simp] theorem State.authRole_stores (s : State) (opcode : Nat) (d : Desc) : (s.authRole opcode d).2.stores = s.stores := by
  simp only [State.authRole]
  repeat' split
  all_goals simp

/-! ### Outlet lanes -/

@[simp] theorem State.drivePilot_stores (s : State) (n : Fin 32) : (s.drivePilot n).stores = s.stores := by
  simp only [State.drivePilot]
  repeat' split
  all_goals simp

@[simp] theorem State.drivesDue_stores (s : State) : s.drivesDue.stores = s.stores := by simp [State.drivesDue]

@[simp] theorem State.laneResult_stores (s : State) (n : Fin 32) (opcode detail inline : Nat) :
    (s.laneResult n opcode detail inline).stores = s.stores := by simp [State.laneResult]

@[simp] theorem State.laneErr_stores (s : State) (n : Fin 32) (b : Nat) : (s.laneErr n b).stores = s.stores := by simp [State.laneErr]

@[simp] theorem State.sessionEnd_stores (s : State) (n : Fin 32) (cause : Nat) : (s.sessionEnd n cause).stores = s.stores := by
  simp [State.sessionEnd]

@[simp] theorem State.setSaf_stores (s : State) (n : Fin 32) (f : SafLane → SafLane) : (s.setSaf n f).stores = s.stores := by simp [State.setSaf]

@[simp] theorem State.testStart_stores (s : State) (n : Fin 32) : (s.testStart n).stores = s.stores := by simp [State.testStart]

@[simp] theorem State.testEnd_stores (s : State) (n : Fin 32) : (s.testEnd n).stores = s.stores := by
  simp only [State.testEnd]
  repeat' split
  all_goals simp

@[simp] theorem State.safConnected_stores (s : State) (n : Fin 32) : (s.safConnected n).stores = s.stores := by simp [State.safConnected]

@[simp] theorem State.isoBegin_stores (s : State) (n : Fin 32) : (s.isoBegin n).stores = s.stores := by simp [State.isoBegin]

@[simp] theorem State.isoEnd_stores (s : State) (n : Fin 32) : (s.isoEnd n).stores = s.stores := by simp [State.isoEnd]

@[simp] theorem State.isoWatch_stores (s : State) (n : Fin 32) : (s.isoWatch n).stores = s.stores := by simp [State.isoWatch]

@[simp] theorem State.safEnergised_stores (s : State) (n : Fin 32) (on : Bool) : (s.safEnergised n on).stores = s.stores := by
  simp [State.safEnergised]

@[simp] theorem State.enterPlain_stores (s : State) (n : Fin 32) (st : LaneSt) (cause : Nat) (target : LaneSt) :
    (s.enterPlain n st cause target).stores = s.stores := by
  unfold State.enterPlain
  extract_lets old left ends entered told ended opened driven started timed stopDone done
  have left_same : left.stores = s.stores := by
    cases was : old <;> simp [left, was]
  have started_same : started.stores = s.stores := by
    simp [started, driven, opened, ended, told, entered, left_same]
  have timed_same : timed.stores = s.stores := by
    cases st <;> simp [timed, started_same]
  simp [done, timed_same]

@[simp] theorem State.opening_stores (s : State) (n : Fin 32) (target : LaneSt) (cause : Nat) (forced : Bool) :
    (s.opening n target cause forced).stores = s.stores := by simp [State.opening]

@[simp] theorem State.faultNow_stores (s : State) (n : Fin 32) (cause : Nat) : (s.faultNow n cause).stores = s.stores := by simp [State.faultNow]

@[simp] theorem State.toFault_stores (s : State) (n : Fin 32) (cause : Nat) (direct : Bool) : (s.toFault n cause direct).stores = s.stores := by
  simp [State.toFault]

@[simp] theorem State.onEntry_stores (s : State) (n : Fin 32) : (s.onEntry n).stores = s.stores := by
  simp only [State.onEntry]
  repeat' split
  all_goals simp

@[simp] theorem State.rest_stores (k : Nat) (s : State) (n : Fin 32) : (State.rest k s n).stores = s.stores := by
  induction k generalizing s with
  | zero => rfl
  | succ k ih => simp [State.rest, ih]

@[simp] theorem State.enter_stores (s : State) (n : Fin 32) (st : LaneSt) (cause : Nat) : (s.enter n st cause).stores = s.stores := by
  simp [State.enter]

@[simp] theorem State.openTo_stores (s : State) (n : Fin 32) (target : LaneSt) (cause : Nat) (forced : Bool) :
    (s.openTo n target cause forced).stores = s.stores := by simp [State.openTo]

@[simp] theorem State.faultWith_stores (s : State) (n : Fin 32) (cause b : Nat) (direct : Bool) : (s.faultWith n cause b direct).stores = s.stores := by
  simp [State.faultWith]

@[simp] theorem State.retargetEnded_stores (s : State) (n : Fin 32) (cause : Nat) : (s.retargetEnded n cause).stores = s.stores := by
  simp [State.retargetEnded]

@[simp] theorem State.pilotEvent_stores (s : State) (n : Fin 32) (p : Pilot) : (s.pilotEvent n p).stores = s.stores := by
  simp only [State.pilotEvent]
  repeat' split
  all_goals simp

@[simp] theorem State.stopRequest_stores (s : State) (n : Fin 32) (cause : Nat) : (s.stopRequest n cause).stores = s.stores := by
  simp only [State.stopRequest]
  repeat' split
  all_goals simp

@[simp] theorem State.grantLane_stores (s : State) (n : Fin 32) : (s.grantLane n).stores = s.stores := by simp [State.grantLane]

@[simp] theorem State.revokeLane_stores (s : State) (n : Fin 32) : (s.revokeLane n).stores = s.stores := by
  simp only [State.revokeLane]
  repeat' split
  all_goals simp

@[simp] theorem State.permitFall_stores (s : State) (n : Fin 32) : (s.permitFall n).stores = s.stores := by
  simp only [State.permitFall]
  repeat' split
  all_goals simp

@[simp] theorem State.feedbackClosed_stores (s : State) (n : Fin 32) : (s.feedbackClosed n).stores = s.stores := by
  simp only [State.feedbackClosed]
  repeat' split
  all_goals simp

@[simp] theorem State.feedbackOpen_stores (s : State) (n : Fin 32) : (s.feedbackOpen n).stores = s.stores := by simp [State.feedbackOpen]

@[simp] theorem State.feedbackDrop_stores (s : State) (n : Fin 32) : (s.feedbackDrop n).stores = s.stores := by
  simp only [State.feedbackDrop]
  repeat' split
  all_goals simp

@[simp] theorem State.moduleBad_stores (s : State) (n : Fin 32) (b : Nat) : (s.moduleBad n b).stores = s.stores := by
  simp only [State.moduleBad]
  repeat' split
  all_goals simp

@[simp] theorem State.modOffChange_stores (s : State) (n : Fin 32) (on : Bool) : (s.modOffChange n on).stores = s.stores := by
  simp [State.modOffChange]

@[simp] theorem State.laneEnable_stores (s : State) (n : Fin 32) (on : Bool) : (s.laneEnable n on).stores = s.stores := by
  simp only [State.laneEnable]
  repeat' split
  all_goals simp

@[simp] theorem State.unhold_stores (s : State) (n : Fin 32) : (s.unhold n).stores = s.stores := by simp [State.unhold]

@[simp] theorem State.holdBegins_stores (s : State) (n : Fin 32) : (s.holdBegins n).stores = s.stores := by simp [State.holdBegins]

@[simp] theorem State.holdEnds_stores (s : State) : s.holdEnds.stores = s.stores := by simp [State.holdEnds]

@[simp] theorem State.sendSetpoint_stores (s : State) (n : Fin 32) : (s.sendSetpoint n).stores = s.stores := by simp [State.sendSetpoint]

@[simp] theorem State.watchFeedback_stores (s0 s : State) (n : Fin 32) : (State.watchFeedback s0 s n).stores = s.stores := by
  simp [State.watchFeedback]

@[simp] theorem State.watchLane_stores (s0 s : State) (n : Fin 32) : (State.watchLane s0 s n).stores = s.stores := by simp [State.watchLane]

@[simp] theorem State.watch_stores (s0 s : State) : (State.watch s0 s).stores = s.stores := by simp [State.watch]

/-! ### Load switch channels -/

@[simp] theorem State.setCh_stores (s : State) (c : Fin 48) (f : Chan → Chan) : (s.setCh c f).stores = s.stores := by simp [State.setCh]

@[simp] theorem State.setQuad_stores (s : State) (q : Fin 12) (f : Quad → Quad) : (s.setQuad q f).stores = s.stores := by simp [State.setQuad]

@[simp] theorem State.setLsw_stores (s : State) (f : Lsw → Lsw) : (s.setLsw f).stores = s.stores := by simp [State.setLsw]

@[simp] theorem State.chNote_stores (s : State) (c : Fin 48) : (s.chNote c).stores = s.stores := by simp [State.chNote]

@[simp] theorem State.chTo_stores (s : State) (c : Fin 48) (st : ChSt) : (s.chTo c st).stores = s.stores := by simp [State.chTo]

@[simp] theorem State.chOn_stores (s : State) (c : Fin 48) : (s.chOn c).stores = s.stores := by simp [State.chOn]

@[simp] theorem State.chFails_stores (s : State) (c : Fin 48) : (s.chFails c).stores = s.stores := by simp [State.chFails]

@[simp] theorem State.chLatch_stores (s : State) (c : Fin 48) : (s.chLatch c).stores = s.stores := by simp [State.chLatch]

@[simp] theorem State.auxTrip_stores (s : State) (c : Fin 48) (cause : Nat) : (s.auxTrip c cause).stores = s.stores := by simp [State.auxTrip]

@[simp] theorem State.chRestart_stores (s : State) (c : Fin 48) : (s.chRestart c).stores = s.stores := by
  simp only [State.chRestart]
  repeat' split
  all_goals simp

@[simp] theorem State.quadRestart_stores (s : State) (q : Fin 12) : (s.quadRestart q).stores = s.stores := by simp [State.quadRestart]

@[simp] theorem State.allSupply_stores (s : State) : s.allSupply.stores = s.stores := by simp [State.allSupply]

@[simp] theorem State.auxOn_stores (s : State) (c : Fin 48) : (s.auxOn c).stores = s.stores := by simp [State.auxOn]

@[simp] theorem State.auxOff_stores (s : State) (c : Fin 48) : (s.auxOff c).stores = s.stores := by simp [State.auxOff]

@[simp] theorem State.endSet_stores (s : State) (c : Fin 48) : (s.endSet c).stores = s.stores := by simp [State.endSet]

@[simp] theorem State.restoreChannel_stores (s : State) (c : Fin 48) (on : Bool) : (s.restoreChannel c on).2.stores = s.stores := by
  simp only [State.restoreChannel]
  repeat' split
  all_goals simp

@[simp] theorem State.shuntDemand_stores (s : State) : s.shuntDemand.stores = s.stores := by
  simp only [State.shuntDemand]
  repeat' split
  all_goals simp

/-! ### The safety island -/

@[simp] theorem State.setIsland_stores (s : State) (f : Saf → Saf) : (s.setIsland f).stores = s.stores := by simp [State.setIsland]

@[simp] theorem State.setSin_stores (s : State) (i : Fin 72) (f : Sin → Sin) : (s.setSin i f).stores = s.stores := by simp [State.setSin]

@[simp] theorem State.setTps_stores (s : State) (k : Fin 4) (f : Tps → Tps) : (s.setTps k f).stores = s.stores := by simp [State.setTps]

@[simp] theorem State.latchSet_stores (s : State) (n : Fin 32) (k idx : Nat) : (s.latchSet n k idx).stores = s.stores := by simp [State.latchSet]

@[simp] theorem State.latchClear_stores (s : State) (n : Fin 32) (k : Nat) : (s.latchClear n k).stores = s.stores := by simp [State.latchClear]

@[simp] theorem State.sinSay_stores (s : State) (i : Fin 72) (code : Nat) : (s.sinSay i code).stores = s.stores := by simp [State.sinSay]

@[simp] theorem State.sinResult_stores (s : State) (i : Fin 72) : (s.sinResult i).stores = s.stores := by simp [State.sinResult]

@[simp] theorem State.sinAct_stores (s : State) (i : Fin 72) : (s.sinAct i).stores = s.stores := by simp [State.sinAct]

@[simp] theorem State.autoRst_stores (s : State) : s.autoRst.stores = s.stores := by simp [State.autoRst]

@[simp] theorem State.pairCheck_stores (s : State) (i : Fin 72) : (s.pairCheck i).stores = s.stores := by simp [State.pairCheck]

@[simp] theorem State.tpsOff_stores (s : State) (k : Fin 4) : (s.tpsOff k).stores = s.stores := by simp [State.tpsOff]

@[simp] theorem State.tpsDue_stores (s : State) (k : Fin 4) : (s.tpsDue k).stores = s.stores := by simp [State.tpsDue]

@[simp] theorem State.residual_stores (s : State) (n : Fin 32) (xs : List Int) : (s.residual n xs).stores = s.stores := by simp [State.residual]

@[simp] theorem State.weldJudged_stores (s : State) (n : Fin 32) (kind : Nat) : (s.weldJudged n kind).stores = s.stores := by simp [State.weldJudged]

@[simp] theorem State.offPath_stores (s : State) (n : Fin 32) : (s.offPath n).stores = s.stores := by simp [State.offPath]

@[simp] theorem State.offReadback_stores (s : State) (n : Fin 32) (high : Bool) (limit : Nat) : (s.offReadback n high limit).stores = s.stores := by
  simp [State.offReadback]

@[simp] theorem State.offPulseDue_stores (s : State) (n : Fin 32) : (s.offPulseDue n).stores = s.stores := by
  simp only [State.offPulseDue]
  repeat' split
  all_goals simp

@[simp] theorem State.islandDue_stores (s : State) : s.islandDue.stores = s.stores := by simp [State.islandDue]

@[simp] theorem State.disarm_stores (s : State) (cause : Nat) : (s.disarm cause).stores = s.stores := by simp [State.disarm]

@[simp] theorem State.coreDown_stores (s : State) (errBit : Nat) : (s.coreDown errBit).stores = s.stores := by simp [State.coreDown]

@[simp] theorem State.coreChecks_stores (s : State) (n : Fin 32) (coilHigh : Bool) : (s.coreChecks n coilHigh).stores = s.stores := by
  simp [State.coreChecks]

@[simp] theorem State.coreOutputs_stores (s : State) : s.coreOutputs.stores = s.stores := by simp [State.coreOutputs]

@[simp] theorem State.coreCrc_stores (s : State) (crc : BitVec 32) : (s.coreCrc crc).stores = s.stores := by simp [State.coreCrc]

@[simp] theorem State.coreSamples_stores (s : State) (raws : List (BitVec 72)) : (s.coreSamples raws).stores = s.stores := by simp [State.coreSamples]

@[simp] theorem State.coreCycle_stores (s : State) (raws : List (BitVec 72)) (coilHigh crc : BitVec 32) :
    (s.coreCycle raws coilHigh crc).stores = s.stores := by simp [State.coreCycle]

/-! ### Redundant pairs -/

@[simp] theorem State.setPair_stores (s : State) (f : Pair → Pair) : (s.setPair f).stores = s.stores := by simp [State.setPair]

@[simp] theorem State.mclkPlan_stores (s : State) : s.mclkPlan.stores = s.stores := by simp [State.mclkPlan]

@[simp] theorem State.pairResult_stores (s : State) (detail : Nat) : (s.pairResult detail).stores = s.stores := by simp [State.pairResult]

@[simp] theorem State.pairSend_stores (s : State) (ty : Nat) (payload : Bytes) : (s.pairSend ty payload).stores = s.stores := by simp [State.pairSend]

@[simp] theorem State.dropPairHold_stores (s : State) : s.dropPairHold.stores = s.stores := by simp [State.dropPairHold]

@[simp] theorem State.takePairHold_stores (s : State) (f : Pair → Pair) : (s.takePairHold f).stores = s.stores := by simp [State.takePairHold]

@[simp] theorem State.holdFall_stores (s : State) : s.holdFall.stores = s.stores := by simp [State.holdFall]

@[simp] theorem State.pairRelease_stores (s : State) (orderly : Bool) : (s.pairRelease orderly).stores = s.stores := by
  simp only [State.pairRelease]
  repeat' split
  all_goals simp

@[simp] theorem State.holdRise_stores (s : State) : s.holdRise.stores = s.stores := by
  simp only [State.holdRise]
  repeat' split
  all_goals simp

@[simp] theorem State.healthWatch_stores (s : State) : s.healthWatch.stores = s.stores := by simp [State.healthWatch]

@[simp] theorem State.askTakeback_stores (s : State) : s.askTakeback.stores = s.stores := by simp [State.askTakeback]

@[simp] theorem State.feedWatch_stores (s : State) : s.feedWatch.stores = s.stores := by simp [State.feedWatch]

@[simp] theorem State.sendBlocks_stores (s : State) : s.sendBlocks.stores = s.stores := by simp [State.sendBlocks]

@[simp] theorem State.pairWatch_stores (s : State) : s.pairWatch.stores = s.stores := by simp [State.pairWatch]

/-! ### Resets -/

@[simp] theorem State.toVbat_stores (s : State) : s.toVbat.stores = s.stores := by simp [State.toVbat]

/-! ### The end of a command -/

@[simp] theorem State.restoreMember_stores (s : State) (f : Flight) (u : Nat) : (s.restoreMember f u).2.stores = s.stores := by
  simp only [State.restoreMember]
  repeat' split
  all_goals simp

@[simp] theorem State.restoreOne_stores (s : State) (f : Flight) (u : Nat) : (s.restoreOne f u).stores = s.stores := by
  simp only [State.restoreOne]
  repeat' split
  all_goals simp

@[simp] theorem State.gangInverse_stores (s : State) (f : Flight) : (s.gangInverse f).stores = s.stores := by simp [State.gangInverse]

@[simp] theorem State.inverses_stores (s : State) : s.inverses.stores = s.stores := by simp [State.inverses]

@[simp] theorem State.surveyWatch_stores (s : State) : s.surveyWatch.stores = s.stores := by
  simp only [State.surveyWatch]
  repeat' split
  all_goals simp

/-! ### The counting board -/

@[simp] theorem State.arbCharge_stores (s : State) (i : Fin 16) (beats : Int) : (s.arbCharge i beats).stores = s.stores := by simp [State.arbCharge]

@[simp] theorem State.arbRevoke_stores (s : State) (g : ArbReq) : (s.arbRevoke g).stores = s.stores := by simp [State.arbRevoke]

@[simp] theorem State.arbitrate_stores (s : State) (target : Nat) : (s.arbitrate target).stores = s.stores := by
  simp only [State.arbitrate]
  repeat' split
  all_goals simp

@[simp] theorem State.arbAll_stores (s : State) : s.arbAll.stores = s.stores := by simp [State.arbAll]

/-! ### The site line -/

@[simp] theorem State.setLine_stores (s : State) (f : LineSt → LineSt) : (s.setLine f).stores = s.stores := by simp [State.setLine]

@[simp] theorem State.netResult_stores (s : State) : s.netResult.stores = s.stores := by simp [State.netResult]

@[simp] theorem State.lineTo_stores (s : State) (st : Nat) : (s.lineTo st).stores = s.stores := by simp [State.lineTo]

@[simp] theorem State.neighResult_stores (s : State) (n : LineNeigh) (detail : Nat) : (s.neighResult n detail).stores = s.stores := by
  simp [State.neighResult]

@[simp] theorem State.setNeigh_stores (s : State) (a : Nat) (f : LineNeigh → LineNeigh) : (s.setNeigh a f).stores = s.stores := by
  simp [State.setNeigh]

@[simp] theorem State.lineHear_stores (s : State) (a snr : Nat) : (s.lineHear a snr).stores = s.stores := by
  simp only [State.lineHear]
  repeat' split
  all_goals simp

@[simp] theorem State.lineLevel_stores (s : State) : s.lineLevel.stores = s.stores := by simp [State.lineLevel]

@[simp] theorem State.lineStart_stores (s : State) : s.lineStart.stores = s.stores := by simp [State.lineStart]

@[simp] theorem State.lineReset_stores (s : State) : s.lineReset.stores = s.stores := by simp [State.lineReset]

@[simp] theorem State.lineQueue_stores (s : State) (ty prio : Nat) (ackReq : Bool) (dst next : Nat) (upward band : Bool) (body : Bytes) :
    (s.lineQueue ty prio ackReq dst next upward band body).stores = s.stores := by simp [State.lineQueue]

@[simp] theorem State.lineBroadcast_stores (s : State) (ty prio : Nat) (band : Bool) (body : Bytes) :
    (s.lineBroadcast ty prio band body).stores = s.stores := by simp [State.lineBroadcast]

@[simp] theorem State.lineAdvert_stores (s : State) : s.lineAdvert.stores = s.stores := by simp [State.lineAdvert]

@[simp] theorem State.lineReports_stores (s : State) : s.lineReports.stores = s.stores := by
  simp only [State.lineReports]
  repeat' split
  all_goals simp

@[simp] theorem State.lineRollover_stores (s : State) : s.lineRollover.stores = s.stores := by simp [State.lineRollover]

@[simp] theorem State.takeFcnt_stores (s : State) (o : LineOut) (storeOk : Bool) : (s.takeFcnt o storeOk).2.stores = s.stores := by
  simp only [State.takeFcnt]
  repeat' split
  all_goals simp

@[simp] theorem State.lineSend_stores (s : State) (o : LineOut) (storeOk ack : Bool) : (s.lineSend o storeOk ack).2.stores = s.stores := by
  have counter := State.takeFcnt_stores s o storeOk
  simp only [State.lineSend]
  split
  · rfl
  · split
    · simp
    · split
      next refused => simpa [refused] using counter
      next taken =>
        have same : (s.takeFcnt o storeOk).2.stores = s.stores := counter
        rw [taken] at same
        cases s.keyVal 4 <;> simpa using same

/-! ### Commands of the register book -/

@[simp] theorem State.bookTick_stores (s : State) : s.bookTick.stores = s.stores := by
  simp only [State.bookTick]
  split
  · rfl
  · rw [State.settleRate_stores]
    exact (foldl_stores _ (fun u _ => by split <;> simp) _ _).trans (by simp)

@[simp] theorem State.tamperResult_stores (s : State) (detail : Nat) (ended : Bool) : (s.tamperResult detail ended).stores = s.stores := by
  simp [State.tamperResult]

@[simp] theorem State.sealEntry_stores (s : State) (closed : Bool) (unpowered : Bool) (sec : Nat) :
    (s.sealEntry closed unpowered sec).stores = s.stores := by simp [State.sealEntry]

@[simp] theorem State.sealTo_stores (s : State) (isOpen unpowered : Bool) (sec : Nat) : (s.sealTo isOpen unpowered sec).stores = s.stores := by
  simp [State.sealTo]

@[simp] theorem State.bookCommand_stores (s : State) (i : Instr) (opcode : Nat) (d : Desc) (lenOk paramOk : Bool) (act : State → State)
    (h : ∀ u, (act u).stores = u.stores) : (s.bookCommand i opcode d lenOk paramOk act).stores = s.stores :=
  State.accept_stores _ _ _ _ _ _ _ _ _ fun u => by simp [h]

@[simp] theorem State.calRefuse_stores (s : State) (d : Desc) (status inline : Nat) : (s.calRefuse d status inline).stores = s.stores := by
  simp [State.calRefuse]

/-! ### The vehicle link -/

@[simp] theorem State.linkStop_stores (s : State) (n : Fin 32) (reason : Nat) (timer : Nat) : (s.linkStop n reason timer).stores = s.stores := by
  simp [State.linkStop]

@[simp] theorem State.say_stores (s : State) (n : Fin 32) (kind code : Nat) (body : Bytes) : (s.say n kind code body).stores = s.stores := by
  simp [State.say]

@[simp] theorem State.reply_stores (s : State) (n : Fin 32) (kind code : Nat) (raw : Bytes) (body : Bytes) :
    (s.reply n kind code raw body).stores = s.stores := by simp [State.reply]

@[simp] theorem State.mmeSend_stores (s : State) (n : Fin 32) (kind : Nat) (dst : BitVec 48) (run : BitVec 64) (body : Bytes) :
    (s.mmeSend n kind dst run body).stores = s.stores := by simp [State.mmeSend]

@[simp] theorem State.frameIn_stores (s : State) (n : Fin 32) (rx : PlcRx) : (s.frameIn n rx).2.2.stores = s.stores := by
  simp only [State.frameIn]
  repeat' split
  all_goals simp

@[simp] theorem State.mmeIn_stores (s : State) (n : Fin 32) (rx : PlcRx) (act : State → State) (h : ∀ u, (act u).stores = u.stores) :
    (s.mmeIn n rx act).stores = s.stores := by
  have frame := State.frameIn_stores s n rx
  unfold State.mmeIn
  split
  · rfl
  · split
    next heard => simpa [h, heard] using frame
    next heard => simpa [heard] using frame

@[simp] theorem State.phaseTo_stores (s : State) (n : Fin 32) (p : Nat) : (s.phaseTo n p).stores = s.stores := by simp [State.phaseTo]

@[simp] theorem State.linkResult_stores (s : State) (n : Fin 32) : (s.linkResult n).stores = s.stores := by simp [State.linkResult]

@[simp] theorem State.failAttempt_stores (s : State) (n : Fin 32) : (s.failAttempt n).stores = s.stores := by simp [State.failAttempt]

@[simp] theorem State.setRun_stores (s : State) (seq : Nat) (f : Run → Run) : (s.setRun seq f).stores = s.stores := by simp [State.setRun]

@[simp] theorem State.decideRun_stores (s : State) (seq : Nat) (by_ : EventKey) : (s.decideRun seq by_).stores = s.stores := by
  simp only [State.decideRun]
  repeat' split
  all_goals simp

@[simp] theorem State.attenSend_stores (s : State) (n : Fin 32) : (s.attenSend n).stores = s.stores := by simp [State.attenSend]

@[simp] theorem State.idleCandidates_stores (s : State) : s.idleCandidates.stores = s.stores := by simp [State.idleCandidates]

@[simp] theorem State.returnRun_stores (s : State) (r : Run) (det lane own second counted : Nat) (ms : List Nat) :
    (s.returnRun r det lane own second counted ms).stores = s.stores := by
  simp only [State.returnRun]
  repeat' split
  all_goals simp

@[simp] theorem State.refuseMsg_stores (s : State) (n : Fin 32) (m : V2g) (cls kind code : Nat) : (s.refuseMsg n m cls kind code).stores = s.stores := by
  simp [State.refuseMsg]

@[simp] theorem State.receive_stores (s : State) (n : Fin 32) (m : V2g) (kind : Nat) (allowed needSession : Bool) (act : State → State)
    (h : ∀ u, (act u).stores = u.stores) : (s.receive n m kind allowed needSession act).stores = s.stores := by
  simp [State.receive, h]

@[simp] theorem State.clampOnce_stores (s : State) (n : Fin 32) (m : V2g) (kind : Nat) (inRange : Bool) :
    (s.clampOnce n m kind inRange).2.stores = s.stores := by
  simp only [State.clampOnce]
  repeat' split
  all_goals simp

@[simp] theorem State.linkDecision_stores (s : State) (n : Fin 32) (granted : Bool) : (s.linkDecision n granted).stores = s.stores := by
  simp [State.linkDecision]

/-! ### Commands of the ledger -/

@[simp] theorem State.decisionResult_stores (s : State) (target reason : Nat) (about : Grant) (e : Option Grant) :
    (s.decisionResult target reason about e).stores = s.stores := by simp [State.decisionResult]

@[simp] theorem State.lateFault_stores (s : State) : s.lateFault.stores = s.stores := by simp [State.lateFault]

@[simp] theorem State.judgeAnnounce_stores (s : State) (g : Fin 36) (reason : Nat) : (s.judgeAnnounce g reason).2.2.stores = s.stores := by
  simp only [State.judgeAnnounce]
  repeat' split
  all_goals simp

@[simp] theorem State.starts_stores (s : State) (n : Fin 32) (p : Option Nat) : (s.starts n p).stores = s.stores := by simp [State.starts]

@[simp] theorem State.freeSlot_stores (s : State) (slot : Nat) : (s.freeSlot slot).stores = s.stores := by simp [State.freeSlot]

@[simp] theorem State.blocksBad_stores (s : State) (area : Fin 2) (bad : List Nat) : (s.blocksBad area bad).stores = s.stores := by
  simp [State.blocksBad]

@[simp] theorem State.damaged_stores (s : State) (badA badB : Bool) (badJournal : List Nat) : (s.damaged badA badB badJournal).stores = s.stores := by
  simp [State.damaged]

@[simp] theorem State.unreadable_stores (s : State) : s.unreadable.2.stores = s.stores := by simp [State.unreadable]

@[simp] theorem State.orphanReport_stores (s : State) (o : Orphan) : (s.orphanReport o).stores = s.stores := by simp [State.orphanReport]

@[simp] theorem State.resyncTally_stores (ues : List Nat) (s : State) (slot : Nat) : (State.resyncTally ues s slot).stores = s.stores := by
  simp [State.resyncTally]

/-! ### Readers and tokens -/

@[simp] theorem State.setReader_stores (s : State) (r : Fin 4) (f : Reader → Reader) : (s.setReader r f).stores = s.stores := by
  simp [State.setReader]

@[simp] theorem State.tokSay_stores (s : State) (r : Fin 4) (antenna purseId n t g hub session opcode detail inline : Nat) :
    (s.tokSay r antenna purseId n t g hub session opcode detail inline).stores = s.stores := by simp [State.tokSay]

@[simp] theorem State.tokResult_stores (s : State) (r : Fin 4) (opcode detail inline : Nat) :
    (s.tokResult r opcode detail inline).stores = s.stores := by simp [State.tokResult]

@[simp] theorem State.heldResult_stores (s : State) (r : Fin 4) (h : Held) (detail : Nat) : (s.heldResult r h detail).stores = s.stores := by
  simp [State.heldResult]

@[simp] theorem State.tapOver_stores (s : State) (r : Fin 4) : (s.tapOver r).stores = s.stores := by simp [State.tapOver]

@[simp] theorem State.repeatGuard_stores (s : State) (r : Fin 4) : (s.repeatGuard r).stores = s.stores := by simp [State.repeatGuard]

@[simp] theorem State.refuseTap_stores (s : State) (r : Fin 4) (reason : Nat) : (s.refuseTap r reason).stores = s.stores := by simp [State.refuseTap]

@[simp] theorem State.killedTap_stores (s : State) (r : Fin 4) (detail : Nat) : (s.killedTap r detail).stores = s.stores := by simp [State.killedTap]

@[simp] theorem State.withdraw_stores (s : State) (r : Fin 4) (orphanFlag : Bool) (lane : Nat) : (s.withdraw r orphanFlag lane).stores = s.stores := by
  simp [State.withdraw]

@[simp] theorem State.withdrawTap_stores (s : State) (r : Fin 4) (orphanFlag : Bool) : (s.withdrawTap r orphanFlag).stores = s.stores := by
  simp [State.withdrawTap]

@[simp] theorem State.dropHeld_stores (s : State) (r : Fin 4) (h : Held) (orphanFlag : Bool) : (s.dropHeld r h orphanFlag).stores = s.stores := by
  simp [State.dropHeld]

@[simp] theorem State.commitTap_stores (s : State) (r : Fin 4) : (s.commitTap r).stores = s.stores := by
  simp only [State.commitTap]
  repeat' split
  all_goals simp

@[simp] theorem State.afterRepair_stores (s : State) (r : Fin 4) : (s.afterRepair r).stores = s.stores := by simp [State.afterRepair]

@[simp] theorem State.repairOr_stores (s : State) (r : Fin 4) (refuse : Nat) : (s.repairOr r refuse).stores = s.stores := by simp [State.repairOr]

@[simp] theorem State.collapse_stores (s : State) (r : Fin 4) : (s.collapse r).stores = s.stores := by
  simp only [State.collapse]
  repeat' split
  all_goals simp

@[simp] theorem State.collapseAll_stores (s : State) : s.collapseAll.stores = s.stores := by simp [State.collapseAll]

@[simp] theorem State.dropReservations_stores (s : State) : s.dropReservations.stores = s.stores :=
  foldl_stores _ (fun u r => by
    simp only
    split <;> (try split) <;> (try split) <;> simp) _ _

@[simp] theorem State.exchange_stores (s : State) (r : Fin 4) (ins : Byte) (data : Bytes) (a : TokAns) :
    (s.exchange r ins data a).2.stores = s.stores := by simp [State.exchange]

@[simp] theorem State.dropUncommitted_stores (s : State) (r : Fin 4) : (s.dropUncommitted r).stores = s.stores := by
  simp only [State.dropUncommitted]
  repeat' split
  all_goals simp

@[simp] theorem State.answeredKilled_stores (s : State) (r : Fin 4) : (s.answeredKilled r).stores = s.stores := by simp [State.answeredKilled]

@[simp] theorem State.answeredWrong_stores (s : State) (r : Fin 4) : (s.answeredWrong r).stores = s.stores := by simp [State.answeredWrong]

@[simp] theorem State.passDone_stores (s : State) (r : Fin 4) (p : List Bytes × Option Nat) : (s.passDone r p).stores = s.stores := by
  simp [State.passDone]

@[simp] theorem State.reserve_stores (s : State) (r : Fin 4) : (s.reserve r).stores = s.stores := by simp [State.reserve]

@[simp] theorem State.retap_stores (s : State) (r : Fin 4) (h : Held) (landed : Bool) : (s.retap r h landed).stores = s.stores := by
  simp [State.retap]

@[simp] theorem State.slotsRead_stores (s : State) (r : Fin 4) (block1 block2 block3 : Bytes) :
    (s.slotsRead r block1 block2 block3).stores = s.stores := by
  simp only [State.slotsRead]
  repeat' split
  all_goals simp

@[simp] theorem State.answered_stores (before s : State) (r : Fin 4) (hs : List Heard) (f : List Bytes → State → State)
    (h : ∀ bs, (f bs s).stores = s.stores) (same : before.stores = s.stores) : (State.answered before s r hs f).stores = s.stores := by
  unfold State.answered
  split <;> simp [h, same]

/-! ### Keys and trust -/

@[simp] theorem State.setKeys_stores (s : State) (f : Keys → Keys) : (s.setKeys f).stores = s.stores := by simp [State.setKeys]

@[simp] theorem State.startRoot_stores (s : State) : s.startRoot.stores = s.stores := by simp [State.startRoot]

@[simp] theorem State.zeroised_stores (s : State) : s.zeroised.stores = s.stores := by
  simp only [State.zeroised]
  repeat' split
  all_goals simp

@[simp] theorem State.putKeyCopy_stores (s : State) (c : KeyCopy) : (s.putKeyCopy c).stores = s.stores := by simp [State.putKeyCopy]

@[simp] theorem State.loadKeys_stores (s : State) : s.loadKeys.stores = s.stores := by
  simp only [State.loadKeys]
  repeat' split
  all_goals simp

@[simp] theorem drawKeys_stores (x : List Nat) (x2 : List KeyEntry) (s : State) : (drawKeys x x2 s).2.stores = s.stores := by
  induction x generalizing x2 s with
  | nil => rfl
  | cons i is ih => simp [drawKeys, ih]

@[simp] theorem State.endKeyUpdate_stores (s : State) (status : Nat) (payload : Bytes) : (s.endKeyUpdate status payload).stores = s.stores := by
  simp only [State.endKeyUpdate]
  repeat' split
  all_goals simp

/-! ### The management core -/

@[simp] theorem State.setMgt_stores (s : State) (f : Mgt → Mgt) : (s.setMgt f).stores = s.stores := by simp [State.setMgt]

@[simp] theorem State.upd_stores (s : State) (detail : Nat) (version : Reg) : (s.upd detail version).stores = s.stores := by simp [State.upd]

@[simp] theorem State.takeHold_stores (s : State) : s.takeHold.stores = s.stores := by simp [State.takeHold]

@[simp] theorem State.dropHold_stores (s : State) : s.dropHold.stores = s.stores := by simp [State.dropHold]

@[simp] theorem State.abortOps_stores (s : State) (ops : List Nat) : (s.abortOps ops).stores = s.stores := by simp [State.abortOps]

@[simp] theorem State.exportEvents_stores (s : State) : s.exportEvents.stores = s.stores := by simp [State.exportEvents]

@[simp] theorem State.endBundle_stores (s : State) (status : Nat) : (s.endBundle status).stores = s.stores := by
  simp only [State.endBundle]
  repeat' split
  all_goals simp

@[simp] theorem State.cancelSched_stores (s : State) : s.cancelSched.stores = s.stores := by simp [State.cancelSched]

@[simp] theorem State.takeSched_stores (s : State) (b : Bytes) : (s.takeSched b).2.stores = s.stores := by
  simp only [State.takeSched]
  repeat' split
  all_goals simp

@[simp] theorem State.relaySched_stores (s : State) (ok : Bool) (source : Nat) (b : Bytes) : (s.relaySched ok source b).stores = s.stores := by
  simp [State.relaySched]

@[simp] theorem State.peerSched_stores (s : State) (b : Bytes) (source : Nat) : (s.peerSched b source).stores = s.stores := by simp [State.peerSched]

@[simp] theorem State.runSchedWait_stores (s : State) : s.runSchedWait.stores = s.stores := by
  refine (foldl_stores _ (fun u p => ?_) _ _).trans (by simp)
  simp only
  split
  · split <;> simp
  · simp

/-! ### Display ports -/

@[simp] theorem State.setEpd_stores (s : State) (p : Fin 4) (f : EpdPort → EpdPort) : (s.setEpd p f).stores = s.stores := by simp [State.setEpd]

@[simp] theorem State.epdComplete_stores (s : State) (p : Fin 4) (pass : Option Nat) (status inline : Nat) :
    (s.epdComplete p pass status inline).stores = s.stores := by
  simp only [State.epdComplete]
  repeat' split
  all_goals simp

@[simp] theorem State.epdBegin_stores (s : State) (p : Fin 4) (pass : Option Nat) (mode : Nat) (lines : List EpdLine) :
    (s.epdBegin p pass mode lines).stores = s.stores := by simp [State.epdBegin]

@[simp] theorem State.epdNextJob_stores (p : Fin 4) (k : Nat) (s : State) : (State.epdNextJob p k s).stores = s.stores := by
  induction k generalizing s with
  | zero => rfl
  | succ k ih =>
    simp only [State.epdNextJob]
    split
    · rfl
    · simp [ih]

@[simp] theorem State.epdNext_stores (s : State) (p : Fin 4) : (s.epdNext p).stores = s.stores := by simp [State.epdNext]

@[simp] theorem State.epdBetween_stores (s : State) (p : Fin 4) : (s.epdBetween p).stores = s.stores := by simp [State.epdBetween]

@[simp] theorem State.epdRefuse_stores (s : State) (p : Fin 4) (r : EpdRun) (status : Nat) : (s.epdRefuse p r status).stores = s.stores := by
  simp [State.epdRefuse]

@[simp] theorem State.epdCleared_stores (s : State) (p : Fin 4) : (s.epdCleared p).stores = s.stores := by simp [State.epdCleared]

@[simp] theorem State.epdEnd_stores (s : State) (p : Fin 4) (r : EpdRun) : (s.epdEnd p r).stores = s.stores := by
  simp only [State.epdEnd]
  repeat' split
  all_goals simp

@[simp] theorem State.epdWriteScript_stores (s : State) (p : Fin 4) : (s.epdWriteScript p).stores = s.stores := by simp [State.epdWriteScript]

@[simp] theorem State.epdStart_stores (s : State) (p : Fin 4) : (s.epdStart p).stores = s.stores := by simp [State.epdStart]

@[simp] theorem State.epdStartAll_stores (s : State) : s.epdStartAll.stores = s.stores := by simp [State.epdStartAll]

@[simp] theorem State.epdInterrupt_stores (s : State) (p : Fin 4) (status : Option Nat) : (s.epdInterrupt p status).stores = s.stores := by
  simp only [State.epdInterrupt]
  repeat' split
  all_goals simp

@[simp] theorem State.epdDropJobs_stores (s : State) (p : Fin 4) : (s.epdDropJobs p).stores = s.stores := by simp [State.epdDropJobs]

@[simp] theorem State.epdAbortAll_stores (s : State) : s.epdAbortAll.stores = s.stores := by simp [State.epdAbortAll]

@[simp] theorem State.epdBlockReset_stores (s : State) : s.epdBlockReset.stores = s.stores := by simp [State.epdBlockReset]

@[simp] theorem State.epdPowerUp_stores (s : State) (p : Fin 4) : (s.epdPowerUp p).stores = s.stores := by simp [State.epdPowerUp]

@[simp] theorem State.onPort_stores (s : State) (ring opcode : Nat) (d : Desc) (act : Fin 4 → State → State)
    (h : ∀ p u, (act p u).stores = u.stores) : (s.onPort ring opcode d act).stores = s.stores := by
  unfold State.onPort
  split <;> simp [h]

@[simp] theorem State.uartDone_stores (s : State) : s.uartDone.stores = s.stores := by simp [State.uartDone]

@[simp] theorem State.uartChunks_stores (p : Fin 4) (idle : Bool) (k : Nat) (s : State) : (State.uartChunks p idle k s).stores = s.stores := by
  induction k generalizing s with
  | zero => rfl
  | succ k ih => simp [State.uartChunks, ih]

/-! ### Bundles -/

@[simp] theorem State.startBundle_stores (s : State) (b : Bytes) : (s.startBundle b).stores = s.stores := by simp [State.startBundle]

/-! ### Frames of the site line -/

@[simp] theorem State.scheduleAck_stores (s : State) (rx : LineRx) (f : LineFrame) : (s.scheduleAck rx f).stores = s.stores := by
  simp [State.scheduleAck]

@[simp] theorem State.lineForward_stores (s : State) (rx : LineRx) (f : LineFrame) (next : Nat) (up : Bool) (route : List Nat) :
    (s.lineForward rx f next up route).stores = s.stores := by simp [State.lineForward]

@[simp] theorem State.lineRepeatUnicast_stores (s : State) (rx : LineRx) (f : LineFrame) : (s.lineRepeatUnicast rx f).stores = s.stores := by
  simp only [State.lineRepeatUnicast]
  repeat' split
  all_goals simp

@[simp] theorem State.lineRepeatBroadcast_stores (s : State) (rx : LineRx) (f : LineFrame) : (s.lineRepeatBroadcast rx f).stores = s.stores := by
  simp [State.lineRepeatBroadcast]

@[simp] theorem State.lineDeliver_stores (s : State) (rx : LineRx) (f : LineFrame) (act : LineFrame → State → State)
    (h : ∀ f u, (act f u).stores = u.stores) : (s.lineDeliver rx f act).stores = s.stores := by
  simp [State.lineDeliver, h]

@[simp] theorem State.lineReceive_stores (s : State) (rx : LineRx) (tys : List Nat) (act : LineFrame → State → State)
    (h : ∀ f u, (act f u).stores = u.stores) : (s.lineReceive rx tys act).stores = s.stores := by
  simp [State.lineReceive, h]

@[simp] theorem State.rxResult_stores (s : State) (rx : LineRx) (f : LineFrame) : (s.rxResult rx f).stores = s.stores := by simp [State.rxResult]

@[simp] theorem State.takeBeacon_stores (s : State) (rx : LineRx) (g : LineFrame) : (s.takeBeacon rx g).stores = s.stores := by
  simp only [State.takeBeacon]
  repeat' split
  all_goals simp

@[simp] theorem State.beacon_stores (s : State) (storeOk : Bool) : (s.beacon storeOk).stores = s.stores := by simp [State.beacon]

/-! ### Cycles and captures -/

@[simp] theorem State.endCapture_stores (s : State) (i : Fin 4) (status : Nat) : (s.endCapture i status).stores = s.stores := by
  simp only [State.endCapture]
  repeat' split
  all_goals simp

@[simp] theorem State.captureCycle_stores (s : State) (c : Cycle) (i : Fin 4) : (s.captureCycle c i).stores = s.stores := by
  simp only [State.captureCycle]
  repeat' split
  all_goals simp

@[simp] theorem State.endCycle_stores (s : State) (n : Fin 32) (wins : List BitWindow) (upTo next : Nat) :
    (s.endCycle n wins upTo next).stores = s.stores := by simp [State.endCycle]

@[simp] theorem State.resRestart_stores (s : State) (n : Fin 32) : (s.resRestart n).stores = s.stores := by simp [State.resRestart]

@[simp] theorem State.chainStart_stores (s : State) (n : Fin 32) : (s.chainStart n).stores = s.stores := by simp [State.chainStart]

@[simp] theorem State.chainStop_stores (s : State) (n : Fin 32) : (s.chainStop n).stores = s.stores := by simp [State.chainStop]

/-! ### Frames of a pair -/

@[simp] theorem State.goodFrame_stores (s : State) : s.goodFrame.stores = s.stores := by simp [State.goodFrame]

@[simp] theorem State.syncCheck_stores (s : State) : s.syncCheck.stores = s.stores := by simp [State.syncCheck]

@[simp] theorem State.joinEntry_stores (s : State) (e : JEntry) : (s.joinEntry e).stores = s.stores := by simp [State.joinEntry]

@[simp] theorem State.sendBulk_stores (s : State) : s.sendBulk.stores = s.stores := by simp [State.sendBulk]

@[simp] theorem State.bulkUnit_stores (s : State) (u : Bytes) : (s.bulkUnit u).stores = s.stores := by
  simp only [State.bulkUnit]
  repeat' split
  all_goals simp

@[simp] theorem State.cancelHandover_stores (s : State) : s.cancelHandover.stores = s.stores := by simp [State.cancelHandover]

/-! ### Metrology -/

@[simp] theorem State.legalUe_stores (s : State) : s.legalUe.stores = s.stores := by simp [State.legalUe]

/-! ### Power and clocks -/

@[simp] theorem State.setPower_stores (s : State) (f : Power → Power) : (s.setPower f).stores = s.stores := by simp [State.setPower]

@[simp] theorem State.setFeed_stores (s : State) (i : Fin 2) (x : Feed) : (s.setFeed i x).stores = s.stores := by simp [State.setFeed]

@[simp] theorem State.feedEvent_stores (s : State) (i : Fin 2) : (s.feedEvent i).stores = s.stores := by simp [State.feedEvent]

@[simp] theorem State.dropAt_stores (s : State) (f : Nat) : (s.dropAt f).stores = s.stores := by simp [State.dropAt]

@[simp] theorem State.shadowCapture_stores (s : State) : s.shadowCapture.stores = s.stores := by
  simp only [State.shadowCapture]
  repeat' split
  all_goals simp

@[simp] theorem State.putSlot_stores (s : State) (slotB : Bool) (x : CommitSlot) : (s.putSlot slotB x).stores = s.stores := by simp [State.putSlot]

@[simp] theorem State.clockLost_stores (s : State) (b : Nat) : (s.clockLost b).stores = s.stores := by simp [State.clockLost]

@[simp] theorem State.clockBack_stores (s : State) (b : Nat) : (s.clockBack b).stores = s.stores := by simp [State.clockBack]

@[simp] theorem State.clockFailure_stores (s : State) : s.clockFailure.stores = s.stores := by simp [State.clockFailure]

/-! ### Profiles -/

@[simp] theorem State.pairLeave_stores (s : State) : s.pairLeave.stores = s.stores := by simp [State.pairLeave]

@[simp] theorem State.sinRestart_stores (s0 s : State) (i : Fin 72) : (State.sinRestart s0 s i).stores = s.stores := by simp [State.sinRestart]

@[simp] theorem State.tpsSwitch_stores (s0 s : State) (k : Fin 4) : (State.tpsSwitch s0 s k).stores = s.stores := by simp [State.tpsSwitch]

@[simp] theorem State.safSwitch_stores (s0 s : State) : (State.safSwitch s0 s).stores = s.stores := by simp [State.safSwitch]

@[simp] theorem State.claimSwitch_stores (s0 s : State) : (State.claimSwitch s0 s).stores = s.stores := by
  simp only [State.claimSwitch]
  repeat' split
  all_goals simp

@[simp] theorem State.altSwitch_stores (s0 s : State) : (State.altSwitch s0 s).stores = s.stores := by simp [State.altSwitch]

@[simp] theorem State.blockRestart_stores (s0 s : State) (n : Fin 32) : (State.blockRestart s0 s n).stores = s.stores := by simp [State.blockRestart]

@[simp] theorem State.epdSwitch_stores (s0 s : State) : (State.epdSwitch s0 s).stores = s.stores := by simp [State.epdSwitch]

@[simp] theorem State.lineSwitch_stores (s0 s : State) : (State.lineSwitch s0 s).stores = s.stores := by simp [State.lineSwitch]

@[simp] theorem State.switchTo_stores (s : State) (i : BitVec 2) (m : RegMap) (cut : List (Fin 32 × List BitWindow × List BitWindow)) :
    (s.switchTo i m cut).stores = s.stores := by
  unfold State.switchTo
  extract_lets old leaves joins took new stopped taken boot met marked driven enabled chained tested switched rest mode
  have took_same (u : State) : (took u).stores = u.stores := by
    simp [took]
  have stopped_same : stopped.stores = s.stores := by
    refine State.forLanes_stores _ _ fun u n => ?_
    simp only
    split
    · split <;> simp
    · rfl
  simp [rest, switched, tested, chained, enabled, driven, marked, taken, took_same, stopped_same]

@[simp] theorem State.loadProfile_stores (s : State) (i : BitVec 2) (cut : List (Fin 32 × List BitWindow × List BitWindow)) :
    (s.loadProfile i cut).stores = s.stores := by
  simp only [State.loadProfile]
  repeat' split
  all_goals simp

/-! ### Start-up -/

@[simp] theorem State.bootFail_stores (s : State) (code : Byte) : (s.bootFail code).stores = s.stores := by simp [State.bootFail]

@[simp] theorem State.blankRegions_stores (s : State) : s.blankRegions.stores = s.stores := by simp [State.blankRegions]

@[simp] theorem State.chooseRecord_stores (s : State) : s.chooseRecord.stores = s.stores := by
  simp only [State.chooseRecord]
  repeat' split
  all_goals simp

@[simp] theorem State.recordEntries_stores (s : State) : s.recordEntries.stores = s.stores := by
  simp only [State.recordEntries]
  repeat' split
  all_goals simp

@[simp] theorem State.retentionCheck_stores (s : State) : s.retentionCheck.stores = s.stores := by simp [State.retentionCheck]

@[simp] theorem State.bootRecord_stores (s : State) : s.bootRecord.stores = s.stores := by simp [State.bootRecord]

@[simp] theorem State.bootHold_stores (s : State) : s.bootHold.stores = s.stores := by simp [State.bootHold]

@[simp] theorem State.bootRoot_stores (s : State) : s.bootRoot.stores = s.stores := by
  simp only [State.bootRoot]
  repeat' split
  all_goals simp

@[simp] theorem State.bootFeeds_stores (s : State) : s.bootFeeds.stores = s.stores := by simp [State.bootFeeds]

@[simp] theorem State.restorePulses_stores (s : State) (ps : List (Nat × Nat × Bool)) : (s.restorePulses ps).stores = s.stores :=
  foldl_stores _ (fun _ _ => by split <;> simp) _ _

@[simp] theorem State.noclockStart_stores (s : State) : s.noclockStart.stores = s.stores := by simp [State.noclockStart]

@[simp] theorem State.restoreImage_stores (s : State) (i : CommitImage) : (s.restoreImage i).stores = s.stores := by simp [State.restoreImage]

@[simp] theorem State.firstStart_stores (s : State) : s.firstStart.stores = s.stores := by simp [State.firstStart]

@[simp] theorem State.tariffCheck_stores (s : State) : s.tariffCheck.stores = s.stores := by
  simp only [State.tariffCheck]
  repeat' split
  all_goals simp

@[simp] theorem State.sealCatchUp_stores (s : State) : s.sealCatchUp.stores = s.stores := by simp [State.sealCatchUp]

@[simp] theorem State.caseCatchUp_stores (s : State) : s.caseCatchUp.stores = s.stores := by simp [State.caseCatchUp]

@[simp] theorem State.tamperCatchUp_stores (s : State) : s.tamperCatchUp.stores = s.stores := by simp [State.tamperCatchUp]

@[simp] theorem State.latchesBack_stores (s : State) : s.latchesBack.stores = s.stores :=
  State.forLanes_stores _ _ fun _ _ => by simp

/-! ### Register reads -/

@[simp] theorem State.snapProgress_stores (s : State) : s.snapProgress.stores = s.stores := by simp [State.snapProgress]

@[simp] theorem State.answerRead_stores (s : State) (be : BitVec 4) (v : Reg) : (s.answerRead be v).stores = s.stores := by simp [State.answerRead]

@[simp] theorem State.readLviol_stores (s : State) (lane : Fin 32) (be : BitVec 4) : (s.readLviol lane be).stores = s.stores := by
  simp [State.readLviol]

@[simp] theorem State.readAt_stores (s : State) (off : Nat) (be : BitVec 4) : (s.readAt off be).stores = s.stores := by
  simp only [State.readAt]
  repeat' split
  all_goals simp

@[simp] theorem State.readBad_stores (s : State) : s.readBad.stores = s.stores := by simp [State.readBad]

/-! ### The host interface -/

@[simp] theorem State.coreReset_stores (s : State) (core : Fin 4) : (s.coreReset core).stores = s.stores := by simp [State.coreReset]

@[simp] theorem State.blockReset_stores (s : State) (b : Nat) : (s.blockReset b).stores = s.stores := by
  unfold State.blockReset
  split <;> simp

@[simp] theorem State.blockResets_stores (s : State) (mask : Nat) : (s.blockResets mask).stores = s.stores := by simp [State.blockResets]

@[simp] theorem State.restartHeld_stores (s : State) : s.restartHeld.stores = s.stores := by simp [State.restartHeld]

@[simp] theorem State.ringDisable_stores (s : State) (n : Fin 16) : (s.ringDisable n).stores = s.stores := by simp [State.ringDisable]

@[simp] theorem State.ringEnable_stores (s : State) (n : Fin 16) : (s.ringEnable n).stores = s.stores := by simp [State.ringEnable]

@[simp] theorem State.doorbell_stores (s : State) (n : Fin 16) (x : BitVec 16) : (s.doorbell n x).stores = s.stores := by simp [State.doorbell]

@[simp] theorem State.clearErr_stores (s : State) (r : ErrReg) (mask : Reg) : (s.clearErr r mask).stores = s.stores := by simp [State.clearErr]

@[simp] theorem State.stormClear_stores (s : State) : s.stormClear.stores = s.stores := by simp [State.stormClear]

@[simp] theorem State.writeRingCtl_stores (s : State) (n : Fin 16) (v : Reg) : (s.writeRingCtl n v).stores = s.stores := by simp [State.writeRingCtl]

@[simp] theorem State.writeHif_stores (s : State) (off : Nat) (v : Reg) : (s.writeHif off v).stores = s.stores := by simp [State.writeHif]

/-! ### Events and commands of lanes -/

@[simp] theorem State.pilotLink_stores (s : State) (n : Fin 32) (old new : Pilot) : (s.pilotLink n old new).stores = s.stores := by
  simp [State.pilotLink]

@[simp] theorem State.takeSense_stores (s : State) (x : LaneSense) : (s.takeSense x).stores = s.stores := by
  simp only [State.takeSense]
  repeat' split
  all_goals simp

@[simp] theorem State.takeLoads_stores (s : State) (loads : List (Fin 48 × Nat)) : (s.takeLoads loads).stores = s.stores := by simp [State.takeLoads]

@[simp] theorem State.pmcanCounts_stores (s : State) (k : Fin 4) (tec rec_ : Nat) : (s.pmcanCounts k tec rec_).stores = s.stores := by
  simp [State.pmcanCounts]

@[simp] theorem State.received_stores (s : State) (k : Fin 4) (rxErrors : Nat) : (s.received k rxErrors).stores = s.stores := by simp [State.received]

@[simp] theorem State.onLane_stores (s : State) (u : Nat) (f : State → Fin 32 → State) (h : ∀ s n, (f s n).stores = s.stores) :
    (s.onLane u f).stores = s.stores := by
  unfold State.onLane
  split <;> simp [h]

@[simp] theorem State.setAdmit_stores (s : State) (n : Fin 32) (hold : Bool) : (s.setAdmit n hold).stores = s.stores := by simp [State.setAdmit]

@[simp] theorem State.laneCommand_stores (s : State) (d : Desc) (opcode : Nat) (pre : State → Nat → Bool) (act : State → Nat → State)
    (h : ∀ s u, (act s u).stores = s.stores) : (s.laneCommand d opcode pre act).stores = s.stores := by
  unfold State.laneCommand
  split
  · simp [h]
  · simp only
    split <;> simp [h]

@[simp] theorem State.setLimit_stores (s : State) (n : Fin 32) (i : Nat) : (s.setLimit n i).2.stores = s.stores := by simp [State.setLimit]

/-! ### Events and commands of load switches -/

@[simp] theorem State.quadResult_stores (s : State) (q : Fin 12) (what : Nat) (temp : Int) : (s.quadResult q what temp).stores = s.stores := by
  simp [State.quadResult]

@[simp] theorem State.quadSample_stores (s : State) (q : Fin 12) (temp : Int) : (s.quadSample q temp).stores = s.stores := by simp [State.quadSample]

@[simp] theorem State.supplyResult_stores (s : State) (what : Nat) : (s.supplyResult what).stores = s.stores := by simp [State.supplyResult]

@[simp] theorem State.quadReturn_stores (s : State) (q : Fin 12) : (s.quadReturn q).stores = s.stores := by simp [State.quadReturn]

@[simp] theorem State.auxSet_stores (s : State) (c : Fin 48) (on : Bool) : (s.auxSet c on).2.stores = s.stores := by
  simp only [State.auxSet]
  repeat' split
  all_goals simp

@[simp] theorem State.offEnds_stores (s : State) (c : Fin 48) (on : Bool) : (s.offEnds c on).stores = s.stores := by simp [State.offEnds]

@[simp] theorem State.chClear_stores (s : State) (c : Fin 48) : (s.chClear c).stores = s.stores := by simp [State.chClear]

/-! ### Events and commands of the safety island -/

@[simp] theorem State.sinFault_stores (s : State) (i : Fin 72) (code errBit : Nat) (f : Sin → Sin) : (s.sinFault i code errBit f).stores = s.stores := by
  simp [State.sinFault]

@[simp] theorem State.isoResistances_stores (s : State) (n : Fin 32) : (s.isoResistances n).2.stores = s.stores := by
  simp only [State.isoResistances]
  repeat' split
  all_goals simp

@[simp] theorem State.clearLatches_stores (s : State) (lanes : List (Fin 32)) (ks : List Nat) (coilHigh : BitVec 32) :
    (s.clearLatches lanes ks coilHigh).stores = s.stores := by simp [State.clearLatches]

@[simp] theorem State.clearFaults_stores (s : State) : s.clearFaults.stores = s.stores := by simp [State.clearFaults]

/-! ### Events and commands of the vehicle link -/

@[simp] theorem State.soundIn_stores (s : State) (r : Run) (x : Sound) : (s.soundIn r x).stores = s.stores := by simp [State.soundIn]

@[simp] theorem State.offerAc_stores (s : State) (n : Fin 32) : (s.offerAc n).stores = s.stores := by simp [State.offerAc]

@[simp] theorem State.offerTuples_stores (s : State) (n : Fin 32) : (s.offerTuples n).stores = s.stores := by simp [State.offerTuples]

@[simp] theorem State.wantSet_stores (s : State) (n : Fin 32) (f : Setpoint → Setpoint) : (s.wantSet n f).stores = s.stores := by simp [State.wantSet]

/-! ### The clock -/

@[simp] theorem State.dueBlocks_stores (s : State) : s.dueBlocks.stores = s.stores := by simp [State.dueBlocks]

@[simp] theorem State.markHeld_stores (s : State) : s.markHeld.stores = s.stores := by simp [State.markHeld]

@[simp] theorem State.advance_stores (s : State) : s.advance.stores = s.stores := by simp [State.advance]

end Sys2Proof.Machine
end

/-! What is lawful: at most blown fuses, right packet counters, canonical memory -/

section
namespace Sys2Proof.Machine

open Sys2Proof Sys2Proof.Claims

/-- What every command keeps of the stores: the queue of commands is the same, fuses are at most blown, packet counters stay right, memory stays
canonical, and host memory is the same unless the command writes it. -/
structure Lawful (writes : Bool) (s t : State) : Prop where
  pending : t.pending = s.pending
  fuses : OnlyBlown s.fuses t.fuses
  packets : CountsPackets s → CountsPackets t
  memory : Safety.memory s → Safety.memory t
  host : writes = false → t.hostMem = s.hostMem

/-- The answer is a next state of which P holds. -/
def Answers (P : State → Prop) : Host.Outcome State Fault Refusal → Prop
  | .next t => P t
  | _ => False

@[simp] theorem answers_next (P : State → Prop) (t : State) : Answers P (.next t) ↔ P t := Iff.rfl

@[simp] theorem answers_ite (P : State → Prop) (c : Prop) [Decidable c] (a b : Host.Outcome State Fault Refusal) :
    Answers P (if c then a else b) ↔ if c then Answers P a else Answers P b := by
  split <;> rfl

theorem answers_iff {P : State → Prop} {o : Host.Outcome State Fault Refusal} : Answers P o ↔ ∃ t, o = .next t ∧ P t := by
  cases o <;> simp [Answers]

theorem onlyBlown_refl (f : Fuses) : OnlyBlown f f :=
  ⟨rfl, rfl, rfl, rfl, rfl, rfl, Nat.le_refl _, Nat.le_refl _, fun _ => id, BitVec.and_self, id⟩

theorem onlyBlown_trans {f g h : Fuses} (fg : OnlyBlown f g) (gh : OnlyBlown g h) : OnlyBlown f h := by
  obtain ⟨d1, a1, n1, v1, sv1, ss1, e1, l1, o1, r1, k1⟩ := fg
  obtain ⟨d2, a2, n2, v2, sv2, ss2, e2, l2, o2, r2, k2⟩ := gh
  refine ⟨d2.trans d1, a2.trans a1, n2.trans n1, v2.trans v1, sv2.trans sv1, ss2.trans ss1, Nat.le_trans e1 e2, Nat.le_trans l1 l2, fun i hi => o2 i (o1 i hi),
    ?_, fun hk => k2 (k1 hk)⟩
  rw [← r1, BitVec.and_assoc, r2]

namespace Lawful

variable {w : Bool} {s t u : State}

protected theorem refl (w : Bool) (s : State) : Lawful w s s := ⟨rfl, onlyBlown_refl _, id, id, fun _ => rfl⟩

protected theorem trans (st : Lawful w s t) (tu : Lawful w t u) : Lawful w s u :=
  ⟨tu.pending.trans st.pending, onlyBlown_trans st.fuses tu.fuses, tu.packets ∘ st.packets, tu.memory ∘ st.memory,
    fun h => (tu.host h).trans (st.host h)⟩

/-- What keeps every store is lawful. -/
@[simp] theorem of_stores (same : t.stores = s.stores) : Lawful w s t := by
  obtain ⟨pending, host, queues, fuses, dram, sram⟩ := Stores.mk.injEq .. ▸ same
  refine ⟨pending, fuses ▸ onlyBlown_refl _, ?_, ?_, fun _ => host⟩
  · simp [CountsPackets, queues]
  · simp [Safety.memory, host, dram, sram]

theorem congr (st : Lawful w s t) (same : u.stores = t.stores) : Lawful w s u := st.trans (of_stores same)

/-- A reset leaves the queue of commands, the fuses and host memory, and clears the rest to what is lawful. -/
theorem of_volatile (st : Lawful w s t) (same : u.stores = t.volatile.stores) : Lawful w s u := by
  refine st.trans ((Lawful.mk ?_ ?_ ?_ ?_ ?_ : Lawful w t t.volatile).congr same)
  · rfl
  · exact onlyBlown_refl _
  · intro _ q
    simp [State.volatile, State.reset, IQueue.reset]
  · exact fun h => ⟨h.1, rfl, rfl⟩
  · exact fun _ => rfl

@[simp] theorem chipReset (st : Lawful w s t) : Lawful w s t.chipReset := st.of_volatile rfl

@[simp] theorem takeReset (st : Lawful w s t) : Lawful w s t.takeReset := by
  unfold State.takeReset
  split
  · exact st.chipReset
  · exact st

@[simp] theorem finish (s0 : State) (st : Lawful w s t) : Lawful w s (State.finish s0 t) :=
  takeReset (st.congr (by simp))

@[simp] theorem railsOff (st : Lawful w s t) : Lawful w s t.railsOff := of_volatile (st.congr (u := t.toVbat) (by simp [State.toVbat])) rfl

end Lawful

@[simp] theorem State.stores_dite (c : Prop) [Decidable c] (s : c → State) (t : ¬c → State) :
    (dite c s t).stores = dite c (fun h => (s h).stores) fun h => (t h).stores := apply_dite State.stores c s t

@[simp] theorem Lawful.attemptTimer (w : Bool) (s : State) (k : TimerKind) (n : Fin 32) : Lawful w s (s.attemptTimer k n) := by
  simp only [State.attemptTimer]
  split <;> simp

@[simp] theorem Lawful.stopTimer (w : Bool) (s : State) (k : TimerKind) (n : Fin 32) (code : Nat) (answer : Option (Nat × Nat)) :
    Lawful w s (s.stopTimer k n code answer) := by
  simp only [State.stopTimer]
  split
  · simp
  · cases answer <;> simp

@[simp] theorem Lawful.resetControl (w : Bool) (s : State) (val : Reg) (chip block : Bool) : Lawful w s (s.resetControl val chip block) := by
  simp only [State.resetControl]
  split
  · simp
  · refine Lawful.finish s (.of_stores ?_)
    split <;> split <;> simp

@[simp] theorem stores_snd_dite {α : Type} (c : Prop) [Decidable c] (p : c → α × State) (q : ¬c → α × State) :
    (dite c p q).2.stores = dite c (fun h => (p h).2.stores) fun h => (q h).2.stores := apply_dite (fun p : α × State => p.2.stores) c p q

/-! ### What commands do to the stores they may change -/

theorem Lawful.writeHost (s : State) (addr : BitVec 64) (bs : Bytes) : Lawful true s (s.writeHost addr bs) where
  pending := rfl
  fuses := onlyBlown_refl _
  packets := id
  memory := fun ⟨host, dram, sram⟩ => ⟨State.writeHost_wf addr bs host, dram, sram⟩
  host := nofun

theorem Lawful.blow {w : Bool} {s t : State} (blown : OnlyBlown s.fuses t.fuses) (same : t.stores = ({ s with fuses := t.fuses } : State).stores) :
    Lawful w s t := by
  obtain ⟨pending, host, queues, -, dram, sram⟩ := Stores.mk.injEq .. ▸ same
  refine ⟨pending, blown, ?_, ?_, fun _ => host⟩
  · unfold CountsPackets
    rw [queues]
    exact id
  · unfold Safety.memory
    rw [host, dram, sram]
    exact id

theorem Lawful.arbFinish (w : Bool) (s : State) (target : Nat) : Lawful w s (s.arbFinish target) := by
  unfold State.arbFinish
  split
  · simp
  · refine ⟨rfl, onlyBlown_refl _, id, fun ⟨host, dram, sram⟩ => ?_, fun _ => rfl⟩
    simp only [State.setArb_arb, Safety.memory]
    split
    · unfold Arb.store
      split
      · exact ⟨host, memWrite_wf _ _ dram, sram⟩
      · exact ⟨host, dram, memWrite_wf _ _ sram⟩
    · exact ⟨host, dram, sram⟩

/-! ### Internal queues (R122 to R125) -/

/-- The end marks in a queue. -/
def IQueue.marks (q : IQueue) : Nat := (q.words.filter (·.2)).length

/-- The packet counter of a queue is right. -/
def IQueue.Counts (q : IQueue) : Prop := q.packets = q.marks

theorem IQueue.put_counts {q : IQueue} (w : BitVec 64) (e : Bool) (h : q.Counts) : (q.put w e).Counts := by
  unfold IQueue.put
  repeat' split
  all_goals first | exact h | skip
  cases e <;> simpa [IQueue.Counts, IQueue.marks, bit] using h

theorem IQueue.resume_counts {q : IQueue} (h : q.Counts) : q.resume.Counts := by
  unfold IQueue.resume
  repeat' split
  · exact IQueue.put_counts _ _ h
  · exact h
  · exact h

theorem IQueue.get_counts {q : IQueue} (h : q.Counts) : q.get.Counts := by
  unfold IQueue.get
  split
  · exact h
  next w e rest words =>
    refine IQueue.resume_counts ?_
    simp only [IQueue.Counts, IQueue.marks, words] at h ⊢
    cases e <;> simp_all [bit]

theorem marks_dropWhile (ws : List (BitVec 64 × Bool)) : (ws.dropWhile (!·.2)).filter (·.2) = ws.filter (·.2) := by
  induction ws with
  | nil => rfl
  | cons x ws ih => cases h : x.2 <;> simp [h, ih]

theorem IQueue.drop_counts {q : IQueue} (h : q.Counts) : q.drop.Counts := by
  unfold IQueue.Counts IQueue.marks at h
  rw [← marks_dropWhile] at h
  simp only [IQueue.drop]
  split
  next none_left =>
    refine IQueue.resume_counts ?_
    simpa [IQueue.Counts, IQueue.marks, none_left] using h
  next x tail left =>
    refine IQueue.resume_counts ?_
    have marked : x.2 = true := by
      simpa [left] using List.head_dropWhile_not (fun x : BitVec 64 × Bool => !x.2) (l := q.words) (by simp [left])
    simp [IQueue.Counts, IQueue.marks, h, left, marked]

theorem Lawful.setQueue {w : Bool} {s : State} (q : Fin 16) {f : IQueue → IQueue} (h : ∀ {q : IQueue}, q.Counts → (f q).Counts) :
    Lawful w s (s.setQueue q f) := by
  refine ⟨rfl, onlyBlown_refl _, fun counts p => ?_, id, fun _ => rfl⟩
  change IQueue.Counts (s.queues.set q (f s.queues[q]))[p]
  by_cases same : q = p
  · subst same
    simpa using h (counts q)
  · have other : q.val ≠ p.val := fun equal => same (Fin.ext equal)
    simpa [Vector.getElem_set_ne, other, IQueue.Counts, IQueue.marks] using counts p

/-! ### Requests -/

theorem Lawful.arrive {w : Bool} {act : State → State} (s : State) (i : Instr) (ring : Fin 16) (count : Nat) (wait : Bool)
    (h : ∀ u, Lawful w u (act u)) : Lawful w s (s.arrive i ring count wait act) := by
  simp only [State.arrive]
  generalize entered : (if (List.find? (fun x => x.ring == ring.val) s.waiting == some _) = true then _ else s) = s0
  have same : s0.stores = s.stores := by simp [← entered]
  split
  · exact .of_stores same
  · split
    · exact .of_stores (by simp [same])
    · exact .trans (.of_stores (by simp [same])) (h _)

theorem Lawful.accept {w : Bool} {act : State → State} (s : State) (i : Instr) (ring : Fin 16) (opcode : Nat) (d : Desc) (a b c : Bool)
    (h : ∀ u, Lawful w u (act u)) : Lawful w s (s.accept i ring opcode d a b c act) := by
  refine Lawful.arrive _ _ _ _ _ fun u => ?_
  simp only
  cases refusal d a b c with
  | none => exact .trans (.of_stores (by simp)) (h _)
  | some st => exact .of_stores (by simp)

theorem Lawful.acceptSingle {w : Bool} {act : State → State} (s : State) (i : Instr) (opcode : Nat) (d : Desc) (len : Nat) (paramOk : Bool)
    (h : ∀ u, Lawful w u (act u)) : Lawful w s (s.acceptSingle i opcode d len paramOk act) :=
  Lawful.accept _ _ _ _ _ _ _ _ h


/-! ### Register writes and fuses -/

theorem Lawful.profileRequest (w : Bool) (s : State) (i : BitVec 2) : Answers (Lawful w s) (execProfileRequest i s) := by
  simp only [execProfileRequest]
  repeat' split
  all_goals simp

theorem Lawful.writeGlb (w : Bool) (s : State) (off : Nat) (v : Reg) : Lawful w s (s.writeGlb off v) := by
  unfold State.writeGlb
  split
  case h_8 =>
    have asked := Lawful.profileRequest w s (BitVec.ofNat 2 (regField v 0 2))
    split
    · simp
    · split
      · simp
      · split
        · split
          next t next_t => simpa [next_t] using asked
          · simp
        · simp
  all_goals simp

/-- Programming owner slots leaves every slot that was programmed programmed (R431). -/
theorem owners_foldl_isSome (ps : List (Nat × BitVec 384)) (v : Vector (Option (BitVec 384)) 4) (i : Fin 4) (h : v[i].isSome = true) :
    (ps.foldl (fun (v : Vector (Option (BitVec 384)) 4) p => if h : p.1 < 4 then v.set p.1 (some p.2) else v) v)[i].isSome = true := by
  induction ps generalizing v with
  | nil => exact h
  | cons p ps ih =>
    refine ih _ ?_
    simp only
    split
    · by_cases same : p.1 = i.val
      · simp [same]
      · simpa [Vector.getElem_set_ne, same] using h
    · exact h

/-- Revoking slots leaves every revoked slot revoked (R432). -/
theorem revoked_foldl_and (is : List Nat) (v : BitVec 4) : v &&& is.foldl (fun (v : BitVec 4) i => v ||| BitVec.ofNat 4 (2 ^ i)) v = v := by
  refine List.foldlRecOn (motive := fun u => v &&& u = v) is _ BitVec.and_self fun u kept i _ => ?_
  rw [BitVec.and_or_distrib_left, kept]
  ext k
  simpa using fun was _ => was

/-! ### Energy -/

theorem execPulseStart_lawful (k : Fin 8) (s : State) : Answers (Lawful false s) (execPulseStart k s) := by
  simp only [execPulseStart]
  repeat' split
  all_goals simp

theorem execPulseEnd_lawful (k : Fin 8) (s : State) : Answers (Lawful false s) (execPulseEnd k s) := by simp [execPulseEnd]

theorem execAltPulseStart_lawful (k : Fin 8) (s : State) : Answers (Lawful false s) (execAltPulseStart k s) := by simp [execAltPulseStart]

theorem execNrgRead_lawful (d : Desc) (s : State) : Answers (Lawful true s) (execNrgRead d s) := by
  simp only [execNrgRead, answers_next]
  exact .acceptSingle _ _ _ _ _ _ fun u => by
    split
    · split
      · exact (Lawful.writeHost u _ _).congr (State.answer_stores ..)
      · simp
    · simp

theorem execNrgCalRead_lawful (d : Desc) (s : State) : Answers (Lawful true s) (execNrgCalRead d s) := by
  simp only [execNrgCalRead, answers_next]
  exact .acceptSingle _ _ _ _ _ _ fun u => by
    split
    · exact (Lawful.writeHost u _ _).congr (State.answer_stores ..)
    · simp

/-! ### The counting board -/

theorem execArbWindowStart_lawful (cycles : Nat) (s : State) : Answers (Lawful false s) (execArbWindowStart cycles s) := by simp [execArbWindowStart]

theorem execArbRequest_lawful (requester : Fin 16) (target beats : Nat) (write : Option ArbWrite) (ended : Bool) (s : State) :
    Answers (Lawful false s) (execArbRequest requester target beats write ended s) := by
  simp only [execArbRequest]
  have done : Lawful false s (if ended then s.arbFinish target else s) := by
    split
    · exact .arbFinish ..
    · exact .refl ..
  split
  · exact done.congr (by simp)
  · split
    · exact done.congr (by simp)
    · exact done.congr (by simp)

theorem execBankHogCutoff_lawful (target cycles : Nat) (s : State) : Answers (Lawful false s) (execBankHogCutoff target cycles s) := by
  simp only [execBankHogCutoff]
  repeat' split
  all_goals simp

theorem execGrantWithdraw_lawful (target beatsDone : Nat) (s : State) : Answers (Lawful false s) (execGrantWithdraw target beatsDone s) := by
  simp only [execGrantWithdraw]
  repeat' split
  all_goals simp

/-! ### Commands of the register book -/

theorem execRtcRollover_lawful (s : State) : Answers (Lawful false s) (execRtcRollover s) := by
  simp only [execRtcRollover]
  repeat' split
  all_goals simp

theorem execNoclockIntervalEnd_lawful (s : State) : Answers (Lawful false s) (execNoclockIntervalEnd s) := by
  simp only [execNoclockIntervalEnd]
  repeat' split
  all_goals simp

theorem execClockStep_lawful (s : State) : Answers (Lawful false s) (execClockStep s) := by
  simp only [execClockStep]
  repeat' split
  all_goals simp

theorem execSealChange_lawful (sealOpen : Bool) (heldMs : Nat) (s : State) : Answers (Lawful false s) (execSealChange sealOpen heldMs s) := by
  simp [execSealChange]

theorem execMagneticFieldChange_lawful (sensor : Fin 4) (levels : List Nat) (s : State) :
    Answers (Lawful false s) (execMagneticFieldChange sensor levels s) := by simp [execMagneticFieldChange]

theorem execCaseChange_lawful (caseOpen : Bool) (s : State) : Answers (Lawful false s) (execCaseChange caseOpen s) := by simp [execCaseChange]

theorem execBookRead_lawful (d : Desc) (s : State) : Answers (Lawful false s) (execBookRead d s) := by
  simp only [execBookRead, answers_next]
  exact .of_stores (State.acceptSingle_stores _ _ _ _ _ _ _ fun u => by
    split
    · simp
    · split <;> simp)

theorem execBookClockSet_lawful (d : Desc) (s : State) : Answers (Lawful false s) (execBookClockSet d s) := by simp [execBookClockSet]

theorem execBookTariffLoad_lawful (d : Desc) (s : State) : Answers (Lawful false s) (execBookTariffLoad d s) := by simp [execBookTariffLoad]

theorem execBookCalWrite_lawful (d : Desc) (s : State) : Answers (Lawful false s) (execBookCalWrite d s) := by
  simp only [execBookCalWrite, answers_next]
  exact Lawful.finish _ (.of_stores (State.bookCommand_stores _ _ _ _ _ _ _ fun u => by
    split
    · simp
    · split
      · simp
      · split <;> simp))

theorem execBookBillClose_lawful (d : Desc) (s : State) : Answers (Lawful false s) (execBookBillClose d s) := by simp [execBookBillClose]

/-! ### Commands of the ledger -/

theorem execLedgerAuthorise_lawful (entry : Fin 36) (ident : Bytes) (method : Fin 4) (purseT purseId purseSeq : Nat) (uncorrectable : List Nat)
    (s : State) :
    Answers (Lawful false s) (execLedgerAuthorise entry ident method purseT purseId purseSeq uncorrectable s) := by
  simp only [execLedgerAuthorise]
  repeat' split
  all_goals simp

theorem execLedgerDecisionAnnounce_lawful (entry : Fin 36) (s : State) : Answers (Lawful false s) (execLedgerDecisionAnnounce entry s) := by
  simp only [execLedgerDecisionAnnounce]
  split
  · simp
  · split
    · simp
    next n _ _ a t taken =>
      have same : ((t.note 9 n.val 0).judgeAnnounce entry a.reason).2.2.stores = s.stores := by simp [State.takeAnnounce_stores taken]
      generalize (t.note 9 n.val 0).judgeAnnounce entry a.reason = judged at same
      obtain ⟨reason, e, u⟩ := judged
      simp only at same
      split
      · simp
      · split
        · exact Lawful.finish _ (.of_stores (by simp [same]))
        · split
          · refine Lawful.finish _ (.of_stores ?_)
            split
            · split <;> simp [same]
            · simp [same]
          · exact Lawful.finish _ (.of_stores (by simp [same]))

theorem execLedgerRevokeAnnounce_lawful (lane : Fin 32) (s : State) : Answers (Lawful false s) (execLedgerRevokeAnnounce lane s) := by
  simp only [execLedgerRevokeAnnounce]
  split
  next taken =>
    have same := State.takeAnnounce_stores taken
    split
    · simp
    · exact Lawful.finish _ (.of_stores (by simp [same]))
  · simp

theorem execLedgerStopAnnounce_lawful (lane : Fin 32) (s : State) : Answers (Lawful false s) (execLedgerStopAnnounce lane s) := by
  simp only [execLedgerStopAnnounce]
  split
  next taken =>
    have same := State.takeAnnounce_stores taken
    split
    · simp
    · exact Lawful.finish _ (.of_stores (by simp [same]))
  · simp

theorem execDdrAlert_lawful (recovered : Bool) (s : State) : Answers (Lawful false s) (execDdrAlert recovered s) := by simp [execDdrAlert]

theorem execTallyReport_lawful (s : State) : Answers (Lawful false s) (execTallyReport s) := by simp [execTallyReport]

theorem execPendingFlush_lawful (s : State) : Answers (Lawful false s) (execPendingFlush s) := by simp [execPendingFlush]

theorem execJournalBlockComplete_lawful (s : State) : Answers (Lawful false s) (execJournalBlockComplete s) := by simp [execJournalBlockComplete]

theorem execSnapshotStart_lawful (s : State) : Answers (Lawful false s) (execSnapshotStart s) := by simp [execSnapshotStart]

theorem execSnapshotComplete_lawful (ok : Bool) (bad uncorrectable : List Nat) (s : State) :
    Answers (Lawful false s) (execSnapshotComplete ok bad uncorrectable s) := by
  simp only [execSnapshotComplete]
  repeat' split
  all_goals simp

theorem execLedgerRestoreStart_lawful (badA badB : Bool) (badJournal : List Nat) (s : State) :
    Answers (Lawful false s) (execLedgerRestoreStart badA badB badJournal s) := by simp [execLedgerRestoreStart]

theorem execLedgerReady_lawful (s : State) : Answers (Lawful false s) (execLedgerReady s) := by simp [execLedgerReady]

theorem execAbcDelta_lawful (d : Desc) (uncorrectable : List (Nat × Nat)) (s : State) : Answers (Lawful false s) (execAbcDelta d uncorrectable s) := by
  simp [execAbcDelta]

theorem execAbcQuery_lawful (d : Desc) (uncorrectable : List Nat) (s : State) : Answers (Lawful true s) (execAbcQuery d uncorrectable s) := by
  simp only [execAbcQuery, answers_next]
  refine .accept _ _ _ _ _ _ _ _ fun u => ?_
  split
  · simp
  · split
    · simp
    next slot _ =>
      generalize read : u.readSlots _ _ = v
      have same : v.stores = u.stores := by simp [← read]
      have kept : (if uncorrectable.contains slot then v.unreadable else (v.ledgerPayload d.param1.toNat (v.recAt slot) none, v)).2.stores =
          u.stores := by simp [same]
      exact .trans (.of_stores kept) ((Lawful.writeHost _ _ _).congr (State.answer_stores ..))

theorem execAbcResync_lawful (d : Desc) (uncorrectable : List Nat) (s : State) : Answers (Lawful false s) (execAbcResync d uncorrectable s) := by
  simp only [execAbcResync, answers_next]
  exact Lawful.of_stores (State.acceptSingle_stores _ _ _ _ _ _ _ fun u => by simp)

theorem execAbcSnapshot_lawful (d : Desc) (s : State) : Answers (Lawful false s) (execAbcSnapshot d s) := by simp [execAbcSnapshot]

theorem execAbcRevoke_lawful (d : Desc) (uncorrectable : List Nat) (s : State) : Answers (Lawful false s) (execAbcRevoke d uncorrectable s) := by
  simp only [execAbcRevoke, answers_next]
  exact .of_stores (State.acceptSingle_stores _ _ _ _ _ _ _ fun u => by
    split <;> simp)

/-! ### Readers and tokens -/

theorem execAntennaPoll_lawful (reader : Fin 4) (atqa : Bool) (s : State) : Answers (Lawful false s) (execAntennaPoll reader atqa s) := by
  simp only [execAntennaPoll]
  repeat' split
  all_goals simp

theorem execInventoryComplete_lawful (reader : Fin 4) (uids : List Bytes) (s : State) :
    Answers (Lawful false s) (execInventoryComplete reader uids s) := by
  simp only [execInventoryComplete]
  repeat' split
  all_goals simp

theorem execAuthenticationComplete_lawful (reader : Fin 4) (first second : TokAuth) (block0 : TokAns) (s : State) :
    Answers (Lawful false s) (execAuthenticationComplete reader first second block0 s) := by
  simp only [execAuthenticationComplete]
  repeat' split
  all_goals simp

theorem execSlotsResolved_lawful (reader : Fin 4) (block1 block2 block3 : TokAns) (s : State) :
    Answers (Lawful false s) (execSlotsResolved reader block1 block2 block3 s) := by simp [execSlotsResolved]

theorem execKillResponse_lawful (reader : Fin 4) (answer : TokAns) (s : State) : Answers (Lawful false s) (execKillResponse reader answer s) := by
  simp only [execKillResponse]
  repeat' split
  all_goals simp

theorem execReservationAnswer_lawful (reader : Fin 4) (s : State) : Answers (Lawful false s) (execReservationAnswer reader s) := by
  simp only [execReservationAnswer]
  split
  · simp
  next a t taken =>
    have same : ((t.note 9 32 reader.val).judgeAnnounce (readerEntry reader) a.reason).2.2.stores = s.stores := by
      simp [State.takeAnnounce_stores taken]
    generalize (t.note 9 32 reader.val).judgeAnnounce (readerEntry reader) a.reason = judged at same
    obtain ⟨reason, e, u⟩ := judged
    simp only at same
    split
    · simp
    · split
      · split
        · exact .of_stores (by simp [same])
        · exact .of_stores (by simp [same])
      · exact Lawful.finish _ (.of_stores (by simp [same]))

theorem execRepairComplete_lawful (reader : Fin 4) (written readBack : TokAns) (s : State) :
    Answers (Lawful false s) (execRepairComplete reader written readBack s) := by
  simp only [execRepairComplete]
  split
  · simp
  · refine .of_stores ((State.answered_stores _ _ _ _ _ (fun bs => ?_) (by simp)).trans (by simp))
    split
    · simp
    · simp

theorem execBackupWritten_lawful (reader : Fin 4) (answer : TokAns) (s : State) : Answers (Lawful false s) (execBackupWritten reader answer s) := by
  simp [execBackupWritten]

theorem execBackupVerified_lawful (reader : Fin 4) (answer : TokAns) (s : State) : Answers (Lawful false s) (execBackupVerified reader answer s) := by
  simp only [execBackupVerified]
  split
  · simp
  · refine .of_stores ((State.answered_stores _ _ _ _ _ (fun bs => ?_) (by simp)).trans (by simp))
    split
    · simp
    · split <;> simp

theorem execPurseCommit_lawful (reader : Fin 4) (s : State) : Answers (Lawful false s) (execPurseCommit reader s) := by simp [execPurseCommit]

theorem execPrimaryWritten_lawful (reader : Fin 4) (answer : TokAns) (s : State) : Answers (Lawful false s) (execPrimaryWritten reader answer s) := by
  simp [execPrimaryWritten]

theorem execPrimaryVerified_lawful (reader : Fin 4) (answer : TokAns) (s : State) :
    Answers (Lawful false s) (execPrimaryVerified reader answer s) := by
  simp only [execPrimaryVerified]
  split
  · simp
  · refine .of_stores ((State.answered_stores _ _ _ _ _ (fun bs => ?_) (by simp)).trans (by simp))
    split
    · simp
    · simp

theorem execFieldCollapse_lawful (reader : Fin 4) (frameError : Bool) (s : State) :
    Answers (Lawful false s) (execFieldCollapse reader frameError s) := by simp [execFieldCollapse]

theorem execTProvExpiry_lawful (reader : Fin 4) (s : State) : Answers (Lawful false s) (execTProvExpiry reader s) := by simp [execTProvExpiry]

theorem execTFsessExpiry_lawful (reader : Fin 4) (s : State) : Answers (Lawful false s) (execTFsessExpiry reader s) := by simp [execTFsessExpiry]

theorem execTRetapExpiry_lawful (reader : Fin 4) (s : State) : Answers (Lawful false s) (execTRetapExpiry reader s) := by
  simp only [execTRetapExpiry]
  repeat' split
  all_goals simp

theorem execTRepeatExpiry_lawful (lane : Fin 32) (purse : Nat) (s : State) : Answers (Lawful false s) (execTRepeatExpiry lane purse s) := by
  simp [execTRepeatExpiry]

theorem execTokKillList_lawful (d : Desc) (s : State) : Answers (Lawful false s) (execTokKillList d s) := by simp [execTokKillList]

theorem execTokAntTest_lawful (d : Desc) (currentMa : Nat) (s : State) : Answers (Lawful false s) (execTokAntTest d currentMa s) := by
  simp only [execTokAntTest]
  repeat' split
  all_goals simp

/-! ### Keys and trust -/

theorem execTamperTrigger_lawful (sign : TamperSign) (s : State) : Answers (Lawful false s) (execTamperTrigger sign s) := by simp [execTamperTrigger]

theorem execRootGenerationComplete_lawful (s : State) : Answers (Lawful false s) (execRootGenerationComplete s) := by
  simp only [execRootGenerationComplete]
  split
  · simp
  · refine Lawful.congr (.blow (t := { s with fuses := { s.fuses with epoch := s.fuses.epoch + 1 } }) ?_ rfl) ?_
    · exact ⟨rfl, rfl, rfl, rfl, rfl, rfl, Nat.le_succ _, Nat.le_refl _, fun _ => id, BitVec.and_self, id⟩
    · split <;> simp

theorem execRngHealthFail_lawful (s : State) : Answers (Lawful false s) (execRngHealthFail s) := by simp [execRngHealthFail]

theorem execRngRecover_lawful (samples : Nat) (s : State) : Answers (Lawful false s) (execRngRecover samples s) := by simp [execRngRecover]

theorem execKeyUpdate_lawful (d : Desc) (s : State) : Answers (Lawful false s) (execKeyUpdate d s) := by
  simp only [execKeyUpdate, answers_next]
  refine .of_stores (State.accept_stores _ _ _ _ _ _ _ _ _ fun u => ?_)
  generalize u.keyEntries _ _ _ _ _ _ = work
  cases work with
  | error refused => simp
  | ok w => simp

theorem execKeyCopyWritten_lawful (ok : Bool) (s : State) : Answers (Lawful false s) (execKeyCopyWritten ok s) := by
  simp only [execKeyCopyWritten]
  repeat' split
  all_goals simp

theorem execKeySwitch_lawful (s : State) : Answers (Lawful false s) (execKeySwitch s) := by
  simp only [execKeySwitch]
  split
  next m _ =>
    split
    · simp
    · split
      · simp
      · generalize programmed : m.prog.foldl _ _ = owners
        generalize revoked_eq : m.revoke.foldl _ _ = revoked
        generalize locked : (_ || m.lock) = lock
        refine Lawful.congr (.blow (t := { s with fuses := { s.fuses with owners := owners, revoked := revoked, debugLock := lock } }) ?_ rfl) ?_
        · refine ⟨rfl, rfl, rfl, rfl, rfl, rfl, Nat.le_refl _, Nat.le_refl _, fun i was => ?_, ?_, fun was => ?_⟩
          · simp only [← programmed]
            exact owners_foldl_isSome _ _ _ (by simpa using was)
          · simp only [← revoked_eq]
            simpa using revoked_foldl_and m.revoke s.fuses.revoked
          · simp [← locked, was]
        · split <;> simp
  · simp

theorem execKeyOwnerEnrol_lawful (d : Desc) (s : State) : Answers (Lawful false s) (execKeyOwnerEnrol d s) := by
  simp only [execKeyOwnerEnrol, answers_next]
  refine .acceptSingle _ _ _ _ _ _ fun u => ?_
  generalize programmed : u.fuses.owners.set 0 _ = owners
  generalize locked : (u.fuses.debugLock || _) = lock
  have blown : Lawful false u { u with fuses := { u.fuses with owners := owners, debugLock := lock } } := by
    refine .blow ⟨rfl, rfl, rfl, rfl, rfl, rfl, Nat.le_refl _, Nat.le_refl _, fun i was => ?_, BitVec.and_self, fun was => ?_⟩ rfl
    · simp only [← programmed]
      by_cases first : i.val = 0
      · simp [first]
      · simpa [Vector.getElem_set_ne, Ne.symm first] using was
    · simp [← locked, was]
  repeat' split
  case isFalse => exact blown.congr (State.answer_stores ..)
  all_goals simp

theorem execKeyAttest_lawful (d : Desc) (s : State) : Answers (Lawful false s) (execKeyAttest d s) := by
  simp only [execKeyAttest, answers_next]
  exact .of_stores (State.acceptSingle_stores _ _ _ _ _ _ _ fun u => by
    split
    · simp
    · split
      · simp
      · split <;> simp)

/-! ### The management core -/

theorem execSensorSample_lawful (values : List Int) (memory : MemorySigns) (mains : Nat) (s : State) :
    Answers (Lawful false s) (execSensorSample values memory mains s) := by
  simp only [execSensorSample]
  split
  · simp
  · exact Lawful.finish _ (.of_stores ((foldl_stores _ (fun t p => by split <;> simp) _ _).trans
      ((foldl_stores _ (fun t i => by split <;> simp) _ _).trans (by split <;> simp))))

theorem execMgtBundle_lawful (d : Desc) (s : State) : Answers (Lawful false s) (execMgtBundle d s) := by simp [execMgtBundle]

theorem execMgtUpdSchedule_lawful (d : Desc) (s : State) : Answers (Lawful false s) (execMgtUpdSchedule d s) := by
  simp only [execMgtUpdSchedule, answers_next]
  exact Lawful.finish _ (.of_stores (State.accept_stores _ _ _ _ _ _ _ _ _ fun u => by simp))

theorem execMgtUpdCancel_lawful (d : Desc) (s : State) : Answers (Lawful false s) (execMgtUpdCancel d s) := by
  simp only [execMgtUpdCancel, answers_next]
  exact Lawful.finish _ (.of_stores (State.acceptSingle_stores _ _ _ _ _ _ _ fun u => by simp))

theorem execScheduledTimeReached_lawful (s : State) : Answers (Lawful false s) (execScheduledTimeReached s) := by
  simp only [execScheduledTimeReached]
  repeat' split
  all_goals simp

theorem execUpdateActivation_lawful (s : State) : Answers (Lawful false s) (execUpdateActivation s) := by
  simp only [execUpdateActivation]
  repeat' split
  all_goals simp

theorem execScheduleWindowExpiry_lawful (s : State) : Answers (Lawful false s) (execScheduleWindowExpiry s) := by simp [execScheduleWindowExpiry]

theorem execConfirmationRequest_lawful (s : State) : Answers (Lawful false s) (execConfirmationRequest s) := by
  simp only [execConfirmationRequest]
  split
  · simp
  · refine Lawful.congr (.blow (t := { s with fuses := { s.fuses with level := max s.fuses.level (s.mgt.verRun.toNat / 2 ^ 24) } }) ?_ rfl) ?_
    · exact ⟨rfl, rfl, rfl, rfl, rfl, rfl, Nat.le_refl _, Nat.le_max_left _ _, fun _ => id, BitVec.and_self, id⟩
    · simp

theorem execProfileCopyComplete_lawful (s : State) : Answers (Lawful false s) (execProfileCopyComplete s) := by simp [execProfileCopyComplete]

theorem execTConfirmExpiry_lawful (s : State) : Answers (Lawful false s) (execTConfirmExpiry s) := by simp [execTConfirmExpiry]

theorem execTrialEndReset_lawful (s : State) : Answers (Lawful false s) (execTrialEndReset s) := by simp [execTrialEndReset]

theorem execMgtLogRead_lawful (d : Desc) (s : State) : Answers (Lawful false s) (execMgtLogRead d s) := by
  simp only [execMgtLogRead, answers_next]
  exact Lawful.of_stores (State.acceptSingle_stores _ _ _ _ _ _ _ fun u => by simp)

theorem execMgtLogAck_lawful (d : Desc) (s : State) : Answers (Lawful false s) (execMgtLogAck d s) := by simp [execMgtLogAck]

theorem execMgtProfWrite_lawful (d : Desc) (s : State) : Answers (Lawful false s) (execMgtProfWrite d s) := by
  simp only [execMgtProfWrite]
  repeat' split
  all_goals simp

/-! ### Display ports -/

theorem execEpdTemperatureRead_lawful (port : Fin 4) (ok : Bool) (temp : Int) (s : State) :
    Answers (Lawful false s) (execEpdTemperatureRead port ok temp s) := by
  simp only [execEpdTemperatureRead]
  repeat' split
  all_goals simp

theorem execEpdStatusTempRead_lawful (port : Fin 4) (ok : Bool) (temp : Int) (s : State) :
    Answers (Lawful false s) (execEpdStatusTempRead port ok temp s) := by simp [execEpdStatusTempRead]

theorem execEpdPwrgoodRise_lawful (port : Fin 4) (s : State) : Answers (Lawful false s) (execEpdPwrgoodRise port s) := by simp [execEpdPwrgoodRise]

theorem execEpdTPgExpiry_lawful (port : Fin 4) (s : State) : Answers (Lawful false s) (execEpdTPgExpiry port s) := by
  simp only [execEpdTPgExpiry]
  repeat' split
  all_goals simp

theorem execEpdPwrgoodFall_lawful (port : Fin 4) (s : State) : Answers (Lawful false s) (execEpdPwrgoodFall port s) := by simp [execEpdPwrgoodFall]

theorem execEpdFrame_lawful (port : Fin 4) (s : State) : Answers (Lawful false s) (execEpdFrame port s) := by
  simp only [execEpdFrame]
  repeat' split
  all_goals simp

theorem execEpdTIdleExpiry_lawful (port : Fin 4) (s : State) : Answers (Lawful false s) (execEpdTIdleExpiry port s) := by simp [execEpdTIdleExpiry]

theorem execEpdPmicOff_lawful (port : Fin 4) (s : State) : Answers (Lawful false s) (execEpdPmicOff port s) := by simp [execEpdPmicOff]

theorem execEpdClearRetry_lawful (port : Fin 4) (s : State) : Answers (Lawful false s) (execEpdClearRetry port s) := by simp [execEpdClearRetry]

theorem execEpdUpdate_lawful (d : Desc) (s : State) : Answers (Lawful false s) (execEpdUpdate d s) := by
  simp only [execEpdUpdate, answers_next]
  exact Lawful.of_stores (State.accept_stores _ _ _ _ _ _ _ _ _ fun u => by simp)

theorem execEpdWaveLoad_lawful (d : Desc) (s : State) : Answers (Lawful false s) (execEpdWaveLoad d s) := by
  simp only [execEpdWaveLoad, answers_next]
  exact Lawful.of_stores (State.accept_stores _ _ _ _ _ _ _ _ _ fun u => by simp)

theorem execEpdUnifLoad_lawful (d : Desc) (s : State) : Answers (Lawful false s) (execEpdUnifLoad d s) := by
  simp only [execEpdUnifLoad, answers_next]
  exact Lawful.of_stores (State.accept_stores _ _ _ _ _ _ _ _ _ fun u => by simp)

theorem execEpdFl_lawful (d : Desc) (s : State) : Answers (Lawful false s) (execEpdFl d s) := by
  simp only [execEpdFl, answers_next]
  exact Lawful.of_stores (State.acceptSingle_stores _ _ _ _ _ _ _ fun u => by simp)

theorem execEpdUartSend_lawful (d : Desc) (s : State) : Answers (Lawful false s) (execEpdUartSend d s) := by
  simp only [execEpdUartSend, answers_next]
  exact Lawful.of_stores (State.accept_stores _ _ _ _ _ _ _ _ _ fun u => by simp)

theorem execEpdUartRxFlush_lawful (port : Fin 4) (bytes : List (BitVec 8)) (idleUs : Nat) (s : State) :
    Answers (Lawful false s) (execEpdUartRxFlush port bytes idleUs s) := by simp [execEpdUartRxFlush]

/-! ### Bundles -/

theorem execBundleVerified_lawful (s : State) : Answers (Lawful false s) (execBundleVerified s) := by
  simp only [execBundleVerified]
  repeat' split
  all_goals simp

/-! ### Frames of the site line -/

theorem execDataReceived_lawful (f : LineRx) (s : State) : Answers (Lawful false s) (execDataReceived f s) := by simp [execDataReceived]

theorem execDeltaReceived_lawful (f : LineRx) (uncorrectable : List (Nat × Nat)) (s : State) :
    Answers (Lawful false s) (execDeltaReceived f uncorrectable s) := by
  simp only [execDeltaReceived, answers_next]
  refine .of_stores (State.lineReceive_stores _ _ _ _ fun g u => ?_)
  generalize counted : applyDeltas uncorrectable _ _ _ _ = applied
  have same : applied.2.stores = u.stores := by simp [← counted]
  split
  · rfl
  · split <;> split <;> simp [same]

theorem execTimeReceived_lawful (f : LineRx) (s : State) : Answers (Lawful false s) (execTimeReceived f s) := by simp [execTimeReceived]

theorem execScheduleReceived_lawful (f : LineRx) (s : State) : Answers (Lawful false s) (execScheduleReceived f s) := by
  simp only [execScheduleReceived, answers_next]
  exact Lawful.finish _ (.of_stores (State.lineReceive_stores _ _ _ _ fun f u => by simp))

theorem execLineAckReceived_lawful (f : LineRx) (s : State) : Answers (Lawful false s) (execLineAckReceived f s) := by
  simp only [execLineAckReceived, answers_next]
  refine .of_stores (State.lineReceive_stores _ _ _ _ fun g u => ?_)
  split
  · simp
  · split
    · simp
    · split <;> simp

theorem execAdvertReceived_lawful (f : LineRx) (s : State) : Answers (Lawful false s) (execAdvertReceived f s) := by simp [execAdvertReceived]

theorem execBeaconReceived_lawful (f : LineRx) (s : State) : Answers (Lawful false s) (execBeaconReceived f s) := by simp [execBeaconReceived]

theorem execSoundReceived_lawful (src : Nat) (snrs : List Nat) (high : List (Nat × Nat)) (s : State) :
    Answers (Lawful false s) (execSoundReceived src snrs high s) := by
  simp only [execSoundReceived]
  repeat' split
  all_goals simp

theorem execSoundRptReceived_lawful (f : LineRx) (s : State) : Answers (Lawful false s) (execSoundRptReceived f s) := by simp [execSoundRptReceived]

theorem execJoinReceived_lawful (f : LineRx) (s : State) : Answers (Lawful false s) (execJoinReceived f s) := by simp [execJoinReceived]

theorem execLineFrameTransmitEnd_lawful (s : State) : Answers (Lawful false s) (execLineFrameTransmitEnd s) := by
  simp only [execLineFrameTransmitEnd]
  repeat' split
  all_goals simp

theorem execMediumAccess_lawful (span : Nat) (readings : List CarrierReading) (storeOk : Bool) (s : State) :
    Answers (Lawful false s) (execMediumAccess span readings storeOk s) := by
  simp only [execMediumAccess]
  repeat' split
  all_goals simp

theorem execAckTransmit_lawful (storeOk : Bool) (s : State) : Answers (Lawful false s) (execAckTransmit storeOk s) := by
  simp only [execAckTransmit]
  repeat' split
  all_goals simp

theorem execTAckExpiry_lawful (s : State) : Answers (Lawful false s) (execTAckExpiry s) := by
  simp only [execTAckExpiry]
  repeat' split
  all_goals simp

theorem execBeaconPeriod_lawful (storeOk : Bool) (s : State) : Answers (Lawful false s) (execBeaconPeriod storeOk s) := by simp [execBeaconPeriod]

theorem execMemberSlot_lawful (storeOk : Bool) (s : State) : Answers (Lawful false s) (execMemberSlot storeOk s) := by
  simp only [execMemberSlot]
  repeat' split
  all_goals simp

theorem execTBeaconExpiry_lawful (s : State) : Answers (Lawful false s) (execTBeaconExpiry s) := by simp [execTBeaconExpiry]

theorem execCoordinatorTakeover_lawful (s : State) : Answers (Lawful false s) (execCoordinatorTakeover s) := by
  simp only [execCoordinatorTakeover]
  repeat' split
  all_goals simp

theorem execTAdvExpiry_lawful (s : State) : Answers (Lawful false s) (execTAdvExpiry s) := by simp [execTAdvExpiry]

theorem execLineSend_lawful (d : Desc) (s : State) : Answers (Lawful false s) (execLineSend d s) := by
  simp only [execLineSend, answers_next]
  refine .of_stores (State.accept_stores _ _ _ _ _ _ _ _ _ fun u => ?_)
  repeat' split
  all_goals simp

theorem execLineSound_lawful (d : Desc) (s : State) : Answers (Lawful false s) (execLineSound d s) := by simp [execLineSound]

theorem execLineSoundWindowEnd_lawful (s : State) : Answers (Lawful false s) (execLineSoundWindowEnd s) := by
  simp only [execLineSoundWindowEnd]
  repeat' split
  all_goals simp

theorem execLineTest_lawful (d : Desc) (s : State) : Answers (Lawful false s) (execLineTest d s) := by simp [execLineTest]

theorem execLineTestEnd_lawful (noise : List Nat) (s : State) : Answers (Lawful true s) (execLineTestEnd noise s) := by
  simp only [execLineTestEnd]
  split
  · simp
  · split
    · simp
    · split
      · simp
      · refine Lawful.congr (t := if _ then _ else _) ?_ (State.settleFlight_stores ..)
        split
        · exact .trans (.of_stores (by simp)) (Lawful.writeHost _ _ _)
        · simp

theorem execLineNeighRead_lawful (d : Desc) (s : State) : Answers (Lawful true s) (execLineNeighRead d s) := by
  simp only [execLineNeighRead, answers_next]
  exact .acceptSingle _ _ _ _ _ _ fun u => by
    exact (Lawful.writeHost u _ _).congr (State.answer_stores ..)

/-! ### Frames of a pair -/

theorem execPairProbe_lawful (low : Bool) (s : State) : Answers (Lawful false s) (execPairProbe low s) := by simp [execPairProbe]

theorem execPairHoldLineChange_lawful (low : Bool) (s : State) : Answers (Lawful false s) (execPairHoldLineChange low s) := by
  simp [execPairHoldLineChange]

theorem execTFreeExpiry_lawful (s : State) : Answers (Lawful false s) (execTFreeExpiry s) := by simp [execTFreeExpiry]

theorem execTSwitchExpiry_lawful (s : State) : Answers (Lawful false s) (execTSwitchExpiry s) := by
  simp only [execTSwitchExpiry]
  split
  · simp
  · split
    · simp
    · exact Lawful.finish _ (.of_stores ((State.mclkPlan_stores _).trans ((State.forLanes_stores _ _ fun t n => by split <;> simp).trans (by simp))))

theorem execHealthSend_lawful (s : State) : Answers (Lawful false s) (execHealthSend s) := by simp [execHealthSend]

theorem execHealthReceived_lawful (crcOk : Bool) (payload : List (BitVec 8)) (s : State) :
    Answers (Lawful false s) (execHealthReceived crcOk payload s) := by simp [execHealthReceived]

theorem execJournalFrameReceived_lawful (crcOk : Bool) (payload : List (BitVec 8)) (s : State) :
    Answers (Lawful false s) (execJournalFrameReceived crcOk payload s) := by
  simp only [execJournalFrameReceived]
  split
  · simp
  · split
    · simp
    · refine Lawful.finish _ (.of_stores ?_)
      generalize joined : List.foldl State.joinEntry _ _ = t
      have same : t.stores = s.stores := by simp [← joined]
      simp [same]

theorem execJackReceived_lawful (crcOk : Bool) (payload : List (BitVec 8)) (s : State) :
    Answers (Lawful false s) (execJackReceived crcOk payload s) := by simp [execJackReceived]

theorem execJournalResend_lawful (s : State) : Answers (Lawful false s) (execJournalResend s) := by simp [execJournalResend]

theorem execBulkReceived_lawful (crcOk : Bool) (payload : List (BitVec 8)) (s : State) :
    Answers (Lawful false s) (execBulkReceived crcOk payload s) := by
  simp only [execBulkReceived]
  split
  · simp
  · split
    · simp
    · split
      · simp
      · split
        · simp
        · generalize taken : List.foldl State.bulkUnit _ _ = t
          have same : t.stores = s.stores := by simp [← taken]
          split
          · split
            · exact Lawful.finish _ (.of_stores (by simp [same]))
            · simp [same]
          · simp [same]

theorem execPairScheduleReceived_lawful (crcOk : Bool) (payload : List (BitVec 8)) (s : State) :
    Answers (Lawful false s) (execPairScheduleReceived crcOk payload s) := by simp [execPairScheduleReceived]

theorem execTakebackReceived_lawful (crcOk : Bool) (s : State) : Answers (Lawful false s) (execTakebackReceived crcOk s) := by
  simp [execTakebackReceived]

theorem execReleasedReceived_lawful (crcOk : Bool) (s : State) : Answers (Lawful false s) (execReleasedReceived crcOk s) := by
  simp [execReleasedReceived]

theorem execTLinkExpiry_lawful (s : State) : Answers (Lawful false s) (execTLinkExpiry s) := by simp [execTLinkExpiry]

theorem execTSettleExpiry_lawful (s : State) : Answers (Lawful false s) (execTSettleExpiry s) := by simp [execTSettleExpiry]

theorem execTakebackResend_lawful (s : State) : Answers (Lawful false s) (execTakebackResend s) := by simp [execTakebackResend]

theorem execPairRelease_lawful (s : State) : Answers (Lawful false s) (execPairRelease s) := by simp [execPairRelease]

theorem execTTbwinExpiry_lawful (s : State) : Answers (Lawful false s) (execTTbwinExpiry s) := by
  simp only [execTTbwinExpiry]
  split
  · simp
  · split
    · exact Lawful.finish _ (.of_stores ((foldl_stores _ (fun t f => by simp) _ _).trans (by simp)))
    · split <;> simp

theorem execReclaimTimeout_lawful (s : State) : Answers (Lawful false s) (execReclaimTimeout s) := by simp [execReclaimTimeout]

theorem execPairHandover_lawful (d : Desc) (s : State) : Answers (Lawful false s) (execPairHandover d s) := by
  simp only [execPairHandover, answers_next]
  exact Lawful.finish _ (.of_stores (State.acceptSingle_stores _ _ _ _ _ _ _ fun u => by simp))

theorem execPairHandoverCancel_lawful (d : Desc) (s : State) : Answers (Lawful false s) (execPairHandoverCancel d s) := by
  simp only [execPairHandoverCancel, answers_next]
  exact Lawful.finish _ (.of_stores (State.acceptSingle_stores _ _ _ _ _ _ _ fun u => by simp))

/-! ### Faults of the management core -/

theorem execMcWatchdogExpiry_lawful (s : State) : Answers (Lawful false s) (execMcWatchdogExpiry s) := by simp [execMcWatchdogExpiry]

theorem execShedLevelChange_lawful (fill : Nat) (s : State) : Answers (Lawful false s) (execShedLevelChange fill s) := by simp [execShedLevelChange]

/-! ### Metrology -/

theorem execMclkStartStop_lawful (group : Fin 8) (s : State) : Answers (Lawful false s) (execMclkStartStop group s) := by
  simp only [execMclkStartStop]
  split
  · simp
  · refine Lawful.finish _ (.of_stores ?_)
    split
    · exact (State.forLanes_stores _ _ fun t n => by split <;> simp).trans (by simp)
    · simp

theorem execChainRun_lawful (lane : Fin 32) (s : State) : Answers (Lawful false s) (execChainRun lane s) := by
  simp only [execChainRun]
  repeat' split
  all_goals simp

theorem execStreamStuckChange_lawful (lane : Fin 32) (ch : Fin 8) (stuck level : Bool) (equalBits : Nat) (s : State) :
    Answers (Lawful false s) (execStreamStuckChange lane ch stuck level equalBits s) := by simp [execStreamStuckChange]

theorem execCycleEnd_lawful (lane : Fin 32) (wins refWins : List BitWindow) (ue : Bool) (s : State) :
    Answers (Lawful false s) (execCycleEnd lane wins refWins ue s) := by
  simp only [execCycleEnd]
  repeat' split
  all_goals simp

theorem execTrackingChange_lawful (lane : Fin 32) (refWins : List BitWindow) (s : State) :
    Answers (Lawful false s) (execTrackingChange lane refWins s) := by simp [execTrackingChange]

theorem execEnvelopeEvent_lawful (lane : Fin 32) (ch : Fin 8) (samples : List Int) (s : State) :
    Answers (Lawful false s) (execEnvelopeEvent lane ch samples s) := by
  simp only [execEnvelopeEvent]
  split
  · simp
  · exact Lawful.finish _ (.of_stores ((State.setChan_stores _ _ _ _).trans (foldl_stores _ (fun t p => by simp) _ _)))

theorem execCalChangeEffect_lawful (lane : Fin 32) (wins refWins : List BitWindow) (s : State) :
    Answers (Lawful false s) (execCalChangeEffect lane wins refWins s) := by
  simp only [execCalChangeEffect]
  repeat' split
  all_goals simp

theorem execTTrigExpiry_lawful (slot : Fin 4) (s : State) : Answers (Lawful false s) (execTTrigExpiry slot s) := by simp [execTTrigExpiry]

theorem execMetCapture_lawful (d : Desc) (s : State) : Answers (Lawful false s) (execMetCapture d s) := by
  simp only [execMetCapture, answers_next]
  exact .of_stores (State.acceptSingle_stores _ _ _ _ _ _ _ fun u => by
    split
    · simp
    · split
      · simp
      · split
        · simp
        · split <;> simp)

theorem execMetCaptureCancel_lawful (d : Desc) (s : State) : Answers (Lawful false s) (execMetCaptureCancel d s) := by
  simp only [execMetCaptureCancel, answers_next]
  exact .of_stores (State.acceptSingle_stores _ _ _ _ _ _ _ fun u => by
    split
    · simp
    · split <;> simp)

theorem execMetRead_lawful (d : Desc) (s : State) : Answers (Lawful true s) (execMetRead d s) := by
  simp only [execMetRead, answers_next]
  exact .acceptSingle _ _ _ _ _ _ fun u => by
    split
    · exact (Lawful.writeHost u _ _).congr (State.answer_stores ..)
    · simp

theorem execMetCoefRead_lawful (d : Desc) (s : State) : Answers (Lawful true s) (execMetCoefRead d s) := by
  simp only [execMetCoefRead, answers_next]
  exact .acceptSingle _ _ _ _ _ _ fun u => by
    exact (Lawful.writeHost u _ _).congr (State.answer_stores ..)

/-! ### Power and clocks -/

theorem execIdealDiodeChange_lawful (feed : Fin 2) (vinMv vsysMv : Nat) (s : State) :
    Answers (Lawful false s) (execIdealDiodeChange feed vinMv vsysMv s) := by simp [execIdealDiodeChange]

theorem execFeedPresenceChange_lawful (feed : Fin 2) (vinMv : Nat) (s : State) : Answers (Lawful false s) (execFeedPresenceChange feed vinMv s) := by
  simp only [execFeedPresenceChange]
  repeat' split
  all_goals simp

theorem execPowerOn_lawful (s : State) : Answers (Lawful false s) (execPowerOn s) := by
  unfold execPowerOn
  split
  · simp
  · exact (Lawful.railsOff (.refl _ _)).congr (by simp)

theorem execBiasGood_lawful (s : State) : Answers (Lawful false s) (execBiasGood s) := by simp [execBiasGood]

theorem execRailPowerGood_lawful (rail : Fin 5) (s : State) : Answers (Lawful false s) (execRailPowerGood rail s) := by simp [execRailPowerGood]

theorem execRailStartTimeout_lawful (rail : Fin 5) (s : State) : Answers (Lawful false s) (execRailStartTimeout rail s) := by
  simp [execRailStartTimeout]

theorem execRailRetryWaitEnd_lawful (s : State) : Answers (Lawful false s) (execRailRetryWaitEnd s) := by simp [execRailRetryWaitEnd]

theorem execVsysBelowMin_lawful (s : State) : Answers (Lawful false s) (execVsysBelowMin s) := by
  simp only [execVsysBelowMin]
  repeat' split
  all_goals simp

theorem execVsysBelowRestartFloor_lawful (s : State) : Answers (Lawful false s) (execVsysBelowRestartFloor s) := by
  simp only [execVsysBelowRestartFloor, answers_next]
  split
  · exact (Lawful.railsOff (.refl _ _)).congr (by simp)
  · simp

theorem execVbatLowChange_lawful (vbatMv : Nat) (s : State) : Answers (Lawful false s) (execVbatLowChange vbatMv s) := by simp [execVbatLowChange]

theorem execBatteryIslandSwitchover_lawful (vddIo33Mv : Nat) (s : State) : Answers (Lawful false s) (execBatteryIslandSwitchover vddIo33Mv s) := by
  simp [execBatteryIslandSwitchover]

theorem execHoldupDetect_lawful (vsysMv heldUs : Nat) (s : State) : Answers (Lawful false s) (execHoldupDetect vsysMv heldUs s) := by
  simp only [execHoldupDetect]
  split
  · simp
  · exact Lawful.finish _ (.of_stores ((State.startCommit_stores _ _ _).trans ((foldl_stores _ (fun t p => by simp) _ _).trans (by simp))))

theorem execCommitBodyWritten_lawful (s : State) : Answers (Lawful false s) (execCommitBodyWritten s) := by
  simp only [execCommitBodyWritten]
  repeat' split
  all_goals simp

theorem execCommitTrailerWritten_lawful (s : State) : Answers (Lawful false s) (execCommitTrailerWritten s) := by
  simp only [execCommitTrailerWritten]
  repeat' split
  all_goals simp

theorem execCheckpointStart_lawful (s : State) : Answers (Lawful false s) (execCheckpointStart s) := by simp [execCheckpointStart]

theorem execHoldupRecover_lawful (vsysMv heldMs : Nat) (s : State) : Answers (Lawful false s) (execHoldupRecover vsysMv heldMs s) := by
  simp only [execHoldupRecover]
  split
  · simp
  · split
    · exact .chipReset (.of_stores (by simp))
    · simp

theorem execRstNAssert_lawful (lowUs : Nat) (s : State) : Answers (Lawful false s) (execRstNAssert lowUs s) := by
  simp only [execRstNAssert]
  repeat' split
  all_goals simp

theorem execRstNRelease_lawful (s : State) : Answers (Lawful false s) (execRstNRelease s) := by simp [execRstNRelease]

theorem execCkRefLoss_lawful (s : State) : Answers (Lawful false s) (execCkRefLoss s) := by simp [execCkRefLoss]

theorem execCkRefReturn_lawful (s : State) : Answers (Lawful false s) (execCkRefReturn s) := by simp [execCkRefReturn]

theorem execCkMetLoss_lawful (s : State) : Answers (Lawful false s) (execCkMetLoss s) := by simp [execCkMetLoss]

theorem execCkRfidLoss_lawful (s : State) : Answers (Lawful false s) (execCkRfidLoss s) := by simp [execCkRfidLoss]

theorem execCkRfidReturn_lawful (s : State) : Answers (Lawful false s) (execCkRfidReturn s) := by simp [execCkRfidReturn]

theorem execCkRtcLoss_lawful (s : State) : Answers (Lawful false s) (execCkRtcLoss s) := by simp [execCkRtcLoss]

theorem execCkRtcReturn_lawful (s : State) : Answers (Lawful false s) (execCkRtcReturn s) := by simp [execCkRtcReturn]

theorem execPllLockLoss_lawful (pll : Fin 4) (s : State) : Answers (Lawful false s) (execPllLockLoss pll s) := by simp [execPllLockLoss]

theorem execPllRelock_lawful (pll : Fin 4) (s : State) : Answers (Lawful false s) (execPllRelock pll s) := by simp [execPllRelock]

theorem execBridgeFrameError_lawful (s : State) : Answers (Lawful false s) (execBridgeFrameError s) := by simp [execBridgeFrameError]

/-! ### Profiles -/

theorem execProfileRequest_lawful (index : BitVec 2) (s : State) : Answers (Lawful false s) (execProfileRequest index s) := by
  simp [execProfileRequest]

theorem execProfileCancel_lawful (s : State) : Answers (Lawful false s) (execProfileCancel s) := by simp [execProfileCancel]

theorem execProfileSwitch_lawful (cut : List (Fin 32 × List BitWindow × List BitWindow)) (s : State) :
    Answers (Lawful false s) (execProfileSwitch cut s) := by simp [execProfileSwitch]

theorem execStartupProfileLoad_lawful (s : State) : Answers (Lawful false s) (execStartupProfileLoad s) := by simp [execStartupProfileLoad]

theorem execArbClaimCheck_lawful (d : Desc) (s : State) : Answers (Lawful false s) (execArbClaimCheck d s) := by
  simp only [execArbClaimCheck, answers_next]
  exact .of_stores (State.acceptSingle_stores _ _ _ _ _ _ _ fun u => by
    split <;> simp)

/-! ### Start-up -/

theorem execStrapSample_lawful (prof : BitVec 2) (pairPri trstHigh : Bool) (s : State) :
    Answers (Lawful false s) (execStrapSample prof pairPri trstHigh s) := by simp [execStrapSample]

theorem execBootSelfTestDone_lawful (failCode : Byte) (modems : Bool) (s : State) :
    Answers (Lawful false s) (execBootSelfTestDone failCode modems s) := by
  simp only [execBootSelfTestDone]
  repeat' split
  all_goals simp

theorem execLegalPathRestored_lawful (s : State) : Answers (Lawful false s) (execLegalPathRestored s) := by
  simp only [execLegalPathRestored]
  repeat' split
  all_goals simp

theorem execEndpointReady_lawful (width speed : BitVec 2) (s : State) : Answers (Lawful false s) (execEndpointReady width speed s) := by
  simp [execEndpointReady]

theorem execDramReady_lawful (trained : Bool) (s : State) : Answers (Lawful false s) (execDramReady trained s) := by simp [execDramReady]

/-! ### The host interface -/

theorem execChipResetRequest_lawful (val : BitVec 32) (s : State) : Answers (Lawful false s) (execChipResetRequest val s) := by
  simp [execChipResetRequest]

theorem execBlockResetRequest_lawful (val : BitVec 32) (s : State) : Answers (Lawful false s) (execBlockResetRequest val s) := by
  simp [execBlockResetRequest]

theorem execPcieRefclkLoss_lawful (s : State) : Answers (Lawful false s) (execPcieRefclkLoss s) := by simp [execPcieRefclkLoss]

theorem execPciePerst_lawful (s : State) : Answers (Lawful false s) (execPciePerst s) := by simp [execPciePerst]

theorem execPciePerstRelease_lawful (s : State) : Answers (Lawful false s) (execPciePerstRelease s) := by simp [execPciePerstRelease]

theorem execPcieEndpointStateChange_lawful (bme d3 msixEn funcMask : Bool) (s : State) :
    Answers (Lawful false s) (execPcieEndpointStateChange bme d3 msixEn funcMask s) := by simp [execPcieEndpointStateChange]

theorem execRingEnable_lawful (ring : Fin 16) (s : State) : Answers (Lawful false s) (execRingEnable ring s) := by simp [execRingEnable]

theorem execRingDisable_lawful (ring : Fin 16) (s : State) : Answers (Lawful false s) (execRingDisable ring s) := by simp [execRingDisable]

theorem execHifCtlRun_lawful (run : Bool) (s : State) : Answers (Lawful false s) (execHifCtlRun run s) := by simp [execHifCtlRun]

theorem execRingDoorbell_lawful (ring : Fin 16) (index : BitVec 16) (s : State) : Answers (Lawful false s) (execRingDoorbell ring index s) := by
  simp [execRingDoorbell]

theorem execCommandNop_lawful (d : Desc) (s : State) : Answers (Lawful false s) (execCommandNop d s) := by simp [execCommandNop]

theorem execUndefinedOpcode_lawful (ring : Fin 16) (d : Desc) (s : State) : Answers (Lawful false s) (execUndefinedOpcode ring d s) := by
  simp [execUndefinedOpcode]

theorem execChainErr_lawful (ring : Fin 16) (d : Desc) (rest : Nat) (s : State) : Answers (Lawful false s) (execChainErr ring d rest s) := by
  simp [execChainErr]

theorem execRingFetchError_lawful (ring : Fin 16) (code : Fin 4) (s : State) : Answers (Lawful false s) (execRingFetchError ring code s) := by
  simp [execRingFetchError]

theorem execSpillDrain_lawful (ring : Fin 16) (s : State) : Answers (Lawful false s) (execSpillDrain ring s) := by simp [execSpillDrain]

theorem execVectorModerationTimeout_lawful (vec : Fin 32) (s : State) : Answers (Lawful false s) (execVectorModerationTimeout vec s) := by
  simp [execVectorModerationTimeout]

theorem execCommandTimeLimitExpiry_lawful (opcode : Byte) (unit : Nat) (s : State) :
    Answers (Lawful false s) (execCommandTimeLimitExpiry opcode unit s) := by simp [execCommandTimeLimitExpiry]

theorem execEventRelease_lawful (tick : Nat) (s : State) : Answers (Lawful false s) (execEventRelease tick s) := by simp [execEventRelease]

theorem execRegisterWrite_lawful (off : BitVec 17) (be : BitVec 4) (val : BitVec 32) (crosses : Bool) (s : State) :
    Answers (Lawful false s) (execRegisterWrite off be val crosses s) := by
  simp only [execRegisterWrite]
  split
  · simp
  · split
    · simp
    · split
      · simp
      · split
        · exact .writeGlb ..
        · split
          · simp
          · split <;> simp

theorem execLatchedPairRead_lawful (off : BitVec 17) (be : BitVec 4) (crosses : Bool) (s : State) :
    Answers (Lawful false s) (execLatchedPairRead off be crosses s) := by simp [execLatchedPairRead]

theorem execVlkLviolRead_lawful (lane : Fin 32) (be : BitVec 4) (crosses : Bool) (s : State) :
    Answers (Lawful false s) (execVlkLviolRead lane be crosses s) := by simp [execVlkLviolRead]

theorem execQueueWordWrite_lawful (queue : Fin 16) (word : BitVec 64) (endMark : Bool) (s : State) :
    Answers (Lawful false s) (execQueueWordWrite queue word endMark s) :=
  Lawful.setQueue queue (IQueue.put_counts word endMark)

theorem execQueueWordRead_lawful (queue : Fin 16) (s : State) : Answers (Lawful false s) (execQueueWordRead queue s) :=
  Lawful.setQueue queue IQueue.get_counts

theorem execQueueDropRemainder_lawful (queue : Fin 16) (s : State) : Answers (Lawful false s) (execQueueDropRemainder queue s) :=
  Lawful.setQueue queue IQueue.drop_counts

/-! ### Events and commands of lanes -/

theorem execPwmPeriodStart_lawful (sense : List LaneSense) (loads : List (Fin 48 × Nat)) (s : State) :
    Answers (Lawful false s) (execPwmPeriodStart sense loads s) := by
  simp only [execPwmPeriodStart]
  split
  · simp
  · exact Lawful.finish _ (.of_stores ((State.forLanes_stores _ _ fun t n => by split <;> simp).trans (by simp)))

theorem execPilotStateChange_lawful (lane : Fin 32) (cps : Wave) (s : State) : Answers (Lawful false s) (execPilotStateChange lane cps s) := by
  simp [execPilotStateChange]

theorem execProximityRatingChange_lawful (lane : Fin 32) (ohms : Nat) (s : State) :
    Answers (Lawful false s) (execProximityRatingChange lane ohms s) := by simp [execProximityRatingChange]

theorem execContactorFeedbackChange_lawful (lane : Fin 32) (mirror high : Bool) (s : State) :
    Answers (Lawful false s) (execContactorFeedbackChange lane mirror high s) := by simp [execContactorFeedbackChange]

theorem execTCloseExpiry_lawful (lane : Fin 32) (s : State) : Answers (Lawful false s) (execTCloseExpiry lane s) := by simp [execTCloseExpiry]

theorem execTFbExpiry_lawful (lane : Fin 32) (s : State) : Answers (Lawful false s) (execTFbExpiry lane s) := by
  simp only [execTFbExpiry]
  repeat' split
  all_goals simp

theorem execTStopExpiry_lawful (lane : Fin 32) (s : State) : Answers (Lawful false s) (execTStopExpiry lane s) := by simp [execTStopExpiry]

theorem execTFaultHoldExpiry_lawful (lane : Fin 32) (s : State) : Answers (Lawful false s) (execTFaultHoldExpiry lane s) := by
  simp [execTFaultHoldExpiry]

theorem execTModExpiry_lawful (lane : Fin 32) (s : State) : Answers (Lawful false s) (execTModExpiry lane s) := by simp [execTModExpiry]

theorem execSetpointSend_lawful (lane : Fin 32) (txErrors : Nat) (s : State) : Answers (Lawful false s) (execSetpointSend lane txErrors s) := by
  simp [execSetpointSend]

theorem execPmcanStatusFrame_lawful (ctl : Fin 4) (modAddr : BitVec 6) (bytes : List (BitVec 8)) (rxErrors : Nat) (s : State) :
    Answers (Lawful false s) (execPmcanStatusFrame ctl modAddr bytes rxErrors s) := by
  simp only [execPmcanStatusFrame]
  repeat' split
  all_goals simp

theorem execPmcanBusOff_lawful (ctl : Fin 4) (txErrors : Nat) (s : State) : Answers (Lawful false s) (execPmcanBusOff ctl txErrors s) := by
  simp only [execPmcanBusOff]
  split
  · simp
  · exact Lawful.finish _ (.of_stores ((State.forLanes_stores _ _ fun t n => by split <;> simp).trans (by simp)))

theorem execPmcanBusOffRecovery_lawful (ctl : Fin 4) (s : State) : Answers (Lawful false s) (execPmcanBusOffRecovery ctl s) := by
  simp [execPmcanBusOffRecovery]

theorem execLaneAdmit_lawful (d : Desc) (s : State) : Answers (Lawful false s) (execLaneAdmit d s) := by
  simp only [execLaneAdmit, answers_next]
  exact Lawful.finish _ (.of_stores (State.accept_stores _ _ _ _ _ _ _ _ _ fun u => by simp))

theorem execLaneLimit_lawful (d : Desc) (s : State) : Answers (Lawful false s) (execLaneLimit d s) := by
  simp only [execLaneLimit, answers_next]
  exact Lawful.finish _ (.of_stores (State.accept_stores _ _ _ _ _ _ _ _ _ fun u => by
    split
    · split
      · split
        · split <;> simp
        · simp
      · simp
    · split
      · simp
      · exact (foldl_stores _ (fun t n => State.onLane_stores _ _ _ fun t n => by split <;> simp) _ _).trans (by simp)
    · simp))

theorem execLaneStop_lawful (d : Desc) (s : State) : Answers (Lawful false s) (execLaneStop d s) := by
  simp only [execLaneStop, answers_next]
  exact Lawful.finish _ (.of_stores (State.accept_stores _ _ _ _ _ _ _ _ _ fun u => by simp))

theorem execLaneService_lawful (d : Desc) (s : State) : Answers (Lawful false s) (execLaneService d s) := by
  simp only [execLaneService, answers_next]
  exact Lawful.finish _ (.of_stores (State.accept_stores _ _ _ _ _ _ _ _ _ fun u => by simp))

theorem execLaneClear_lawful (d : Desc) (s : State) : Answers (Lawful false s) (execLaneClear d s) := by
  simp only [execLaneClear, answers_next]
  exact Lawful.finish _ (.of_stores (State.accept_stores _ _ _ _ _ _ _ _ _ fun u => by simp))

/-! ### Events and commands of load switches -/

theorem execCoilEnableRise_lawful (ch : Fin 32) (s : State) : Answers (Lawful false s) (execCoilEnableRise ch s) := by simp [execCoilEnableRise]

theorem execCoilEnableFall_lawful (ch : Fin 32) (s : State) : Answers (Lawful false s) (execCoilEnableFall ch s) := by simp [execCoilEnableFall]

theorem execPullInEnd_lawful (ch : Fin 32) (s : State) : Answers (Lawful false s) (execPullInEnd ch s) := by simp [execPullInEnd]

theorem execCoilTrip_lawful (ch : Fin 32) (held : Nat) (s : State) : Answers (Lawful false s) (execCoilTrip ch held s) := by simp [execCoilTrip]

theorem execCoilTripsReset_lawful (ch : Fin 32) (s : State) : Answers (Lawful false s) (execCoilTripsReset ch s) := by simp [execCoilTripsReset]

theorem execInrushEnd_lawful (m : Fin 16) (s : State) : Answers (Lawful false s) (execInrushEnd m s) := by simp [execInrushEnd]

theorem execAuxTrip_lawful (m : Fin 16) (cause : Fin 3) (currentMa held : Nat) (s : State) :
    Answers (Lawful false s) (execAuxTrip m cause currentMa held s) := by simp [execAuxTrip]

theorem execTRetryExpiry_lawful (m : Fin 16) (s : State) : Answers (Lawful false s) (execTRetryExpiry m s) := by simp [execTRetryExpiry]

theorem execAuxRetriesReset_lawful (m : Fin 16) (s : State) : Answers (Lawful false s) (execAuxRetriesReset m s) := by simp [execAuxRetriesReset]

theorem execOpenLoadChange_lawful (ch : Fin 48) (above : Bool) (held : Nat) (s : State) :
    Answers (Lawful false s) (execOpenLoadChange ch above held s) := by simp [execOpenLoadChange]

theorem execUnderloadSet_lawful (m : Fin 16) (currentMa held : Nat) (s : State) : Answers (Lawful false s) (execUnderloadSet m currentMa held s) := by
  simp [execUnderloadSet]

theorem execThermalWarnChange_lawful (q : Fin 12) (temp : Int) (s : State) : Answers (Lawful false s) (execThermalWarnChange q temp s) := by
  simp [execThermalWarnChange]

theorem execThermalLatchSet_lawful (q : Fin 12) (temp : Int) (s : State) : Answers (Lawful false s) (execThermalLatchSet q temp s) := by
  simp only [execThermalLatchSet]
  split
  · exact Lawful.finish _ (.of_stores ((foldl_stores _ (fun t c => by split <;> simp) _ _).trans (by simp)))
  · simp

theorem execThermalLatchClear_lawful (q : Fin 12) (temp : Int) (s : State) : Answers (Lawful false s) (execThermalLatchClear q temp s) := by
  simp only [execThermalLatchClear]
  split
  · exact Lawful.finish _ (.of_stores ((foldl_stores _ (fun t c => by split <;> simp) _ _).trans (by simp)))
  · simp

theorem execVlsUndervoltage_lawful (vlsMv heldUs : Nat) (s : State) : Answers (Lawful false s) (execVlsUndervoltage vlsMv heldUs s) := by
  simp [execVlsUndervoltage]

theorem execVlsRestart_lawful (vlsMv held : Nat) (s : State) : Answers (Lawful false s) (execVlsRestart vlsMv held s) := by simp [execVlsRestart]

theorem execQuadRestart_lawful (q : Fin 12) (s : State) : Answers (Lawful false s) (execQuadRestart q s) := by
  simp only [execQuadRestart]
  repeat' split
  all_goals simp

theorem execVlsLowSet_lawful (vlsMv held : Nat) (s : State) : Answers (Lawful false s) (execVlsLowSet vlsMv held s) := by simp [execVlsLowSet]

theorem execHeartbeatLost_lawful (silentUs : Nat) (s : State) : Answers (Lawful false s) (execHeartbeatLost silentUs s) := by
  simp only [execHeartbeatLost]
  split
  · exact Lawful.finish _ (.of_stores ((State.setIsland_stores _ _).trans ((foldl_stores _ (fun t m => by simp) _ _).trans (by simp))))
  · simp

theorem execHeartbeatReturn_lawful (s : State) : Answers (Lawful false s) (execHeartbeatReturn s) := by
  simp only [execHeartbeatReturn]
  split
  · simp
  · exact Lawful.finish _ (.of_stores ((foldl_stores _ (fun t q => by split <;> simp) _ _).trans (by split <;> simp)))

theorem execLswSet_lawful (d : Desc) (s : State) : Answers (Lawful false s) (execLswSet d s) := by
  simp only [execLswSet, answers_next]
  refine Lawful.finish _ (.of_stores (State.accept_stores _ _ _ _ _ _ _ _ _ fun u => ?_))
  split
  · split
    · simp
    · split
      · simp
      · split <;> simp
  · split
    · simp
    · refine (foldl_stores _ (fun t v => ?_) _ _).trans ((State.launch_stores ..).trans (foldl_stores _ (fun t v => ?_) _ _))
      · split
        · split <;> simp
        · rfl
      · split <;> simp
  · rw [State.endBatch_stores]
    refine runBatch_stores _ (fun t v p => ?_) _ _
    split
    · rfl
    · repeat' split
      all_goals simp

theorem execLswClear_lawful (d : Desc) (s : State) : Answers (Lawful false s) (execLswClear d s) := by
  simp only [execLswClear, answers_next]
  exact Lawful.finish _ (.of_stores (State.accept_stores _ _ _ _ _ _ _ _ _ fun u => by simp))

/-! ### Events and commands of the safety island -/

theorem execSinStateChange_lawful (sin : Fin 72) (level : Bool) (equalSamples : Nat) (s : State) :
    Answers (Lawful false s) (execSinStateChange sin level equalSamples s) := by simp [execSinStateChange]

theorem execSinPulseFault_lawful (sin : Fin 72) (tps : Fin 4) (before sample after : Bool) (s : State) :
    Answers (Lawful false s) (execSinPulseFault sin tps before sample after s) := by simp [execSinPulseFault]

theorem execTpsPulseStart_lawful (k : Fin 4) (lowMv highMv limitTicks : Nat) (s : State) :
    Answers (Lawful false s) (execTpsPulseStart k lowMv highMv limitTicks s) := by simp [execTpsPulseStart]

theorem execTDiscExpiry_lawful (pair : Fin 36) (s : State) : Answers (Lawful false s) (execTDiscExpiry pair s) := by simp [execTDiscExpiry]

theorem execTAutorstExpiry_lawful (lane : Fin 32) (s : State) : Answers (Lawful false s) (execTAutorstExpiry lane s) := by simp [execTAutorstExpiry]

theorem execResidualAcTrip_lawful (lane : Fin 32) (window : List Int) (s : State) : Answers (Lawful false s) (execResidualAcTrip lane window s) := by
  simp [execResidualAcTrip]

theorem execDcPointTimerExpiry_lawful (lane : Fin 32) (point : Fin 4) (start least : Nat) (s : State) :
    Answers (Lawful false s) (execDcPointTimerExpiry lane point start least s) := by simp [execDcPointTimerExpiry]

theorem execSelfTestDriveEnd_lawful (lane : Fin 32) (window : List Int) (s : State) :
    Answers (Lawful false s) (execSelfTestDriveEnd lane window s) := by
  simp only [execSelfTestDriveEnd]
  repeat' split
  all_goals simp

theorem execSelfTestResult_lawful (lane : Fin 32) (window : List Int) (s : State) : Answers (Lawful false s) (execSelfTestResult lane window s) := by
  simp only [execSelfTestResult]
  repeat' split
  all_goals simp

theorem execIsolationSwitchToggle_lawful (lane : Fin 32) (v2Mv v3Mv v1MinMv : Int) (s : State) :
    Answers (Lawful false s) (execIsolationSwitchToggle lane v2Mv v3Mv v1MinMv s) := by
  simp only [execIsolationSwitchToggle]
  repeat' split
  all_goals simp

theorem execInsulationResult_lawful (lane : Fin 32) (s : State) : Answers (Lawful false s) (execInsulationResult lane s) := by
  simp [execInsulationResult]

theorem execTWeldExpiry_lawful (lane : Fin 32) (s : State) : Answers (Lawful false s) (execTWeldExpiry lane s) := by simp [execTWeldExpiry]

theorem execWeldJudgement_lawful (lane : Fin 32) (s : State) : Answers (Lawful false s) (execWeldJudgement lane s) := by
  simp only [execWeldJudgement]
  repeat' split
  all_goals simp

theorem execShuntPulseEnd_lawful (s : State) : Answers (Lawful false s) (execShuntPulseEnd s) := by
  simp only [execShuntPulseEnd]
  repeat' split
  all_goals simp

theorem execOffpathReadback_lawful (lane : Fin 32) (onTicks : Nat) (high : Bool) (s : State) :
    Answers (Lawful false s) (execOffpathReadback lane onTicks high s) := by simp [execOffpathReadback]

theorem execForerunnerOffPulse_lawful (lane : Fin 32) (high : Bool) (s : State) : Answers (Lawful false s) (execForerunnerOffPulse lane high s) := by
  simp [execForerunnerOffPulse]

theorem execSafetyCoreCycle_lawful (completed : Bool) (samples : List (BitVec 72)) (coilHigh coreCrc : BitVec 32) (s : State) :
    Answers (Lawful false s) (execSafetyCoreCycle completed samples coilHigh coreCrc s) := by simp [execSafetyCoreCycle]

theorem execLockstepMismatch_lawful (s : State) : Answers (Lawful false s) (execLockstepMismatch s) := by simp [execLockstepMismatch]

theorem execSafReset_lawful (d : Desc) (coilHigh : BitVec 32) (windows : List (Fin 32 × List Int)) (s : State) :
    Answers (Lawful false s) (execSafReset d coilHigh windows s) := by
  simp only [execSafReset, answers_next]
  exact Lawful.finish _ (.of_stores (State.acceptSingle_stores _ _ _ _ _ _ _ fun u => by simp))

theorem execSafResTest_lawful (d : Desc) (s : State) : Answers (Lawful false s) (execSafResTest d s) := by
  simp only [execSafResTest, answers_next]
  exact Lawful.finish _ (.of_stores (State.acceptSingle_stores _ _ _ _ _ _ _ fun u => by
    split
    · split
      · simp
      · split <;> simp
    · simp))

theorem execSafIsoMeasure_lawful (d : Desc) (s : State) : Answers (Lawful false s) (execSafIsoMeasure d s) := by
  simp only [execSafIsoMeasure]
  repeat' split
  all_goals simp

theorem execSafTrip_lawful (d : Desc) (s : State) : Answers (Lawful false s) (execSafTrip d s) := by
  simp only [execSafTrip, answers_next]
  exact Lawful.finish _ (.of_stores (State.acceptSingle_stores _ _ _ _ _ _ _ fun u => by simp))

/-! ### Events and commands of the vehicle link -/

theorem execCmSlacParmReq_lawful (lane : Fin 32) (runId : BitVec 64) (mac : BitVec 48) (rx : PlcRx) (s : State) :
    Answers (Lawful false s) (execCmSlacParmReq lane runId mac rx s) := by simp [execCmSlacParmReq]

theorem execCmStartAttenCharInd_lawful (lane : Fin 32) (runId : BitVec 64) (mac : BitVec 48) (rx : PlcRx) (s : State) :
    Answers (Lawful false s) (execCmStartAttenCharInd lane runId mac rx s) := by
  simp only [execCmStartAttenCharInd, answers_next]
  exact .of_stores (State.mmeIn_stores _ _ _ _ fun u => by
    split
    · split <;> simp
    · simp)

theorem execCmMnbcSound_lawful (lane : Fin 32) (runId : BitVec 64) (mac : BitVec 48) (countdown : Nat) (rx : PlcRx) (groups : List Nat) (s : State) :
    Answers (Lawful false s) (execCmMnbcSound lane runId mac countdown rx groups s) := by
  simp only [execCmMnbcSound]
  repeat' split
  all_goals simp

theorem execMatchDecision_lawful (run : Nat) (s : State) : Answers (Lawful false s) (execMatchDecision run s) := by
  simp only [execMatchDecision]
  repeat' split
  all_goals simp

theorem execCmAttenCharRsp_lawful (lane : Fin 32) (runId : BitVec 64) (mac : BitVec 48) (rx : PlcRx) (s : State) :
    Answers (Lawful false s) (execCmAttenCharRsp lane runId mac rx s) := by simp [execCmAttenCharRsp]

theorem execCmSlacMatchReq_lawful (lane : Fin 32) (runId : BitVec 64) (mac : BitVec 48) (rx : PlcRx) (s : State) :
    Answers (Lawful false s) (execCmSlacMatchReq lane runId mac rx s) := by
  simp only [execCmSlacMatchReq, answers_next]
  exact Lawful.finish _ (.of_stores (State.mmeIn_stores _ _ _ _ fun u => by simp))

theorem execCmValidateReq_lawful (lane : Fin 32) (windowFrom stated : Nat) (rx : PlcRx) (s : State) :
    Answers (Lawful false s) (execCmValidateReq lane windowFrom stated rx s) := by
  simp only [execCmValidateReq, answers_next]
  exact Lawful.finish _ (.of_stores (State.mmeIn_stores _ _ _ _ fun u => by simp))

theorem execAvlnLost_lawful (lane : Fin 32) (s : State) : Answers (Lawful false s) (execAvlnLost lane s) := by simp [execAvlnLost]

theorem execTcpConnect_lawful (lane : Fin 32) (s : State) : Answers (Lawful false s) (execTcpConnect lane s) := by simp [execTcpConnect]

theorem execTcpClosedByVehicle_lawful (lane : Fin 32) (s : State) : Answers (Lawful false s) (execTcpClosedByVehicle lane s) := by
  simp only [execTcpClosedByVehicle]
  repeat' split
  all_goals simp

theorem execTlsHandshake_lawful (lane : Fin 32) (suite : Fin 4) (group : Fin 3) (began : Nat) (client : Option Bytes) (engineErr ok : Bool)
    (s : State) :
    Answers (Lawful false s) (execTlsHandshake lane suite group began client engineErr ok s) := by simp [execTlsHandshake]

theorem execSdpRequest_lawful (lane : Fin 32) (security : BitVec 8) (s : State) : Answers (Lawful false s) (execSdpRequest lane security s) := by
  simp [execSdpRequest]

theorem execSupportedAppProtocolReq_lawful (lane : Fin 32) (m : V2g) (entries : List (Fin 4 × Nat)) (s : State) :
    Answers (Lawful false s) (execSupportedAppProtocolReq lane m entries s) := by
  simp only [execSupportedAppProtocolReq, answers_next]
  exact Lawful.finish _ (.of_stores (State.receive_stores _ _ _ _ _ _ _ fun u => by
    split <;> simp))

theorem execSessionSetupReq_lawful (lane : Fin 32) (m : V2g) (s : State) : Answers (Lawful false s) (execSessionSetupReq lane m s) := by
  simp only [execSessionSetupReq, answers_next]
  exact Lawful.finish _ (.of_stores (State.receive_stores _ _ _ _ _ _ _ fun u => by simp))

theorem execServiceDiscoveryReq_lawful (lane : Fin 32) (m : V2g) (bpt dynamic : Bool) (s : State) :
    Answers (Lawful false s) (execServiceDiscoveryReq lane m bpt dynamic s) := by
  simp only [execServiceDiscoveryReq, answers_next]
  exact Lawful.finish _ (.of_stores (State.receive_stores _ _ _ _ _ _ _ fun u => by simp))

theorem execAuthorizationReq_lawful (lane : Fin 32) (m : V2g) (pnc : Bool) (emaid chain sig : List (BitVec 8)) (s : State) :
    Answers (Lawful false s) (execAuthorizationReq lane m pnc emaid chain sig s) := by
  simp only [execAuthorizationReq, answers_next]
  exact Lawful.finish _ (.of_stores (State.receive_stores _ _ _ _ _ _ _ fun u => by
    split
    · simp
    · split
      · simp
      · split
        · split
          · split <;> simp
          · simp
        · split <;> simp))

theorem execChargeParameterReq_lawful (lane : Fin 32) (m : V2g) (inRange : Bool) (vMax iMax iRev : Nat) (s : State) :
    Answers (Lawful false s) (execChargeParameterReq lane m inRange vMax iMax iRev s) := by
  simp only [execChargeParameterReq, answers_next]
  exact Lawful.finish _ (.of_stores (State.receive_stores _ _ _ _ _ _ _ fun u => by simp))

theorem execCableCheckReq_lawful (lane : Fin 32) (m : V2g) (s : State) : Answers (Lawful false s) (execCableCheckReq lane m s) := by
  simp only [execCableCheckReq, answers_next]
  exact Lawful.finish _ (.of_stores (State.receive_stores _ _ _ _ _ _ _ fun u => by
    split
    · split <;> simp
    · split <;> simp))

theorem execPrechargeReq_lawful (lane : Fin 32) (m : V2g) (vTgt iLim : Nat) (s : State) :
    Answers (Lawful false s) (execPrechargeReq lane m vTgt iLim s) := by
  simp only [execPrechargeReq, answers_next]
  exact Lawful.finish _ (.of_stores (State.receive_stores _ _ _ _ _ _ _ fun u => by simp))

theorem execPowerDeliveryReq_lawful (lane : Fin 32) (m : V2g) (progress : Fin 3) (tuple : Nat) (s : State) :
    Answers (Lawful false s) (execPowerDeliveryReq lane m progress tuple s) := by
  simp only [execPowerDeliveryReq, answers_next]
  exact Lawful.finish _ (.of_stores (State.receive_stores _ _ _ _ _ _ _ fun u => by
    split
    · split
      · simp
      · split
        · simp
        · split <;> simp
    · simp
    · simp))

theorem execCurrentDemandReq_lawful (lane : Fin 32) (m : V2g) (inRange : Bool) (vTgt iLim iRev pLim : Nat) (receipt : Option Bytes) (s : State) :
    Answers (Lawful false s) (execCurrentDemandReq lane m inRange vTgt iLim iRev pLim receipt s) := by
  simp only [execCurrentDemandReq, answers_next]
  exact Lawful.finish _ (.of_stores (State.receive_stores _ _ _ _ _ _ _ fun u => by
    split
    · split <;> simp
    · split
      · simp
      · split <;> simp))

theorem execSessionStopReq_lawful (lane : Fin 32) (m : V2g) (pause : Bool) (s : State) :
    Answers (Lawful false s) (execSessionStopReq lane m pause s) := by
  simp only [execSessionStopReq, answers_next]
  exact Lawful.finish _ (.of_stores (State.receive_stores _ _ _ _ _ _ _ fun u => by simp))

theorem execCertificateReq_lawful (lane : Fin 32) (m : V2g) (update : Bool) (body : List (BitVec 8)) (s : State) :
    Answers (Lawful false s) (execCertificateReq lane m update body s) := by
  simp only [execCertificateReq, answers_next]
  exact Lawful.finish _ (.of_stores (State.receive_stores _ _ _ _ _ _ _ fun u => by simp))

theorem execAcOverdrawViolation_lawful (lane : Fin 32) (s : State) : Answers (Lawful false s) (execAcOverdrawViolation lane s) := by
  simp only [execAcOverdrawViolation]
  repeat' split
  all_goals simp

theorem execTSlacInitExpiry_lawful (lane : Fin 32) (s : State) : Answers (Lawful false s) (execTSlacInitExpiry lane s) := by
  simp [execTSlacInitExpiry]

theorem execTMnbcExpiry_lawful (run : Nat) (s : State) : Answers (Lawful false s) (execTMnbcExpiry run s) := by
  simp only [execTMnbcExpiry]
  repeat' split
  all_goals simp

theorem execTMatchRespExpiry_lawful (lane : Fin 32) (s : State) : Answers (Lawful false s) (execTMatchRespExpiry lane s) := by
  simp [execTMatchRespExpiry]

theorem execTMatchSessionExpiry_lawful (lane : Fin 32) (s : State) : Answers (Lawful false s) (execTMatchSessionExpiry lane s) := by
  simp [execTMatchSessionExpiry]

theorem execTSetupExpiry_lawful (lane : Fin 32) (s : State) : Answers (Lawful false s) (execTSetupExpiry lane s) := by simp [execTSetupExpiry]

theorem execTSeqExpiry_lawful (lane : Fin 32) (s : State) : Answers (Lawful false s) (execTSeqExpiry lane s) := by simp [execTSeqExpiry]

theorem execTAuthExpiry_lawful (lane : Fin 32) (s : State) : Answers (Lawful false s) (execTAuthExpiry lane s) := by simp [execTAuthExpiry]

theorem execTHostExpiry_lawful (lane : Fin 32) (s : State) : Answers (Lawful false s) (execTHostExpiry lane s) := by simp [execTHostExpiry]

theorem execTCpstateExpiry_lawful (lane : Fin 32) (s : State) : Answers (Lawful false s) (execTCpstateExpiry lane s) := by simp [execTCpstateExpiry]

theorem execTCableExpiry_lawful (lane : Fin 32) (s : State) : Answers (Lawful false s) (execTCableExpiry lane s) := by simp [execTCableExpiry]

theorem execVlkXtalkSurvey_lawful (d : Desc) (s : State) : Answers (Lawful false s) (execVlkXtalkSurvey d s) := by simp [execVlkXtalkSurvey]

theorem execXtalkSurveyComplete_lawful (table : List Nat) (s : State) : Answers (Lawful false s) (execXtalkSurveyComplete table s) := by
  simp only [execXtalkSurveyComplete]
  repeat' split
  all_goals simp

theorem execVlkEimId_lawful (d : Desc) (s : State) : Answers (Lawful false s) (execVlkEimId d s) := by
  simp only [execVlkEimId]
  repeat' split
  all_goals simp

theorem execVlkTrustLoad_lawful (d : Desc) (s : State) : Answers (Lawful false s) (execVlkTrustLoad d s) := by
  simp only [execVlkTrustLoad]
  repeat' split
  all_goals simp

theorem execVlkRelayAnswer_lawful (d : Desc) (s : State) : Answers (Lawful false s) (execVlkRelayAnswer d s) := by
  simp only [execVlkRelayAnswer]
  repeat' split
  all_goals simp

end Sys2Proof.Machine
end

/-! Invariants that every command and every step keeps -/

section
namespace Sys2Proof.Machine

open Sys2Proof Sys2Proof.Claims

/-! ### The clock -/

theorem Lawful.newTick (w : Bool) (s : State) : Lawful w s s.newTick := by
  unfold State.newTick
  split
  · exact .takeReset (.refl _ _)
  · exact .finish s (.of_stores (by simp))

/-- An idle step is lawful but for the commands that it queues. -/
theorem Lawful.tick (s : State) : Lawful true { s with pending := s.tick.pending } s.tick := by
  unfold State.tick
  extract_lets due seq t rel
  split
  · exact .of_stores (by simp)
  · have lawful : Lawful true s t := .trans (.of_stores (by simp)) (.newTick true s.advance)
    obtain ⟨-, fuses, packets, memory, host⟩ := lawful
    exact ⟨rfl, fuses, packets, memory, host⟩

/-! ### Every command -/

/-- Every command answers, and what it does to the stores is lawful. -/
theorem exec_lawful (c : Instr) (s : State) : Answers (Lawful (WritesHost c) s) (exec c s) := by
  cases c with
  | eventRelease => exact execEventRelease_lawful ..
  | commandNop => exact execCommandNop_lawful ..
  | undefinedOpcode => exact execUndefinedOpcode_lawful ..
  | chainErr => exact execChainErr_lawful ..
  | vectorModerationTimeout => exact execVectorModerationTimeout_lawful ..
  | tCloseExpiry => exact execTCloseExpiry_lawful ..
  | tFbExpiry => exact execTFbExpiry_lawful ..
  | tStopExpiry => exact execTStopExpiry_lawful ..
  | tFaultHoldExpiry => exact execTFaultHoldExpiry_lawful ..
  | tModExpiry => exact execTModExpiry_lawful ..
  | laneAdmit => exact execLaneAdmit_lawful ..
  | laneLimit => exact execLaneLimit_lawful ..
  | laneStop => exact execLaneStop_lawful ..
  | laneService => exact execLaneService_lawful ..
  | laneClear => exact execLaneClear_lawful ..
  | tSlacInitExpiry => exact execTSlacInitExpiry_lawful ..
  | tMnbcExpiry => exact execTMnbcExpiry_lawful ..
  | tMatchRespExpiry => exact execTMatchRespExpiry_lawful ..
  | tMatchSessionExpiry => exact execTMatchSessionExpiry_lawful ..
  | tSetupExpiry => exact execTSetupExpiry_lawful ..
  | tSeqExpiry => exact execTSeqExpiry_lawful ..
  | tAuthExpiry => exact execTAuthExpiry_lawful ..
  | tHostExpiry => exact execTHostExpiry_lawful ..
  | tCpstateExpiry => exact execTCpstateExpiry_lawful ..
  | tCableExpiry => exact execTCableExpiry_lawful ..
  | vlkXtalkSurvey => exact execVlkXtalkSurvey_lawful ..
  | vlkEimId => exact execVlkEimId_lawful ..
  | vlkTrustLoad => exact execVlkTrustLoad_lawful ..
  | vlkRelayAnswer => exact execVlkRelayAnswer_lawful ..
  | tProvExpiry => exact execTProvExpiry_lawful ..
  | tFsessExpiry => exact execTFsessExpiry_lawful ..
  | tRetapExpiry => exact execTRetapExpiry_lawful ..
  | tRepeatExpiry => exact execTRepeatExpiry_lawful ..
  | tokKillList => exact execTokKillList_lawful ..
  | tokAntTest => exact execTokAntTest_lawful ..
  | abcDelta => exact execAbcDelta_lawful ..
  | abcQuery => exact execAbcQuery_lawful ..
  | abcResync => exact execAbcResync_lawful ..
  | abcSnapshot => exact execAbcSnapshot_lawful ..
  | abcRevoke => exact execAbcRevoke_lawful ..
  | tDiscExpiry => exact execTDiscExpiry_lawful ..
  | tAutorstExpiry => exact execTAutorstExpiry_lawful ..
  | tWeldExpiry => exact execTWeldExpiry_lawful ..
  | safReset => exact execSafReset_lawful ..
  | safResTest => exact execSafResTest_lawful ..
  | safIsoMeasure => exact execSafIsoMeasure_lawful ..
  | safTrip => exact execSafTrip_lawful ..
  | tRetryExpiry => exact execTRetryExpiry_lawful ..
  | lswSet => exact execLswSet_lawful ..
  | lswClear => exact execLswClear_lawful ..
  | tTrigExpiry => exact execTTrigExpiry_lawful ..
  | metCapture => exact execMetCapture_lawful ..
  | metCaptureCancel => exact execMetCaptureCancel_lawful ..
  | metRead => exact execMetRead_lawful ..
  | metCoefRead => exact execMetCoefRead_lawful ..
  | nrgRead => exact execNrgRead_lawful ..
  | nrgCalRead => exact execNrgCalRead_lawful ..
  | bookRead => exact execBookRead_lawful ..
  | bookClockSet => exact execBookClockSet_lawful ..
  | bookTariffLoad => exact execBookTariffLoad_lawful ..
  | bookCalWrite => exact execBookCalWrite_lawful ..
  | bookBillClose => exact execBookBillClose_lawful ..
  | tAckExpiry => exact execTAckExpiry_lawful ..
  | tBeaconExpiry => exact execTBeaconExpiry_lawful ..
  | tAdvExpiry => exact execTAdvExpiry_lawful ..
  | lineSend => exact execLineSend_lawful ..
  | lineSound => exact execLineSound_lawful ..
  | lineSoundWindowEnd => exact execLineSoundWindowEnd_lawful ..
  | lineTest => exact execLineTest_lawful ..
  | lineNeighRead => exact execLineNeighRead_lawful ..
  | keyOwnerEnrol => exact execKeyOwnerEnrol_lawful ..
  | keyUpdate => exact execKeyUpdate_lawful ..
  | keyAttest => exact execKeyAttest_lawful ..
  | mgtBundle => exact execMgtBundle_lawful ..
  | mgtUpdSchedule => exact execMgtUpdSchedule_lawful ..
  | mgtUpdCancel => exact execMgtUpdCancel_lawful ..
  | mgtLogRead => exact execMgtLogRead_lawful ..
  | mgtLogAck => exact execMgtLogAck_lawful ..
  | mgtProfWrite => exact execMgtProfWrite_lawful ..
  | scheduleWindowExpiry => exact execScheduleWindowExpiry_lawful ..
  | tConfirmExpiry => exact execTConfirmExpiry_lawful ..
  | epdUpdate => exact execEpdUpdate_lawful ..
  | epdWaveLoad => exact execEpdWaveLoad_lawful ..
  | epdUnifLoad => exact execEpdUnifLoad_lawful ..
  | epdFl => exact execEpdFl_lawful ..
  | epdUartSend => exact execEpdUartSend_lawful ..
  | epdTPgExpiry => exact execEpdTPgExpiry_lawful ..
  | epdTIdleExpiry => exact execEpdTIdleExpiry_lawful ..
  | epdClearRetry => exact execEpdClearRetry_lawful ..
  | tFreeExpiry => exact execTFreeExpiry_lawful ..
  | tSwitchExpiry => exact execTSwitchExpiry_lawful ..
  | tLinkExpiry => exact execTLinkExpiry_lawful ..
  | tSettleExpiry => exact execTSettleExpiry_lawful ..
  | tTbwinExpiry => exact execTTbwinExpiry_lawful ..
  | reclaimTimeout => exact execReclaimTimeout_lawful ..
  | pairHandover => exact execPairHandover_lawful ..
  | pairHandoverCancel => exact execPairHandoverCancel_lawful ..
  | arbClaimCheck => exact execArbClaimCheck_lawful ..
  | registerWrite => exact execRegisterWrite_lawful ..
  | latchedPairRead => exact execLatchedPairRead_lawful ..
  | vlkLviolRead => exact execVlkLviolRead_lawful ..
  | powerOn => exact execPowerOn_lawful ..
  | railPowerGood => exact execRailPowerGood_lawful ..
  | railStartTimeout => exact execRailStartTimeout_lawful ..
  | railRetryWaitEnd => exact execRailRetryWaitEnd_lawful ..
  | vsysBelowMin => exact execVsysBelowMin_lawful ..
  | strapSample => exact execStrapSample_lawful ..
  | bootSelfTestDone => exact execBootSelfTestDone_lawful ..
  | legalPathRestored => exact execLegalPathRestored_lawful ..
  | startupProfileLoad => exact execStartupProfileLoad_lawful ..
  | endpointReady => exact execEndpointReady_lawful ..
  | dramReady => exact execDramReady_lawful ..
  | idealDiodeChange => exact execIdealDiodeChange_lawful ..
  | feedPresenceChange => exact execFeedPresenceChange_lawful ..
  | vbatLowChange => exact execVbatLowChange_lawful ..
  | batteryIslandSwitchover => exact execBatteryIslandSwitchover_lawful ..
  | holdupDetect => exact execHoldupDetect_lawful ..
  | commitBodyWritten => exact execCommitBodyWritten_lawful ..
  | commitTrailerWritten => exact execCommitTrailerWritten_lawful ..
  | checkpointStart => exact execCheckpointStart_lawful ..
  | holdupRecover => exact execHoldupRecover_lawful ..
  | ckRefLoss => exact execCkRefLoss_lawful ..
  | ckMetLoss => exact execCkMetLoss_lawful ..
  | ckRfidLoss => exact execCkRfidLoss_lawful ..
  | ckRfidReturn => exact execCkRfidReturn_lawful ..
  | ckRtcLoss => exact execCkRtcLoss_lawful ..
  | pllLockLoss => exact execPllLockLoss_lawful ..
  | pcieRefclkLoss => exact execPcieRefclkLoss_lawful ..
  | rstNAssert => exact execRstNAssert_lawful ..
  | pciePerst => exact execPciePerst_lawful ..
  | pcieEndpointStateChange => exact execPcieEndpointStateChange_lawful ..
  | chipResetRequest => exact execChipResetRequest_lawful ..
  | blockResetRequest => exact execBlockResetRequest_lawful ..
  | profileRequest => exact execProfileRequest_lawful ..
  | profileCancel => exact execProfileCancel_lawful ..
  | profileSwitch => exact execProfileSwitch_lawful ..
  | ringEnable => exact execRingEnable_lawful ..
  | ringDisable => exact execRingDisable_lawful ..
  | hifCtlRun => exact execHifCtlRun_lawful ..
  | ringDoorbell => exact execRingDoorbell_lawful ..
  | ringFetchError => exact execRingFetchError_lawful ..
  | spillDrain => exact execSpillDrain_lawful ..
  | commandTimeLimitExpiry => exact execCommandTimeLimitExpiry_lawful ..
  | queueWordWrite => exact execQueueWordWrite_lawful ..
  | queueWordRead => exact execQueueWordRead_lawful ..
  | queueDropRemainder => exact execQueueDropRemainder_lawful ..
  | pwmPeriodStart => exact execPwmPeriodStart_lawful ..
  | pilotStateChange => exact execPilotStateChange_lawful ..
  | proximityRatingChange => exact execProximityRatingChange_lawful ..
  | contactorFeedbackChange => exact execContactorFeedbackChange_lawful ..
  | setpointSend => exact execSetpointSend_lawful ..
  | pmcanStatusFrame => exact execPmcanStatusFrame_lawful ..
  | pmcanBusOff => exact execPmcanBusOff_lawful ..
  | cmSlacParmReq => exact execCmSlacParmReq_lawful ..
  | cmStartAttenCharInd => exact execCmStartAttenCharInd_lawful ..
  | cmMnbcSound => exact execCmMnbcSound_lawful ..
  | matchDecision => exact execMatchDecision_lawful ..
  | cmAttenCharRsp => exact execCmAttenCharRsp_lawful ..
  | cmSlacMatchReq => exact execCmSlacMatchReq_lawful ..
  | cmValidateReq => exact execCmValidateReq_lawful ..
  | avlnLost => exact execAvlnLost_lawful ..
  | tcpConnect => exact execTcpConnect_lawful ..
  | tcpClosedByVehicle => exact execTcpClosedByVehicle_lawful ..
  | tlsHandshake => exact execTlsHandshake_lawful ..
  | sdpRequest => exact execSdpRequest_lawful ..
  | supportedAppProtocolReq => exact execSupportedAppProtocolReq_lawful ..
  | sessionSetupReq => exact execSessionSetupReq_lawful ..
  | serviceDiscoveryReq => exact execServiceDiscoveryReq_lawful ..
  | authorizationReq => exact execAuthorizationReq_lawful ..
  | chargeParameterReq => exact execChargeParameterReq_lawful ..
  | cableCheckReq => exact execCableCheckReq_lawful ..
  | prechargeReq => exact execPrechargeReq_lawful ..
  | powerDeliveryReq => exact execPowerDeliveryReq_lawful ..
  | currentDemandReq => exact execCurrentDemandReq_lawful ..
  | sessionStopReq => exact execSessionStopReq_lawful ..
  | certificateReq => exact execCertificateReq_lawful ..
  | acOverdrawViolation => exact execAcOverdrawViolation_lawful ..
  | xtalkSurveyComplete => exact execXtalkSurveyComplete_lawful ..
  | antennaPoll => exact execAntennaPoll_lawful ..
  | inventoryComplete => exact execInventoryComplete_lawful ..
  | authenticationComplete => exact execAuthenticationComplete_lawful ..
  | slotsResolved => exact execSlotsResolved_lawful ..
  | killResponse => exact execKillResponse_lawful ..
  | reservationAnswer => exact execReservationAnswer_lawful ..
  | repairComplete => exact execRepairComplete_lawful ..
  | backupWritten => exact execBackupWritten_lawful ..
  | backupVerified => exact execBackupVerified_lawful ..
  | purseCommit => exact execPurseCommit_lawful ..
  | primaryWritten => exact execPrimaryWritten_lawful ..
  | primaryVerified => exact execPrimaryVerified_lawful ..
  | fieldCollapse => exact execFieldCollapse_lawful ..
  | ledgerAuthorise => exact execLedgerAuthorise_lawful ..
  | ledgerDecisionAnnounce => exact execLedgerDecisionAnnounce_lawful ..
  | ledgerRevokeAnnounce => exact execLedgerRevokeAnnounce_lawful ..
  | ledgerStopAnnounce => exact execLedgerStopAnnounce_lawful ..
  | ddrAlert => exact execDdrAlert_lawful ..
  | tallyReport => exact execTallyReport_lawful ..
  | pendingFlush => exact execPendingFlush_lawful ..
  | journalBlockComplete => exact execJournalBlockComplete_lawful ..
  | snapshotStart => exact execSnapshotStart_lawful ..
  | snapshotComplete => exact execSnapshotComplete_lawful ..
  | ledgerRestoreStart => exact execLedgerRestoreStart_lawful ..
  | ledgerReady => exact execLedgerReady_lawful ..
  | sinStateChange => exact execSinStateChange_lawful ..
  | sinPulseFault => exact execSinPulseFault_lawful ..
  | tpsPulseStart => exact execTpsPulseStart_lawful ..
  | residualAcTrip => exact execResidualAcTrip_lawful ..
  | dcPointTimerExpiry => exact execDcPointTimerExpiry_lawful ..
  | selfTestDriveEnd => exact execSelfTestDriveEnd_lawful ..
  | selfTestResult => exact execSelfTestResult_lawful ..
  | isolationSwitchToggle => exact execIsolationSwitchToggle_lawful ..
  | insulationResult => exact execInsulationResult_lawful ..
  | weldJudgement => exact execWeldJudgement_lawful ..
  | shuntPulseEnd => exact execShuntPulseEnd_lawful ..
  | safetyCoreCycle => exact execSafetyCoreCycle_lawful ..
  | lockstepMismatch => exact execLockstepMismatch_lawful ..
  | offpathReadback => exact execOffpathReadback_lawful ..
  | forerunnerOffPulse => exact execForerunnerOffPulse_lawful ..
  | coilEnableRise => exact execCoilEnableRise_lawful ..
  | coilEnableFall => exact execCoilEnableFall_lawful ..
  | pullInEnd => exact execPullInEnd_lawful ..
  | coilTrip => exact execCoilTrip_lawful ..
  | coilTripsReset => exact execCoilTripsReset_lawful ..
  | inrushEnd => exact execInrushEnd_lawful ..
  | auxTrip => exact execAuxTrip_lawful ..
  | auxRetriesReset => exact execAuxRetriesReset_lawful ..
  | openLoadChange => exact execOpenLoadChange_lawful ..
  | underloadSet => exact execUnderloadSet_lawful ..
  | thermalWarnChange => exact execThermalWarnChange_lawful ..
  | thermalLatchSet => exact execThermalLatchSet_lawful ..
  | thermalLatchClear => exact execThermalLatchClear_lawful ..
  | vlsUndervoltage => exact execVlsUndervoltage_lawful ..
  | vlsRestart => exact execVlsRestart_lawful ..
  | quadRestart => exact execQuadRestart_lawful ..
  | vlsLowSet => exact execVlsLowSet_lawful ..
  | heartbeatLost => exact execHeartbeatLost_lawful ..
  | heartbeatReturn => exact execHeartbeatReturn_lawful ..
  | mclkStartStop => exact execMclkStartStop_lawful ..
  | chainRun => exact execChainRun_lawful ..
  | streamStuckChange => exact execStreamStuckChange_lawful ..
  | cycleEnd => exact execCycleEnd_lawful ..
  | trackingChange => exact execTrackingChange_lawful ..
  | envelopeEvent => exact execEnvelopeEvent_lawful ..
  | calChangeEffect => exact execCalChangeEffect_lawful ..
  | pulseStart => exact execPulseStart_lawful ..
  | pulseEnd => exact execPulseEnd_lawful ..
  | altPulseStart => exact execAltPulseStart_lawful ..
  | rtcRollover => exact execRtcRollover_lawful ..
  | noclockIntervalEnd => exact execNoclockIntervalEnd_lawful ..
  | clockStep => exact execClockStep_lawful ..
  | sealChange => exact execSealChange_lawful ..
  | magneticFieldChange => exact execMagneticFieldChange_lawful ..
  | caseChange => exact execCaseChange_lawful ..
  | lineFrameTransmitEnd => exact execLineFrameTransmitEnd_lawful ..
  | mediumAccess => exact execMediumAccess_lawful ..
  | ackTransmit => exact execAckTransmit_lawful ..
  | beaconReceived => exact execBeaconReceived_lawful ..
  | advertReceived => exact execAdvertReceived_lawful ..
  | lineAckReceived => exact execLineAckReceived_lawful ..
  | dataReceived => exact execDataReceived_lawful ..
  | deltaReceived => exact execDeltaReceived_lawful ..
  | timeReceived => exact execTimeReceived_lawful ..
  | scheduleReceived => exact execScheduleReceived_lawful ..
  | soundReceived => exact execSoundReceived_lawful ..
  | soundRptReceived => exact execSoundRptReceived_lawful ..
  | joinReceived => exact execJoinReceived_lawful ..
  | beaconPeriod => exact execBeaconPeriod_lawful ..
  | memberSlot => exact execMemberSlot_lawful ..
  | coordinatorTakeover => exact execCoordinatorTakeover_lawful ..
  | lineTestEnd => exact execLineTestEnd_lawful ..
  | tamperTrigger => exact execTamperTrigger_lawful ..
  | rootGenerationComplete => exact execRootGenerationComplete_lawful ..
  | rngHealthFail => exact execRngHealthFail_lawful ..
  | rngRecover => exact execRngRecover_lawful ..
  | keyCopyWritten => exact execKeyCopyWritten_lawful ..
  | keySwitch => exact execKeySwitch_lawful ..
  | mcWatchdogExpiry => exact execMcWatchdogExpiry_lawful ..
  | shedLevelChange => exact execShedLevelChange_lawful ..
  | sensorSample => exact execSensorSample_lawful ..
  | bundleVerified => exact execBundleVerified_lawful ..
  | scheduledTimeReached => exact execScheduledTimeReached_lawful ..
  | updateActivation => exact execUpdateActivation_lawful ..
  | confirmationRequest => exact execConfirmationRequest_lawful ..
  | trialEndReset => exact execTrialEndReset_lawful ..
  | epdTemperatureRead => exact execEpdTemperatureRead_lawful ..
  | epdStatusTempRead => exact execEpdStatusTempRead_lawful ..
  | epdPwrgoodRise => exact execEpdPwrgoodRise_lawful ..
  | epdPwrgoodFall => exact execEpdPwrgoodFall_lawful ..
  | epdFrame => exact execEpdFrame_lawful ..
  | epdPmicOff => exact execEpdPmicOff_lawful ..
  | epdUartRxFlush => exact execEpdUartRxFlush_lawful ..
  | pairProbe => exact execPairProbe_lawful ..
  | pairHoldLineChange => exact execPairHoldLineChange_lawful ..
  | healthSend => exact execHealthSend_lawful ..
  | healthReceived => exact execHealthReceived_lawful ..
  | journalFrameReceived => exact execJournalFrameReceived_lawful ..
  | jackReceived => exact execJackReceived_lawful ..
  | journalResend => exact execJournalResend_lawful ..
  | bulkReceived => exact execBulkReceived_lawful ..
  | pairScheduleReceived => exact execPairScheduleReceived_lawful ..
  | takebackReceived => exact execTakebackReceived_lawful ..
  | releasedReceived => exact execReleasedReceived_lawful ..
  | takebackResend => exact execTakebackResend_lawful ..
  | pairRelease => exact execPairRelease_lawful ..
  | arbWindowStart => exact execArbWindowStart_lawful ..
  | arbRequest => exact execArbRequest_lawful ..
  | bankHogCutoff => exact execBankHogCutoff_lawful ..
  | grantWithdraw => exact execGrantWithdraw_lawful ..
  | bridgeFrameError => exact execBridgeFrameError_lawful ..
  | ckRefReturn => exact execCkRefReturn_lawful ..
  | ckRtcReturn => exact execCkRtcReturn_lawful ..
  | pllRelock => exact execPllRelock_lawful ..
  | pmcanBusOffRecovery => exact execPmcanBusOffRecovery_lawful ..
  | vsysBelowRestartFloor => exact execVsysBelowRestartFloor_lawful ..
  | rstNRelease => exact execRstNRelease_lawful ..
  | pciePerstRelease => exact execPciePerstRelease_lawful ..
  | biasGood => exact execBiasGood_lawful ..
  | profileCopyComplete => exact execProfileCopyComplete_lawful ..

theorem lawful_of_exec {c : Instr} {s t : State} (h : exec c s = .next t) : Lawful (WritesHost c) s t := by
  simpa only [h, answers_next] using exec_lawful c s

theorem Lawful.weaken {w : Bool} {s t : State} (h : Lawful w s t) : Lawful true s t :=
  ⟨h.pending, h.fuses, h.packets, h.memory, nofun⟩

/-- A step is lawful but for the queue of commands, which loses its front or, when it is empty, takes what is due. -/
theorem step_lawful {s t : State} (h : step s = .next t) : ∃ queue, Lawful true { s with pending := queue } t := by
  unfold step at h
  split at h
  next c rest _ => exact ⟨rest, (lawful_of_exec h).weaken⟩
  next => obtain rfl := Host.Outcome.next.inj h; exact ⟨_, .tick s⟩

/-- Settles O39. -/
theorem stepKeepsHostMemoryCanonical : Obligations.StepKeepsHostMemoryCanonical := by
  intro s t canonical h
  obtain ⟨queue, lawful⟩ := step_lawful h
  exact lawful.memory canonical

/-- Settles O40. -/
theorem stepKeepsPacketCounters : Obligations.StepKeepsPacketCounters := by
  intro s t counts h
  obtain ⟨queue, lawful⟩ := step_lawful h
  exact lawful.packets counts

/-- Settles O41. -/
theorem fusesOnlyBlow : Obligations.FusesOnlyBlow := by
  intro s t h
  obtain ⟨queue, lawful⟩ := step_lawful h
  exact lawful.fuses

/-- Settles O42. -/
theorem commandsLeaveTheQueue : Obligations.CommandsLeaveTheQueue :=
  fun _ _ _ h => (lawful_of_exec h).pending

/-- Settles O36. -/
theorem everyCommandAnswers : Obligations.EveryCommandAnswers := by
  intro c s
  obtain ⟨t, answer, -⟩ := answers_iff.1 (exec_lawful c s)
  exact ⟨t, answer⟩

/-- Settles O43. -/
theorem onlyReadingsWriteHostMemory : Obligations.OnlyReadingsWriteHostMemory :=
  fun _ _ _ noWrite h => (lawful_of_exec h).host noWrite

end Sys2Proof.Machine
end

/-! Readings stay in their buffers -/

section
namespace Sys2Proof.Machine

open Sys2Proof Sys2Proof.Claims

/-! ### Readings (Table 4-4) -/

theorem State.hostMem_of_stores {s t : State} (same : t.stores = s.stores) : t.hostMem = s.hostMem :=
  congrArg Stores.hostMem same

/-- A request whose LEN is wrong is refused (R113). -/
theorem lenOk_of_taken {d : Desc} {scopeOk lenOk paramOk : Bool} (h : refusal d scopeOk lenOk paramOk = none) : lenOk = true := by
  cases lenOk
  case true => rfl
  case false =>
    simp only [refusal, Bool.not_false, Bool.or_true, if_true] at h
    repeat' split at h
    all_goals cases h

section
variable {s : State} {act : State → State} {a : Nat} {d : Desc}

/-- A request that is refused, or that waits, leaves host memory; one that is taken has a right LEN. -/
theorem State.accept_memRead {i : Instr} {ring : Fin 16} {opcode : Nat} {scopeOk lenOk paramOk : Bool}
    (h : lenOk = true → ∀ u, memRead (act u).hostMem a = memRead u.hostMem a) :
    memRead (s.accept i ring opcode d scopeOk lenOk paramOk act).hostMem a = memRead s.hostMem a := by
  simp only [State.accept, State.arrive]
  generalize entered : (if (List.find? (fun x => x.ring == ring.val) s.waiting == some _) = true then _ else s) = s0
  have same : s0.hostMem = s.hostMem := State.hostMem_of_stores (by simp [← entered])
  split
  · rw [same]
  · split
    · exact congrArg (memRead · a) (State.hostMem_of_stores (by simp [← entered]))
    · match judged : refusal d scopeOk lenOk paramOk with
      | none => simp [h (lenOk_of_taken judged), same]
      | some st => exact congrArg (memRead · a) (State.hostMem_of_stores (by simp [← entered]))

theorem State.acceptSingle_memRead {i : Instr} {opcode len : Nat} {paramOk : Bool}
    (h : d.len.toNat = len → ∀ u, memRead (act u).hostMem a = memRead u.hostMem a) :
    memRead (s.acceptSingle i opcode d len paramOk act).hostMem a = memRead s.hostMem a :=
  State.accept_memRead fun right => h (beq_iff_eq.1 right)

/-- A reading of LEN bytes that is written at ADDR and answered leaves every byte outside it. -/
theorem memRead_reading {bs : Bytes} {opcode : Nat} (u : State) (right : d.len.toNat = bs.length)
    (outside : a < d.addr.toNat ∨ d.addr.toNat + d.len.toNat ≤ a) :
    memRead ((u.writeHost d.addr bs).answer 0 opcode d stOk).hostMem a = memRead u.hostMem a := by
  rw [State.answer_hostMem, State.writeHost_frame _ _ _ _ (right ▸ outside)]

end

/-! The lengths of the readings (Tables 11-13, 12-9, 12-10, 8-5 and 14-20). -/

@[simp] theorem leInt_length (n : Nat) (v : Int) : (leInt n v).length = n := leBytes_length ..

theorem length_flatMap_const {α β : Type} {f : α → List β} {k : Nat} (l : List α) (h : ∀ x ∈ l, (f x).length = k) :
    (l.flatMap f).length = l.length * k := by
  induction l with
  | nil => rw [List.flatMap_nil, List.length_nil, List.length_nil, Nat.zero_mul]
  | cons x xs ih =>
    rw [List.flatMap_cons, List.length_append, h x List.mem_cons_self, ih fun y hy => h y (List.mem_cons_of_mem x hy), List.length_cons,
      Nat.succ_mul, Nat.add_comm]

theorem State.metReadPayload_length (s : State) (n : Fin 32) : (s.metReadPayload n).length = 192 := by
  simp only [State.metReadPayload, List.length_append]
  rw [length_flatMap_const (k := 20) (List.finRange 8) fun c _ => by split <;> simp]
  simp

theorem coefPayload_length : ((stage2Taps ++ stage3Taps ++ resamplerH).flatMap (leInt 4)).length = 4296 := by
  rw [length_flatMap_const (k := 4) _ fun _ _ => leInt_length ..]
  simp only [resamplerH, List.length_append]
  rfl

theorem State.nrgReadPayload_length (s : State) (n : Fin 32) : (s.nrgReadPayload n).length = 400 := by
  simp only [State.nrgReadPayload, List.length_append]
  rw [length_flatMap_const (k := 9) s.nrg.accs[n].toList fun _ _ => leBytes_length .., length_flatMap_const (k := 9) _ fun r _ => by simp,
    length_flatMap_const (k := 4) _ fun _ _ => leInt_length ..]
  simp

theorem tableBytes_length (m : RegMap) (n : Fin 32) : (tableBytes m n).length = 324 := by
  rw [tableBytes, length_flatMap_const (k := 108) (List.range 3) fun ch _ => ?_]
  · rfl
  · rw [length_flatMap_const (k := 12) (List.range 9) fun k _ => ?_]
    · rfl
    · rw [length_flatMap_const (k := 4) (List.range 3) fun _ _ => leBytes_length ..]
      rfl

theorem State.nrgCalPayload_length (s : State) (n : Fin 32) : (s.nrgCalPayload n).length = 356 := by
  rw [State.nrgCalPayload, List.length_append, tableBytes_length, length_flatMap_const (k := 4) (List.range 8) fun _ _ => leBytes_length ..]
  rfl

theorem State.ledgerPayload_length (s : State) (key : Nat) (r : Rec) (e : Option Grant) : (s.ledgerPayload key r e).length = 64 := by
  simp [State.ledgerPayload]

section
variable {d : Desc} {a : Nat} (s : State)

/-- What a command leaves at a byte: its answer is a state that reads there as before. -/
abbrev Spares (a : Nat) (s : State) : State → Prop := fun t => memRead t.hostMem a = memRead s.hostMem a

variable (outside : a < d.addr.toNat ∨ d.addr.toNat + d.len.toNat ≤ a)
include outside

theorem execMetRead_spares : Answers (Spares a s) (execMetRead d s) := by
  refine State.acceptSingle_memRead fun right u => ?_
  split
  · exact memRead_reading u (right.trans (State.metReadPayload_length ..).symm) outside
  · simp

theorem execMetCoefRead_spares : Answers (Spares a s) (execMetCoefRead d s) :=
  State.acceptSingle_memRead fun right u => memRead_reading u (right.trans coefPayload_length.symm) outside

theorem execNrgRead_spares : Answers (Spares a s) (execNrgRead d s) := by
  refine State.acceptSingle_memRead fun right u => ?_
  split
  · split
    · exact memRead_reading u (right.trans (State.nrgReadPayload_length ..).symm) outside
    · simp
  · simp

theorem execNrgCalRead_spares : Answers (Spares a s) (execNrgCalRead d s) := by
  refine State.acceptSingle_memRead fun right u => ?_
  split
  · exact memRead_reading u (right.trans (State.nrgCalPayload_length ..).symm) outside
  · simp

theorem execAbcQuery_spares (us : List Nat) : Answers (Spares a s) (execAbcQuery d us s) := by
  refine State.accept_memRead fun right u => ?_
  have len : d.len.toNat = 64 := beq_iff_eq.1 right
  split
  · simp
  · split
    · simp
    next slot _ =>
      have read : (u.readSlots (slotsOf d.param1.toNat) us).hostMem = u.hostMem := State.hostMem_of_stores (by simp)
      simp only
      split
      · rw [memRead_reading _ (len.trans (by simp [State.unreadable])) outside]
        simp [State.unreadable, State.draw, read]
      · rw [memRead_reading _ (len.trans (State.ledgerPayload_length ..).symm) outside, read]

theorem execLineNeighRead_spares : Answers (Spares a s) (execLineNeighRead d s) :=
  State.acceptSingle_memRead fun right u => memRead_reading u (right.trans (by simp)) outside

end

/-- Settles O44: each of the six writes as many bytes as its LEN says, from ADDR on. -/
theorem readingsStayInTheirBuffers : Obligations.ReadingsStayInTheirBuffers := by
  intro d us s t a h outside
  have spared : ∃ o, o = .next t ∧ Answers (Spares a s) o := by
    rcases h with h | h | h | h | h | h
    · exact ⟨_, h, execMetRead_spares s outside⟩
    · exact ⟨_, h, execMetCoefRead_spares s outside⟩
    · exact ⟨_, h, execNrgRead_spares s outside⟩
    · exact ⟨_, h, execNrgCalRead_spares s outside⟩
    · exact ⟨_, h, execAbcQuery_spares s outside us⟩
    · exact ⟨_, h, execLineNeighRead_spares s outside⟩
  obtain ⟨_, rfl, same⟩ := spared
  exact same

end Sys2Proof.Machine
end

/-! The release of events (R31) and reserved pages (Table 4-2) -/

section
namespace Sys2Proof.Machine

open Sys2Proof Sys2Proof.Claims

/-! ### The release of a tick -/

/-- Inserting a key adds it and nothing else. -/
theorem mem_keyInsert {k e : EventKey} : ∀ {ks : List EventKey}, e ∈ keyInsert k ks ↔ e = k ∨ e ∈ ks
  | [] => List.mem_cons
  | x :: xs => by
    rw [keyInsert]
    split
    · rw [List.mem_cons]
    · rw [List.mem_cons, mem_keyInsert (ks := xs), List.mem_cons]
      exact or_left_comm

/-- Inserting a key keeps the order of R29. -/
theorem pairwise_keyInsert {k : EventKey} : ∀ {ks : List EventKey}, ks.Pairwise (fun a b => keyLe a b = true) →
    (keyInsert k ks).Pairwise (fun a b => keyLe a b = true)
  | [], _ => List.pairwise_singleton ..
  | x :: xs, sorted => by
    obtain ⟨first, rest⟩ := List.pairwise_cons.1 sorted
    rw [keyInsert]
    split
    next before_ =>
      refine List.pairwise_cons.2 ⟨fun y mem => ?_, sorted⟩
      obtain rfl | later := List.mem_cons.1 mem
      · exact before_
      · exact keyLe_trans before_ (first y later)
    next after_ =>
      refine List.pairwise_cons.2 ⟨fun y mem => ?_, pairwise_keyInsert rest⟩
      obtain rfl | later := mem_keyInsert.1 mem
      · exact (keyLe_total x y).resolve_right after_
      · exact first y later

theorem mem_foldr_keyInsert (ks : List EventKey) (e : EventKey) : e ∈ ks.foldr keyInsert [] ↔ e ∈ ks := by
  induction ks with
  | nil => exact Iff.rfl
  | cons k ks ih => rw [List.foldr_cons, mem_keyInsert, ih, List.mem_cons]

theorem pairwise_foldr_keyInsert (ks : List EventKey) : (ks.foldr keyInsert []).Pairwise (fun a b => keyLe a b = true) := by
  induction ks with
  | nil => exact .nil
  | cons k ks ih => exact pairwise_keyInsert ih

theorem execEventRelease_of_due {s : State} {tick : Nat} (due : tick + 8 ≤ s.now) :
    execEventRelease tick s = .next { s with seq := { s.seq with
      waiting := s.seq.waiting.filter (·.stamp != tick), lastTick := tick,
      released := (s.seq.waiting.filter (·.stamp == tick)).foldr keyInsert [] } } :=
  if_neg (Nat.not_lt.2 due)

/-- Settles O55: the waiting events of the tick are filtered out and inserted one by one in their order. -/
theorem eventsAreReleasedInOrder : Obligations.EventsAreReleasedInOrder := by
  intro s tick due
  refine ⟨_, execEventRelease_of_due due, fun e => ?others, fun e waits isDue => ?taken, fun e released => ?only, ?order⟩
  case others => simp
  case taken => simpa [mem_foldr_keyInsert] using ⟨waits, isDue⟩
  case only =>
    rw [mem_foldr_keyInsert] at released
    simpa using (List.mem_filter.1 released).2
  case order => exact pairwise_foldr_keyInsert _

/-! ### Offsets beyond the last page -/

theorem unitAt_of_beyond {off base stride count : Nat} (h : base + stride * count ≤ off) (pos : 0 < stride) : unitAt off base stride count = none := by
  have : count ≤ (off - base) / stride := (Nat.le_div_iff_mul_le pos).2 (by rw [Nat.mul_comm]; omega)
  simp only [unitAt, Nat.not_lt.2 this, decide_false, Bool.and_false, Bool.false_eq_true, if_false]

/-- A row that ends below an offset does not have it. -/
theorem RegRow.has_of_beyond {r : RegRow} {off : Nat} (h : r.base + r.stride * r.count ≤ off) (pos : 0 < r.stride) : r.has off = false := by
  have : r.count ≤ (off - r.base) / r.stride := (Nat.le_div_iff_mul_le pos).2 (by rw [Nat.mul_comm]; omega)
  simp only [RegRow.has, Nat.not_lt.2 this, decide_false, Bool.and_false]

/-- Every row of profile and calibration registers ends before the reserved pages. -/
theorem rows_end : ∀ r ∈ profRows ++ calRows, r.base + r.stride * r.count ≤ 0x11000 ∧ 0 < r.stride := by
  decide +kernel

section
variable {off : Nat} (reserved : 0x11000 ≤ off)
include reserved

theorem row_has_of_reserved {r : RegRow} (mem : r ∈ profRows ++ calRows) : r.has off = false :=
  RegRow.has_of_beyond (Nat.le_trans (rows_end r mem).1 reserved) (rows_end r mem).2

theorem errRegAt_of_reserved : errRegAt off = none := by
  unfold errRegAt
  split
  case h_14 =>
    simp only [unitAt_of_beyond (off := off) (base := 0x2068) (stride := 0x400) (count := 4) (by omega) (by decide),
      unitAt_of_beyond (off := off) (base := 0x2038) (stride := 0x80) (count := 32) (by omega) (by decide),
      unitAt_of_beyond (off := off) (base := 0x8114) (stride := 0x20) (count := 32) (by omega) (by decide),
      unitAt_of_beyond (off := off) (base := 0xE12C) (stride := 0x80) (count := 4) (by omega) (by decide), Option.map_none]
  all_goals omega

theorem State.pairValue_of_reserved (s : State) : s.pairValue off = none := by
  unfold State.pairValue
  simp only
  split
  case h_17 =>
    simp only [unitAt_of_beyond (off := off) (base := 0x310C) (stride := 0x20) (count := 32) (by omega) (by decide),
      unitAt_of_beyond (off := off) (base := 0x9110) (stride := 0x20) (count := 8) (by omega) (by decide), Option.bind_none]
  all_goals omega

theorem State.readPage_of_reserved (s : State) : s.readPage off = 0 := by
  have page : 0x11 ≤ off / 0x1000 := (Nat.le_div_iff_mul_le (by decide)).2 reserved
  unfold State.readPage
  split
  case h_18 => rfl
  all_goals omega

theorem State.readReg_of_reserved (s : State) : s.readReg off = 0 := by
  have profile : profRows.any (·.has off) = false :=
    List.any_eq_false.2 fun r mem => Bool.eq_false_iff.1 (row_has_of_reserved reserved (List.mem_append_left _ mem))
  have calibration : calRows.any (·.has off) = false :=
    List.any_eq_false.2 fun r mem => Bool.eq_false_iff.1 (row_has_of_reserved reserved (List.mem_append_right _ mem))
  simp only [State.readReg, errRegAt_of_reserved reserved, profile, calibration, State.readPage_of_reserved reserved, Bool.false_eq_true, if_false]
  split <;> rfl

end

theorem enabled_zero (be : BitVec 4) : enabled be 0 = 0 := by
  simp [enabled, List.range_succ]

/-! ### Reads of error registers -/

theorem unitAt_of_below {off base stride count : Nat} (h : off < base) : unitAt off base stride count = none := by
  simp only [unitAt, Nat.not_le.2 h, decide_false, Bool.false_and, Bool.false_eq_true, if_false]

theorem unitAt_range {off base stride count k : Nat} (pos : 0 < stride) (h : unitAt off base stride count = some k) :
    base ≤ off ∧ off < base + stride * count := by
  constructor
  · refine Decidable.byContradiction fun below => ?_
    rw [unitAt_of_below (Nat.not_le.1 below)] at h
    cases h
  · refine Decidable.byContradiction fun beyond => ?_
    rw [unitAt_of_beyond (Nat.not_lt.1 beyond) pos] at h
    cases h

/-- An error register is neither GLB_HTC0, nor ABC_STAT, nor a VLK_LVIOL: its read takes no action of its own. -/
theorem errRegAt_plain {off : Nat} {r : ErrReg} (h : errRegAt off = some r) : off ≠ 0x48 ∧ off ≠ 0x5100 ∧ unitAt off 0x3118 0x20 32 = none := by
  unfold errRegAt at h
  split at h
  case h_14 =>
    split at h
    next at_ => have := unitAt_range (by decide) at_; exact ⟨by omega, by omega, unitAt_of_below (by omega)⟩
    split at h
    next at_ => have := unitAt_range (by decide) at_; exact ⟨by omega, by omega, unitAt_of_below (by omega)⟩
    split at h
    next at_ => have := unitAt_range (by decide) at_; exact ⟨by omega, by omega, unitAt_of_beyond (by omega) (by decide)⟩
    obtain ⟨k, at_, -⟩ := Option.map_eq_some_iff.1 h
    have := unitAt_range (by decide) at_
    exact ⟨by omega, by omega, unitAt_of_beyond (by omega) (by decide)⟩
  all_goals exact ⟨by decide, by decide, by decide⟩

theorem State.readAt_of_errReg {s : State} {off : Nat} {r : ErrReg} (be : BitVec 4) (aligned : off % 4 = 0) (h : errRegAt off = some r) :
    (s.readAt off be).glb.readData = enabled be (s.err r) ∧ (s.readAt off be).errs = s.errs := by
  obtain ⟨notHtc, notStat, notViol⟩ := errRegAt_plain h
  have value : s.readReg off = s.err r := by simp only [State.readReg, aligned, h, bne_self_eq_false, Bool.false_eq_true, if_false]
  simp only [State.readAt, beq_false_of_ne notStat, beq_false_of_ne notHtc, notViol, value, Bool.false_eq_true, if_false]
  split <;> exact ⟨rfl, rfl⟩

/-- Settles O60: no row, error register, low half or page has an offset from 0x1_1000 on. -/
theorem reservedOffsetsReadZero : Obligations.ReservedOffsetsReadZero := by
  refine ⟨fun s off be aligned reserved => ?read, fun s off val aligned reserved => ?write, fun s off be r aligned reg => ?errReg⟩
  case read =>
    have notViol : unitAt off.toNat 0x3118 0x20 32 = none := unitAt_of_beyond (by omega) (by decide)
    have notStat : (off.toNat == 0x5100) = false := beq_false_of_ne (by omega)
    have notHtc : (off.toNat == 0x48) = false := beq_false_of_ne (by omega)
    simp only [exec, execLatchedPairRead, aligned, State.readAt, notStat, notHtc, notViol, State.pairValue_of_reserved reserved,
      State.answerRead, State.readReg_of_reserved reserved, enabled_zero, bne_self_eq_false, Bool.false_or, Bool.false_eq_true, if_false]
  case write =>
    have notGlb : ¬ off.toNat < 0x1000 := by omega
    have notHif : ¬ off.toNat < 0x2000 := by omega
    have notTamp : (off.toNat == 0xC004) = false := beq_false_of_ne (by omega)
    simp only [exec, execRegisterWrite, aligned, errRegAt_of_reserved reserved, notGlb, notHif, notTamp, bne_self_eq_false, Bool.or_self,
      Bool.false_eq_true, if_false, ite_self]
  case errReg =>
    refine ⟨s.readAt off.toNat be, ?_, State.readAt_of_errReg be aligned reg⟩
    simp only [exec, execLatchedPairRead, aligned, bne_self_eq_false, Bool.false_or, Bool.false_eq_true, if_false]

end Sys2Proof.Machine
end
/-! Steps, the reset state and the safety island's permits -/

section
namespace Sys2Proof.Machine

open Sys2Proof Sys2Proof.Claims

/-- Settles O34: both are the front command's meaning, by the definition of a step. -/
theorem frontCommandActs : Obligations.FrontCommandActs := fun _ _ => rfl

/-- Settles O35. -/
theorem idleStepRunsTheClock : Obligations.IdleStepRunsTheClock := by
  intro s idle
  have ticks : step s = .next s.tick := by simp only [step, idle]
  refine ⟨ticks, fun loaded due notYet => ?_⟩
  rw [ticks]
  simp [State.tick, loaded, due, notYet]

/-- Settles O37. -/
theorem resetLeavesTheStatedValues : Obligations.ResetLeavesTheStatedValues := by
  refine ⟨rfl, rfl, fun r => ?errors, fun n => ?rings, rfl, rfl, rfl, fun n => ?lanes, rfl, rfl, rfl⟩
  case errors => cases r <;> simp [State.err, State.reset, Errs.reset]
  case rings => simp [State.reset, Hif.reset, Ring.reset]
  case lanes => simp [State.reset, Lane.reset]

/-- Settles O38. -/
theorem resetMeetsTheInvariants : Obligations.ResetMeetsTheInvariants := by
  refine ⟨⟨rfl, rfl, rfl⟩, fun q => ?_⟩
  simp [State.reset, IQueue.reset]

/-! ### Checkpoints -/

/-- Start-up has reached step 10 and the HTC is not loaded: the legal path is on, and no event is stamped (R81). -/
def unloadedAtStep10 : State := { State.reset with boot := { Boot.reset with step := 10 } }

/-- Refutes O49: with the HTC not loaded the checkpoint starts, but no event of class 14 waits, since none is stamped. -/
theorem not_checkpointsFallOnMultiples : ¬ Obligations.CheckpointsFallOnMultiples := by
  intro h
  obtain ⟨t, k, e, starts, -, -, -, waits, -⟩ :=
    (h unloadedAtStep10).2 (by decide) (by decide) (by decide) rfl rfl nofun nofun
  have quiet : exec .checkpointStart unloadedAtStep10 = .next (unloadedAtStep10.startCommit 1 none) := rfl
  obtain rfl := Host.Outcome.next.inj (quiet.symm.trans starts)
  cases waits

/-! ### Permits and coils -/

/-- Settles O56: armed is the first condition of each permit, and the permits, the pilot and the heartbeat those of a coil. -/
theorem disarmedIslandGivesNoPermit : Obligations.DisarmedIslandGivesNoPermit := by
  intro s n
  refine ⟨fun disarmed => ?_, fun on => ?_⟩
  · have hss : s.hssPermit n = false := by simp [State.hssPermit, disarmed]
    have sc : s.scPermit n = false := by simp [State.scPermit, disarmed]
    exact ⟨hss, sc, by simp [State.coilOn, State.coilEnable, hss]⟩
  · simp only [State.coilOn, State.coilEnable, State.permitLine, Bool.and_eq_true] at on
    obtain ⟨-, ⟨⟨⟨⟨req, pilot⟩, grant⟩, sc⟩, hss⟩, hb⟩ := on
    have permit := hss
    simp only [State.hssPermit, Bool.and_eq_true, Bool.not_eq_true'] at permit
    obtain ⟨⟨⟨⟨⟨armed, -⟩, -⟩, -⟩, holdup⟩, clock⟩ := permit
    exact ⟨armed, req, grant, pilot, hss, sc, hb, holdup, clock⟩

/-! ### Error bits cleared (R10) -/

/-- A register that is put is read back. -/
@[simp] theorem State.err_put (s : State) (r : ErrReg) (v : Reg) : State.err { s with errs := s.errs.put r v } r = v := by
  cases r <;> simp [State.err, Errs.put]

theorem State.clearErr_err_getLsbD (s : State) (r : ErrReg) (mask : Reg) (i : Nat) :
    ((s.clearErr r mask).err r).getLsbD i = ((s.err r).getLsbD i && !mask.getLsbD i) := by
  rw [State.clearErr, State.err_put, BitVec.getLsbD_and, BitVec.getLsbD_not]
  by_cases inside : i < 32
  · simp [inside]
  · simp [inside, BitVec.getLsbD_of_ge _ i (Nat.not_lt.1 inside)]

/-- A whole write of an error register other than MGT_ERR clears what it writes as 1. -/
theorem execRegisterWrite_of_errReg {s : State} {off : BitVec 17} {r : ErrReg} (val : BitVec 32) (aligned : off.toNat % 4 = 0)
    (taken : s.boot.phase = 7 ∨ off.toNat < 0x2000) (reg : errRegAt off.toNat = some r) (other : r ≠ .mgt) :
    execRegisterWrite off 0xF val false s = .next (s.clearErr r val) := by
  have notHeld : (s.boot.phase != 7 && decide (0x2000 ≤ off.toNat)) = false := by
    rcases taken with ready | low
    · simp [ready]
    · simp [Nat.not_le.2 low]
  have noStorm : (r == .mgt) = false := beq_false_of_ne other
  simp only [execRegisterWrite, aligned, notHeld, reg, noStorm]
  rfl

/-- Settles O59. -/
theorem errorBitsClearOnlyByWritingOnes : Obligations.ErrorBitsClearOnlyByWritingOnes := by
  intro s t off val r aligned taken reg other h
  have clears : exec (.registerWrite off 0xF val false) s = .next (s.clearErr r val) :=
    execRegisterWrite_of_errReg val aligned taken reg other
  obtain rfl := Host.Outcome.next.inj (clears.symm.trans h)
  exact ⟨s.clearErr_err_getLsbD r val, rfl, rfl, rfl⟩

end Sys2Proof.Machine
end

/-! Requests taken from their ring (R102 to R117): shared by the completion statements of the commands -/

section
namespace Sys2Proof.Machine

open Sys2Proof Sys2Proof.Claims

/-- What no reaction and no clock touches: an event noted leaves the global registers. -/
theorem State.note_glb (s : State) (cls lane index : Nat) : (s.note cls lane index).glb = s.glb := by
  unfold State.note
  split <;> rfl

theorem State.queuedOn_eq_zero {s : State} {ring : Fin 16} (free : ∀ w ∈ s.waiting, w.ring ≠ ring.val) : s.queuedOn ring = 0 := by
  have none_ : s.waiting.filter (·.ring == ring.val) = [] := List.filter_eq_nil_iff.2 fun w mem => by simp [free w mem]
  simp [State.queuedOn, none_]

/-- Descriptors that stand whole on a ring that runs, with none of it waiting, are taken at once (R103, R106). -/
theorem State.arrive_now {s : State} {i : Instr} {ring : Fin 16} {count : Nat} {act : State → State} (en : s.hif.rings[ring].en = true)
    (ok : s.hif.rings[ring].err = false) (some_ : 1 ≤ count) (few : count ≤ 16) (whole : count ≤ s.hif.rings[ring].fill)
    (free : ∀ w ∈ s.waiting, w.ring ≠ ring.val) : s.arrive i ring count false act = act (s.consume ring count) := by
  have noneWaits : s.waiting.find? (·.ring == ring.val) = none := List.find?_eq_none.2 fun w mem => by simp [free w mem]
  have stands : (!s.hif.rings[ring].en || s.hif.rings[ring].err || count == 0 || decide (count > 16) ||
      decide (s.hif.rings[ring].fill < s.queuedOn ring + count) && !false || decide (s.hif.rings[ring].fill < count)) = false := by
    rw [en, ok, State.queuedOn_eq_zero free, Nat.zero_add, decide_eq_false (Nat.not_lt.2 whole), decide_eq_false (Nat.not_lt.2 few),
      beq_false_of_ne (Nat.one_le_iff_ne_zero.1 some_)]
    rfl
  simp only [State.arrive, noneWaits]
  exact (if_neg (Bool.eq_false_iff.1 stands)).trans (if_neg (by simp))

/-- A request without a fault in its fields is not refused (R113). -/
theorem refusal_eq_none {d : Desc} {scopeOk lenOk paramOk : Bool} (plain : Plain d) (scope : scopeOk = true) (short : d.len.toNat ≤ 16777216)
    (len : lenOk = true) (param : paramOk = true) (unit : d.scope = 1 → d.unit = 0) : refusal d scopeOk lenOk paramOk = none := by
  obtain ⟨resv, dma⟩ := plain
  have gang : (d.scope == 1 && d.unit != 0) = false := by
    by_cases all : d.scope = 1
    · rw [unit all, bne_self_eq_false, Bool.and_false]
    · rw [beq_false_of_ne all, Bool.false_and]
  rw [refusal, resv, dma, scope, len, param, gang, decide_eq_false (Nat.not_lt.2 short)]
  rfl

/-- A request that is ready and not refused acts on the state once it has been taken. -/
theorem State.accept_taken {s : State} {i : Instr} {ring : Fin 16} {op : Nat} {d : Desc} {scopeOk lenOk paramOk : Bool} {act : State → State}
    (ready : Ready s ring d) (fair : refusal d scopeOk lenOk paramOk = none) :
    s.accept i ring op d scopeOk lenOk paramOk act = act (taken s ring d) := by
  obtain ⟨en, ok, some_, few, whole, free, runs⟩ := ready
  rw [State.accept, runs, State.arrive_now en ok some_ few whole free, fair]
  rfl

/-- A single-scope request of ring 0 (R113). -/
theorem State.acceptSingle_taken {s : State} {i : Instr} {op len : Nat} {d : Desc} {paramOk : Bool} {act : State → State} (ready : Ready s 0 d)
    (plain : Plain d) (scope : d.scope = 0) (long : d.len.toNat = len) (short : len ≤ 16777216) (param : paramOk = true) :
    s.acceptSingle i op d len paramOk act = act (taken s 0 d) :=
  State.accept_taken ready (refusal_eq_none plain (beq_iff_eq.2 scope) (long ▸ short) (beq_iff_eq.2 long) param fun all => by simp [scope] at all)

end Sys2Proof.Machine
end

/-! Fields read after a write to one element, and after a timer's expiry -/

section
namespace Sys2Proof.Machine

open Sys2Proof Sys2Proof.Claims

theorem State.setLane_lane_same (s : State) (n : Fin 32) (f : Lane → Lane) : (s.setLane n f).lanes[n] = f s.lanes[n] := by
  simp [State.setLane]

theorem State.setLane_lane_other (s : State) {n m : Fin 32} (f : Lane → Lane) (other : m ≠ n) : (s.setLane n f).lanes[m] = s.lanes[m] := by
  simp [State.setLane, Fin.val_ne_of_ne other.symm]

theorem State.setLane_congr {s : State} {n : Fin 32} {f g : Lane → Lane} (same : f s.lanes[n] = g s.lanes[n]) : s.setLane n f = s.setLane n g := by
  rw [State.setLane, State.setLane, same]

/-- A timer's expiry changes the timers and the sequencer's keys alone (R33, R34). -/
theorem State.expire_eq (s : State) (k : TimerKind) (o i : Nat) : ∃ ts q, s.expire k o i = { s with timers := ts, seq := q } := by
  unfold State.expire
  split
  · exact ⟨_, _, rfl⟩
  · exact ⟨s.timers, s.seq, rfl⟩

section
variable (s : State) (k : TimerKind) (o i : Nat)

@[simp] theorem State.expire_lanes : (s.expire k o i).lanes = s.lanes := by obtain ⟨_, _, e⟩ := s.expire_eq k o i; rw [e]
@[simp] theorem State.expire_cfg : (s.expire k o i).cfg = s.cfg := by obtain ⟨_, _, e⟩ := s.expire_eq k o i; rw [e]
@[simp] theorem State.expire_htc : (s.expire k o i).htc = s.htc := by obtain ⟨_, _, e⟩ := s.expire_eq k o i; rw [e]
@[simp] theorem State.expire_tok : (s.expire k o i).tok = s.tok := by obtain ⟨_, _, e⟩ := s.expire_eq k o i; rw [e]
@[simp] theorem State.expire_link : (s.expire k o i).link = s.link := by obtain ⟨_, _, e⟩ := s.expire_eq k o i; rw [e]
@[simp] theorem State.expire_saf : (s.expire k o i).saf = s.saf := by obtain ⟨_, _, e⟩ := s.expire_eq k o i; rw [e]
@[simp] theorem State.expire_lsw : (s.expire k o i).lsw = s.lsw := by obtain ⟨_, _, e⟩ := s.expire_eq k o i; rw [e]
@[simp] theorem State.expire_line : (s.expire k o i).line = s.line := by obtain ⟨_, _, e⟩ := s.expire_eq k o i; rw [e]
@[simp] theorem State.expire_pair : (s.expire k o i).pair = s.pair := by obtain ⟨_, _, e⟩ := s.expire_eq k o i; rw [e]
@[simp] theorem State.expire_epd : (s.expire k o i).epd = s.epd := by obtain ⟨_, _, e⟩ := s.expire_eq k o i; rw [e]
@[simp] theorem State.expire_nv : (s.expire k o i).nv = s.nv := by obtain ⟨_, _, e⟩ := s.expire_eq k o i; rw [e]
@[simp] theorem State.expire_mgt : (s.expire k o i).mgt = s.mgt := by obtain ⟨_, _, e⟩ := s.expire_eq k o i; rw [e]
@[simp] theorem State.expire_now : (s.expire k o i).now = s.now := by obtain ⟨_, _, e⟩ := s.expire_eq k o i; rw [e]; rfl
@[simp] theorem State.expire_pf (off lo w : Nat) : (s.expire k o i).pf off lo w = s.pf off lo w := by obtain ⟨_, _, e⟩ := s.expire_eq k o i; rw [e]; rfl
@[simp] theorem State.expire_lanePf (n : Fin 32) (r lo w : Nat) : (s.expire k o i).lanePf n r lo w = s.lanePf n r lo w := by
  obtain ⟨_, _, e⟩ := s.expire_eq k o i; rw [e]; rfl

end

end Sys2Proof.Machine
end

/-! What the end of a command reads of the state before it -/

section
namespace Sys2Proof.Machine

open Sys2Proof Sys2Proof.Claims

/-- What the watch on a state before reads of it (R57, R133): the lanes, the island, the switches, the supplies, the clocks, the pair and the profile. -/
def State.watched (s : State) : State :=
  { State.reset with lanes := s.lanes, saf := s.saf, lsw := s.lsw, power := s.power, clocks := s.clocks, pair := s.pair, cfg := s.cfg }

theorem State.watchLane_watched (s0 s : State) (n : Fin 32) : State.watchLane s0 s n = State.watchLane s0.watched s n := by
  have hss : s0.hssPermit n = s0.watched.hssPermit n := rfl
  have sc : s0.scPermit n = s0.watched.scPermit n := rfl
  have fb : s0.fbClosed n = s0.watched.fbClosed n := rfl
  have mode : s0.modeOut n = s0.watched.modeOut n := rfl
  have gate : s0.laneGate n = s0.watched.laneGate n := rfl
  unfold State.watchLane State.watchFeedback
  rw [hss, sc, fb, mode, gate]

theorem State.watch_congr {a b : State} (same : a.watched = b.watched) (s : State) : State.watch a s = State.watch b s := by
  simp only [State.watch, State.watchLane_watched a, State.watchLane_watched b, same]

/-- The end of a command reads of the state before only what the watch reads. -/
theorem State.finish_congr {a b : State} (same : a.watched = b.watched) (s : State) : State.finish a s = State.finish b s := by
  simp only [State.finish, State.watch_congr same]

/-- A frame received on a module bus changes that bus's counters and what an error bit may change, nothing that is watched. -/
theorem State.received_watched (s : State) (k : Fin 4) (e : Nat) : (s.received k e).watched = s.watched := by
  have counts : ∀ (t : State) (x y : Nat), (t.pmcanCounts k x y).watched = t.watched := fun t x y => by
    unfold State.pmcanCounts
    simp only []
    split <;> simp [State.watched]
  unfold State.received
  simp only []
  split
  · exact counts ..
  · rw [counts]
    exact (show State.watched (State.draw _ 9).2 = _ from rfl).trans (counts ..)

end Sys2Proof.Machine
end

/-! Units and masks of a request (R111, R112) -/

section
namespace Sys2Proof.Machine

open Sys2Proof Sys2Proof.Claims

/-- A single-scope request without a fault in its fields is not refused. -/
theorem refusal_eq_none_of_single {d : Desc} {scopeOk lenOk paramOk : Bool} (plain : Plain d) (single : d.scope = 0) (scope : scopeOk = true)
    (short : d.len.toNat ≤ 16777216) (len : lenOk = true) (param : paramOk = true) : refusal d scopeOk lenOk paramOk = none :=
  refusal_eq_none plain scope short len param fun all => by simp [single] at all

/-- Nor is a gang without one. -/
theorem refusal_eq_none_of_gang {d : Desc} {scopeOk lenOk paramOk : Bool} (plain : Plain d) (unit : d.unit = 0) (scope : scopeOk = true)
    (short : d.len.toNat ≤ 16777216) (len : lenOk = true) (param : paramOk = true) : refusal d scopeOk lenOk paramOk = none :=
  refusal_eq_none plain scope short len param fun _ => unit

/-- Nor is a batch of at least one entry, whose payload is at most 65,535 entries of 16 bytes. -/
theorem refusal_eq_none_of_batch {d : Desc} {scopeOk lenOk paramOk : Bool} (plain : Plain d) (batch : d.scope = 2) (scope : scopeOk = true)
    (long : d.len.toNat = 16 * d.unit.toNat) (len : lenOk = true) (param : paramOk = true) : refusal d scopeOk lenOk paramOk = none :=
  refusal_eq_none plain scope (by have := d.unit.isLt; omega) len param fun all => by simp [batch] at all

theorem batchLen_of {d : Desc} (unit : d.unit ≠ 0) (long : d.len.toNat = 16 * d.unit.toNat) : batchLen d = true := by
  rw [batchLen, bne_iff_ne.2 unit, beq_iff_eq.2 long]
  rfl

theorem toNat_len_of_zero {d : Desc} (len : d.len = 0) : d.len.toNat ≤ 16777216 := by rw [len]; decide

theorem State.onLane_fin {s : State} {u : Nat} {n : Fin 32} {f : State → Fin 32 → State} (unit : u = n.val) : s.onLane u f = f s n := by
  subst unit
  exact dif_pos n.isLt

theorem State.laneUsable_fin (s : State) (n : Fin 32) : s.laneUsable n.val = (s.lanes[n].st != .disabled) := dif_pos n.isLt

theorem State.clearOk_fin (s : State) (n : Fin 32) : s.clearOk n.val = (s.lanes[n].st == .fault) := dif_pos n.isLt

/-- A single-scope lane command whose lane allows it acts on the lane and is answered. -/
theorem State.laneCommand_single {s : State} {d : Desc} {op : Nat} {pre : State → Nat → Bool} {act : State → Nat → State} (single : d.scope = 0)
    (allows : pre s d.unit.toNat = true) : s.laneCommand d op pre act = (act s d.unit.toNat).answer 0 op d stOk := by
  rw [State.laneCommand, if_pos (beq_iff_eq.2 single), if_pos allows]

/-- A gang whose members all allow it acts on them in order and is answered once. -/
theorem State.laneCommand_gang {s : State} {d : Desc} {op : Nat} {pre : State → Nat → Bool} {act : State → Nat → State} (gang : d.scope = 1)
    (agree : gangCheck op (maskUnits d.param0 0) (fun u => decide (u < 32)) (fun _ => false) (pre s) = none) :
    s.laneCommand d op pre act = ((maskUnits d.param0 0).foldl act s).answer 0 op d stOk := by
  have notSingle : ¬ (d.scope == 0) = true := by rw [gang]; decide
  simp only [State.laneCommand, if_neg notSingle, agree]

end Sys2Proof.Machine
end

/-! The state once a request has been taken: rings, vectors and the sequencer's keys alone have changed (R103, R105, R31) -/

section
namespace Sys2Proof.Machine

open Sys2Proof Sys2Proof.Claims

theorem State.note_eq (s : State) (c l i : Nat) : ∃ q, s.note c l i = { s with seq := q } := by
  unfold State.note
  split
  · exact ⟨_, rfl⟩
  · exact ⟨s.seq, rfl⟩

theorem State.pend_eq (s : State) (v : Fin 32) (atOnce : Bool) : ∃ h, s.pend v atOnce = { s with hif := h } := by
  simp only [State.pend]
  split
  · exact ⟨_, rfl⟩
  · exact ⟨_, rfl⟩

theorem State.consume_eq (s : State) (n : Fin 16) (k : Nat) : ∃ h, s.consume n k = { s with hif := h } := by
  simp only [State.consume]
  split
  · obtain ⟨h, e⟩ := (s.setRing n fun r => { r with cons := r.cons + BitVec.ofNat 16 k }).pend_eq s.hif.rings[n].vec.toFin false
    exact ⟨h, e⟩
  · exact ⟨_, rfl⟩

theorem taken_eq (s : State) (n : Fin 16) (d : Desc) : ∃ h q, taken s n d = { s with hif := h, seq := q } := by
  obtain ⟨h, consumed⟩ := s.consume_eq n d.count
  obtain ⟨q, noted⟩ := (s.consume n d.count).note_eq (if n == 8 then 12 else 13) 32 n.val
  exact ⟨h, q, by rw [taken, noted, consumed]⟩

section
variable (s : State) (n : Fin 16) (d : Desc)

@[simp] theorem taken_cfg : (taken s n d).cfg = s.cfg := by obtain ⟨_, _, e⟩ := taken_eq s n d; rw [e]
@[simp] theorem taken_htc : (taken s n d).htc = s.htc := by obtain ⟨_, _, e⟩ := taken_eq s n d; rw [e]
@[simp] theorem taken_timers : (taken s n d).timers = s.timers := by obtain ⟨_, _, e⟩ := taken_eq s n d; rw [e]
@[simp] theorem taken_errs : (taken s n d).errs = s.errs := by obtain ⟨_, _, e⟩ := taken_eq s n d; rw [e]
@[simp] theorem taken_power : (taken s n d).power = s.power := by obtain ⟨_, _, e⟩ := taken_eq s n d; rw [e]
@[simp] theorem taken_clocks : (taken s n d).clocks = s.clocks := by obtain ⟨_, _, e⟩ := taken_eq s n d; rw [e]
@[simp] theorem taken_boot : (taken s n d).boot = s.boot := by obtain ⟨_, _, e⟩ := taken_eq s n d; rw [e]
@[simp] theorem taken_glb : (taken s n d).glb = s.glb := by obtain ⟨_, _, e⟩ := taken_eq s n d; rw [e]
@[simp] theorem taken_commit : (taken s n d).commit = s.commit := by obtain ⟨_, _, e⟩ := taken_eq s n d; rw [e]
@[simp] theorem taken_frozenAt : (taken s n d).frozenAt = s.frozenAt := by obtain ⟨_, _, e⟩ := taken_eq s n d; rw [e]
@[simp] theorem taken_chipResetDue : (taken s n d).chipResetDue = s.chipResetDue := by obtain ⟨_, _, e⟩ := taken_eq s n d; rw [e]
@[simp] theorem taken_flights : (taken s n d).flights = s.flights := by obtain ⟨_, _, e⟩ := taken_eq s n d; rw [e]
@[simp] theorem taken_lanes : (taken s n d).lanes = s.lanes := by obtain ⟨_, _, e⟩ := taken_eq s n d; rw [e]
@[simp] theorem taken_pmcan : (taken s n d).pmcan = s.pmcan := by obtain ⟨_, _, e⟩ := taken_eq s n d; rw [e]
@[simp] theorem taken_met : (taken s n d).met = s.met := by obtain ⟨_, _, e⟩ := taken_eq s n d; rw [e]
@[simp] theorem taken_nrg : (taken s n d).nrg = s.nrg := by obtain ⟨_, _, e⟩ := taken_eq s n d; rw [e]
@[simp] theorem taken_book : (taken s n d).book = s.book := by obtain ⟨_, _, e⟩ := taken_eq s n d; rw [e]
@[simp] theorem taken_abc : (taken s n d).abc = s.abc := by obtain ⟨_, _, e⟩ := taken_eq s n d; rw [e]
@[simp] theorem taken_mgt : (taken s n d).mgt = s.mgt := by obtain ⟨_, _, e⟩ := taken_eq s n d; rw [e]
@[simp] theorem taken_keys : (taken s n d).keys = s.keys := by obtain ⟨_, _, e⟩ := taken_eq s n d; rw [e]
@[simp] theorem taken_link : (taken s n d).link = s.link := by obtain ⟨_, _, e⟩ := taken_eq s n d; rw [e]
@[simp] theorem taken_tok : (taken s n d).tok = s.tok := by obtain ⟨_, _, e⟩ := taken_eq s n d; rw [e]
@[simp] theorem taken_saf : (taken s n d).saf = s.saf := by obtain ⟨_, _, e⟩ := taken_eq s n d; rw [e]
@[simp] theorem taken_lsw : (taken s n d).lsw = s.lsw := by obtain ⟨_, _, e⟩ := taken_eq s n d; rw [e]
@[simp] theorem taken_pair : (taken s n d).pair = s.pair := by obtain ⟨_, _, e⟩ := taken_eq s n d; rw [e]
@[simp] theorem taken_line : (taken s n d).line = s.line := by obtain ⟨_, _, e⟩ := taken_eq s n d; rw [e]
@[simp] theorem taken_epd : (taken s n d).epd = s.epd := by obtain ⟨_, _, e⟩ := taken_eq s n d; rw [e]
@[simp] theorem taken_arb : (taken s n d).arb = s.arb := by obtain ⟨_, _, e⟩ := taken_eq s n d; rw [e]
@[simp] theorem taken_island : (taken s n d).island = s.island := by obtain ⟨_, _, e⟩ := taken_eq s n d; rw [e]
@[simp] theorem taken_fuses : (taken s n d).fuses = s.fuses := by obtain ⟨_, _, e⟩ := taken_eq s n d; rw [e]
@[simp] theorem taken_nv : (taken s n d).nv = s.nv := by obtain ⟨_, _, e⟩ := taken_eq s n d; rw [e]
@[simp] theorem taken_spill : (taken s n d).spill = s.spill := by obtain ⟨_, _, e⟩ := taken_eq s n d; rw [e]
@[simp] theorem taken_intake : (taken s n d).intake = s.intake := by obtain ⟨_, _, e⟩ := taken_eq s n d; rw [e]
@[simp] theorem taken_hostMem : (taken s n d).hostMem = s.hostMem := by obtain ⟨_, _, e⟩ := taken_eq s n d; rw [e]
@[simp] theorem taken_now : (taken s n d).now = s.now := by obtain ⟨_, _, e⟩ := taken_eq s n d; rw [e]; rfl

end

@[simp] theorem State.note_nv (s : State) (c l i : Nat) : (s.note c l i).nv = s.nv := by obtain ⟨_, e⟩ := s.note_eq c l i; rw [e]
@[simp] theorem State.note_flights (s : State) (c l i : Nat) : (s.note c l i).flights = s.flights := by obtain ⟨_, e⟩ := s.note_eq c l i; rw [e]
@[simp] theorem State.note_frozenAt (s : State) (c l i : Nat) : (s.note c l i).frozenAt = s.frozenAt := by obtain ⟨_, e⟩ := s.note_eq c l i; rw [e]
@[simp] theorem State.note_commit (s : State) (c l i : Nat) : (s.note c l i).commit = s.commit := by obtain ⟨_, e⟩ := s.note_eq c l i; rw [e]
@[simp] theorem State.note_mgt (s : State) (c l i : Nat) : (s.note c l i).mgt = s.mgt := by obtain ⟨_, e⟩ := s.note_eq c l i; rw [e]

/-- A lane's mode is its profile's alone. -/
theorem State.isDc_of_cfg {s t : State} (same : s.cfg = t.cfg) (n : Fin 32) : s.isDc n = t.isDc n := by
  simp only [State.isDc, State.laneMode, State.lanePf, State.pf, State.prof, same]

theorem State.vlkTimer_of_cfg {s t : State} (same : s.cfg = t.cfg) (r lo : Nat) : s.vlkTimer r lo = t.vlkTimer r lo := by
  simp only [State.vlkTimer, State.pf, State.prof, same]

/-- Readings of the profile are the configuration's alone. -/
theorem State.pf_of_cfg {s t : State} (same : s.cfg = t.cfg) (off lo w : Nat) : s.pf off lo w = t.pf off lo w := by
  simp only [State.pf, State.prof, same]

@[simp] theorem taken_pf (s : State) (n : Fin 16) (d : Desc) (off lo w : Nat) : (taken s n d).pf off lo w = s.pf off lo w := State.pf_of_cfg (by simp) ..

end Sys2Proof.Machine
end

/-! Commands in flight under an error bit, a result and a record: none of them settles one (R108, R445, R452) -/

section
namespace Sys2Proof.Machine

open Sys2Proof Sys2Proof.Claims

section
variable (s : State)

@[simp] theorem State.fire_flights (v : Fin 32) : (s.fire v).flights = s.flights := rfl
@[simp] theorem State.faultIrq_flights : s.faultIrq.flights = s.flights := rfl

@[simp] theorem State.pend_flights (v : Fin 32) (atOnce : Bool) : (s.pend v atOnce).flights = s.flights := by
  obtain ⟨_, e⟩ := s.pend_eq v atOnce
  rw [e]

@[simp] theorem State.signal_flights (n : Fin 16) (irq : Bool) : (s.signal n irq).flights = s.flights := by
  unfold State.signal
  split <;> simp

@[simp] theorem State.ringWrite_flights (n : Fin 16) (r : Result) (irq : Bool) : (s.ringWrite n r irq).flights = s.flights := by
  simp [State.ringWrite]

@[simp] theorem State.startCommit_flights (k : Nat) (c : Option Nat) : (s.startCommit k c).flights = s.flights := by
  simp only [State.startCommit]
  repeat' split
  all_goals rfl

@[simp] theorem State.requestChipReset_flights (c : Nat) : (s.requestChipReset c).flights = s.flights := by
  simp [State.requestChipReset]

@[simp] theorem State.reactPlain_flights (r : ErrReg) (src code : Nat) : (s.reactPlain r src code).flights = s.flights := by
  unfold State.reactPlain
  split <;> rfl

@[simp] theorem State.stormRises_flights : s.stormRises.flights = s.flights := by simp [State.stormRises]

@[simp] theorem State.react_flights (r : ErrReg) (src : Nat) : (s.react r src).flights = s.flights := by
  simp only [State.react]
  repeat' split
  all_goals simp

@[simp] theorem State.setErr_flights (r : ErrReg) (b : Nat) : (s.setErr r b).flights = s.flights := by
  simp only [State.setErr]
  split
  · rfl
  · split
    · rw [State.react_flights]
    · rfl

@[simp] theorem State.pour_flights (n : Fin 16) (k : Nat) : (s.pour n k).flights = s.flights := by
  induction k generalizing s with
  | zero => rfl
  | succ k ih =>
    simp only [State.pour]
    split
    · rfl
    · split
      · rfl
      · split
        · rfl
        · rw [ih]; simp
        · rw [ih]; simp

@[simp] theorem State.spillFull_flights (n : Fin 16) : (s.spillFull n).flights = s.flights := by simp [State.spillFull]

@[simp] theorem State.hold_flights (n : Fin 16) (r : Result) (completion irq : Bool) : (s.hold n r completion irq).flights = s.flights := by
  simp only [State.hold]
  repeat' split
  all_goals simp

@[simp] theorem State.deliver_flights (n : Fin 16) (r : Result) (completion irq : Bool) : (s.deliver n r completion irq).flights = s.flights := by
  simp only [State.deliver]
  split <;> simp

@[simp] theorem State.emit_flights (n : Fin 16) (o u t i : Nat) (p : Bytes) : (s.emit n o u t i p).flights = s.flights := by
  simp only [State.emit]
  split
  · rfl
  · simp

@[simp] theorem State.legal_flights (k : Nat) (p : Bytes) : (s.legal k p).flights = s.flights := by
  simp only [State.legal]
  repeat' split
  all_goals simp

@[simp] theorem State.guaranteeLost_flights (c : Nat) : (s.guaranteeLost c).flights = s.flights := by simp [State.guaranteeLost]

@[simp] theorem State.guaranteeLost_abc (c : Nat) : (s.guaranteeLost c).abc = s.abc := (congrArg State.abc (s.guaranteeLost_kept c) :)

end

end Sys2Proof.Machine
end

/-! Rails, feeds and the battery supply (R58 to R66) -/

section
namespace Sys2Proof.Machine

open Sys2Proof Sys2Proof.Claims

/-- On V_BAT already and with the supply not lost, the island's change to V_BAT changes nothing. -/
theorem State.toVbat_of_onVbat {s : State} (on : s.power.onVbat = true) (kept : s.power.vbatLost = false) : s.toVbat = s := by
  have same : ({ s.power with onVbat := true } : Power) = s.power := by rw [← on]
  rw [State.toVbat, same, kept]
  rfl

/-- Nor does it where the island only takes it while on V_BAT. -/
theorem State.toVbat_ite {s : State} (kept : s.power.vbatLost = false) : (if s.power.onVbat then s.toVbat else s) = s := by
  split
  · exact State.toVbat_of_onVbat ‹_› kept
  · rfl

/-- Settles O1. -/
theorem railsAndFeedsComplete : Obligations.RailsAndFeedsComplete := by
  refine ⟨?powerOn, ?biasGood, ?railPowerGood_first, ?railPowerGood_last, ?railStartTimeout, ?railRetryWaitEnd, ?vsysBelowMin,
    ?vsysBelowRestartFloor, ?idealDiodeChange_on, ?idealDiodeChange_off, ?feedPresenceChange_present, ?feedPresenceChange_tooLow,
    ?feedPresenceChange_tooHigh, ?vbatLowChange_good, ?vbatLowChange_low, ?vbatLowChange_lost, ?batteryIslandSwitchover_off,
    ?batteryIslandSwitchover_on⟩
  case powerOn =>
    intro s vsysUp lockedOut
    simp [exec, execPowerOn, vsysUp, lockedOut]
  case biasGood =>
    intro s vsysUp biasGood step
    simp [exec, execBiasGood, vsysUp, biasGood, step]
  case railPowerGood_first =>
    intro s rail starting railsGood rail2
    simp [exec, execRailPowerGood, starting, railsGood, rail2]
  case railPowerGood_last =>
    intro s starting railsGood
    simp only [exec, execRailPowerGood]
    rw [if_neg (by rw [starting, railsGood]; decide)]
    simp only [show ((4 : Fin 5) != 1) = true from rfl, Bool.and_true]
    rfl
  case railStartTimeout =>
    intro s rail starting railsGood
    simp [exec, execRailStartTimeout, starting, railsGood]
  case railRetryWaitEnd =>
    intro s retryWait
    simp [exec, execRailRetryWaitEnd, retryWait]
    rfl
  case vsysBelowMin =>
    intro s vsysUp
    simp [exec, execVsysBelowMin, vsysUp]
  case vsysBelowRestartFloor =>
    intro s vsysUp
    have down : ¬ s.power.vsysUp = true := by simp [vsysUp]
    exact congrArg (fun t : State => Host.Outcome.next (t.setPower fun p => { p with lockedOut := false, attempts := 0, vsysMv := 3999 })) (if_neg down)
  case idealDiodeChange_on =>
    intro s feed vin vsys feed2 vsys2
    simp [exec, execIdealDiodeChange, feed2, vsys2]
  case idealDiodeChange_off =>
    intro s feed vin vsys vin2
    have notOn : ¬ vsys + 20 < vin := by omega
    simp only [exec, execIdealDiodeChange, notOn, vin2, if_false, if_true, Bool.and_false]
  case feedPresenceChange_present =>
    intro s feed vin feed2 vin2 vin3 htcLoaded
    have present : feedPresent false vin = true := by simp [feedPresent, vin2, vin3]
    simp only [exec, execFeedPresenceChange, feed2, present]
    exact congrArg Host.Outcome.next (if_pos htcLoaded)
  case feedPresenceChange_tooLow =>
    intro s feed vin feed2 vin2 htcLoaded
    have absent : feedPresent true vin = false := by
      rw [feedPresent, if_pos rfl, decide_eq_false (Nat.not_le.2 vin2), Bool.false_and]
    simp only [exec, execFeedPresenceChange, feed2, absent]
    exact congrArg Host.Outcome.next (if_pos htcLoaded)
  case feedPresenceChange_tooHigh =>
    intro s feed vin feed2 vin2 htcLoaded
    have absent : feedPresent true vin = false := by
      rw [feedPresent, if_pos rfl, decide_eq_false (Nat.not_le.2 vin2), Bool.and_false]
    simp only [exec, execFeedPresenceChange, feed2, absent]
    exact congrArg Host.Outcome.next (if_pos htcLoaded)
  case vbatLowChange_good =>
    intro s mv mv2
    have notLow : decide (mv < 2600) = false := by simp [mv2]
    have notLost : decide (mv < 1900) = false := by simp; omega
    simp only [exec, execVbatLowChange, notLow, notLost]
    exact congrArg Host.Outcome.next (State.toVbat_ite rfl)
  case vbatLowChange_low =>
    intro s mv mv2 mv3 vbatLow htcLoaded
    have low : decide (mv < 2600) = true := by simp [mv3]
    have notLost : decide (mv < 1900) = false := by simp [mv2]
    have stamped : (true && !false && s.htcLoaded) = true := by simp [htcLoaded]
    simp only [exec, execVbatLowChange, low, notLost, vbatLow]
    refine congrArg Host.Outcome.next ((State.toVbat_ite ?_).trans (if_pos stamped))
    exact (congrArg (fun t : State => t.power.vbatLost) (if_pos stamped)).trans (by simp)
  case vbatLowChange_lost =>
    intro s mv mv2 vbatLow onVbat
    have low : decide (mv < 2600) = true := by simp; omega
    simp only [exec, execVbatLowChange, low, mv2, vbatLow, Bool.not_true, Bool.and_false, Bool.false_and, Bool.false_eq_true, if_false, decide_true]
    simp [State.toVbat, State.setPower, onVbat]
  case batteryIslandSwitchover_off =>
    intro s mv mv2
    simp only [exec, execBatteryIslandSwitchover, Nat.not_le.2 mv2, if_false]
    rfl
  case batteryIslandSwitchover_on =>
    intro s mv mv2
    simp [exec, execBatteryIslandSwitchover, mv2]
    rfl

end Sys2Proof.Machine
end

/-! Hold-up, commits and checkpoints (R67 to R77) -/

section
namespace Sys2Proof.Machine

open Sys2Proof Sys2Proof.Claims

/-- A record whose shadow is taken is not captured again (R73). -/
theorem State.shadowCapture_of_captured {s : State} {k : Commit} {i : CommitImage} (commit : s.commit = some k) (shadow : k.shadow = some i) :
    s.shadowCapture = s := by
  simp [State.shadowCapture, commit, shadow]

/-- A hold-up or reset commit without a shadow takes it from the memories at the freeze (R73). -/
theorem State.shadowCapture_of_due {s : State} {k : Commit} (commit : s.commit = some k) (kind : k.kind ≠ 1) (body : k.bodyDone = false)
    (shadow : k.shadow = none) :
    s.shadowCapture = { s.dropAt k.freeze with commit := some { k with shadow := some ((s.dropAt k.freeze).commitImage k) } } := by
  have due : (k.shadow.isNone && !k.bodyDone) = true := by simp [shadow, body]
  have notCheckpoint : (k.kind == 1) = false := beq_false_of_ne kind
  rw [State.shadowCapture, commit]
  simp only [due, notCheckpoint]
  rfl

/-- Settles O2. -/
theorem holdupAndCommitsComplete : Obligations.HoldupAndCommitsComplete := by
  refine ⟨?holdupDetect, ?commitBodyWritten_shadowed, ?commitBodyWritten_unshadowed, ?commitTrailerWritten_slotA, ?commitTrailerWritten_slotB,
    ?checkpointStart, ?holdupRecover_reset, ?holdupRecover_plain⟩
  case holdupDetect =>
    intro s mv us step holdupNow mv2 us2 htcLoaded
    simp only [exec, execHoldupDetect]
    rw [if_neg, if_pos]
    · rfl
    · exact htcLoaded
    · simpa [State.vHu, holdupNow, Nat.not_lt.2 step, us2] using mv2
  case commitBodyWritten_shadowed =>
    intro s k i commit bodyDone shadow
    simp only [exec, execCommitBodyWritten, State.shadowCapture_of_captured commit shadow, commit, bodyDone, shadow]
    rfl
  case commitBodyWritten_unshadowed =>
    intro s k commit kind bodyDone shadow
    simp only [exec, execCommitBodyWritten]
    rw [State.shadowCapture_of_due commit kind bodyDone shadow]
    simp only [bodyDone]
    rfl
  case commitTrailerWritten_slotA =>
    intro s k commit bodyDone slotB chipResetDue
    simp [exec, execCommitTrailerWritten, commit, bodyDone, slotB, chipResetDue]
    rfl
  case commitTrailerWritten_slotB =>
    intro s k commit bodyDone slotB chipResetDue
    simp [exec, execCommitTrailerWritten, commit, bodyDone, slotB, chipResetDue]
    rfl
  case checkpointStart =>
    intro s ckptInterval now legalOn commit frozenAt nv nv2
    simp only [exec, execCheckpointStart]
    rw [if_neg]
    rcases a : s.nv.slotA with _ | x <;> rcases b : s.nv.slotB with _ | y <;> simp_all
  case holdupRecover_reset =>
    intro s mv ms holdupNow vHu ms2 commit frozenAt
    have acts : ¬ (!s.power.holdupNow || decide (mv < s.vHu + 1000) || decide (ms < 100) || s.commit.isSome) = true := by
      simp [holdupNow, commit, vHu, ms2]
    exact (if_neg acts).trans (if_pos (Option.isSome_iff_ne_none.2 frozenAt))
  case holdupRecover_plain =>
    intro s mv ms holdupNow vHu ms2 commit frozenAt
    have acts : ¬ (!s.power.holdupNow || decide (mv < s.vHu + 1000) || decide (ms < 100) || s.commit.isSome) = true := by
      simp [holdupNow, commit, vHu, ms2]
    exact (if_neg acts).trans (if_neg (by simp [frozenAt]))

end Sys2Proof.Machine
end

/-! Clock losses and returns, resets (R79, R80) -/

section
namespace Sys2Proof.Machine

open Sys2Proof Sys2Proof.Claims

/-- Settles O3. -/
theorem clocksAndResetsComplete : Obligations.ClocksAndResetsComplete := by
  refine ⟨?ckRefLoss_early, ?ckRefLoss_late, ?ckMetLoss, ?ckRfidLoss, ?ckRfidReturn, ?ckRtcLoss, ?ckRefReturn, ?ckRtcReturn, ?pllLockLoss_plain,
    ?pllLockLoss_ddr, ?pllRelock, ?pcieRefclkLoss, ?rstNAssert_late, ?rstNAssert_early, ?rstNRelease, ?chipResetRequest, ?blockResetRequest,
    ?pciePerst, ?pciePerstRelease, ?pcieEndpointStateChange, ?bridgeFrameError⟩
  case ckRefLoss_early =>
    intro s ok step
    simp only [exec, execCkRefLoss]
    rw [if_neg (by rw [ok]; decide), if_pos step]
  case ckRefLoss_late =>
    intro s ok step ddrOk
    simp only [exec, execCkRefLoss]
    rw [if_neg (by rw [ok]; decide), if_neg (Nat.not_lt.2 step), if_pos ddrOk]
  case ckMetLoss =>
    intro s ok step htcLoaded
    simp only [exec, execCkMetLoss]
    rw [if_neg (by simp [ok]), if_neg (Nat.not_lt.2 step), if_pos (show s.stamps = true from htcLoaded)]
  case ckRfidLoss =>
    intro s ok
    simp only [exec, execCkRfidLoss]
    rw [if_neg (by rw [ok]; decide)]
  case ckRfidReturn =>
    intro s
    simp [exec, execCkRfidReturn]
    rfl
  case ckRtcLoss =>
    intro s ok
    simp only [exec, execCkRtcLoss]
    rw [if_neg (by rw [ok]; decide)]
  case ckRefReturn =>
    intro s
    simp only [exec, execCkRefReturn]
    rfl
  case ckRtcReturn =>
    intro s
    simp only [exec, execCkRtcReturn]
    rfl
  case pllLockLoss_plain =>
    intro s pll clocks pll2
    simp [exec, execPllLockLoss, clocks, pll2]
  case pllLockLoss_ddr =>
    intro s ok ddrOk
    exact (if_neg (by rw [show 4 + (3 : Fin 4).val = 7 from rfl, ok]; decide)).trans
      (congrArg (fun t => Host.Outcome.next (State.finish s (State.clockLost t 7))) (if_pos (by rw [ddrOk]; rfl)))
  case pllRelock =>
    intro s pll step
    simp only [exec, execPllRelock]
    rw [if_neg (Nat.not_lt.2 step)]
  case pcieRefclkLoss =>
    intro s
    simp [exec, execPcieRefclkLoss]
  case rstNAssert_late =>
    intro s us us2 step
    simp only [exec, execRstNAssert]
    rw [if_neg (Nat.not_lt.2 us2), if_neg (Nat.not_lt.2 step)]
  case rstNAssert_early =>
    intro s us us2 step
    simp only [exec, execRstNAssert]
    rw [if_neg (Nat.not_lt.2 us2), if_pos step]
  case rstNRelease =>
    intro s
    simp [exec, execRstNRelease]
  case chipResetRequest =>
    intro s val regField_ bit
    simp [exec, execChipResetRequest, State.resetControl, regField_, bit]
  case blockResetRequest =>
    intro s val regField_ bit
    rw [BitVec.getLsbD_eq_getElem (by decide)] at bit
    simp [exec, execBlockResetRequest, State.resetControl, regField_, bit]
  case pciePerst =>
    intro s
    simp only [exec, execPciePerst]
    rfl
  case pciePerstRelease =>
    intro s
    simp [exec, execPciePerstRelease]
  case pcieEndpointStateChange =>
    intro s bme d3 on fm
    simp only [exec, execPcieEndpointStateChange]
    rfl
  case bridgeFrameError =>
    intro s htcLoaded
    simp only [exec, execBridgeFrameError]
    rw [if_pos (show s.stamps = true from htcLoaded)]

end Sys2Proof.Machine
end

/-! Start-up and profiles (R81 to R92) -/

section
namespace Sys2Proof.Machine

open Sys2Proof Sys2Proof.Claims

/-- Blank regions made fresh and the record chosen leave the two commit slots, so the newest record, as they were. -/
theorem State.newestSlot_chosen (s : State) : s.blankRegions.chooseRecord.nv.newestSlot = s.nv.newestSlot := by
  have kept : s.blankRegions.chooseRecord.nv = s.blankRegions.nv := by
    simp only [State.chooseRecord]
    split <;> rfl
  rw [kept, State.blankRegions]
  split <;> rfl

/-- Settles O4. -/
theorem startUpAndProfilesComplete : Obligations.StartUpAndProfilesComplete := by
  refine ⟨?strapSample, ?bootSelfTestDone_failed, ?bootSelfTestDone_passed, ?legalPathRestored_first, ?legalPathRestored_record,
    ?startupProfileLoad, ?endpointReady, ?dramReady_trained, ?dramReady_failed, ?profileRequest_other, ?profileRequest_same, ?profileCancel,
    ?profileSwitch⟩
  case strapSample =>
    intro s prof pri trst step rstNHigh ok
    simp only [exec, execStrapSample]
    rw [if_neg (by rw [step, rstNHigh, ok]; decide)]
  case bootSelfTestDone_failed =>
    intro s code ok step code2
    simp only [exec, execBootSelfTestDone]
    rw [if_neg (by simp [step]), if_pos (bne_iff_ne.2 code2)]
    rfl
  case bootSelfTestDone_passed =>
    intro s step dieIdD dieIdA newestSlot
    simp only [exec, execBootSelfTestDone]
    rw [if_neg (by simp [step]), if_neg (by decide), if_neg (by simp [dieIdD, dieIdA]), State.newestSlot_chosen]
    simp only [newestSlot]
    rfl
  case legalPathRestored_first =>
    intro s step phase holdupNow chipResetDue newestSlot
    simp [exec, execLegalPathRestored, step, phase, holdupNow, chipResetDue, newestSlot]
  case legalPathRestored_record =>
    intro s i x step phase holdupNow chipResetDue newestSlot image
    simp [exec, execLegalPathRestored, step, phase, holdupNow, chipResetDue, newestSlot, image]
  case startupProfileLoad =>
    intro s step
    simp [exec, execStartupProfileLoad, step]
  case endpointReady =>
    intro s w sp step perstHigh
    simp only [exec, execEndpointReady]
    rw [if_neg (by rw [decide_eq_false (Nat.not_lt.2 step), perstHigh]; decide)]
  case dramReady_trained =>
    intro s step ddrOk phase
    simp only [exec, execDramReady]
    rw [if_neg (by rw [decide_eq_false (Nat.not_lt.2 step), ddrOk, beq_false_of_ne phase]; decide), if_pos trivial]
  case dramReady_failed =>
    intro s step ddrOk phase
    have trains : (decide (s.boot.step < 11) || s.boot.ddrOk || s.boot.phase == 0xF) = false := by
      rw [decide_eq_false (Nat.not_lt.2 step), ddrOk, beq_false_of_ne phase]
      rfl
    simp only [exec, execDramReady]
    rw [trains]
    rfl
  case profileRequest_other =>
    intro s i glb
    simp only [exec, execProfileRequest]
    rw [if_neg]
    rw [State.note_glb, Bool.and_eq_true, beq_iff_eq]
    rintro ⟨valid, same⟩
    rcases glb with invalid | other
    · exact Bool.false_ne_true (invalid.symm.trans valid)
    · exact other same
  case profileRequest_same =>
    intro s profActiveValid
    simp only [exec, execProfileRequest]
    rw [if_pos (by simp [profActiveValid, State.note_glb])]
  case profileCancel =>
    intro s
    simp [exec, execProfileCancel]
  case profileSwitch =>
    intro s cut profPendingValid step quiescent frozen
    simp only [exec, execProfileSwitch]
    rw [if_neg (by rw [profPendingValid, decide_eq_false (Nat.not_lt.2 step), quiescent, frozen]; decide)]

end Sys2Proof.Machine
end

/-! Rings, queues and vectors (R31, R34, R102 to R125) -/

section
namespace Sys2Proof.Machine

open Sys2Proof Sys2Proof.Claims

/-- A read of a pair's low word changes the data read and the pair's latch (R34). -/
theorem State.readAt_pair {s : State} {off hi v : Nat} {be : BitVec 4} (notHtc : off ≠ 0x48) (notSnap : off ≠ 0x5100)
    (notLviol : unitAt off 0x3118 0x20 32 = none) (pair : s.pairValue off = some (hi, v)) :
    s.readAt off be = { s with glb := { s.glb with
      latched := latchPut s.glb.latched hi (BitVec.ofNat 32 (v / 2 ^ 32)), readData := enabled be (s.readReg off) } } := by
  simp only [State.readAt, beq_false_of_ne notSnap, beq_false_of_ne notHtc, Bool.false_eq_true, if_false, notLviol, pair, State.answerRead]

/-- A read of no pair, and of none of HTC_LO, SNAP_PCT and LVIOL, changes the data read alone. -/
theorem State.readAt_plain {s : State} {off : Nat} {be : BitVec 4} (notHtc : off ≠ 0x48) (notSnap : off ≠ 0x5100)
    (notLviol : unitAt off 0x3118 0x20 32 = none) (single : s.pairValue off = none) : s.readAt off be = s.answerRead be (s.readReg off) := by
  simp only [State.readAt, beq_false_of_ne notSnap, beq_false_of_ne notHtc, Bool.false_eq_true, if_false, notLviol, single]

/-- Settles O5. -/
theorem hostInterfaceComplete : Obligations.HostInterfaceComplete := by
  refine ⟨?eventRelease, ?ringEnable, ?ringDisable, ?hifCtlRun, ?ringDoorbell_produced, ?ringDoorbell_consumed, ?ringDoorbell_beyondSize,
    ?ringDoorbell_beyondFill, ?commandNop, ?undefinedOpcode, ?chainErr, ?ringFetchError, ?spillDrain, ?vectorModerationTimeout,
    ?commandTimeLimitExpiry, ?queueWordWrite, ?queueWordRead, ?queueDropRemainder, ?registerWrite, ?registerWrite_second, ?registerWrite_errors,
    ?registerWrite_third, ?latchedPairRead, ?latchedPairRead_pair, ?latchedPairRead_plain, ?vlkLviolRead⟩
  case eventRelease =>
    intro s tick tick2
    exact if_neg (Nat.not_lt.2 tick2)
  case ringEnable =>
    intro s ring en
    simp only [exec, execRingEnable, State.ringEnable]
    rw [if_neg (by rw [en]; exact Bool.false_ne_true)]
    have enabled : ∀ r : Ring, r.en = false → r.enable = _ := fun r off => if_neg (by rw [off]; exact Bool.false_ne_true)
    simp only [State.setRing, enabled _ en]
  case ringDisable =>
    intro s ring
    simp [exec, execRingDisable]
    rfl
  case hifCtlRun =>
    intro s run
    simp [exec, execHifCtlRun]
  case ringDoorbell_produced =>
    intro s ring x ring2 hif
    simp only [exec, execRingDoorbell, State.doorbell]
    rw [if_pos ring2, if_neg (Nat.not_lt.2 hif)]
  case ringDoorbell_consumed =>
    intro s ring x ring2 hif
    simp only [exec, execRingDoorbell, State.doorbell]
    rw [if_neg (by simp [ring2]), if_neg (Nat.not_lt.2 hif)]
    simp only [State.setRing]
  case ringDoorbell_beyondSize =>
    intro s ring x ring2 size
    simp only [exec, execRingDoorbell, State.doorbell]
    rw [if_pos ring2, if_pos size]
  case ringDoorbell_beyondFill =>
    intro s ring x ring2 hif
    simp only [exec, execRingDoorbell, State.doorbell]
    rw [if_neg (by simp [ring2]), if_pos hif]
  case commandNop =>
    intro s d ready plain scope len
    exact congrArg Host.Outcome.next (State.acceptSingle_taken ready plain scope len (by decide) rfl)
  case undefinedOpcode =>
    intro s ring d ring2 ringOpcodes ring3
    obtain ⟨en, ok, some_, few, whole, free, runs⟩ := ring3
    simp only [exec, execUndefinedOpcode]
    rw [ring2, ringOpcodes, runs, State.arrive_now en ok some_ few whole free]
    rfl
  case chainErr =>
    intro s ring d rest ring2 err ring3 fill waiting boot
    have goes : s.chainWaits ring = false := by
      rw [State.chainWaits, ring3]
      rcases boot with up | maintenance
      · simp [up]
      · simp [maintenance]
    have en : s.hif.rings[ring].en = true := by
      simp only [State.ringRun, Bool.and_eq_true] at ring3
      exact ring3.1.2
    simp only [exec, execChainErr]
    rw [if_neg (by simp [ring2]), goes, State.arrive_now en err (by decide) (Nat.le_refl 16) fill waiting]
  case ringFetchError =>
    intro s ring code ring2 ring3
    simp [exec, execRingFetchError, ring2, ring3]
  case spillDrain =>
    intro s ring ring2 ring3 dropped
    simp only [exec, execSpillDrain, ring2, ring3, dropped]
    rfl
  case vectorModerationTimeout =>
    intro s vec waiting time
    have due : s.vectorDue vec = true := by
      rw [State.vectorDue, Bool.and_eq_true, bne_iff_ne, decide_eq_true_eq]
      exact ⟨waiting, time⟩
    simp only [exec, execVectorModerationTimeout]
    rw [if_neg (by simp [due])]
  case commandTimeLimitExpiry =>
    intro s op unit op2
    simp [exec, execCommandTimeLimitExpiry, op2]
  case queueWordWrite =>
    intro s q w e
    simp [exec, execQueueWordWrite]
  case queueWordRead =>
    intro s q
    simp [exec, execQueueWordRead]
  case queueDropRemainder =>
    intro s q
    simp [exec, execQueueDropRemainder]
  case registerWrite =>
    intro s be val off x be2
    simp_all [exec, execRegisterWrite]
  case registerWrite_second =>
    intro s val off off_ x2000 phase
    simp_all [exec, execRegisterWrite]
  case registerWrite_errors =>
    intro s val off r off_ boot off_2 mgt
    exact execRegisterWrite_of_errReg val off_ boot off_2 mgt
  case registerWrite_third =>
    intro s val
    simp [exec, execRegisterWrite]
    rfl
  case latchedPairRead =>
    intro s be
    simp [exec, execLatchedPairRead]
    rfl
  case latchedPairRead_pair =>
    intro s off be hi v off_ off_2 off_3 x20 off_4
    have notHtc : off.toNat ≠ 0x48 := fun e => off_2 (BitVec.eq_of_toNat_eq e)
    have notSnap : off.toNat ≠ 0x5100 := fun e => off_3 (BitVec.eq_of_toNat_eq e)
    simp only [exec, execLatchedPairRead]
    rw [if_neg (by simp [off_]), State.readAt_pair notHtc notSnap x20 off_4]
  case latchedPairRead_plain =>
    intro s off be off_ off_2 off_3 x20 off_4
    have notHtc : off.toNat ≠ 0x48 := fun e => off_2 (BitVec.eq_of_toNat_eq e)
    have notSnap : off.toNat ≠ 0x5100 := fun e => off_3 (BitVec.eq_of_toNat_eq e)
    simp only [exec, execLatchedPairRead]
    rw [if_neg (by simp [off_]), State.readAt_plain notHtc notSnap x20 off_4]
    rfl
  case vlkLviolRead =>
    intro s lane be
    simp [exec, execVlkLviolRead]
    rfl

end Sys2Proof.Machine
end

/-! Events of the outlet lanes (Table 5-6, R130 to R152) -/

section
namespace Sys2Proof.Machine

open Sys2Proof Sys2Proof.Claims

/-- The start of a period on one lane, which a fold over the lanes repeats (R130). -/
def State.startLane (p : Nat) (t : State) (n : Fin 32) : State :=
  if t.lanes[n].takesNext p then (t.setLane n fun l => l.startPeriod p).memberDone 0x11 n.val else t

theorem State.startLane_of_none {p : Nat} {t : State} {n : Fin 32} (none_ : t.lanes[n].next = none) : t.startLane p n = t :=
  if_neg (by simp [-Fin.getElem_fin, Lane.takesNext, none_])

theorem State.foldl_startLane_of_none {p : Nat} {t : State} {ns : List (Fin 32)} (none_ : ∀ m ∈ ns, t.lanes[m].next = none) :
    ns.foldl (State.startLane p) t = t := by
  induction ns with
  | nil => rfl
  | cons m ns ih =>
    rw [List.foldl_cons, State.startLane_of_none (none_ m (by simp))]
    exact ih fun k mem => none_ k (List.mem_cons_of_mem _ mem)

theorem State.startLane_of_next {t : State} {n : Fin 32} {f : PilotForm} {p : Nat} (next : t.lanes[n].next = some f) (due : t.lanes[n].nextFrom < p) :
    t.startLane p n = (t.setLane n fun l => { l.takeForm f p with next := none, drives := [] }).memberDone 0x11 n.val := by
  refine (if_pos (by simp [-Fin.getElem_fin, Lane.takesNext, next, due])).trans (congrArg (fun u => State.memberDone u 0x11 n.val) ?_)
  exact State.setLane_congr (by simp only [Lane.startPeriod, next, if_pos due])

/-- At the start of a period in which one lane alone has a form to take, that lane takes it (R130). -/
theorem State.forLanes_startLane {s : State} {n : Fin 32} {f : PilotForm} {p : Nat} (next : s.lanes[n].next = some f) (due : s.lanes[n].nextFrom < p)
    (only : ∀ m : Fin 32, m ≠ n → s.lanes[m].next = none) :
    s.forLanes (State.startLane p) = (s.setLane n fun l => { l.takeForm f p with next := none, drives := [] }).memberDone 0x11 n.val := by
  obtain ⟨before, after, split⟩ := List.append_of_mem (List.mem_finRange n)
  have once : (before ++ n :: after).Nodup := split ▸ List.nodup_finRange 32
  have notBefore : ∀ m ∈ before, m ≠ n := fun m mem e => (List.nodup_append.1 once).2.2 m mem n (by simp) e
  rw [State.forLanes, allLanes, split, List.foldl_append, List.foldl_cons,
    State.foldl_startLane_of_none fun m mem => only m (notBefore m mem), State.startLane_of_next next due]
  refine State.foldl_startLane_of_none fun m mem => ?_
  rw [State.memberDone_lanes]
  by_cases same : m = n
  · rw [same, State.setLane_lane_same]
  · rw [State.setLane_lane_other s _ same]
    exact only m same

/-- Settles O6. -/
theorem laneEventsComplete : Obligations.LaneEventsComplete := by
  refine ⟨?pwmPeriodStart_quiet, ?pwmPeriodStart_takes, ?pilotStateChange, ?proximityRatingChange, ?contactorFeedbackChange, ?tCloseExpiry,
    ?tFbExpiry_closing, ?tFbExpiry_opening, ?tStopExpiry, ?tFaultHoldExpiry, ?tModExpiry, ?setpointSend, ?pmcanStatusFrame, ?pmcanBusOff,
    ?pmcanBusOffRecovery⟩
  case pwmPeriodStart_quiet =>
    intro s sense loads now
    simp [exec, execPwmPeriodStart, now]
  case pwmPeriodStart_takes =>
    intro s n f now next nextFrom fin
    have loads : s.takeLoads [] = s := rfl
    simp only [exec, execPwmPeriodStart, List.foldl_nil, loads]
    rw [if_neg (by simp [now])]
    exact congrArg (fun t => Host.Outcome.next (State.finish s t)) (State.forLanes_startLane next nextFrom fin)
  case pilotStateChange =>
    intro s lane w now lanes runCount lanes2
    simp only [exec, execPilotStateChange, State.setLane_lane_same]
    rw [if_neg (by simp [now]), if_neg]
    · refine congrArg (fun t => Host.Outcome.next (State.finish s (((State.laneResult t _ _ _ _).pilotLink _ _ _).pilotEvent _ _))) ?_
      exact State.setLane_congr (by simp)
    · simp [-Fin.getElem_fin, lanes, lanes2, Nat.not_lt.2 runCount]
  case proximityRatingChange =>
    intro s lane r lane2 now ppCount lanes lane3
    have acts : ¬ ((s.lanes[lane].takePp r s.now).ppCount < 3 || (s.lanes[lane].takePp r s.now).rating == (s.lanes[lane].takePp r s.now).ppClass) = true := by
      simp [-Fin.getElem_fin, lanes, ppCount]
    simp only [exec, execProximityRatingChange, State.setLane_lane_same]
    rw [if_neg (by simp [lane2, now]), if_neg acts, lane3, Bool.false_and, if_neg Bool.false_ne_true]
    refine congrArg (fun t => Host.Outcome.next (State.finish s (State.rest 8 ((State.laneResult t lane 2 (t.ratingShown lane) (min r
        65535)).drivePilot lane) lane))) ?_
    exact State.setLane_congr (by simp only [State.note_lanes, State.setLane_lane_same])
  case contactorFeedbackChange =>
    intro s lane mirror high if_
    simp_all [exec, execContactorFeedbackChange]
  case tCloseExpiry =>
    intro s lane lane2 st
    simp only [exec, execTCloseExpiry]
    rw [if_neg (by simp [lane2]), if_pos (by simp [-Fin.getElem_fin, st])]
  case tFbExpiry_closing =>
    intro s lane lane2 st
    simp only [exec, execTFbExpiry, State.expire_lanes, st]
    rw [if_neg (by simp [lane2])]
  case tFbExpiry_opening =>
    intro s lane lane2 st target
    simp only [exec, execTFbExpiry, State.expire_lanes, st, target]
    rw [if_neg (by simp [lane2])]
    rfl
  case tStopExpiry =>
    intro s lane lane2 st
    simp only [exec, execTStopExpiry]
    rw [if_neg (by simp [lane2]), if_pos (by simp [-Fin.getElem_fin, st])]
  case tFaultHoldExpiry =>
    intro s lane lane2 st lane3 causes xFFFFFFF8
    have recovers : (s.lanes[lane].st == .fault && s.lanePf lane 0 11 1 == 1 && s.lanes[lane].causes != 0 && s.lanes[lane].causes &&& 0xFFFFFFF8 ==
        0) = true := by
      rw [st, lane3, bne_iff_ne.2 causes, xFFFFFFF8]
      decide
    simp only [exec, execTFaultHoldExpiry, State.expire_lanes, State.expire_lanePf]
    rw [if_neg (by simp [lane2]), if_pos recovers]
  case tModExpiry =>
    intro s lane lane2
    simp [exec, execTModExpiry, lane2]
  case setpointSend =>
    intro s lane e now tec
    simp only [exec, execSetpointSend]
    rw [if_neg (by rw [now, bne_self_eq_false, decide_eq_false (Nat.not_le.2 tec)]; decide)]
  case pmcanStatusFrame =>
    intro s ctl a bs e n pf estate bs2 ctl2 bs3 received
    have known : ¬ (s.pf (0x2060 + 0x400 * ctl.val) 0 1 == 0 || s.pmcan[ctl].estate == 2 || bs.length != 16) = true := by
      rw [beq_false_of_ne pf, beq_false_of_ne estate, bs2]
      decide
    simp only [exec, execPmcanStatusFrame, ctl2]
    rw [if_neg known, if_pos (beq_iff_eq.2 received), beq_false_of_ne bs3, State.finish_congr (s.received_watched ctl e)]
    rfl
  case pmcanBusOff =>
    intro s ctl e pf estate toNat
    simp only [exec, execPmcanBusOff]
    exact if_neg (by rw [beq_false_of_ne pf, beq_false_of_ne estate, decide_eq_false (Nat.not_lt.2 toNat)]; decide)
  case pmcanBusOffRecovery =>
    intro s ctl estate
    simp only [exec, execPmcanBusOffRecovery, estate]
    rfl

end Sys2Proof.Machine
end

/-! Commands of the outlet lanes (R153) -/

section
namespace Sys2Proof.Machine

open Sys2Proof Sys2Proof.Claims

/-- Settles O7. -/
theorem laneCommandsComplete : Obligations.LaneCommandsComplete := by
  refine ⟨?laneAdmit_single, ?laneAdmit_gang, ?laneLimit_single, ?laneLimit_singleWaits, ?laneLimit_gang, ?laneLimit_batch, ?laneStop_single,
    ?laneStop_batch, ?laneService_out, ?laneService_back, ?laneService_backGang, ?laneClear_single, ?laneClear_batch⟩
  case laneAdmit_single =>
    intro s d n ready plain scope len flag unit lanes
    have usable : (taken s 0 d).laneUsable d.unit.toNat = true := by rw [unit, State.laneUsable_fin]; exact bne_iff_ne.2 lanes
    refine congrArg (fun t => Host.Outcome.next (State.finish s t)) ((State.accept_taken ready (refusal_eq_none_of_single plain scope
      (by rw [scope]; decide) (toNat_len_of_zero len) (beq_iff_eq.2 len) (decide_eq_true flag))).trans ?_)
    rw [State.laneCommand_single scope usable, State.onLane_fin unit]
  case laneAdmit_gang =>
    intro s d ready plain scope unit len flag gang
    exact congrArg (fun t => Host.Outcome.next (State.finish s t)) ((State.accept_taken ready (refusal_eq_none_of_gang plain unit
      (by rw [scope]; decide) (toNat_len_of_zero len) (beq_iff_eq.2 len) (decide_eq_true flag))).trans (State.laneCommand_gang scope gang))
  case laneLimit_single =>
    intro s d n ready plain scope len unit limitOk setLimit
    refine congrArg (fun t => Host.Outcome.next (State.finish s t)) ((State.accept_taken ready (refusal_eq_none_of_single plain scope
      (by rw [scope]; decide) (toNat_len_of_zero len) (by rw [scope, len]; rfl) rfl)).trans ?_)
    simp only [scope, unit, Fin.is_lt, dif_pos, limitOk, if_true, Fin.eta, setLimit]
    rfl
  case laneLimit_singleWaits =>
    intro s d n ready plain scope len unit limitOk setLimit
    refine congrArg (fun t => Host.Outcome.next (State.finish s t)) ((State.accept_taken ready (refusal_eq_none_of_single plain scope
      (by rw [scope]; decide) (toNat_len_of_zero len) (by rw [scope, len]; rfl) rfl)).trans ?_)
    simp only [scope, unit, Fin.is_lt, dif_pos, limitOk, if_true, Fin.eta, setLimit]
    rfl
  case laneLimit_gang =>
    intro s d ready plain scope unit len gang
    refine congrArg (fun t => Host.Outcome.next (State.finish s t)) ((State.accept_taken ready (refusal_eq_none_of_gang plain unit
      (by rw [scope]; decide) (toNat_len_of_zero len) (by rw [scope, len]; rfl) rfl)).trans ?_)
    simp only [scope, gang]
    rfl
  case laneLimit_batch =>
    intro s d ready plain scope unit len
    refine congrArg (fun t => Host.Outcome.next (State.finish s t)) ((State.accept_taken ready (refusal_eq_none_of_batch plain scope
      (by rw [scope]; decide) len (by rw [scope]; exact batchLen_of unit len) rfl)).trans ?_)
    simp only [scope]
    rfl
  case laneStop_single =>
    intro s d n ready plain scope len param1 unit stopOk
    refine congrArg (fun t => Host.Outcome.next (State.finish s t)) ((State.accept_taken ready (refusal_eq_none_of_single plain scope
      (by rw [scope]; decide) (toNat_len_of_zero len) (by rw [scope, len]; rfl) (by rw [param1]; simp))).trans ?_)
    rw [if_pos (beq_iff_eq.2 scope), if_pos (by rw [unit]; exact stopOk), State.onLane_fin unit, unit]
  case laneStop_batch =>
    intro s d ready plain scope unit len
    refine congrArg (fun t => Host.Outcome.next (State.finish s t)) ((State.accept_taken ready (refusal_eq_none_of_batch plain scope
      (by rw [scope]; decide) len (by rw [scope]; exact batchLen_of unit len) (by rw [scope]; rfl))).trans ?_)
    rw [if_neg (by rw [scope]; decide)]
  case laneService_out =>
    intro s d n ready plain scope len unit flag serviceOk lanes
    have out : (dbyte d 24 == 1) = true := beq_iff_eq.2 flag
    refine congrArg (fun t => Host.Outcome.next (State.finish s t)) ((State.accept_taken ready (refusal_eq_none_of_single plain scope
      (by rw [scope]; decide) (toNat_len_of_zero len) (beq_iff_eq.2 len) (by rw [flag]; decide))).trans ?_)
    rw [State.laneCommand_single scope (by rw [out, unit]; exact serviceOk), State.onLane_fin unit, if_pos out, if_neg fun e => lanes (beq_iff_eq.1 e)]
  case laneService_back =>
    intro s d n ready plain scope len unit flag lanes
    have back : (dbyte d 24 == 1) = false := by rw [flag]; rfl
    have parked : (taken s 0 d).serviceOk false n.val = true := by
      refine (dif_pos n.isLt).trans ?_
      change ((taken s 0 d).lanes[n].st != .disabled && (taken s 0 d).lanes[n].st == .unavailable) = true
      rw [lanes]
      rfl
    refine congrArg (fun t => Host.Outcome.next (State.finish s t)) ((State.accept_taken ready (refusal_eq_none_of_single plain scope
      (by rw [scope]; decide) (toNat_len_of_zero len) (beq_iff_eq.2 len) (by rw [flag]; decide))).trans ?_)
    simp only [back, Bool.false_eq_true, if_false]
    rw [State.laneCommand_single scope (by rw [unit]; exact parked), State.onLane_fin unit]
  case laneService_backGang =>
    intro s d ready plain scope unit len flag gang
    have back : (dbyte d 24 == 1) = false := by rw [flag]; rfl
    refine congrArg (fun t => Host.Outcome.next (State.finish s t)) ((State.accept_taken ready (refusal_eq_none_of_gang plain unit
      (by rw [scope]; decide) (toNat_len_of_zero len) (beq_iff_eq.2 len) (by rw [flag]; decide))).trans ?_)
    simp only [back, Bool.false_eq_true, if_false]
    exact State.laneCommand_gang scope gang
  case laneClear_single =>
    intro s d n ready plain scope len param1 unit lanes
    refine congrArg (fun t => Host.Outcome.next (State.finish s t)) ((State.accept_taken ready (refusal_eq_none_of_single plain scope
      (by rw [scope]; decide) (toNat_len_of_zero len) (by rw [scope, len]; rfl) (by rw [param1]; simp))).trans ?_)
    rw [if_pos (beq_iff_eq.2 scope), if_pos (by rw [unit, State.clearOk_fin, lanes]; rfl), State.onLane_fin unit]
  case laneClear_batch =>
    intro s d ready plain scope unit len
    refine congrArg (fun t => Host.Outcome.next (State.finish s t)) ((State.accept_taken ready (refusal_eq_none_of_batch plain scope
      (by rw [scope]; decide) len (by rw [scope]; exact batchLen_of unit len) (by rw [scope]; rfl))).trans ?_)
    rw [if_neg (by rw [scope]; decide)]

end Sys2Proof.Machine
end

/-! The high-level dialogue of a lane (R178 to R186) -/

section
namespace Sys2Proof.Machine

open Sys2Proof Sys2Proof.Claims

/-- A message that is heard, allowed in its phase and of its session acts on the state once it has been heard (R169 to R174). -/
theorem State.receive_heard {s : State} {n : Fin 32} {m : V2g} {kind : Nat} {allowed needSession : Bool} {act : State → State}
    (hears : Claims.Heard s n m) (ok : allowed = true) (session : needSession = false ∨ m.session = s.link.lanes[n].session) :
    s.receive n m kind allowed needSession act = act (heard s n kind) := by
  obtain ⟨linked, codec, header, short, schema⟩ := hears
  have same : (needSession && m.session != s.link.lanes[n].session) = false := by
    rcases session with unneeded | same
    · rw [unneeded, Bool.false_and]
    · rw [same, bne_self_eq_false, Bool.and_false]
  simp only [State.receive]
  rw [linked, codec, header, schema, ok, same, decide_eq_false (Nat.not_lt.2 short)]
  rfl

theorem heard_link (s : State) (n : Fin 32) (kind : Nat) : (heard s n kind).link = s.link := by simp [heard]

theorem heard_lanes (s : State) (n : Fin 32) (kind : Nat) : (heard s n kind).lanes = s.lanes := by simp [heard]

theorem heard_cfg (s : State) (n : Fin 32) (kind : Nat) : (heard s n kind).cfg = s.cfg := by simp [heard]

theorem heard_now (s : State) (n : Fin 32) (kind : Nat) : (heard s n kind).now = s.now := by simp [heard, State.now]

theorem heard_isDc (s : State) (n m : Fin 32) (kind : Nat) : (heard s n kind).isDc m = s.isDc m := State.isDc_of_cfg (heard_cfg ..) m

/-- Settles O9. -/
theorem dialogueComplete : Obligations.DialogueComplete := by
  refine ⟨?supportedAppProtocolReq, ?sessionSetupReq, ?serviceDiscoveryReq, ?authorizationReq_done, ?authorizationReq_external,
    ?chargeParameterReq_ac, ?chargeParameterReq_dc, ?cableCheckReq_begins, ?cableCheckReq_passed, ?prechargeReq, ?powerDeliveryReq_start,
    ?powerDeliveryReq_stop, ?powerDeliveryReq_renegotiate, ?currentDemandReq_dc, ?currentDemandReq_ac, ?sessionStopReq, ?certificateReq,
    ?acOverdrawViolation, ?tSeqExpiry, ?tCpstateExpiry, ?tAuthExpiry, ?tCableExpiry, ?tHostExpiry⟩
  case supportedAppProtocolReq =>
    intro s lane m es p hears phase chooseProto
    refine congrArg (fun t => Host.Outcome.next (State.finish s t)) ((State.receive_heard hears (decide_eq_true phase) (.inl rfl)).trans ?_)
    rw [chooseProto]
  case sessionSetupReq =>
    intro s lane m hears phase proto
    have allowed : ((s.link.lanes[lane].phase == 2 || s.link.lanes[lane].phase == 12) && s.link.lanes[lane].proto != 0) = true := by
      simp [-Fin.getElem_fin, phase, proto]
    exact congrArg (fun t => Host.Outcome.next (State.finish s t)) (State.receive_heard hears allowed (.inl rfl))
  case serviceDiscoveryReq =>
    intro s lane m bpt dy hears session setUp phase
    have allowed : (s.link.lanes[lane].setUp && (s.link.lanes[lane].phase == 2 || s.link.lanes[lane].phase == 3)) = true := by
      simp [-Fin.getElem_fin, phase, setUp]
    exact congrArg (fun t => Host.Outcome.next (State.finish s t)) (State.receive_heard hears allowed (.inr session))
  case authorizationReq_done =>
    intro s lane m pnc em ch sg hears session phase authDone
    have allowed : (s.link.lanes[lane].phase == 3 || s.link.lanes[lane].phase == 4) = true := by simp [-Fin.getElem_fin, phase]
    refine congrArg (fun t => Host.Outcome.next (State.finish s t)) ((State.receive_heard hears allowed (.inr session)).trans ?_)
    exact if_pos authDone
  case authorizationReq_external =>
    intro s lane m em ch sg hears session phase authDone auth eimOk
    have allowed : (s.link.lanes[lane].phase == 3 || s.link.lanes[lane].phase == 4) = true := by simp [-Fin.getElem_fin, phase]
    refine congrArg (fun t => Host.Outcome.next (State.finish s t)) ((State.receive_heard hears allowed (.inr session)).trans ?_)
    simp only [authDone, auth, Bool.false_and, eimOk]
    rfl
  case chargeParameterReq_ac =>
    intro s lane m vm im ir hears session phase isDc
    have allowed : (s.link.lanes[lane].phase == 4 && s.link.lanes[lane].authDone || s.link.lanes[lane].phase == 5) = true := by
      rcases phase with there | ⟨before, done⟩
      · simp [-Fin.getElem_fin, there]
      · simp [-Fin.getElem_fin, before, done]
    have ac : (heard s lane kParam).isDc lane = false := (heard_isDc ..).trans isDc
    refine congrArg (fun t => Host.Outcome.next (State.finish s t)) ((State.receive_heard hears allowed (.inr session)).trans ?_)
    simp only [State.clampOnce, if_true, ac]
    rfl
  case chargeParameterReq_dc =>
    intro s lane m vm im ir hears session phase isDc
    have allowed : (s.link.lanes[lane].phase == 4 && s.link.lanes[lane].authDone || s.link.lanes[lane].phase == 5) = true := by
      simp [-Fin.getElem_fin, phase]
    have dc : (heard s lane kParam).isDc lane = true := (heard_isDc ..).trans isDc
    refine congrArg (fun t => Host.Outcome.next (State.finish s t)) ((State.receive_heard hears allowed (.inr session)).trans ?_)
    simp only [State.clampOnce, if_true, dc]
    rfl
  case cableCheckReq_begins =>
    intro s lane m hears session isDc phase st
    have allowed : (s.isDc lane && (s.link.lanes[lane].phase == 5 || s.link.lanes[lane].phase == 6)) = true := by
      simp [-Fin.getElem_fin, phase, isDc]
    refine congrArg (fun t => Host.Outcome.next (State.finish s t)) ((State.receive_heard hears allowed (.inr session)).trans ?_)
    rw [if_pos (beq_iff_eq.2 phase), if_neg (by rw [heard_lanes, st]; decide), heard_now]
    exact congrArg (fun v => State.reply (State.arm _ _ _ v) lane kCable rOngoing m.raw) (State.vlkTimer_of_cfg (heard_cfg ..) 4 16)
  case cableCheckReq_passed =>
    intro s lane m hears session isDc phase cableClass
    have allowed : (s.isDc lane && (s.link.lanes[lane].phase == 5 || s.link.lanes[lane].phase == 6)) = true := by
      simp [-Fin.getElem_fin, phase, isDc]
    refine congrArg (fun t => Host.Outcome.next (State.finish s t)) ((State.receive_heard hears allowed (.inr session)).trans ?_)
    simp only [phase, cableClass]
    rfl
  case prechargeReq =>
    intro s lane m v i hears session isDc phase
    have allowed : (s.isDc lane && (s.link.lanes[lane].phase == 6 && (s.link.lanes[lane].cableClass == 1 || s.link.lanes[lane].cableClass == 2) ||
        s.link.lanes[lane].phase == 7)) = true := by
      rcases phase with there | ⟨before, done⟩
      · simp [-Fin.getElem_fin, there, isDc]
      · simp [-Fin.getElem_fin, before, done, isDc]
    exact congrArg (fun t => Host.Outcome.next (State.finish s t)) (State.receive_heard hears allowed (.inr session))
  case powerDeliveryReq_start =>
    intro s lane m tu hears session phase proto
    have inRange : (s.link.lanes[lane].proto != 2 || decide (1 ≤ tu ∧ tu ≤ s.link.lanes[lane].tuples)) = true := by
      rcases proto with other | offered
      · simp [-Fin.getElem_fin, other]
      · simp [-Fin.getElem_fin, offered]
    have allowed : ((if s.isDc lane && !s.link.lanes[lane].reneg then s.link.lanes[lane].phase == 7 else s.link.lanes[lane].phase == 5) ||
        s.link.lanes[lane].phase == 8) = true := by
      rcases phase with there | before
      · simp [-Fin.getElem_fin, there]
      · simp only [Bool.and_eq_true, Bool.not_eq_true', Bool.or_eq_true]
        split at before
        · exact .inl ((if_pos ‹_›).trans (beq_iff_eq.2 before))
        · exact .inl ((if_neg ‹_›).trans (beq_iff_eq.2 before))
    refine congrArg (fun t => Host.Outcome.next (State.finish s t)) ((State.receive_heard hears allowed (.inr session)).trans ?_)
    simp only [inRange, State.clampOnce, if_true]
    rfl
  case powerDeliveryReq_stop =>
    intro s lane m tu hears session phase phase2
    refine congrArg (fun t => Host.Outcome.next (State.finish s t)) (State.receive_heard hears ?_ (.inr session))
    exact decide_eq_true ⟨phase, phase2⟩
  case powerDeliveryReq_renegotiate =>
    intro s lane m tu hears session proto phase
    refine congrArg (fun t => Host.Outcome.next (State.finish s t)) (State.receive_heard hears ?_ (.inr session))
    change (s.link.lanes[lane].proto == 2 && (s.link.lanes[lane].phase == 8 || s.link.lanes[lane].phase == 9)) = true
    simp [-Fin.getElem_fin, phase, proto]
  case currentDemandReq_dc =>
    intro s lane m v i r p hears session isDc phase
    have allowed : (s.link.lanes[lane].phase == 8 || s.link.lanes[lane].phase == 9) = true := by simp [-Fin.getElem_fin, phase]
    have dc : (heard s lane kDemand).isDc lane = true := (heard_isDc ..).trans isDc
    refine congrArg (fun t => Host.Outcome.next (State.finish s t)) ((State.receive_heard hears allowed (.inr session)).trans ?_)
    simp only [State.clampOnce, if_true, dc]
    rfl
  case currentDemandReq_ac =>
    intro s lane m v i r p hears session isDc phase
    have allowed : (s.link.lanes[lane].phase == 8 || s.link.lanes[lane].phase == 9) = true := by simp [-Fin.getElem_fin, phase]
    have ac : (heard s lane kDemand).isDc lane = false := (heard_isDc ..).trans isDc
    refine congrArg (fun t => Host.Outcome.next (State.finish s t)) ((State.receive_heard hears allowed (.inr session)).trans ?_)
    simp only [State.clampOnce, if_true, ac]
    rfl
  case sessionStopReq =>
    intro s lane m pause hears session setUp phase
    have allowed : (s.link.lanes[lane].setUp && s.link.lanes[lane].phase != 12) = true := by simp [-Fin.getElem_fin, phase, setUp]
    exact congrArg (fun t => Host.Outcome.next (State.finish s t)) (State.receive_heard hears allowed (.inr session))
  case certificateReq =>
    intro s lane m up body hears session proto phase relay
    have allowed : (decide (s.link.lanes[lane].proto ≥ 2) && (s.link.lanes[lane].phase == 3 || s.link.lanes[lane].phase == 4) &&
        s.link.lanes[lane].relay.isNone) = true := by
      simp [-Fin.getElem_fin, proto, phase, relay]
    exact congrArg (fun t => Host.Outcome.next (State.finish s t)) (State.receive_heard hears allowed (.inr session))
  case acOverdrawViolation =>
    intro s lane x overFrom isDc ticksPerMs
    simp only [exec, execAcOverdrawViolation, overFrom]
    rw [if_neg (by rw [isDc, decide_eq_false (Nat.not_lt.2 ticksPerMs)]; decide)]
  case tSeqExpiry =>
    intro s lane tSeq
    exact congrArg Host.Outcome.next (if_neg (by simp [tSeq]))
  case tCpstateExpiry =>
    intro s lane tCpstate
    exact congrArg Host.Outcome.next (if_neg (by simp [tCpstate]))
  case tAuthExpiry =>
    intro s lane tAuth
    exact congrArg Host.Outcome.next (if_neg (by simp [tAuth]))
  case tCableExpiry =>
    intro s lane tCable
    exact congrArg Host.Outcome.next (if_neg (by simp [tCable]))
  case tHostExpiry =>
    intro s lane tHost
    exact if_neg (by simp [tHost])

end Sys2Proof.Machine
end

/-! Survey, identity, trust store and relay commands (R175, R183, R184, R188) -/

section
namespace Sys2Proof.Machine

open Sys2Proof Sys2Proof.Claims

/-- Settles O10. -/
theorem linkCommandsComplete : Obligations.LinkCommandsComplete := by
  refine ⟨?vlkXtalkSurvey, ?xtalkSurveyComplete, ?vlkEimId, ?vlkTrustLoad, ?vlkRelayAnswer⟩
  case vlkXtalkSurvey =>
    intro s d ready plain scope len unit survey surveyDisturbed
    refine congrArg Host.Outcome.next ((State.acceptSingle_taken ready plain scope len (by decide) (beq_iff_eq.2 unit)).trans ?_)
    rw [if_neg (by simp [survey, surveyDisturbed]), taken_link, taken_now]
  case xtalkSurveyComplete =>
    intro s table v survey enabledLanes
    simp only [exec, execXtalkSurveyComplete, survey]
    rw [if_pos enabledLanes]
    rfl
  case vlkEimId =>
    intro s d n ready plain scope len len2 len3 unitLane eimReady
    refine congrArg Host.Outcome.next ((State.accept_taken ready (refusal_eq_none_of_single plain scope (beq_iff_eq.2 scope) len
      (decide_eq_true ⟨len2, len3⟩) rfl)).trans ?_)
    simp only [unitLane]
    rw [if_pos eimReady]
  case vlkTrustLoad =>
    intro s d es ready plain scope len unit payload
    refine congrArg Host.Outcome.next ((State.accept_taken ready (refusal_eq_none_of_single plain scope (beq_iff_eq.2 scope) len
      rfl (beq_iff_eq.2 unit))).trans ?_)
    simp only [payload, taken_link, taken_now]
  case vlkRelayAnswer =>
    intro s d n k ready plain scope len unitLane relay
    refine congrArg Host.Outcome.next ((State.accept_taken ready (refusal_eq_none_of_single plain scope (beq_iff_eq.2 scope) len rfl rfl)).trans ?_)
    have known : (match (taken s 0 d).link.lanes[n].relay with | some (r, _) => r == dparam d 24 4 | none => false) = true := by
      rw [taken_link, relay]
      exact beq_self_eq_true _
    simp only [unitLane]
    refine (if_pos known).trans ?_
    exact congrArg (fun v => State.answer (State.arm _ _ _ v) 0 0x33 d stOk) (State.vlkTimer_of_cfg (by simp [State.say]) 2 16)

end Sys2Proof.Machine
end

/-! The purse session of a reader (R192 to R210) -/

section
namespace Sys2Proof.Machine

open Sys2Proof Sys2Proof.Claims

@[simp] theorem State.exchange_fst (s : State) (r : Fin 4) (ins : Byte) (data : Bytes) (a : TokAns) :
    (s.exchange r ins data a).1 = s.tok.readers[r].hear a := rfl

/-- An exchange changes the reader's commands sent, its counter and its error count alone. -/
theorem State.exchange_reader (s : State) (r : Fin 4) (ins : Byte) (data : Bytes) (a : TokAns) :
    (s.exchange r ins data a).2.tok.readers[r] =
      { s.tok.readers[r] with sent := s.tok.readers[r].sent ++ [s.tok.readers[r].command ins data], cmdCtr := s.tok.readers[r].cmdCtr + 1, rfErrs := 0 } :=
  s.setReader_reader r _

theorem State.setReader_congr {s : State} {r : Fin 4} {f g : Reader → Reader} (same : f s.tok.readers[r] = g s.tok.readers[r]) :
    s.setReader r f = s.setReader r g := by
  rw [State.setReader, State.setReader, same]

/-- Blocks that were all heard go to what follows (R196). -/
theorem State.answered_data (before s : State) (r : Fin 4) (bs : List Bytes) (f : List Bytes → State → State) :
    before.answered s r (bs.map .data) f = f bs s := by
  have allData : (bs.map Machine.Heard.data).find? (fun h => !h.isData) = none := by
    refine List.find?_eq_none.2 fun h mem => ?_
    obtain ⟨b, -, rfl⟩ := List.mem_map.1 mem
    exact Bool.false_ne_true
  have back : (bs.map Machine.Heard.data).map Machine.Heard.bytes = bs := by
    rw [List.map_map]
    exact List.map_id bs
  rw [State.answered, allData, back]

/-- The slots of a purse on a connected lane whose reader holds none are noted, and the purse is refused or reserves (R200 to R202). -/
theorem State.slotsRead_connected {t : State} {r : Fin 4} {c1 c2 c3 : Bytes} (connected : t.lanes[t.readerLane r].st = .connected)
    (held : t.tok.readers[r].held = none) :
    t.slotsRead r c1 c2 c3 =
      (let id := t.tok.readers[r].purseId
       let k := (resolveSlots (t.readSlot id 2 c2) (t.readSlot id 3 c3)).1
       let v := (resolveSlots (t.readSlot id 2 c2) (t.readSlot id 3 c3)).2.getD Purse.reset
       let u := ((t.note 10 32 r.val).setReader r fun x => { x with
         ident := stripZeros (c1.take 16), prim := t.readSlot x.purseId 2 c2, back := t.readSlot x.purseId 3 c3, code := k, n := v.seq, t := v.tally,
         hub := v.hub }).tokResult r 0x01 k v.tally
       if 4 ≤ k then u.refuseTap r (k - 2) else u.reserve r) := by
  have goesOn : ¬ (t.lanes[t.readerLane r].st != .connected && t.tok.starter[t.readerLane r].isSome) = true := by
    rw [connected]
    exact Bool.false_ne_true
  simp only [State.slotsRead, held]
  refine (if_neg goesOn).trans (congrArg (fun u => if 4 ≤ _ then State.refuseTap (State.tokResult u r 0x01 _ _) r _ else
    State.reserve (State.tokResult u r 0x01 _ _) r) (State.setReader_congr ?_))
  rw [State.note_tok]

theorem State.decisionResult_tok (s : State) (g reason : Nat) (x : Grant) (e : Option Grant) : (s.decisionResult g reason x e).tok = s.tok := by
  simp [State.decisionResult, State.ledgerResult]

/-- A standing grant of neither a stopped nor a revoked account is announced as granted (R228, R231). -/
theorem State.judgeAnnounce_granted {s : State} {g : Fin 36} {e : Grant} (up : s.ddrDown = false) (grant : s.grant g = some e)
    (stopped : e.stopped = false) (revoked : e.revoked = false) : s.judgeAnnounce g 0 = (0, some e, s) := by
  simp [State.judgeAnnounce, up, grant, stopped, revoked]

/-- Block 0 is one of the purse's when its length, its form and its check agree (R199). -/
theorem block0_good_iff (b : Bytes) : (!(b.length == 16 && field b 0 1 == 1 && (crc32 (b.take 12)).toNat == field b 12 4)) = true ↔
    ¬ (b.length = 16 ∧ field b 0 1 = 1 ∧ (crc32 (b.take 12)).toNat = field b 12 4) := by
  rw [Bool.not_eq_true', Bool.and_eq_false_iff, Bool.and_eq_false_iff, beq_eq_false_iff_ne, beq_eq_false_iff_ne, beq_eq_false_iff_ne]
  exact ⟨fun wrong ⟨long, form, check⟩ => wrong.elim (fun e => e.elim (fun e => e long) (fun e => e form)) (fun e => e check),
    fun wrong => Decidable.byContradiction fun none_ => wrong (by simpa [not_or, and_assoc] using none_)⟩

/-- Settles O11. -/
theorem tokenEventsComplete : Obligations.TokenEventsComplete := by
  refine ⟨?antennaPoll_idle, ?antennaPoll_field, ?inventoryComplete_one, ?inventoryComplete_many, ?authenticationComplete_proved,
    ?authenticationComplete, ?slotsResolved, ?killResponse, ?reservationAnswer, ?repairComplete, ?backupWritten, ?backupVerified, ?purseCommit,
    ?primaryWritten, ?primaryVerified, ?fieldCollapse, ?fieldCollapse_frameErrors, ?fieldCollapse_second, ?tProvExpiry, ?tFsessExpiry,
    ?tRetapExpiry, ?tRepeatExpiry, ?tokKillList, ?tokAntTest_good, ?tokAntTest_open, ?tokAntTest_over⟩
  case antennaPoll_idle =>
    intro s r a step_ ok fieldOff nextAntenna
    simp only [exec, execAntennaPoll]
    rw [if_neg (by rw [step_, ok, decide_eq_false (Nat.not_lt.2 fieldOff)]; decide), nextAntenna]
    rfl
  case antennaPoll_field =>
    intro s r a step_ ok fieldOff nextAntenna
    simp only [exec, execAntennaPoll]
    rw [if_neg (by rw [step_, ok, decide_eq_false (Nat.not_lt.2 fieldOff)]; decide), nextAntenna]
    rfl
  case inventoryComplete_one =>
    intro s r us u step_ inventory
    simp only [exec, execInventoryComplete, step_, inventory]
    rfl
  case inventoryComplete_many =>
    intro s r us step_ inventory
    obtain ⟨u, v, rest, several⟩ : ∃ u v rest, Machine.inventory us = u :: v :: rest := by
      rcases split : Machine.inventory us with _ | ⟨u, _ | ⟨v, rest⟩⟩
      · simp [split] at inventory
      · simp [split] at inventory
      · exact ⟨u, v, rest, rfl⟩
    simp only [exec, execInventoryComplete, several]
    rw [if_neg (by simp [-Fin.getElem_fin, step_])]
  case authenticationComplete_proved =>
    intro s r p q a step_ status take
    have goesOn : ¬ (authPass 0 (s.keyVal 1) (s.tok.readers[r].rnd.take 16) p).2.isNone = true := fun none_ => take (Option.isNone_iff_eq_none.1 none_)
    simp only [exec, execAuthenticationComplete]
    rw [if_neg (by simp [-Fin.getElem_fin, step_]), if_neg fun killed => status (beq_iff_eq.1 killed), if_neg goesOn]
    generalize ((s.note 10 32 r.val).passDone r _).exchange r 0x20 [0] a = e
    obtain ⟨h, t⟩ := e
    cases h with
    | waits => rfl
    | killed => rfl
    | wrong => rfl
    | data b =>
      simp only [purseNamed, block0_good_iff, beq_iff_eq, Option.isNone_iff_eq_none, ite_not]
      split
      · split
        · rfl
        · split
          · rfl
          · split <;> rfl
      · rfl
  case authenticationComplete =>
    intro s r p q a step_ status take
    simp_all [exec, execAuthenticationComplete]
  case slotsResolved =>
    intro s r b1 b2 b3 c1 c2 c3 step_ killHit st held hear exchange exchange2
    have heard3 := s.answered_data ((((s.exchange r 0x20 [1] b1).2.exchange r 0x20 [2] b2).2.exchange r 0x20 [3] b3).2) r [c1, c2, c3]
    simp only [exec, execSlotsResolved]
    rw [if_neg (by simp [-Fin.getElem_fin, step_, killHit]), show (s.exchange r 0x20 [1] b1).1 = .data c1 from hear, exchange, exchange2]
    refine congrArg Host.Outcome.next ((heard3 _).trans ((State.slotsRead_connected ?_ ?_).trans ?_))
    · have lane : ((((s.exchange r 0x20 [1] b1).2.exchange r 0x20 [2] b2).2.exchange r 0x20 [3] b3).2).readerLane r = s.readerLane r := by
        simp only [State.readerLane, State.exchange_reader]
      exact (congrArg (fun n : Fin 32 => s.lanes[n].st) lane).trans st
    · simp only [State.exchange_reader, held]
    · have slot : ∀ id n b, ((((s.exchange r 0x20 [1] b1).2.exchange r 0x20 [2] b2).2.exchange r 0x20 [3] b3).2).readSlot id n b = s.readSlot id n b :=
        fun _ _ _ => rfl
      simp only [slot, State.exchange_reader]
      rfl
  case killResponse =>
    intro s r a b step_ killHit status hear
    simp only [exec, execKillResponse, step_]
    rw [if_neg (by decide), if_neg fun killed => status (beq_iff_eq.1 killed), if_pos (by simp [-Fin.getElem_fin, killHit]), State.exchange_fst, hear]
  case reservationAnswer =>
    intro s r a t e takeAnnounce frozen awaiting reason ddrDown grant stopped revoked readers
    have up : (t.note 9 32 r.val).ddrDown = false := by simpa [State.ddrDown] using ddrDown
    have granted : (t.note 9 32 r.val).grant (readerEntry r) = some e := by simpa [State.grant] using grant
    have fits : ¬ t.tok.readers[r].t + e.g > 2 ^ 40 - 1 := Nat.not_lt.2 readers
    simp only [exec, execReservationAnswer, takeAnnounce, reason, State.judgeAnnounce_granted up granted stopped revoked]
    rw [if_neg (by simp [-Fin.getElem_fin, frozen, awaiting]), if_neg (by simp only [State.cancel_tok, State.decisionResult_tok, State.note_tok]; exact fits)]
  case repairComplete =>
    intro s r a b x y step_ hear exchange
    simp only [exec, execRepairComplete]
    rw [if_neg (by simp [-Fin.getElem_fin, step_]), show (s.exchange r 0x21 (2 :: s.repairBlock r) a).1 = .data x from hear, exchange]
    refine congrArg Host.Outcome.next ((s.answered_data _ r [x, y] _).trans ?_)
    by_cases same : y = s.repairBlock r
    · exact (if_neg (by simp [same])).trans (if_pos same).symm
    · exact (if_pos (bne_iff_ne.2 same)).trans (if_neg same).symm
  case backupWritten =>
    intro s r a x step_ hear
    simp only [exec, execBackupWritten, State.exchange_fst, hear]
    rw [if_neg (by simp [-Fin.getElem_fin, step_])]
    exact congrArg Host.Outcome.next (s.answered_data _ r [x] _)
  case backupVerified =>
    intro s r a x step_ hear
    simp only [exec, execBackupVerified, State.exchange_fst, hear]
    rw [if_neg (by simp [-Fin.getElem_fin, step_])]
    refine congrArg Host.Outcome.next ((s.answered_data _ r [x] _).trans ?_)
    by_cases same : x = s.newBlock r 3
    · refine (if_neg (by simp [same])).trans (Eq.trans ?_ (if_pos same).symm)
      simp only [beq_iff_eq]
    · exact (if_pos (bne_iff_ne.2 same)).trans (if_neg same).symm
  case purseCommit =>
    intro s r step_ committed frozen
    simp only [exec, execPurseCommit, step_, committed, frozen]
    rfl
  case primaryWritten =>
    intro s r a x step_ hear
    simp only [exec, execPrimaryWritten, State.exchange_fst, hear]
    rw [if_neg (by simp [-Fin.getElem_fin, step_])]
    exact congrArg Host.Outcome.next (s.answered_data _ r [x] _)
  case primaryVerified =>
    intro s r a x step_ hear
    simp only [exec, execPrimaryVerified, State.exchange_fst, hear]
    rw [if_neg (by simp [-Fin.getElem_fin, step_])]
    refine congrArg Host.Outcome.next ((s.answered_data _ r [x] _).trans ?_)
    by_cases same : x = s.newBlock r 2
    · exact (if_neg (by simp [same])).trans (if_pos same).symm
    · exact (if_pos (bne_iff_ne.2 same)).trans (if_neg same).symm
  case fieldCollapse =>
    intro s r k step_
    simp only [exec, execFieldCollapse, step_]
    rfl
  case fieldCollapse_frameErrors =>
    intro s r k step_ rfErrs
    simp only [exec, execFieldCollapse]
    rw [if_neg (by simp [-Fin.getElem_fin, step_]), if_neg (by decide), if_neg (Nat.not_lt.2 rfErrs)]
  case fieldCollapse_second =>
    intro s r k step_ rfErrs
    simp only [exec, execFieldCollapse, step_, rfErrs]
    rfl
  case tProvExpiry =>
    intro s r tProv awaiting
    simp only [exec, execTProvExpiry]
    rw [if_neg (by simp [tProv]), if_neg (by simp [-Fin.getElem_fin, awaiting])]
  case tFsessExpiry =>
    intro s r tFsess
    simp [exec, execTFsessExpiry, tFsess]
  case tRetapExpiry =>
    intro s r h tRetap held
    simp only [exec, execTRetapExpiry, State.expire_tok, held]
    rw [if_neg (by simp [tRetap])]
  case tRepeatExpiry =>
    intro s lane p tRepeat
    simp [exec, execTRepeatExpiry, tRepeat]
  case tokKillList =>
    intro s d ready plain scope len len2 len3 unit
    refine congrArg Host.Outcome.next ((State.accept_taken ready (refusal_eq_none_of_single plain scope (beq_iff_eq.2 scope) len ?_
      (beq_iff_eq.2 unit))).trans ?_)
    · simp [len2, len3]
    · simp only [taken_nv]
  case tokAntTest_good =>
    intro s d n ma ready plain scope len unitLane step_ hyp hyp2
    have bare : (d.len == 0) = true := beq_iff_eq.2 (BitVec.eq_of_toNat_eq len)
    refine congrArg Host.Outcome.next ((State.accept_taken ready (refusal_eq_none_of_single plain scope (beq_iff_eq.2 scope) (by omega) bare rfl)).trans ?_)
    simp only [unitLane, taken_tok]
    rw [if_neg (by simp [step_])]
    simp only [antOpenMa, antOverMa, Nat.not_lt.2 hyp, Nat.not_le.2 hyp2, if_false]
    rfl
  case tokAntTest_open =>
    intro s d n ma ready plain scope len unitLane step_ hyp
    have bare : (d.len == 0) = true := beq_iff_eq.2 (BitVec.eq_of_toNat_eq len)
    refine congrArg Host.Outcome.next ((State.accept_taken ready (refusal_eq_none_of_single plain scope (beq_iff_eq.2 scope) (by omega) bare rfl)).trans ?_)
    simp only [unitLane, taken_tok]
    rw [if_neg (by simp [step_]), if_pos hyp, Nat.min_eq_left (by omega)]
    rfl
  case tokAntTest_over =>
    intro s d n ma ready plain scope len unitLane step_ hyp
    have bare : (d.len == 0) = true := beq_iff_eq.2 (BitVec.eq_of_toNat_eq len)
    refine congrArg Host.Outcome.next ((State.accept_taken ready (refusal_eq_none_of_single plain scope (beq_iff_eq.2 scope) (by omega) bare rfl)).trans ?_)
    simp only [unitLane, taken_tok]
    rw [if_neg (by simp [step_])]
    simp only [show ¬ ma < antOpenMa from Nat.not_lt.2 (Nat.le_trans (by decide) hyp), show ma ≥ antOverMa from hyp, if_false, if_true]
    rfl

end Sys2Proof.Machine
end

/-! Decisions, announcements and persistence of the ledger (R224 to R244) -/

section
namespace Sys2Proof.Machine

open Sys2Proof Sys2Proof.Claims

/-- What a record's uncorrectable read changes leaves commands in flight, and of the ledger whether a block is held (R238, R240). -/
theorem State.readSlots_keeps (s : State) (slots ues : List Nat) :
    (s.readSlots slots ues).flights = s.flights ∧ (s.readSlots slots ues).abc.jheld = s.abc.jheld := by
  have one : ∀ (t : State) (k : Nat), (t.quarantine k).flights = t.flights ∧ (t.quarantine k).abc.jheld = t.abc.jheld := fun t k => by
    simp [State.quarantine]
  rw [State.readSlots]
  generalize slots.filter ues.contains = ks
  induction ks generalizing s with
  | nil => exact ⟨rfl, rfl⟩
  | cons k ks ih => exact ⟨(ih _).1.trans (one s k).1, (ih _).2.trans (one s k).2⟩

/-- Bad blocks of an area leave the same. -/
theorem State.blocksBad_keeps (s : State) (area : Fin 2) (bad : List Nat) :
    (s.blocksBad area bad).flights = s.flights ∧ (s.blocksBad area bad).abc.jheld = s.abc.jheld := by
  simp only [State.blocksBad]
  split <;> simp

theorem State.snapshotRead_keeps (s : State) (area : Fin 2) (bad slots ues : List Nat) :
    ((s.blocksBad area bad).readSlots slots ues).flights = s.flights ∧ ((s.blocksBad area bad).readSlots slots ues).abc.jheld = s.abc.jheld := by
  obtain ⟨flights, held⟩ := (s.blocksBad area bad).readSlots_keeps slots ues
  obtain ⟨flights', held'⟩ := s.blocksBad_keeps area bad
  exact ⟨flights.trans flights', held.trans held'⟩

/-- An announcement that refuses is judged by its own reason (R228). -/
theorem State.judgeAnnounce_refused {s : State} {g : Fin 36} {reason : Nat} (up : s.ddrDown = false) (refused : reason ≠ 0) :
    s.judgeAnnounce g reason = (reason, none, s) := by
  simp [State.judgeAnnounce, up, refused]

/-- Settles O12. -/
theorem ledgerEventsComplete : Obligations.LedgerEventsComplete := by
  refine ⟨?ledgerAuthorise_lane, ?ledgerAuthorise_reader, ?ledgerDecisionAnnounce_granted, ?ledgerDecisionAnnounce_refused,
    ?ledgerRevokeAnnounce, ?ledgerStopAnnounce, ?ddrAlert, ?tallyReport, ?pendingFlush, ?journalBlockComplete, ?snapshotStart,
    ?snapshotComplete_areaA, ?snapshotComplete_areaB, ?ledgerRestoreStart, ?ledgerReady⟩
  case ledgerAuthorise_lane =>
    intro s entry n ident method u entryLane submitted frozen grant identPending identity hyp eimUnreleased
    have goes : (!s.submitted entry.val && !s.frozen && (s.grant entry).isNone && s.link.lanes[n].identPending && s.link.lanes[n].identity == ident &&
        method.val != 0 && method.val != 3 && !s.eimUnreleased n) = true := by
      rcases hyp with one | two
      · simp [-Fin.getElem_fin, submitted, frozen, grant, identPending, identity, eimUnreleased, one]
      · simp [-Fin.getElem_fin, submitted, frozen, grant, identPending, identity, eimUnreleased, two]
    simp only [exec, execLedgerAuthorise, entryLane]
    exact if_pos goes
  case ledgerAuthorise_reader =>
    intro s entry r u entryLane submitted frozen readers awaiting
    have known : (!s.submitted entry.val && !s.frozen && r.awaiting && r.ident == r.ident && (3 : Fin 4).val == 3 && r.t == r.t &&
        r.purseId == r.purseId && r.n == r.n) = true := by
      rw [submitted, frozen, awaiting]
      simp only [beq_self_eq_true]
      rfl
    simp only [exec, execLedgerAuthorise, entryLane, readers]
    rw [if_pos known]
  case ledgerDecisionAnnounce_granted =>
    intro s entry n a x t entryLane takeAnnounce frozen reason ddrDown grant stopped revoked st
    simp only [exec, execLedgerDecisionAnnounce, entryLane, takeAnnounce, reason, State.judgeAnnounce_granted ddrDown grant stopped revoked]
    rw [if_neg (by simp [frozen]), if_neg (by decide), if_neg (by simp [-Fin.getElem_fin, st])]
    rfl
  case ledgerDecisionAnnounce_refused =>
    intro s entry n a t entryLane takeAnnounce frozen reason ddrDown
    simp only [exec, execLedgerDecisionAnnounce, entryLane, takeAnnounce, State.judgeAnnounce_refused ddrDown reason]
    rw [if_neg (by simp [frozen]), if_pos (bne_iff_ne.2 reason)]
  case ledgerRevokeAnnounce =>
    intro s lane a t takeAnnounce frozen
    simp [exec, execLedgerRevokeAnnounce, takeAnnounce, frozen]
  case ledgerStopAnnounce =>
    intro s lane a t takeAnnounce frozen
    simp [exec, execLedgerStopAnnounce, takeAnnounce, frozen]
  case ddrAlert =>
    intro s ddrUnavailable
    simp [exec, execDdrAlert, ddrUnavailable]
  case tallyReport =>
    intro s pf frozen
    simp [exec, execTallyReport, pf, frozen]
  case pendingFlush =>
    intro s pf ready frozen
    simp [exec, execPendingFlush, pf, ready, frozen]
  case journalBlockComplete =>
    intro s frozen
    simp [exec, execJournalBlockComplete, frozen]
  case snapshotStart =>
    intro s pf ready snap frozen
    simp [exec, execSnapshotStart, pf, ready, snap, frozen]
  case snapshotComplete_areaA =>
    intro s k bad u frozen snap flights snapB jheld snapDel
    obtain ⟨same, held⟩ := s.snapshotRead_keeps 0 bad (k.image.map (·.1)) u
    have none_ : (((s.blocksBad 0 bad).readSlots (k.image.map (·.1)) u).flights.find? (·.opcode == 0x53)) = none := by rw [same, flights]; rfl
    have free : ((s.blocksBad 0 bad).readSlots (k.image.map (·.1)) u).abc.jheld = false := held.trans jheld
    simp only [exec, execSnapshotComplete, frozen, snap, snapB, snapDel, Bool.false_eq_true, if_false, if_true, List.foldl_nil, State.setAbc_flights, none_]
    exact congrArg Host.Outcome.next (if_neg fun h => Bool.false_ne_true (free.symm.trans h))
  case snapshotComplete_areaB =>
    intro s k bad u frozen snap flights snapB jheld snapDel
    obtain ⟨same, held⟩ := s.snapshotRead_keeps 1 bad (k.image.map (·.1)) u
    have none_ : (((s.blocksBad 1 bad).readSlots (k.image.map (·.1)) u).flights.find? (·.opcode == 0x53)) = none := by rw [same, flights]; rfl
    have free : ((s.blocksBad 1 bad).readSlots (k.image.map (·.1)) u).abc.jheld = false := held.trans jheld
    simp only [exec, execSnapshotComplete, frozen, snap, snapB, snapDel, Bool.false_eq_true, if_false, if_true, List.foldl_nil, State.setAbc_flights, none_]
    exact congrArg Host.Outcome.next (if_neg fun h => Bool.false_ne_true (free.symm.trans h))
  case ledgerRestoreStart =>
    intro s x y bad step_ phase ddrOk restoring ready frozen
    simp [exec, execLedgerRestoreStart, step_, phase, ddrOk, restoring, ready, frozen]
  case ledgerReady =>
    intro s restoring frozen flights waiting
    have none_ : s.flights.any (·.opcode == 0x53) = false := by simpa [List.any_eq_false] using flights
    simp only [exec, execLedgerReady, waiting]
    rw [if_neg (by simp [restoring, frozen])]
    simp [none_]

end Sys2Proof.Machine
end

/-! Commands of the ledger (R235, R245) -/

section
namespace Sys2Proof.Machine

open Sys2Proof Sys2Proof.Claims

/-- Settles O13. -/
theorem ledgerCommandsComplete : Obligations.LedgerCommandsComplete := by
  refine ⟨?abcDelta, ?abcQuery_found, ?abcQuery_unknown, ?abcResync, ?abcSnapshot, ?abcRevoke_known, ?abcRevoke_unknown⟩
  case abcDelta =>
    intro s d u sts t ready plain scope len unit unit2 payload
    refine congrArg Host.Outcome.next ((State.accept_taken ready (refusal_eq_none plain (beq_iff_eq.2 scope) (by omega) (beq_iff_eq.2 len)
      (decide_eq_true ⟨unit, unit2⟩) fun gang => by simp [scope] at gang)).trans ?_)
    rw [payload]
  case abcQuery_found =>
    intro s d u slot ready plain scope len unit ready2 param1 hyp
    refine congrArg Host.Outcome.next ((State.accept_taken ready (refusal_eq_none_of_single plain scope (beq_iff_eq.2 scope) (by omega) (beq_iff_eq.2 len)
      (beq_iff_eq.2 unit))).trans ?_)
    rw [if_neg (by rw [ready2]; decide)]
    simp only [param1, hyp]
    rfl
  case abcQuery_unknown =>
    intro s d u ready plain scope len unit ready2 param1
    refine congrArg Host.Outcome.next ((State.accept_taken ready (refusal_eq_none_of_single plain scope (beq_iff_eq.2 scope) (by omega) (beq_iff_eq.2 len)
      (beq_iff_eq.2 unit))).trans ?_)
    rw [if_neg (by rw [ready2]; decide)]
    simp only [param1]
  case abcResync =>
    intro s d u ready plain scope len unit ready2
    refine congrArg Host.Outcome.next ((State.acceptSingle_taken ready plain scope len (by decide) (beq_iff_eq.2 unit)).trans ?_)
    rw [if_neg (by rw [ready2]; decide)]
  case abcSnapshot =>
    intro s d ready plain scope len unit ready2 snap flights
    refine congrArg Host.Outcome.next ((State.acceptSingle_taken ready plain scope len (by decide) (beq_iff_eq.2 unit)).trans ?_)
    have none_ : (taken s 0 d).flights.any (·.opcode == 0x53) = false := by
      rw [List.any_eq_false]
      intro f mem
      simp [flights f mem]
    rw [if_neg (by simp only [snap, none_]; decide)]
    exact if_pos ready2
  case abcRevoke_known =>
    intro s d u slot ready plain scope len unit param1
    refine congrArg Host.Outcome.next ((State.acceptSingle_taken ready plain scope len (by decide) (beq_iff_eq.2 unit)).trans ?_)
    simp only [param1]
  case abcRevoke_unknown =>
    intro s d u ready plain scope len unit param1
    refine congrArg Host.Outcome.next ((State.acceptSingle_taken ready plain scope len (by decide) (beq_iff_eq.2 unit)).trans ?_)
    simp only [param1]

end Sys2Proof.Machine
end

/-! Events of the safety island (R254 to R269) -/

section
namespace Sys2Proof.Machine

open Sys2Proof Sys2Proof.Claims

/-- Settles O14. -/
theorem safetyEventsComplete : Obligations.SafetyEventsComplete := by
  refine ⟨?sinStateChange, ?sinPulseFault, ?sinPulseFault_second, ?tpsPulseStart, ?tDiscExpiry, ?tAutorstExpiry, ?residualAcTrip,
    ?dcPointTimerExpiry, ?selfTestDriveEnd, ?selfTestResult, ?isolationSwitchToggle, ?isolationSwitchToggle_second, ?insulationResult,
    ?tWeldExpiry, ?tWeldExpiry_second, ?weldJudgement, ?weldJudgement_second, ?shuntPulseEnd, ?safetyCoreCycle, ?safetyCoreCycle_second,
    ?lockstepMismatch, ?offpathReadback, ?forerunnerOffPulse, ?stayedHigh⟩
  case sinStateChange =>
    intro s sin level k sinType now sinBlankedAt closed sinNeeds
    have other : (s.saf.sins[sin].closed == level) = false := by
      rw [closed]
      cases level <;> rfl
    simp only [exec, execSinStateChange]
    rw [if_neg (by rw [beq_false_of_ne sinType, now, sinBlankedAt, other, decide_eq_false (Nat.not_lt.2 sinNeeds)]; decide)]
  case sinPulseFault =>
    intro s sin b a sinPulsed sinReads on_ sinTps
    simp_all [exec, execSinPulseFault]
  case sinPulseFault_second =>
    intro s sin tps sinPulsed sinReads on_ sinTps pulsePhase
    simp_all [exec, execSinPulseFault]
  case tpsPulseStart =>
    intro s k lo hi lim pf on_ pulsePhase
    simp_all [exec, execTpsPulseStart]
  case tDiscExpiry =>
    intro s pair tDisc
    simp [exec, execTDiscExpiry, tDisc]
  case tAutorstExpiry =>
    intro s lane tAutorst
    simp [exec, execTAutorstExpiry, tAutorst]
  case residualAcTrip =>
    intro s lane w resRuns isDc safLcfg latched safLcfg2
    simp [exec, execResidualAcTrip, resRuns, isDc, safLcfg, latched, safLcfg2]
  case dcPointTimerExpiry =>
    intro s lane p start least resRuns safLcfg dcPoint pointFrom dcPoint2 dcPoint3
    simp_all [exec, execDcPointTimerExpiry]
  case selfTestDriveEnd =>
    intro s lane w f testFrom firstSample testHalf
    simp_all [exec, execSelfTestDriveEnd]
  case selfTestResult =>
    intro s lane w f testFrom firstSample testHalf testOk
    have due : (s.now == issue3 (s.firstSample lane (f + 2 * testTicks)) && s.saf.lanes[lane].testHalf) = true := by
      rw [beq_iff_eq.2 firstSample, testHalf]
      rfl
    have failed : (s.saf.lanes[lane].testOk && decide ((s.dcMeanOf lane w).natAbs < 30)) = false := by rw [testOk, Bool.false_and]
    simp only [exec, execSelfTestResult, testFrom]
    rw [if_pos due]
    simp only [failed, Bool.or_false]
    rfl
  case isolationSwitchToggle =>
    intro s lane a b m f isoFrom isoOn pf isoReady isoClosed isoBad pf2
    simp only [exec, execIsolationSwitchToggle, isoFrom]
    rw [if_pos (by rw [isoOn, decide_eq_true pf, isoReady]; rfl), if_neg (by rw [isoBad, decide_eq_false (Int.not_lt.2 pf2)]; decide),
      if_pos (by rw [isoClosed]; rfl)]
  case isolationSwitchToggle_second =>
    intro s lane a b m f isoFrom isoOn pf isoReady isoClosed isoBad pf2
    simp only [exec, execIsolationSwitchToggle, isoFrom]
    rw [if_pos (by rw [isoOn, decide_eq_true pf, isoReady]; rfl), if_neg (by rw [isoBad, decide_eq_false (Int.not_lt.2 pf2)]; decide),
      if_neg (by rw [isoClosed]; decide)]
  case insulationResult =>
    intro s lane r t isoReady isoResistances lanePf
    simp only [exec, execInsulationResult, isoReady, isoResistances, lanePf]
    rfl
  case tWeldExpiry =>
    intro s lane tWeld scaled pf
    have dead (i : Nat) : decide ((s.pf 0x6028 10 10 * 1000 : Int) ≤ s.nrg.lanes[lane].scaled.getD i 0) = false := by
      rw [scaled, List.getD_nil]
      exact decide_eq_false (by omega)
    simp only [exec, execTWeldExpiry, dead]
    rw [if_neg (by rw [tWeld]; decide), if_neg (by rw [Bool.or_self, Bool.and_false]; decide)]
  case tWeldExpiry_second =>
    intro s lane v tWeld getD pf
    simp only [exec, execTWeldExpiry, tWeld, getD, pf]
    rfl
  case weldJudgement =>
    intro s lane j due kind
    simp [exec, execWeldJudgement, due, kind]
  case weldJudgement_second =>
    intro s lane j due kind
    simp [exec, execWeldJudgement, due, kind]
  case shuntPulseEnd =>
    intro s u k shuntUntil now shuntCh
    have same : (s.setIsland fun x => { x with shuntUntil := none }).shuntCh = some k := shuntCh
    simp only [exec, execShuntPulseEnd, shuntUntil, same]
    rw [if_pos now]
  case safetyCoreCycle =>
    intro s sins high crc now phase dead lastCycle
    simp [exec, execSafetyCoreCycle, now, phase, dead, lastCycle]
  case safetyCoreCycle_second =>
    intro s sins high crc k now phase dead lastCycle now2
    simp [exec, execSafetyCoreCycle, now, phase, dead, lastCycle, now2]
  case lockstepMismatch =>
    intro s dead scRun
    simp [exec, execLockstepMismatch, dead, scRun]
  case offpathReadback =>
    intro s lane on high pf st econPeriod
    simp_all [exec, execOffpathReadback]
  case forerunnerOffPulse =>
    intro s lane high pf st pf2
    simp_all [exec, execForerunnerOffPulse]
  case stayedHigh =>
    intro s k p mv on_ last lowSeen tpsPulse tpsLow
    have low : decide (p + Machine.tpsPulse ≤ s.now ∧ Machine.tpsLow ≤ mv) = true := decide_eq_true ⟨tpsPulse, tpsLow⟩
    simp only [State.tpsDue, on_, last, lowSeen, low, Bool.true_or, Bool.and_self, if_true]

end Sys2Proof.Machine
end

/-! Commands of the safety island (R273) -/

section
namespace Sys2Proof.Machine

open Sys2Proof Sys2Proof.Claims

/-- Settles O15. -/
theorem safetyCommandsComplete : Obligations.SafetyCommandsComplete := by
  refine ⟨?safReset_inputs, ?safReset_faults, ?safReset_core, ?safResTest, ?safIsoMeasure, ?safTrip⟩
  case safReset_inputs =>
    intro s d h ws ready plain scope len unit flag
    have inputs : (dbyte d 24 == 0) = true ∧ (dbyte d 24 == 2) = false := by rw [flag]; decide
    refine congrArg (fun t => Host.Outcome.next (State.finish s t)) ((State.acceptSingle_taken ready plain scope len (by decide) ?_).trans ?_)
    · rw [flag, unit]
      rfl
    · simp only [inputs, if_true, Bool.false_eq_true, if_false, beq_self_eq_true, Bool.and_true, Nat.mul_zero, Nat.add_zero]
  case safReset_faults =>
    intro s d h ws ready plain scope len unit flag
    have faults : (dbyte d 24 == 0) = false ∧ (dbyte d 24 == 2) = false := by rw [flag]; decide
    refine congrArg (fun t => Host.Outcome.next (State.finish s t)) ((State.acceptSingle_taken ready plain scope len (by decide) ?_).trans ?_)
    · rw [flag, unit]
      rfl
    · simp only [faults, Bool.false_eq_true, if_false, beq_self_eq_true, Bool.and_true, Nat.mul_zero, Nat.add_zero]
  case safReset_core =>
    intro s d h ws ready plain scope len unit flag param0
    have core : (dbyte d 24 == 2) = true := by rw [flag]; decide
    refine congrArg (fun t => Host.Outcome.next (State.finish s t)) ((State.acceptSingle_taken ready plain scope len (by decide) ?_).trans ?_)
    · rw [flag, unit, param0]
      rfl
    · simp only [core, if_true, beq_self_eq_true, Bool.true_and, Nat.zero_add]
  case safResTest =>
    intro s d n ready plain scope len unitLane laneEn run_ isDc coilOn testFrom
    refine congrArg (fun t => Host.Outcome.next (State.finish s t)) ((State.acceptSingle_taken ready plain scope len (by decide) rfl).trans ?_)
    simp only [unitLane]
    rw [if_neg (by rw [laneEn, run_, isDc, coilOn]; decide), if_neg (by rw [testFrom]; decide)]
  case safIsoMeasure =>
    intro s d n ready plain scope len unitLane isoOn st
    refine congrArg Host.Outcome.next ((State.acceptSingle_taken ready plain scope len (by decide) rfl).trans ?_)
    simp only [unitLane]
    rw [if_neg (by rw [isoOn, st]; decide)]
  case safTrip =>
    intro s d ready plain scope len unit param0
    refine congrArg (fun t => Host.Outcome.next (State.finish s t)) (State.acceptSingle_taken ready plain scope len (by decide) ?_)
    rw [unit, bne_iff_ne.2 param0]
    rfl

end Sys2Proof.Machine
end

/-! Events of the load switch channels (R278 to R293) -/

section
namespace Sys2Proof.Machine

open Sys2Proof Sys2Proof.Claims

theorem State.chTo_cfg (s : State) (c : Fin 48) (st : ChSt) : (s.chTo c st).cfg = s.cfg := by
  simp only [State.chTo]
  repeat' split
  all_goals simp

theorem State.setCh_chan (s : State) (c : Fin 48) (f : Chan → Chan) : (s.setCh c f).lsw.chans[c] = f s.lsw.chans[c] := by
  simp [State.setCh]

/-- Settles O16. -/
theorem loadSwitchEventsComplete : Obligations.LoadSwitchEventsComplete := by
  refine ⟨?coilEnableRise, ?coilEnableFall, ?pullInEnd, ?coilTrip, ?coilTrip_second, ?coilTripsReset, ?inrushEnd, ?auxTrip, ?auxTrip_second,
    ?auxTrip_third, ?tRetryExpiry, ?auxRetriesReset, ?openLoadChange, ?openLoadChange_second, ?underloadSet, ?thermalWarnChange,
    ?thermalWarnChange_second, ?thermalLatchSet, ?thermalLatchClear, ?vlsUndervoltage, ?vlsRestart, ?quadRestart, ?vlsLowSet, ?heartbeatLost,
    ?heartbeatReturn⟩
  case coilEnableRise =>
    intro s ch coil coilEnable st tripped
    simp only [exec, execCoilEnableRise]
    rw [if_neg (by simp [-Fin.getElem_fin, coil, coilEnable])]
    generalize e : ((s.chNote (coilCh ch)).setLane ch fun l => { l with coil := true }).cancel .tWeld ch.val = t
    have lsw : t.lsw = s.lsw := by simp [← e, State.chNote]
    have starts : (t.lsw.chans[coilCh ch].st == .off && !t.lsw.chans[coilCh ch].tripped) = true := by
      rw [lsw, st, tripped]
      rfl
    rw [if_pos starts]
  case coilEnableFall =>
    intro s ch coil coilEnable driving isDc
    simp only [exec, execCoilEnableFall]
    rw [if_neg (by simp [-Fin.getElem_fin, coil, coilEnable])]
    generalize e : (s.chNote (coilCh ch)).setLane ch (fun l => { l with coil := false }) = t
    have lsw : t.lsw = s.lsw := by simp [← e, State.chNote]
    have cfg : t.cfg = s.cfg := by simp [← e, State.chNote]
    have drives : (t.setCh (coilCh ch) fun c => { c with tripped := false }).lsw.chans[coilCh ch].driving = true := by
      rw [State.setCh_chan, lsw]
      exact driving
    have dc : ((t.setCh (coilCh ch) fun c => { c with tripped := false }).chTo (coilCh ch) .off).isDc ch = true :=
      (State.isDc_of_cfg (by rw [State.chTo_cfg, State.setCh_cfg, cfg]) ch).trans isDc
    rw [if_pos drives, dc]
    rfl
  case pullInEnd =>
    intro s ch st ccfg
    simp only [exec, execPullInEnd, st, ccfg]
    rfl
  case coilTrip =>
    intro s ch k coilEnable st hyp left
    have kept : min (s.lsw.chans[coilCh ch].left + 1) 3 = s.lsw.chans[coilCh ch].left + 1 := Nat.min_eq_left (by omega)
    have notLast : (s.lsw.chans[coilCh ch].left + 1 == 3) = false := beq_false_of_ne (by omega)
    simp only [exec, execCoilTrip]
    rw [if_pos (by simp [-Fin.getElem_fin, coilEnable, st, hyp])]
    simp only [kept, notLast, st]
    rfl
  case coilTrip_second =>
    intro s ch k coilEnable st hyp left
    simp_all [exec, execCoilTrip]
  case coilTripsReset =>
    intro s ch st since
    simp only [exec, execCoilTripsReset, st, since]
    rfl
  case inrushEnd =>
    intro s m st acfg
    simp only [exec, execInrushEnd, st, acfg]
    rfl
  case auxTrip =>
    intro s m i k st hyp
    simp only [exec, execAuxTrip, st, hyp]
    rfl
  case auxTrip_second =>
    intro s m i k st hyp
    simp only [exec, execAuxTrip, st, hyp]
    rfl
  case auxTrip_third =>
    intro s m i k st acfg acfg2
    simp only [exec, execAuxTrip, st, acfg, acfg2]
    rfl
  case tRetryExpiry =>
    intro s m tRetry st
    simp only [exec, execTRetryExpiry]
    rw [if_neg (by simp [tRetry]), if_pos (by rw [State.expire_lsw, st]; decide)]
  case auxRetriesReset =>
    intro s m st since
    simp only [exec, execAuxRetriesReset, st, since]
    rfl
  case openLoadChange =>
    intro s ch k olActive hyp openLoad
    simp only [exec, execOpenLoadChange, olActive, hyp, openLoad]
    rfl
  case openLoadChange_second =>
    intro s ch k olActive hyp openLoad
    simp only [exec, execOpenLoadChange, olActive, hyp, openLoad]
    rfl
  case underloadSet =>
    intro s m cur k st hyp hyp2 underload
    simp only [exec, execUnderloadSet, st, hyp, hyp2, underload]
    rfl
  case thermalWarnChange =>
    intro s q temp now pf warn
    have hot : decide (temp > s.pf 0x7000 8 8) = true := decide_eq_true pf
    simp only [exec, execThermalWarnChange, State.quadSample, hot, warn]
    rw [if_pos (by simp [State.quadTick, now])]
    rfl
  case thermalWarnChange_second =>
    intro s q temp now pf warn
    have cool : decide (temp > s.pf 0x7000 8 8) = false := decide_eq_false (Int.not_lt.2 pf)
    simp only [exec, execThermalWarnChange, State.quadSample, cool, warn]
    rw [if_pos (by simp [State.quadTick, now])]
    rfl
  case thermalLatchSet =>
    intro s q temp now hyp therm
    simp only [exec, execThermalLatchSet]
    rw [if_pos (by simp [-Fin.getElem_fin, State.quadTick, now, hyp, therm])]
  case thermalLatchClear =>
    intro s q temp now hyp therm
    simp only [exec, execThermalLatchClear]
    rw [if_pos]
    simp only [State.quadTick, now, therm, tSd, tHys]
    simp
    omega
  case vlsUndervoltage =>
    intro s mv us hyp hyp2 uv
    simp [exec, execVlsUndervoltage, hyp, hyp2, uv]
  case vlsRestart =>
    intro s mv k hyp hyp2 uv
    simp [exec, execVlsRestart, hyp, hyp2, uv]
  case quadRestart =>
    intro s q r restart now restarted hb
    simp_all [exec, execQuadRestart]
  case vlsLowSet =>
    intro s mv k pf hyp
    simp only [exec, execVlsLowSet, pf, hyp]
    rfl
  case heartbeatLost =>
    intro s us hyp hb
    simp [exec, execHeartbeatLost, hyp, hb]
  case heartbeatReturn =>
    intro s hb
    simp [exec, execHeartbeatReturn, hb]

end Sys2Proof.Machine
end

/-! Commands of the load switch channels (R296) -/

section
namespace Sys2Proof.Machine

open Sys2Proof Sys2Proof.Claims

/-- A taken LSW_SET of single scope sets the channel of its unit and waits only when the channel is still to start. -/
theorem exec_lswSet_single {s : State} {d : Desc} {k : Fin 48} (ready : Ready s 0 d) (plain : Plain d) (scope : d.scope = 0) (len : d.len = 0)
    (flag : dbyte d 24 ≤ 1) (unit : unitAux d.unit.toNat = some k) (claimed : (taken s 0 d).claimed k = false)
    (auxReady : (taken s 0 d).auxReady k (dbyte d 24 == 1) = true) :
    exec (.lswSet d) s = .next (State.finish s
      (if (((taken s 0 d).offEnds k (dbyte d 24 == 1)).auxSet k (dbyte d 24 == 1)).1 then
        (((taken s 0 d).offEnds k (dbyte d 24 == 1)).auxSet k (dbyte d 24 == 1)).2.answer 0 0x70 d stOk
      else (((taken s 0 d).offEnds k (dbyte d 24 == 1)).auxSet k (dbyte d 24 == 1)).2.launch 0 0x70 d false [k.val]
        [(k.val, bit (taken s 0 d).lsw.chans[k].cmd)])) := by
  refine congrArg (fun t => Host.Outcome.next (State.finish s t)) ((State.accept_taken ready (refusal_eq_none_of_single plain scope
    (by rw [scope]; decide) (toNat_len_of_zero len) (by rw [scope, len]; rfl) (by rw [scope]; exact decide_eq_true flag))).trans ?_)
  simp only [scope, unit, claimed, auxReady, Bool.false_eq_true, if_false, Bool.not_true]
  rfl

/-- Settles O17. -/
theorem loadSwitchCommandsComplete : Obligations.LoadSwitchCommandsComplete := by
  refine ⟨?lswSet, ?lswSet_second, ?lswSet_third, ?lswClear, ?lswClear_second⟩
  case lswSet =>
    intro s d k ready plain scope len flag unit claimed auxReady st
    have on : (dbyte d 24 == 1) = true := beq_iff_eq.2 flag
    have starts : ((taken s 0 d).lsw.chans[k].st == ChSt.on) = false := beq_false_of_ne st
    rw [exec_lswSet_single ready plain scope len (Nat.le_of_eq flag) unit claimed (by rw [on]; exact auxReady), on]
    simp only [State.offEnds, State.auxSet, starts, if_true, Bool.false_eq_true, if_false]
  case lswSet_second =>
    intro s d k ready plain scope len flag unit claimed auxReady st
    have on : (dbyte d 24 == 1) = true := beq_iff_eq.2 flag
    have conducts : ((taken s 0 d).lsw.chans[k].st == ChSt.on) = true := beq_iff_eq.2 st
    rw [exec_lswSet_single ready plain scope len (Nat.le_of_eq flag) unit claimed (by rw [on]; exact auxReady), on]
    simp only [State.offEnds, State.auxSet, conducts, if_true]
  case lswSet_third =>
    intro s d k ready plain scope len flag unit claimed
    have off : (dbyte d 24 == 1) = false := by rw [flag]; rfl
    rw [exec_lswSet_single ready plain scope len (by omega) unit claimed (by rw [off]; rfl), off]
    simp only [State.offEnds, State.auxSet, if_true, Bool.false_eq_true, if_false]
  case lswClear =>
    intro s d k ready plain scope len param1 unit
    refine congrArg (fun t => Host.Outcome.next (State.finish s t)) ((State.accept_taken ready (refusal_eq_none_of_single plain scope
      (by rw [scope]; decide) (toNat_len_of_zero len) (by rw [scope, len]; rfl) (by rw [param1]; simp))).trans ?_)
    rw [if_pos (beq_iff_eq.2 scope), dif_pos (by rw [unit]; exact k.isLt)]
    simp only [unit]
  case lswClear_second =>
    intro s d ready plain scope unit len
    refine congrArg (fun t => Host.Outcome.next (State.finish s t)) ((State.accept_taken ready (refusal_eq_none_of_batch plain scope
      (by rw [scope]; decide) len (by rw [scope]; exact batchLen_of unit len) (by rw [scope]; rfl))).trans ?_)
    rw [if_neg (by rw [scope]; decide)]

end Sys2Proof.Machine
end

/-! Sample intake and pulse outputs (R299 to R323, R343 to R346) -/

section
namespace Sys2Proof.Machine

open Sys2Proof Sys2Proof.Claims

/-- Settles O18. -/
theorem intakeEventsComplete : Obligations.IntakeEventsComplete := by
  refine ⟨?mclkStartStop, ?mclkStartStop_second, ?chainRun, ?streamStuckChange, ?streamStuckChange_second, ?cycleEnd, ?cycleEnd_second,
    ?trackingChange, ?envelopeEvent, ?calChangeEffect, ?tTrigExpiry, ?pulseStart, ?pulseStart_second, ?pulseEnd, ?altPulseStart,
    ?altPulseStart_second⟩
  case mclkStartStop =>
    intro s g x mclkDue hyp
    simp [exec, execMclkStartStop, mclkDue, hyp]
  case mclkStartStop_second =>
    intro s g x mclkDue hyp
    simp [exec, execMclkStartStop, mclkDue, hyp]
  case chainRun =>
    intro s lane st start now run_
    simp only [exec, execChainRun, start, now, run_]
    rfl
  case streamStuckChange =>
    intro s lane ch level k st start now laneMode stuck hyp now2 frozen
    have changes : (!(s.met.lanes[lane].start.any fun st => decide (st + 32768 ≤ s.now - 2525)) || !channelUsed (s.laneMode lane) ch.val ||
        s.met.lanes[lane].chans[ch].stuck == true || (true && decide (k < 2048)) ||
        (!true && level == s.met.lanes[lane].chans[ch].stuckLevel) || s.now % 512 != 477 || s.frozen) = false := by
      simp [-Fin.getElem_fin, start, now, laneMode, stuck, hyp, now2, frozen]
    simp only [exec, execStreamStuckChange]
    rw [if_neg (by rw [changes]; decide)]
    simp only [if_true, bit, Bool.not_true, Bool.false_eq_true, if_false, Nat.zero_add]
  case streamStuckChange_second =>
    intro s lane ch level k st start now laneMode stuck stuckLevel now2 frozen
    have changes : (!(s.met.lanes[lane].start.any fun st => decide (st + 32768 ≤ s.now - 2525)) || !channelUsed (s.laneMode lane) ch.val ||
        s.met.lanes[lane].chans[ch].stuck == false || (false && decide (k < 2048)) ||
        (!false && level == s.met.lanes[lane].chans[ch].stuckLevel) || s.now % 512 != 477 || s.frozen) = false := by
      simp [-Fin.getElem_fin, start, now, laneMode, stuck, stuckLevel, now2, frozen]
    simp only [exec, execStreamStuckChange]
    rw [if_neg (by rw [changes]; decide)]
    simp only [Bool.false_eq_true, if_false]
    rfl
  case cycleEnd =>
    intro s lane wins rw ue x run_ frozen cutAt
    simp only [exec, execCycleEnd, run_, frozen, cutAt]
    rfl
  case cycleEnd_second =>
    intro s lane wins rw ue t run_ frozen cutAt placeCycle cutTick getLast
    simp_all [exec, execCycleEnd]
  case trackingChange =>
    intro s lane rw run_ isDc leader frozen head
    simp_all [exec, execTrackingChange]
  case envelopeEvent =>
    intro s lane ch y ys run_ laneMode frozen
    simp only [exec, execEnvelopeEvent, run_, laneMode, frozen]
    rfl
  case calChangeEffect =>
    intro s lane wins rw t x run_ frozen placeCycle cutTick getD
    simp_all [exec, execCalChangeEffect]
  case tTrigExpiry =>
    intro s slot tTrig
    simp [exec, execTTrigExpiry, tTrig]
  case pulseStart =>
    intro s k d rest sched now lastStart altSel legalOn
    simp_all [exec, execPulseStart]
  case pulseStart_second =>
    intro s k d l rest sched now lastStart pulseWidth altSel legalOn
    simp only [exec, execPulseStart, sched, lastStart]
    rw [if_pos (by simp [-Fin.getElem_fin, pulseWidth, altSel, legalOn, Nat.le_of_lt now]), if_pos now]
  case pulseEnd =>
    intro s k active endAt
    simp only [exec, execPulseEnd, active, endAt]
    rfl
  case altPulseStart =>
    intro s altSel ticksPerS altLast legalOn
    have fresh : (s.nrg.pulses[(6 : Fin 8)].altLast != some s.now) = true := bne_iff_ne.2 altLast
    have due : (s.altSel 6 && (if (6 : Fin 8) == 6 then s.now % Sys2Proof.ticksPerS == 0 else true) &&
        s.nrg.pulses[(6 : Fin 8)].altLast != some (if (6 : Fin 8) == 6 then s.now else s.island.rtcSec) && s.legalOn) = true := by
      rw [altSel, legalOn, if_pos (beq_self_eq_true _), if_pos (beq_self_eq_true _), ticksPerS, fresh]
      rfl
    exact if_pos due
  case altPulseStart_second =>
    intro s k hyp altSel altLast legalOn
    simp_all [exec, execAltPulseStart]

end Sys2Proof.Machine
end

/-! Commands of the sample intake and of the energy engine (R323, R352, R353) -/

section
namespace Sys2Proof.Machine

open Sys2Proof Sys2Proof.Claims

/-- Settles O19. -/
theorem meteringCommandsComplete : Obligations.MeteringCommandsComplete := by
  refine ⟨?metCapture, ?metCaptureCancel, ?metRead, ?metCoefRead, ?nrgRead, ?nrgCalRead⟩
  case metCapture =>
    intro s d n i ready plain scope len captureRanges metLane badCapture captures dparam
    refine congrArg Host.Outcome.next ((State.acceptSingle_taken ready plain scope len (by decide) captureRanges).trans ?_)
    simp only [metLane, badCapture, captures, Bool.false_eq_true, if_false]
    rw [if_neg (by rw [dparam, bne_self_eq_false, Bool.and_false]; decide)]
    rw [taken_now]
  case metCaptureCancel =>
    intro s d n i ready plain scope len metLane lane
    refine congrArg Host.Outcome.next ((State.acceptSingle_taken ready plain scope len (by decide) rfl).trans ?_)
    simp only [metLane]
    split
    next j found =>
      obtain rfl := Option.some.inj (found.symm.trans lane)
      rfl
    next none_found => exact nomatch none_found.symm.trans lane
  case metRead =>
    intro s d n ready plain scope len metLane
    refine congrArg Host.Outcome.next ((State.acceptSingle_taken ready plain scope len (by decide) rfl).trans ?_)
    simp only [metLane]
  case metCoefRead =>
    intro s d ready plain scope len unit
    exact congrArg Host.Outcome.next (State.acceptSingle_taken ready plain scope len (by decide) (beq_iff_eq.2 unit))
  case nrgRead =>
    intro s d n ready plain scope len unitLane laneEn run_
    refine congrArg Host.Outcome.next ((State.acceptSingle_taken ready plain scope len (by decide) rfl).trans ?_)
    simp only [unitLane]
    rw [if_pos (by rw [laneEn, run_]; decide)]
  case nrgCalRead =>
    intro s d n ready plain scope len unitLane
    refine congrArg Host.Outcome.next ((State.acceptSingle_taken ready plain scope len (by decide) rfl).trans ?_)
    simp only [unitLane]

end Sys2Proof.Machine
end

/-! Events of the register book (R360 to R372, R377 to R382) -/

section
namespace Sys2Proof.Machine

open Sys2Proof Sys2Proof.Claims

theorem foldl_max_replicate_self (v : Nat) : ∀ n, (List.replicate n v).foldl max v = v
  | 0 => rfl
  | n + 1 => by rw [List.replicate_succ, List.foldl_cons, Nat.max_self, foldl_max_replicate_self v n]

theorem foldl_max_zero_replicate (v n : Nat) : (List.replicate (n + 1) v).foldl max 0 = v := by
  rw [List.replicate_succ, List.foldl_cons, Nat.zero_max, foldl_max_replicate_self]

/-- Whether the legal path is on does not depend on what the sealed island latches. -/
theorem State.legalOn_island (s : State) (i : Island) : ({ s with island := i } : State).legalOn = s.legalOn := rfl

/-- Settles O20. -/
theorem bookEventsComplete : Obligations.BookEventsComplete := by
  refine ⟨?rtcRollover, ?rtcRollover_second, ?noclockIntervalEnd, ?clockStep, ?clockStep_second, ?sealChange, ?sealChange_second,
    ?magneticFieldChange, ?caseChange, ?caseChange_second⟩
  case rtcRollover =>
    intro s ok legalOn
    simp only [exec, execRtcRollover]
    rw [if_neg (by rw [ok]; decide), State.legalOn_island, if_pos (by rw [legalOn]; decide)]
  case rtcRollover_second =>
    intro s t ok elapsed legalOn clkValid outage
    simp only [exec, execRtcRollover, ok, elapsed, legalOn, clkValid, outage]
    rfl
  case noclockIntervalEnd =>
    intro s f noclockFrom table legalOn
    simp [exec, execNoclockIntervalEnd, noclockFrom, table, legalOn]
  case clockStep =>
    intro s r t stepDue legalOn source newSec
    simp only [exec, execClockStep, stepDue, legalOn, source, newSec] <;> rfl
  case clockStep_second =>
    intro s r stepDue legalOn source pf newSec
    simp [exec, execClockStep, stepDue, legalOn, source, pf, newSec]
  case sealChange =>
    intro s o ms hyp sealOpen legalOn
    simp only [exec, execSealChange]
    rw [if_neg (by simp [sealOpen, hyp]), State.legalOn_island, if_neg (by rw [legalOn]; decide)]
  case sealChange_second =>
    intro s o ms hyp sealOpen legalOn
    simp only [exec, execSealChange]
    rw [if_neg (by simp [sealOpen, hyp]), State.legalOn_island, if_pos (by rw [legalOn]; decide)]
  case magneticFieldChange =>
    intro s k v now legalOn calv calv2 magOn
    have last : (List.replicate 100 v).drop ((List.replicate 100 v).length - 100) = List.replicate 100 v := by
      rw [List.length_replicate]
      rfl
    have strong : (List.replicate 100 v).all (fun w => decide ((s.calv (0xA040 + 8 * k.val)).toNat ≤ w)) = true :=
      List.all_eq_true.2 fun w hw => decide_eq_true ((List.eq_of_mem_replicate hw).symm ▸ calv2)
    have final (a : Nat) : (List.replicate 100 v).getLastD a = v := by
      rw [List.getLastD_eq_getLast?, List.getLast?_replicate]
      rfl
    simp only [exec, execMagneticFieldChange, last, final]
    rw [if_neg (by rw [now, legalOn]; decide), if_neg (by simp [-Fin.getElem_fin]; omega), if_pos (by rw [magOn, strong]; rfl),
      foldl_max_zero_replicate]
  case caseChange =>
    intro s o caseOpen legalOn
    simp only [exec, execCaseChange]
    rw [if_neg (by simp [caseOpen]), State.legalOn_island, if_neg (by rw [legalOn]; decide)]
  case caseChange_second =>
    intro s caseOpen legalOn caseOpenings
    simp only [exec, execCaseChange]
    rw [if_neg (by rw [caseOpen]; decide), State.legalOn_island, if_pos (by rw [legalOn]; decide)]
    simp only [if_true, caseOpenings, Bool.or_true]
    rfl

end Sys2Proof.Machine
end

/-! Commands of the register book (R360 to R378, R386) -/

section
namespace Sys2Proof.Machine

open Sys2Proof Sys2Proof.Claims

/-- A taken command of the register book that authenticates acts on the state its authentication leaves. -/
theorem State.bookCommand_taken {s t : State} {i : Instr} {op : Nat} {d : Desc} {lenOk paramOk : Bool} {act : State → State} (ready : Ready s 0 d)
    (plain : Plain d) (scope : d.scope = 0) (short : d.len.toNat ≤ 16777216) (len : lenOk = true) (unit : d.unit = 0) (param : paramOk = true)
    (authRole : (taken s 0 d).authRole op d = (true, t)) : s.bookCommand i op d lenOk paramOk act = act t := by
  refine (State.accept_taken ready (refusal_eq_none_of_single plain scope (beq_iff_eq.2 scope) short len
    (by rw [unit, param]; rfl))).trans ?_
  rw [authRole]
  rfl

/-- Settles O21. -/
theorem bookCommandsComplete : Obligations.BookCommandsComplete := by
  refine ⟨?bookRead, ?bookRead_second, ?bookClockSet, ?bookTariffLoad, ?bookCalWrite, ?bookBillClose⟩
  case bookRead =>
    intro s d n ready plain scope len unit
    refine congrArg Host.Outcome.next ((State.acceptSingle_taken ready plain scope len (by decide) (by rw [unit]; simp)).trans ?_)
    simp only [unit, Fin.is_lt, Nat.le_of_lt, dif_pos, if_true, Fin.eta]
  case bookRead_second =>
    intro s d ready plain scope len unit
    refine congrArg Host.Outcome.next ((State.acceptSingle_taken ready plain scope len (by decide) (by rw [unit]; rfl)).trans ?_)
    rw [unit]
    rfl
  case bookClockSet =>
    intro s d t ready plain scope len unit authRole payload payload2 payload3
    have allowed : ¬ (field d.payload 0 1 == 1 && t.stepTooFar (field d.payload 32 7)) = true := by
      obtain other | near := payload3
      · simp [other]
      · simp [near]
    refine congrArg Host.Outcome.next ((State.bookCommand_taken ready plain scope (by omega) (beq_iff_eq.2 len) unit
      (by rw [decide_eq_true payload, payload2]; rfl) authRole).trans ?_)
    rw [if_neg allowed]
  case bookTariffLoad =>
    intro s d t ready plain scope len unit authRole drop tblActive tblPending
    refine congrArg Host.Outcome.next ((State.bookCommand_taken ready plain scope (by omega) (beq_iff_eq.2 len) unit rfl authRole).trans ?_)
    rw [if_neg (by rw [drop]; decide), if_neg (Nat.not_le.2 (Nat.max_lt.2 ⟨tblActive, tblPending⟩))]
  case bookCalWrite =>
    intro s d t u m hyp hyp2 ready plain scope len unit authRole sealOpen drop calWrite
    have count : (d.len.toNat - 32) / 16 = m := by omega
    refine congrArg (fun t => Host.Outcome.next (State.finish s t)) ((State.bookCommand_taken ready plain scope (by omega)
      (by rw [count, len]; simp [hyp, hyp2]) unit rfl authRole).trans ?_)
    rw [count, if_neg (by rw [sealOpen]; decide)]
    simp only [drop, calWrite]
  case bookBillClose =>
    intro s d t ready plain scope len unit authRole
    exact congrArg Host.Outcome.next (State.bookCommand_taken ready plain scope (by omega) (beq_iff_eq.2 len) unit rfl authRole)

end Sys2Proof.Machine
end

/-! Frames received on the site line (R395 to R412) -/

section
namespace Sys2Proof.Machine

open Sys2Proof Sys2Proof.Claims

/-- No pair of a list has the sought first component, so the search finds none. -/
theorem find?_fst_eq_none {α β : Type} [BEq α] [LawfulBEq α] {l : List (α × β)} {a : α} (absent : ∀ p ∈ l, p.1 ≠ a) : l.find? (·.1 == a) = none :=
  List.find?_eq_none.2 fun p hp e => absent p hp (beq_iff_eq.1 e)

/-- A frame of a source not heard of before is acted on once its counter and its SEQ have been noted. -/
theorem State.lineDeliver_new {s : State} {rx : LineRx} {f : LineFrame} {act : LineFrame → State → State}
    (unseen : ∀ p ∈ s.nv.links.lineSeen, p.1 ≠ f.src) (fresh : ∀ p ∈ s.line.rxSeqs, p.1 ≠ f.src) :
    s.lineDeliver rx f act = act f (({ s with nv := { s.nv with links := { s.nv.links with
        lineSeen := (f.src, lineFcnt rx.bytes) :: s.nv.links.lineSeen.filter (·.1 != f.src) } } } : State).setLine fun l =>
      { l with rxCount := (l.rxCount + 1) % 65536, rxSeqs := (f.src, [f.seq]) :: l.rxSeqs.filter (·.1 != f.src) }) := by
  simp only [State.lineDeliver, find?_fst_eq_none unseen, find?_fst_eq_none fresh]
  rfl

/-- A frame that reaches this node is acted on, and repeated if it is a broadcast. -/
theorem State.lineReceive_arrives {s : State} {rx : LineRx} {tys : List Nat} {act : LineFrame → State → State} (arrives : Arrives s rx tys) :
    s.lineReceive rx tys act = passedOn rx (act (parseLine rx.bytes) (arrived s rx)) := by
  obtain ⟨on, silent, ends, done, crc, head, decodes, short, nid, other, named, ofType, mic, dest, addr, unseen, fresh⟩ := arrives
  obtain ⟨k, key, right⟩ := (Option.any_eq_true _ _).1 mic
  have listens : (s.line.st == 0 || s.lineTxen rx.start || decide (rx.fin < rx.start) || decide (s.now < rx.fin)) = false := by
    simp [on, silent, Nat.not_lt.2 ends, Nat.not_lt.2 done]
  have good : (lineCrcOk rx.bytes && (rx.band || toneDecodes rx.bytes.length (blankSpans (s.pf 0xB018 0 16) rx.high) rx.errors) &&
      decide ((parseLine rx.bytes).body.length ≤ if rx.band then 1024 else 256)) = true := by
    rw [crc, Bool.true_and, Bool.and_eq_true, Bool.or_eq_true]
    exact ⟨decodes, decide_eq_true short⟩
  have ours : (field rx.bytes 2 2 != s.lineNid || (parseLine rx.bytes).src == s.lineAddr || decide ((parseLine rx.bytes).src ≥ 1024) ||
      !tys.contains (parseLine rx.bytes).ty) = false := by
    rw [ofType, beq_false_of_ne other, nid, bne_self_eq_false, decide_eq_false (Nat.not_le.2 named)]
    rfl
  have keyed (t : LineSt → LineSt) : (s.setLine t).keyVal 4 = some k := key
  have network (t : LineSt → LineSt) : (s.setLine t).lineNid = s.lineNid := rfl
  simp only [State.lineReceive, listens, head, good, Bool.not_true, Bool.false_eq_true, if_false, keyed, network, ours, right]
  rw [arrived, ← State.lineDeliver_new (act := act) unseen fresh, passedOn]
  obtain all | ⟨mine, next, noAck⟩ := dest
  · rw [if_pos (beq_iff_eq.2 all), if_pos all]
    rfl
  · have single : (parseLine rx.bytes).dst ≠ 0xFFFF := mine ▸ addr
    rw [if_neg fun e => single (beq_iff_eq.1 e), if_neg (by rw [next, bne_self_eq_false]; decide), if_pos (beq_iff_eq.2 mine),
      if_neg (by rw [noAck, Bool.false_and]; exact Bool.false_ne_true), if_neg single]
    rfl

theorem State.neighResult_cfg (s : State) (n : LineNeigh) (detail : Nat) : (s.neighResult n detail).cfg = s.cfg := by
  rw [State.neighResult, State.emit_cfg]

theorem State.lineHear_cfg (s : State) (a snr : Nat) : (s.lineHear a snr).cfg = s.cfg := by
  simp only [State.lineHear]
  repeat' split
  all_goals simp [State.neighResult_cfg, State.setNeigh]

theorem State.lineLevel_cfg (s : State) : s.lineLevel.cfg = s.cfg := by
  simp only [State.lineLevel]
  repeat' split
  all_goals simp

theorem arrived_lineAddr (s : State) (f : LineRx) : (arrived s f).lineAddr = s.lineAddr := by
  refine State.pf_of_cfg ?_ _ _ _
  simp only [arrived, heardFrame, State.setLine_cfg]
  split
  · rw [State.lineLevel_cfg, State.lineHear_cfg, State.setLine_cfg]
  · rw [State.lineHear_cfg, State.setLine_cfg]

theorem State.note_pf (s : State) (c l i off lo w : Nat) : (s.note c l i).pf off lo w = s.pf off lo w := State.pf_of_cfg (s.note_cfg c l i) ..

theorem State.note_lineRole (s : State) (c l i : Nat) : (s.note c l i).lineRole = s.lineRole := s.note_pf c l i ..

/-- Settles O22. -/
theorem lineReceptionsComplete : Obligations.LineReceptionsComplete := by
  refine ⟨?dataReceived, ?deltaReceived, ?deltaReceived_second, ?timeReceived, ?scheduleReceived, ?lineAckReceived, ?advertReceived,
    ?beaconReceived, ?soundRptReceived, ?joinReceived, ?soundReceived, ?soundReceived_second⟩
  case dataReceived =>
    intro s f arrives ty
    simp only [exec, execDataReceived]
    rw [State.lineReceive_arrives arrives, if_pos (beq_iff_eq.2 ty)]
  case deltaReceived =>
    intro s f u x arrives dst body body2 frozen note ready
    have whole : ((parseLine f.bytes).dst != (arrived s f).lineAddr || field (parseLine f.bytes).body 0 2 == 0 ||
        (parseLine f.bytes).body.length != 4 + 64 * field (parseLine f.bytes).body 0 2 || (arrived s f).frozen) = false := by
      rw [arrived_lineAddr, dst, bne_self_eq_false, beq_false_of_ne body, ← body2, bne_self_eq_false, frozen]
      rfl
    simp only [exec, execDeltaReceived]
    rw [State.lineReceive_arrives arrives, if_neg (by rw [whole]; decide), ← note]
    simp only [ready, Bool.not_false, Bool.true_or, if_true]
    rfl
  case deltaReceived_second =>
    intro s f u x arrives dst body body2 frozen note ready jheld pf
    have whole : ((parseLine f.bytes).dst != (arrived s f).lineAddr || field (parseLine f.bytes).body 0 2 == 0 ||
        (parseLine f.bytes).body.length != 4 + 64 * field (parseLine f.bytes).body 0 2 || (arrived s f).frozen) = false := by
      rw [arrived_lineAddr, dst, bne_self_eq_false, beq_false_of_ne body, ← body2, bne_self_eq_false, frozen]
      rfl
    simp only [exec, execDeltaReceived]
    rw [State.lineReceive_arrives arrives, if_neg (by rw [whole]; decide), ← note]
    simp only [ready, jheld, beq_false_of_ne pf, Bool.not_true, Bool.or_false, Bool.false_eq_true, if_false]
    rfl
  case timeReceived =>
    intro s f t arrives src start clkValid
    subst start
    simp only [exec, execTimeReceived]
    rw [State.lineReceive_arrives arrives]
    simp only [State.note_now, State.note_pf, State.note_book, src, clkValid, bne_self_eq_false, Bool.false_eq_true, if_false, Bool.not_false, Bool.or_true,
      if_true]
  case scheduleReceived =>
    intro s f arrives
    exact congrArg (fun t => Host.Outcome.next (State.finish s t)) (State.lineReceive_arrives arrives)
  case lineAckReceived =>
    intro s f o x arrives awaiting hyp body body2 flights
    have waits : ((arrived s f).note 14 32 41).line.awaiting = some x := by rw [State.note_line, ← awaiting, hyp]
    have noFlight (u : State) (same : u.flights = (arrived s f).flights) (p : Flight → Bool) :
        u.flights.find? (fun k => k.opcode == 0xA0 && p k) = none := by
      rw [same]
      exact List.find?_eq_none.2 fun k hk e => flights k hk (beq_iff_eq.1 (Bool.and_eq_true_iff.1 e).1)
    simp only [exec, execLineAckReceived]
    rw [State.lineReceive_arrives arrives]
    simp only [waits]
    rw [if_neg (by rw [body, body2, bne_self_eq_false, bne_self_eq_false]; decide)]
    simp only [Bool.and_assoc]
    rw [noFlight]
    exact (arrived s f).note_flights 14 32 41
  case advertReceived =>
    intro s f t arrives body
    subst body
    exact congrArg Host.Outcome.next (State.lineReceive_arrives arrives)
  case beaconReceived =>
    intro s f arrives lineRole st
    simp only [exec, execBeaconReceived]
    rw [State.lineReceive_arrives arrives, State.note_lineRole, State.note_line, if_neg (by simp [lineRole]), if_neg (by simp [st])]
  case soundRptReceived =>
    intro s f arrives st
    have away : ((arrived s f).note 14 32 41).line.st ≠ 3 := by rw [State.note_line]; exact st
    simp only [exec, execSoundRptReceived]
    rw [State.lineReceive_arrives arrives]
    exact congrArg (fun t => Host.Outcome.next (passedOn f t)) (if_pos (bne_iff_ne.2 away))
  case joinReceived =>
    intro s f arrives st members
    have unknown : (arrived s f).line.members.any (fun m => m % 1024 == (parseLine f.bytes).src) = false :=
      List.any_eq_false.2 fun m hm e => members m hm (beq_iff_eq.1 e)
    simp only [exec, execJoinReceived]
    rw [State.lineReceive_arrives arrives, State.note_line, if_neg (by rw [st, unknown]; decide)]
  case soundReceived =>
    intro s src snrs hi st lineTxen lineAddr hyp pf pf2
    have listens : (s.line.st == 0 || s.lineTxen s.now || src == s.lineAddr || decide (src ≥ 1024)) = false := by
      rw [beq_false_of_ne st, lineTxen, beq_false_of_ne lineAddr, decide_eq_false (Nat.not_le.2 hyp)]
      rfl
    simp only [exec, execSoundReceived]
    rw [if_neg (by rw [listens]; decide), if_neg (by rw [pf]; decide), if_pos pf2]
  case soundReceived_second =>
    intro s src snrs hi n t st lineTxen lineAddr hyp pf pf2 lineHear neigh
    have listens : (s.line.st == 0 || s.lineTxen s.now || src == s.lineAddr || decide (src ≥ 1024)) = false := by
      simp [st, lineTxen, lineAddr, hyp]
    simp only [exec, execSoundReceived]
    rw [if_neg (by rw [listens]; decide), if_neg (by rw [pf]; decide), if_neg (Nat.not_lt.2 pf2), ← lineHear]
    simp only [neigh] <;> rfl

end Sys2Proof.Machine
end

/-! The site line's own times (R402 to R407) -/

section
namespace Sys2Proof.Machine

open Sys2Proof Sys2Proof.Claims

/-- A back-off is drawn below its bound. -/
theorem State.draw_lt (s : State) {bound : Nat} (pos : 0 < bound) : (s.draw bound).1 < bound := Nat.mod_lt _ pos

/-- Settles O23. -/
theorem lineTimesComplete : Obligations.LineTimesComplete := by
  refine ⟨?lineFrameTransmitEnd, ?lineFrameTransmitEnd_second, ?mediumAccess, ?ackTransmit, ?tAckExpiry, ?tAckExpiry_second, ?beaconPeriod,
    ?beaconPeriod_second, ?memberSlot, ?tBeaconExpiry, ?coordinatorTakeover, ?tAdvExpiry, ?lineSoundWindowEnd, ?lineTestEnd, ?lineTestEnd_second⟩
  case lineFrameTransmitEnd =>
    intro s t tx stop ackReq ack
    simp only [exec, execLineFrameTransmitEnd, tx]
    rw [if_neg (Nat.not_lt.2 stop), if_pos (by rw [ackReq, ack]; rfl)]
    rfl
  case lineFrameTransmitEnd_second =>
    intro s t tx stop ack ty
    simp only [exec, execLineFrameTransmitEnd, tx]
    rw [if_neg (Nat.not_lt.2 stop), if_neg (by rw [ack]; simp), if_neg fun e => ty (beq_iff_eq.1 e)]
    simp only [ack, Bool.not_true, Bool.and_false, List.find?_eq_none.2 fun _ _ => Bool.false_ne_true]
  case mediumAccess =>
    intro s sp rs ok o t lineIdle mayContend lineReports sendable prio
    have quiet (k : Nat) (pos : 0 < k) (few : k ≤ 8) :
        ¬ s.idleFor sp rs + txLead < (20 + 40 * o.f.prio + 5 * (t.draw k).1) * ticksPerMs := by
      have below := t.draw_lt pos
      have waited : (20 + 40 * o.f.prio + 5 * (t.draw k).1) * ticksPerMs ≤ (55 + 40 * o.f.prio) * ticksPerMs :=
        Nat.mul_le_mul_right _ (by omega)
      omega
    simp only [exec, execMediumAccess]
    rw [if_neg (by rw [lineIdle, mayContend]; decide), lineReports]
    simp only [sendable]
    exact if_neg (quiet _ (by split <;> decide) (by split <;> decide))
  case ackTransmit =>
    intro s ok due o rest acks now tx
    simp only [exec, execAckTransmit, acks]
    rw [if_neg (by simp [tx]; omega)]
  case tAckExpiry =>
    intro s o tAck awaiting sends upward
    simp only [exec, execTAckExpiry]
    rw [if_neg (by rw [tAck]; decide)]
    simp only [State.expire_line, awaiting]
    rw [if_pos (by rw [State.pf_of_cfg (State.setLine_cfg ..), State.expire_pf]; exact sends)]
    simp only [upward, Bool.false_and, Bool.false_eq_true, if_false]
  case tAckExpiry_second =>
    intro s o tAck awaiting pf expire
    have noFlight (p : Flight → Bool) :
        (((s.expire .tAck 0).setLine fun l => { l with awaiting := none }).setErr .line 6).flights.find? (fun k => k.opcode == 0xA0 && p k) = none :=
      List.find?_eq_none.2 fun k hk e => expire k hk (beq_iff_eq.1 (Bool.and_eq_true_iff.1 e).1)
    simp only [exec, execTAckExpiry]
    rw [if_neg (by rw [tAck]; decide)]
    simp only [State.expire_line, awaiting]
    rw [if_neg (by rw [State.pf_of_cfg (State.setLine_cfg ..), State.expire_pf]; exact Nat.not_le.2 pf)]
    simp only [Bool.and_assoc]
    rw [noFlight]
  case beaconPeriod =>
    intro s ok tx test st beaconAt
    simp [exec, execBeaconPeriod, tx, test, st, beaconAt]
  case beaconPeriod_second =>
    intro s ok b tx test st beaconAt pf
    simp only [exec, execBeaconPeriod]
    rw [if_neg (by simp [tx, test, st, beaconAt]; omega), if_neg (by simp [st])]
  case memberSlot =>
    intro s ok i b lineIndex beaconAt st lineIdle slot slot2 soundReq
    simp only [exec, execMemberSlot, lineIndex, beaconAt]
    rw [if_neg (by rw [st, lineIdle, decide_eq_false (Nat.not_lt.2 slot), decide_eq_false (Nat.not_le.2 slot2)]; decide), if_pos (beq_iff_eq.2 soundReq)]
  case tBeaconExpiry =>
    intro s tBeacon st
    simp only [exec, execTBeaconExpiry]
    rw [if_neg (by rw [tBeacon]; decide), State.expire_line, if_pos (beq_iff_eq.2 st)]
  case coordinatorTakeover =>
    intro s i b lineIndex beaconAt st pf hyp bp
    simp only [exec, execCoordinatorTakeover, lineIndex, beaconAt]
    rw [if_neg (by rw [st, beq_false_of_ne pf, beq_false_of_ne hyp, decide_eq_false (Nat.not_lt.2 bp)]; decide)]
  case tAdvExpiry =>
    intro s lineRole st pf
    have due : s.advDue = true := by simp only [State.advDue, lineRole, decide_eq_true pf]; simpa using st
    simp only [exec, execTAdvExpiry]
    rw [if_neg (by rw [due]; decide)]
  case lineSoundWindowEnd =>
    intro s a n f sounding opcode ticksPerMs
    have due : s.soundDue = true := by simp only [State.soundDue, sounding, decide_eq_true ticksPerMs]
    simp only [exec, execLineSoundWindowEnd]
    rw [if_neg (by rw [due]; decide)]
    simp only [sounding, opcode]
  case lineTestEnd =>
    intro s noise t f test until_ kind opcode
    simp only [exec, execLineTestEnd, test]
    rw [if_neg (Nat.not_lt.2 until_)]
    simp only [kind, State.setLine_flights, opcode, beq_self_eq_true, if_true, Nat.lt_irrefl, if_false]
  case lineTestEnd_second =>
    intro s noise t f test until_ kind opcode
    have driven : (t.kind == 2) = false := beq_false_of_ne (by omega)
    simp only [exec, execLineTestEnd, test]
    rw [if_neg (Nat.not_lt.2 until_)]
    simp only [kind, State.setLine_flights, opcode, driven, Bool.false_eq_true, if_true, if_false]

end Sys2Proof.Machine
end

/-! Commands of the site line (R415) -/

section
namespace Sys2Proof.Machine

open Sys2Proof Sys2Proof.Claims

/-- A frame that a medium carries is short enough for a request. -/
theorem frame_fits {len : Nat} {band : Bool} (fits : len ≤ if band then 1024 else 256) : len ≤ 16777216 := by
  split at fits <;> omega

theorem taken_lineRole (s : State) (n : Fin 16) (d : Desc) : (taken s n d).lineRole = s.lineRole := taken_pf ..

/-- Settles O24. -/
theorem lineCommandsComplete : Obligations.LineCommandsComplete := by
  refine ⟨?lineSend, ?lineSend_second, ?lineSound, ?lineTest, ?lineNeighRead⟩
  case lineSend =>
    intro s d ready plain scope len lineEn unit dbyte hyp hyp2 lineRole
    have all : d.unit.toNat = 0xFFFF := by rw [unit]; rfl
    refine congrArg Host.Outcome.next ((State.accept_taken ready (refusal_eq_none_of_single plain scope (beq_iff_eq.2 scope) (frame_fits len)
      (decide_eq_true len) (by rw [lineEn, unit, decide_eq_true dbyte, bne_iff_ne.2 hyp2]; rfl))).trans ?_)
    rw [if_neg (by rw [hyp]; decide), if_neg (by rw [lineRole]; simp), if_pos (by rw [unit]; rfl)]
    simp only [hyp, all, bne_self_eq_false, Bool.and_false]
  case lineSend_second =>
    intro s d n up ready plain scope len lineEn unit dbyte hyp lineIndex lineRole unit2
    have listed : (taken s 10 d).lineIndex.isSome = true := Option.isSome_iff_ne_none.2 lineIndex
    have one : (d.unit.toNat == 0xFFFF) = false := beq_false_of_ne (by omega)
    refine congrArg Host.Outcome.next ((State.accept_taken ready (refusal_eq_none_of_single plain scope (beq_iff_eq.2 scope) (frame_fits len)
      (decide_eq_true len) (by rw [lineEn, decide_eq_true (Or.inl unit), decide_eq_true dbyte, hyp]; simp))).trans ?_)
    rw [if_neg (by rw [hyp]; decide), if_neg (by rw [listed]; simp), if_neg (by rw [one]; decide), if_neg (by simp [lineRole])]
    simp only [hyp, unit2, bne, one, Bool.not_false, Bool.and_true]
  case lineSound =>
    intro s d ready plain scope len lineEn unit flights
    have first : (taken s 0 d).flights.any (·.opcode == 0xA1) = false := List.any_eq_false.2 fun f hf e => flights f hf (beq_iff_eq.1 e)
    refine congrArg Host.Outcome.next ((State.acceptSingle_taken ready plain scope len (by decide) (by rw [lineEn, unit]; rfl)).trans ?_)
    rw [if_neg (by rw [first]; decide)]
  case lineTest =>
    intro s d ready plain scope flag len lineEn unit dbyte dparam hyp st test
    have shown : d.len.toNat = if Machine.dbyte d 24 == 2 then 36 else 0 := by simpa using len
    have tuned : (Machine.dbyte d 24 != 0 || decide (Machine.dbyte d 25 ≤ 45)) = true := by simpa using dbyte
    refine congrArg Host.Outcome.next ((State.acceptSingle_taken ready plain scope shown (by split <;> decide)
      (by rw [lineEn, unit, decide_eq_true flag, tuned, decide_eq_true (And.intro dparam hyp), bne_iff_ne.2 st]; rfl)).trans ?_)
    rw [if_neg (by rw [test]; decide)]
  case lineNeighRead =>
    intro s d ready plain scope len lineEn unit
    exact congrArg Host.Outcome.next (State.acceptSingle_taken ready plain scope len (by decide) (by rw [lineEn, unit]; rfl))

end Sys2Proof.Machine
end

/-! Events of keys and trust (R382, R419 to R434) -/

section
namespace Sys2Proof.Machine

open Sys2Proof Sys2Proof.Claims

/-- Settles O25. -/
theorem keyEventsComplete : Obligations.KeyEventsComplete := by
  refine ⟨?tamperTrigger, ?tamperTrigger_second, ?tamperTrigger_third, ?rootGenerationComplete, ?rngHealthFail, ?rngRecover, ?keyCopyWritten,
    ?keyCopyWritten_second, ?keySwitch, ?keySwitch_second⟩
  case tamperTrigger =>
    intro s x tampered tamperCause htcLoaded
    simp [exec, execTamperTrigger, tampered, tamperCause, htcLoaded]
  case tamperTrigger_second =>
    intro s x tampered tamperCause htcLoaded
    simp [exec, execTamperTrigger, tampered, tamperCause, htcLoaded]
  case tamperTrigger_third =>
    intro s x tampered htcLoaded
    simp [exec, execTamperTrigger, tampered, htcLoaded]
  case rootGenerationComplete =>
    intro s v t generating rngOk draw epoch
    have drawn : t.fuses = s.fuses := (congrArg (fun e => e.2.fuses) draw).symm
    have room : ¬ t.fuses.epoch + 1 ≥ 60 := by rw [drawn]; omega
    simp only [exec, execRootGenerationComplete]
    rw [if_neg (by rw [generating, rngOk]; decide), draw]
    exact congrArg Host.Outcome.next (if_neg room)
  case rngHealthFail =>
    intro s
    simp [exec, execRngHealthFail]
  case rngRecover =>
    intro s n hyp
    simp [exec, execRngRecover, hyp]
  case keyCopyWritten =>
    intro s m pendingMsg copyDone frozen switchAt
    simp only [exec, execKeyCopyWritten, pendingMsg]
    rw [if_neg (by rw [copyDone, frozen, decide_eq_false (Nat.not_le.2 switchAt)]; decide), if_pos (by decide)]
  case keyCopyWritten_second =>
    intro s m pendingMsg copyDone frozen switchAt
    simp only [exec, execKeyCopyWritten, pendingMsg]
    rw [if_neg (by rw [copyDone, frozen, decide_eq_false (Nat.not_le.2 switchAt)]; decide), if_neg (by decide)]
  case keySwitch =>
    intro s m pendingMsg switchAt frozenAt copyDone
    simp only [exec, execKeySwitch, pendingMsg]
    rw [if_neg (by rw [frozenAt, decide_eq_false (Nat.not_lt.2 switchAt)]; decide), if_neg (by rw [copyDone]; decide)]
    simp only [State.note_fuses, State.note_island, State.note_keys, State.setKeys]
  case keySwitch_second =>
    intro s m pendingMsg switchAt frozenAt copyDone
    simp only [exec, execKeySwitch, pendingMsg]
    rw [if_neg (by rw [frozenAt, decide_eq_false (Nat.not_lt.2 switchAt)]; decide), if_pos (by rw [copyDone]; rfl)]

end Sys2Proof.Machine
end

/-! Commands of keys and trust (R430 to R434) -/

section
namespace Sys2Proof.Machine

open Sys2Proof Sys2Proof.Claims

theorem taken_attestKey (s : State) (n : Fin 16) (d : Desc) (id : Nat) : (taken s n d).attestKey id = s.attestKey id := by
  obtain ⟨_, _, e⟩ := taken_eq s n d
  rw [e]
  rfl

/-- Settles O26. -/
theorem keyCommandsComplete : Obligations.KeyCommandsComplete := by
  refine ⟨?keyOwnerEnrol, ?keyUpdate, ?keyAttest⟩
  case keyOwnerEnrol =>
    intro s d ready plain scope len unit ownerProg debug rootStat
    refine congrArg Host.Outcome.next ((State.acceptSingle_taken ready plain scope len (by decide) (beq_iff_eq.2 unit)).trans ?_)
    rw [if_neg (by rw [ownerProg]; decide), if_neg (by rw [debug]; decide), if_neg (by rw [rootStat]; decide), if_neg (by rw [rootStat]; decide),
      taken_fuses]
  case keyUpdate =>
    intro s d m slot t w owner ready plain scope unit hyp payload hyp2 hyp3 len rootStat pendingMsg debug take payload2 hyp4 getD revoked payload3
        payload4 keyTally take2 generated
    subst payload take payload2
    have long : ¬ (!(decide (1 ≤ field d.payload 7 1) && decide (field d.payload 7 1 ≤ 16)) || d.len.toNat != 462 + 96 * field d.payload 7 1) = true := by
      simp [hyp2, hyp3, len]
    have installed : (if h : field d.payload 6 1 < 4 then t.fuses.owners[field d.payload 6 1] ==
        some (Config.sha384 ((d.payload.drop (197 + 96 * field d.payload 7 1)).take 133)) && !t.fuses.revoked.getLsbD (field d.payload 6 1) else
            false) = true := by
      rw [dif_pos hyp4, revoked]
      simpa [hyp4] using getD
    refine congrArg Host.Outcome.next ((State.accept_taken ready (refusal_eq_none_of_single plain scope (beq_iff_eq.2 scope) (by omega) rfl
      (beq_iff_eq.2 unit))).trans ?_)
    rw [← hyp, if_neg long, if_neg (by rw [rootStat, pendingMsg]; decide), if_neg (by rw [rootStat]; decide), if_neg (by rw [installed]; decide)]
    cases Config.ecdsaVerify ((d.payload.drop (197 + 96 * field d.payload 7 1)).take 133) (d.payload.take (197 + 96 * field d.payload 7 1 + 133))
      ((d.payload.drop (197 + 96 * field d.payload 7 1 + 133)).take 132)
    case false => rfl
    case true =>
      rw [if_neg (by decide), if_neg (by rw [payload3, bne_self_eq_false]; decide), if_neg (by rw [payload4, bne_self_eq_false]; decide), debug,
        if_neg (by rw [if_neg Bool.false_ne_true]; exact Nat.not_le.2 keyTally)]
      simp only [take2, generated, List.isEmpty_nil, Bool.not_true, Bool.and_false, Bool.false_eq_true, if_false, drawKeys, debug]
      rfl
  case keyAttest =>
    intro s d v o ready plain scope len rootStat unit
    refine congrArg Host.Outcome.next ((State.acceptSingle_taken ready plain scope len (by decide) (by rw [← taken_attestKey s 0 d, unit]; rfl)).trans ?_)
    rw [if_neg (by rw [rootStat]; decide), if_neg (by rw [rootStat]; decide)]
    simp only [unit]

end Sys2Proof.Machine
end

/-! Events of the management core and of updates (R440 to R465) -/

section
namespace Sys2Proof.Machine

open Sys2Proof Sys2Proof.Claims

/-- An error bit and its reaction leave the version that runs. -/
theorem State.setErr_verRun (s : State) (r : ErrReg) (b : Nat) : (s.setErr r b).mgt.verRun = s.mgt.verRun :=
  (congrArg (fun u => u.mgt.verRun) (s.setErr_kept r b) :)

/-- Settles O27. -/
theorem managementEventsComplete : Obligations.ManagementEventsComplete := by
  refine ⟨?mcWatchdogExpiry, ?shedLevelChange, ?shedLevelChange_second, ?sensorSample, ?bundleVerified, ?bundleVerified_second,
    ?scheduledTimeReached, ?updateActivation, ?scheduleWindowExpiry, ?confirmationRequest, ?tConfirmExpiry, ?trialEndReset, ?profileCopyComplete⟩
  case mcWatchdogExpiry =>
    intro s t mcRun setMgt
    simp [exec, execMcWatchdogExpiry, mcRun, setMgt]
  case shedLevelChange =>
    intro s f shed shed2
    have below : (shedLevel s.mgt.shed (min f 1024) == 4) = false := beq_false_of_ne (by omega)
    have before_ : ¬ 3 ≤ s.mgt.shed := by omega
    have held : (s.mgt.shed == 4) = false := beq_false_of_ne (by omega)
    simp only [exec, execShedLevelChange, below, held, decide_eq_false before_, Bool.false_and, Bool.false_eq_true, if_false]
  case shedLevelChange_second =>
    intro s f shed shed2
    simp [exec, execShedLevelChange, shed, shed2]
  case sensorSample =>
    intro s vs me hz now htcLoaded hyp
    simp [exec, execSensorSample, now, htcLoaded, hyp]
    rfl
  case bundleVerified =>
    intro s x v download last stage bytes hyp antiRollback
    have fits : (BitVec.ofNat 32 (field x.bytes 8 4)).toNat = v := by rw [← bytes, BitVec.toNat_ofNat, Nat.mod_eq_of_lt hyp]
    have current : decide ((BitVec.ofNat 32 (field x.bytes 8 4)).toNat < s.island.antiRollback) = false := decide_eq_false (by omega)
    simp only [exec, execBundleVerified, download, last, stage, current]
    cases bundleValid x.bytes <;> rfl
  case bundleVerified_second =>
    intro s x download last stage shed bytes antiRollback
    have current : decide ((BitVec.ofNat 32 (field x.bytes 8 4)).toNat < s.island.antiRollback) = false := decide_eq_false (Nat.not_lt.2 antiRollback)
    simp only [exec, execBundleVerified, download, last, stage, current, bytes, beq_self_eq_true]
    rw [if_neg (by decide), if_neg (by decide), if_neg (Nat.not_le.2 shed)]
    cases bundleValid x.bytes <;> rfl
  case scheduledTimeReached =>
    intro s k sched htcForm time paired state reachedAt
    simp [exec, execScheduledTimeReached, sched, htcForm, time, paired, state, reachedAt]
  case updateActivation =>
    intro s k r sched state reachedAt window quiescent frozenAt commit
    have idle : s.commit.any (fun x => x.kind != 1) = false := Bool.eq_false_iff.2 fun e => by
      obtain ⟨x, running, legal⟩ := (Option.any_eq_true _ _).1 e
      exact bne_iff_ne.1 legal (commit x running)
    simp only [exec, execUpdateActivation, sched, reachedAt]
    rw [if_neg (by rw [state, decide_eq_false (Nat.not_lt.2 window), quiescent, frozenAt, idle]; decide)]
  case scheduleWindowExpiry =>
    intro s k r sched reachedAt state window
    have due : s.windowDue = true := by simp only [State.windowDue, sched, reachedAt, state, decide_eq_true window]; rfl
    simp only [exec, execScheduleWindowExpiry]
    rw [if_neg (by rw [due]; decide)]
  case confirmationRequest =>
    intro s trial armed ready scRun anyResetSource frozen
    simp [exec, execConfirmationRequest, trial, armed, ready, scRun, anyResetSource, frozen]
  case tConfirmExpiry =>
    intro s t tConfirm setBoot
    subst setBoot
    simp only [exec, execTConfirmExpiry]
    rw [if_neg (by rw [tConfirm]; decide), State.setErr_verRun]
  case trialEndReset =>
    intro s trialEnded quiescent chipResetDue
    simp [exec, execTrialEndReset, trialEnded, quiescent, chipResetDue]
  case profileCopyComplete =>
    intro s copyDue
    simp [exec, execProfileCopyComplete, copyDue]

end Sys2Proof.Machine
end

/-! Commands of the management core (R89, R454, R456, R460) -/

section
namespace Sys2Proof.Machine

open Sys2Proof Sys2Proof.Claims

/-- Settles O28. -/
theorem managementCommandsComplete : Obligations.ManagementCommandsComplete := by
  refine ⟨?mgtBundle, ?mgtBundle_second, ?mgtUpdSchedule, ?mgtUpdCancel, ?mgtLogRead, ?mgtLogAck, ?mgtProfWrite⟩
  case mgtBundle =>
    intro s d ready plain scope len unit hasBit dbyte phase download dparam
    refine congrArg Host.Outcome.next ((State.accept_taken ready (refusal_eq_none_of_single plain scope (beq_iff_eq.2 scope) len rfl
      (beq_iff_eq.2 unit))).trans ?_)
    simp only [hasBit, dbyte, phase, download, dparam]
    rfl
  case mgtBundle_second =>
    intro s d ready plain scope len unit hasBit dbyte phase download dparam
    refine congrArg Host.Outcome.next ((State.accept_taken ready (refusal_eq_none_of_single plain scope (beq_iff_eq.2 scope) len rfl
      (beq_iff_eq.2 unit))).trans ?_)
    simp only [hasBit, dbyte, phase, download, dparam]
    rfl
  case mgtUpdSchedule =>
    intro s d ok t ready plain scope len unit take shed take2
    refine congrArg (fun t => Host.Outcome.next (State.finish s t)) ((State.accept_taken ready (refusal_eq_none_of_single plain scope
      (beq_iff_eq.2 scope) (by omega) (beq_iff_eq.2 len) (by rw [unit, take]; rfl))).trans ?_)
    rw [if_neg (Nat.not_le.2 shed), take2]
  case mgtUpdCancel =>
    intro s d ready plain scope len unit state
    refine congrArg (fun t => Host.Outcome.next (State.finish s t)) ((State.acceptSingle_taken ready plain scope len (by decide) (beq_iff_eq.2
        unit)).trans ?_)
    rw [if_neg (by rw [state]; decide)]
  case mgtLogRead =>
    intro s d es ready plain scope len unit param0 param02 param03
    subst param03
    refine congrArg Host.Outcome.next ((State.acceptSingle_taken ready plain scope len (by decide)
      (by rw [unit, decide_eq_true (And.intro param0 param02)]; rfl)).trans ?_)
    rw [taken_nv]
  case mgtLogAck =>
    intro s d t ready plain scope len unit authRole ack payload
    refine congrArg Host.Outcome.next ((State.accept_taken ready (refusal_eq_none_of_single plain scope (beq_iff_eq.2 scope) (by omega)
      (beq_iff_eq.2 len) (beq_iff_eq.2 unit))).trans ?_)
    rw [authRole]
    refine (if_neg (by decide)).trans (if_neg ?_)
    rw [decide_eq_false (Nat.not_lt.2 ack), Bool.false_or]
    exact fun e => Nat.not_lt.2 payload (of_decide_eq_true e)
  case mgtProfWrite =>
    intro s d n ready plain scope len len2 unit updating download
    refine congrArg Host.Outcome.next ((State.accept_taken ready (refusal_eq_none_of_single plain scope (beq_iff_eq.2 scope) (by omega)
      (decide_eq_true ⟨len, len2⟩) (decide_eq_true (by omega)))).trans ?_)
    simp only [updating, download, unit, Bool.or_self, Bool.false_eq_true, if_false, Fin.is_lt, dif_pos]

end Sys2Proof.Machine
end

/-! Events of the display ports (R474 to R486) -/

section
namespace Sys2Proof.Machine

open Sys2Proof Sys2Proof.Claims

theorem State.setEpd_port (s : State) (p : Fin 4) (f : EpdPort → EpdPort) : (s.setEpd p f).epd[p] = f s.epd[p] :=
  Vector.getElem_set_self p.isLt

theorem State.setEpd_congr {s : State} {p : Fin 4} {f g : EpdPort → EpdPort} (same : f s.epd[p] = g s.epd[p]) : s.setEpd p f = s.setEpd p g := by
  rw [State.setEpd, same, State.setEpd]

/-- Settles O29. -/
theorem displayEventsComplete : Obligations.DisplayEventsComplete := by
  refine ⟨?epdTemperatureRead, ?epdTemperatureRead_second, ?epdStatusTempRead, ?epdStatusTempRead_second, ?epdPwrgoodRise,
    ?epdPwrgoodRise_second, ?epdTPgExpiry, ?epdPwrgoodFall, ?epdPwrgoodFall_second, ?epdFrame, ?epdFrame_second, ?epdTIdleExpiry, ?epdPmicOff,
    ?epdClearRetry, ?epdUartRxFlush, ?epdUartRxFlush_second⟩
  case epdTemperatureRead =>
    intro s p temp r n t run_ stage setEpd epdPf epdPf2 lines hyp
    have reading : t.epd[p].temp = some (epdReading temp, s.now) := by rw [setEpd, State.setEpd_port]
    have within : (decide (epdReading temp < signedByte (t.epdPf p 0x0C 0 8)) || decide (signedByte (t.epdPf p 0x0C 8 8) < epdReading temp)) = false := by
      rw [decide_eq_false (Int.not_lt.2 epdPf), decide_eq_false (Int.not_lt.2 epdPf2)]
      rfl
    subst setEpd
    simp only [exec, execEpdTemperatureRead, run_]
    rw [if_neg (by rw [stage]; decide)]
    simp only [if_true, reading, State.setEpd_now]
    rw [if_neg (Nat.not_lt.2 (Nat.le_add_right ..)), if_neg (by rw [within]; decide)]
    obtain ⟨m, rfl⟩ := Nat.exists_eq_succ_of_ne_zero hyp
    simp only [lines] <;> rfl
  case epdTemperatureRead_second =>
    intro s p temp r run_ stage temp2
    simp_all [exec, execEpdTemperatureRead]
  case epdStatusTempRead =>
    intro s p temp pmicEn
    simp only [exec, execEpdStatusTempRead, pmicEn]
    rfl
  case epdStatusTempRead_second =>
    intro s p temp pmicEn
    simp only [exec, execEpdStatusTempRead, pmicEn]
    rfl
  case epdPwrgoodRise =>
    intro s p stage pgExpiry
    exact congrArg Host.Outcome.next (State.setEpd_congr (if_pos (by rw [stage, decide_eq_true pgExpiry]; rfl)))
  case epdPwrgoodRise_second =>
    intro s p stage
    have late : ¬ (s.epd[p].stage == EpdStage.powering && decide (s.now ≤ s.pgExpiry p)) = true := by
      obtain other | past := stage
      · simp [-Fin.getElem_fin, other]
      · simp [past]
    exact congrArg Host.Outcome.next (State.setEpd_congr (if_neg late))
  case epdTPgExpiry =>
    intro s p r run_ stage pgExpiry
    have due : s.pgDue p = true := by simp only [State.pgDue, stage, run_, decide_eq_true pgExpiry]; rfl
    simp only [exec, execEpdTPgExpiry, run_]
    rw [if_neg (by rw [due]; decide)]
  case epdPwrgoodFall =>
    intro s p vcomEn
    simp only [exec, execEpdPwrgoodFall, vcomEn]
    rfl
  case epdPwrgoodFall_second =>
    intro s p vcomEn
    simp only [exec, execEpdPwrgoodFall, vcomEn]
    rfl
  case epdFrame =>
    intro s p r run_ stage epdFrameEnd frame
    have drives : (s.epd[p].stage == EpdStage.ready || s.epd[p].stage == EpdStage.driving) = true := by simpa using stage
    simp only [exec, execEpdFrame, run_]
    rw [if_neg (by rw [drives, decide_eq_false (Nat.not_lt.2 epdFrameEnd)]; decide), if_pos frame]
  case epdFrame_second =>
    intro s p r run_ stage epdFrameEnd frames
    have drives : (s.epd[p].stage == EpdStage.ready || s.epd[p].stage == EpdStage.driving) = true := by simpa using stage
    simp only [exec, execEpdFrame, run_]
    rw [if_neg (by rw [drives, decide_eq_false (Nat.not_lt.2 epdFrameEnd)]; decide), if_neg (Nat.not_lt.2 frames)]
  case epdTIdleExpiry =>
    intro s p stage epdPf
    have due : s.idleDue p = true := by rw [State.idleDue, stage, decide_eq_true epdPf]; rfl
    simp only [exec, execEpdTIdleExpiry]
    rw [if_neg (by rw [due]; decide)]
  case epdPmicOff =>
    intro s p stage since
    simp only [exec, execEpdPmicOff]
    rw [if_neg (by rw [stage, decide_eq_false (Nat.not_lt.2 since)]; decide)]
  case epdClearRetry =>
    intro s p r refusedAt ticksPerS
    have due : s.retryDue p = true := by simp only [State.retryDue, refusedAt, decide_eq_true ticksPerS]
    simp only [exec, execEpdClearRetry]
    rw [if_neg (by rw [due]; decide)]
  case epdUartRxFlush =>
    intro s p b us rx
    have fits : (s.epd[p].rx ++ b).length ≤ 256 := by rw [List.length_append]; exact rx
    simp only [exec, execEpdUartRxFlush]
    rw [if_neg (Nat.not_lt.2 fits), List.take_of_length_le fits]
  case epdUartRxFlush_second =>
    intro s p b us rx
    simp_all [exec, execEpdUartRxFlush]

end Sys2Proof.Machine
end

/-! Commands of the display ports (R473 to R488) -/

section
namespace Sys2Proof.Machine

open Sys2Proof Sys2Proof.Claims

theorem portOf_fin {d : Desc} {p : Fin 4} (unit : d.unit.toNat = p.val) : portOf d = p := by
  rw [portOf, dif_pos (by rw [unit]; exact p.isLt)]
  exact Fin.ext unit

theorem State.onPort_fin {s : State} {ring opcode : Nat} {d : Desc} {p : Fin 4} {act : Fin 4 → State → State} (unit : d.unit.toNat = p.val)
    (en : s.epdEn p = true) : s.onPort ring opcode d act = act p s := by
  have port : (⟨d.unit.toNat, unit ▸ p.isLt⟩ : Fin 4) = p := Fin.ext unit
  rw [State.onPort, dif_pos (unit ▸ p.isLt), port, if_pos en]

theorem taken_epdEn (s : State) (n : Fin 16) (d : Desc) (p : Fin 4) : (taken s n d).epdEn p = s.epdEn p := by
  obtain ⟨_, _, e⟩ := taken_eq s n d
  rw [e]
  rfl

theorem unit_lt_four {d : Desc} {p : Fin 4} (unit : d.unit.toNat = p.val) : decide (d.unit.toNat < 4) = true :=
  decide_eq_true (unit ▸ p.isLt)

/-- Settles O30. -/
theorem displayCommandsComplete : Obligations.DisplayCommandsComplete := by
  refine ⟨?epdUpdate, ?epdUpdate_second, ?epdWaveLoad, ?epdUnifLoad, ?epdFl, ?epdUartSend⟩
  case epdUpdate =>
    intro s d p ready plain scope unit epdEn flag param0 param02 len len2
    have image : (dbyte d 24 == 2) = false := beq_false_of_ne (by omega)
    have rows : decide (d.param0.toNat % 65536 ≤ d.param0.toNat / 65536 ∧ d.param0.toNat / 65536 < s.epdHeight p) = true := decide_eq_true ⟨param0, param02⟩
    refine congrArg Host.Outcome.next ((State.accept_taken ready (refusal_eq_none_of_single plain scope (beq_iff_eq.2 scope) len2
      (by rw [portOf_fin unit, rows, image, if_neg Bool.false_ne_true, beq_iff_eq.2 len]; simp)
      (by rw [portOf_fin unit, rows, image, unit_lt_four unit, decide_eq_true (show dbyte d 24 ≤ 2 by omega)]; simp))).trans ?_)
    rw [State.onPort_fin unit ((taken_epdEn ..).trans epdEn)]
    simp only [image, Bool.false_eq_true, if_false]
    rfl
  case epdUpdate_second =>
    intro s d p ready plain scope unit epdEn flag len
    have clear : (dbyte d 24 == 2) = true := beq_iff_eq.2 flag
    refine congrArg Host.Outcome.next ((State.accept_taken ready (refusal_eq_none_of_single plain scope (beq_iff_eq.2 scope) (toNat_len_of_zero len)
      (by rw [clear, len]; simp) (by rw [clear, unit_lt_four unit, flag]; simp))).trans ?_)
    rw [State.onPort_fin unit ((taken_epdEn ..).trans epdEn)]
    rw [flag]
    rfl
  case epdWaveLoad =>
    intro s d p ready plain scope len unit epdEn flag dbyte epdBusy
    refine congrArg Host.Outcome.next ((State.accept_taken ready (refusal_eq_none_of_single plain scope (beq_iff_eq.2 scope) (by omega) (beq_iff_eq.2 len)
      (by rw [unit_lt_four unit, decide_eq_true flag, decide_eq_true dbyte]; rfl))).trans ?_)
    rw [State.onPort_fin unit ((taken_epdEn ..).trans epdEn), if_neg (by rw [epdBusy]; decide)]
  case epdUnifLoad =>
    intro s d p ready plain scope unit epdEn len len2 epdBusy
    refine congrArg Host.Outcome.next ((State.accept_taken ready (refusal_eq_none_of_single plain scope (beq_iff_eq.2 scope) len2
      (by rw [portOf_fin unit, beq_iff_eq.2 len, Bool.or_true]) (unit_lt_four unit))).trans ?_)
    rw [State.onPort_fin unit ((taken_epdEn ..).trans epdEn), if_neg (by rw [epdBusy]; decide)]
  case epdFl =>
    intro s d p ready plain scope len unit epdEn dparam
    refine congrArg Host.Outcome.next ((State.acceptSingle_taken ready plain scope len (by decide)
      (by rw [unit_lt_four unit, decide_eq_true dparam]; rfl)).trans ?_)
    rw [State.onPort_fin unit ((taken_epdEn ..).trans epdEn)]
  case epdUartSend =>
    intro s d p ready plain scope len len2 unit epdEn
    refine congrArg Host.Outcome.next ((State.accept_taken ready (refusal_eq_none_of_single plain scope (beq_iff_eq.2 scope) (by omega)
      (decide_eq_true ⟨len, len2⟩) (unit_lt_four unit))).trans ?_)
    rw [State.onPort_fin unit ((taken_epdEn ..).trans epdEn)]

end Sys2Proof.Machine
end

/-! Events of redundant pairs (R492 to R508) -/

section
namespace Sys2Proof.Machine

open Sys2Proof Sys2Proof.Claims

theorem State.goodFrame_cfg (s : State) : s.goodFrame.cfg = s.cfg := by
  simp only [State.goodFrame]
  split <;> simp

/-- Settles O31. -/
theorem pairEventsComplete : Obligations.PairEventsComplete := by
  refine ⟨?pairProbe, ?pairProbe_second, ?pairHoldLineChange, ?tFreeExpiry, ?tSwitchExpiry, ?healthSend, ?healthReceived, ?journalFrameReceived,
    ?jackReceived, ?journalResend, ?bulkReceived, ?pairScheduleReceived, ?takebackReceived, ?takebackReceived_second, ?releasedReceived,
    ?tLinkExpiry, ?tSettleExpiry, ?takebackResend, ?pairRelease, ?tTbwinExpiry, ?tTbwinExpiry_second, ?reclaimTimeout⟩
  case pairProbe =>
    intro s drive probeWin now now2
    simp only [exec, execPairProbe]
    rw [if_neg (by simp [drive, probeWin, now, now2]), if_neg Bool.false_ne_true]
    rfl
  case pairProbe_second =>
    intro s t drive probeWin now now2 holdFall pri
    simp only [exec, execPairProbe]
    rw [if_neg (by rw [drive, beq_false_of_ne probeWin, now, decide_eq_false (Nat.not_le.2 now2)]; decide), if_pos trivial, holdFall,
      if_pos (by rw [pri]; rfl)]
  case pairHoldLineChange =>
    intro s low
    simp [exec, execPairHoldLineChange]
  case tFreeExpiry =>
    intro s mayClaim
    simp [exec, execTFreeExpiry, mayClaim]
    rfl
  case tSwitchExpiry =>
    intro s tSwitch hold
    simp only [exec, execTSwitchExpiry]
    rw [if_neg (by rw [tSwitch]; decide), if_neg (by rw [State.expire_pair, hold]; decide)]
  case healthSend =>
    intro s pairLinkOn now
    simp [exec, execHealthSend, pairLinkOn, now]
  case healthReceived =>
    intro s b pairLinkOn hyp linkUp pf hubId
    have kept (t : State) (same : t.cfg = s.cfg) : (decide ((field b 9 1 != t.pf 0xF000 0 2) = true) || decide ((field b 10 3 != t.hubId) = true))
        = false := by
      rw [State.hubId, State.pf_of_cfg same, State.pf_of_cfg same, ← pf, ← State.hubId, ← hubId]
      simp
    simp only [exec, execHealthReceived]
    rw [if_neg (by rw [pairLinkOn, hyp]; decide)]
    simp only [linkUp, if_true]
    rw [kept _ (by rw [State.note_cfg, State.goodFrame_cfg]; rfl)]
    rfl
  case journalFrameReceived =>
    intro s bs b t jblockOfBytes pairLinkOn frozen ready note seq
    have joins : ¬ t.pair.joined + 1 < b.seq := Nat.not_lt.2 seq
    simp only [exec, execJournalFrameReceived, jblockOfBytes]
    rw [if_neg (by rw [pairLinkOn, frozen, ready]; decide), ← note, decide_eq_false joins]
    rfl
  case jackReceived =>
    intro s b pairLinkOn hyp
    simp [exec, execJackReceived, pairLinkOn, hyp]
  case journalResend =>
    intro s b bs pairLinkOn hold linkUp now acked acked2 seq
    have kept : ¬ s.pair.acked + 1 < b.seq := Nat.not_lt.2 seq
    simp only [exec, execJournalResend]
    rw [if_neg (by rw [pairLinkOn, hold, linkUp, now, decide_eq_false (Nat.not_le.2 acked)]; decide), acked2]
    simp only [decide_eq_false kept, Bool.false_and, Bool.false_eq_true, if_false]
  case bulkReceived =>
    intro s b pairLinkOn hyp frozen ready hold field
    simp [exec, execBulkReceived, pairLinkOn, hyp, frozen, ready, hold, field]
  case pairScheduleReceived =>
    intro s b pairLinkOn
    simp [exec, execPairScheduleReceived, pairLinkOn]
  case takebackReceived =>
    intro s pairLinkOn hold
    simp [exec, execTakebackReceived, pairLinkOn, hold]
  case takebackReceived_second =>
    intro s pairLinkOn hold
    simp [exec, execTakebackReceived, pairLinkOn, hold]
  case releasedReceived =>
    intro s pairLinkOn
    simp [exec, execReleasedReceived, pairLinkOn]
  case tLinkExpiry =>
    intro s tLink
    simp [exec, execTLinkExpiry, tLink]
  case tSettleExpiry =>
    intro s tSettle
    simp [exec, execTSettleExpiry, tSettle]
  case takebackResend =>
    intro s tbAsked linkUp tbAt
    simp only [exec, execTakebackResend]
    rw [if_neg (by rw [tbAsked, linkUp, decide_eq_false (Nat.not_lt.2 tbAt)]; decide)]
  case pairRelease =>
    intro s pairHold drive quiescent linkUp pHealthy pSync
    simp [exec, execPairRelease, pairHold, drive, quiescent, linkUp, pHealthy, pSync]
  case tTbwinExpiry =>
    intro s t tTbwin pairHold pairResult
    simp [exec, execTTbwinExpiry, tTbwin, pairHold, pairResult]
  case tTbwinExpiry_second =>
    intro s tTbwin pairHold tbAsked
    simp only [exec, execTTbwinExpiry]
    rw [if_neg (by rw [tTbwin]; decide), if_neg (by rw [pairHold]; decide), if_pos (by rw [State.expire_pair, tbAsked])]
  case reclaimTimeout =>
    intro s r releasedAt ticksPerS
    have due : s.reclaimDue = true := by simp only [State.reclaimDue, releasedAt, decide_eq_true ticksPerS]
    simp only [exec, execReclaimTimeout]
    rw [if_neg (by rw [due]; decide)]

end Sys2Proof.Machine
end

/-! Commands of redundant pairs (R505) -/

section
namespace Sys2Proof.Machine

open Sys2Proof Sys2Proof.Claims

/-- Settles O32. -/
theorem pairCommandsComplete : Obligations.PairCommandsComplete := by
  refine ⟨?pairHandover, ?pairHandoverCancel⟩
  case pairHandover =>
    intro s d ready plain scope len unit hold linkUp pHealthy pSync
    refine congrArg (fun t => Host.Outcome.next (State.finish s t)) ((State.acceptSingle_taken ready plain scope len (by decide) (beq_iff_eq.2
        unit)).trans ?_)
    rw [if_neg (by rw [hold, linkUp, pHealthy, pSync]; decide)]
  case pairHandoverCancel =>
    intro s d ready plain scope len unit byHandover
    refine congrArg (fun t => Host.Outcome.next (State.finish s t)) ((State.acceptSingle_taken ready plain scope len (by decide) (beq_iff_eq.2
        unit)).trans ?_)
    rw [if_neg (by rw [byHandover]; decide)]

end Sys2Proof.Machine
end

/-! The counting board and the claim check (R510 to R523) -/

section
namespace Sys2Proof.Machine

open Sys2Proof Sys2Proof.Claims

/-- What the stores hold tells what the DRAM and the shared SRAM hold. -/
theorem State.board_of_stores {s t : State} (same : t.stores = s.stores) : t.arb.dram = s.arb.dram ∧ t.arb.sram = s.arb.sram :=
  ⟨congrArg Stores.dram same, congrArg Stores.sram same⟩

theorem State.bankHogCutoff_stores {s u : State} {t n : Nat} (cut : exec (.bankHogCutoff t n) s = .next u) : u.stores = s.stores := by
  simp only [exec, execBankHogCutoff] at cut
  split at cut
  · split at cut <;> cases cut
    · rfl
    · simp
  · cases cut
    rfl

theorem State.grantWithdraw_stores {s u : State} {t n : Nat} (withdrawn : exec (.grantWithdraw t n) s = .next u) : u.stores = s.stores := by
  simp only [exec, execGrantWithdraw] at withdrawn
  split at withdrawn
  · split at withdrawn <;> cases withdrawn
    · rfl
    · simp
  · cases withdrawn
    rfl

/-- Settles O33. -/
theorem boardComplete : Obligations.BoardComplete := by
  refine ⟨?arbWindowStart, ?arbRequest, ?arbRequest_second, ?arbRequest_third, ?bankHogCutoff, ?grantWithdraw, ?arbClaimCheck, ?board,
    ?bankHogCutoff_second⟩
  case arbWindowStart =>
    intro s n pf
    exact if_neg (Nat.not_lt.2 pf)
  case arbRequest =>
    intro s r t b w ended refusesWrite hyp
    simp [exec, execArbRequest, refusesWrite, hyp]
  case arbRequest_second =>
    intro s r t b w ended refusesWrite hyp
    simp_all [exec, execArbRequest]
  case arbRequest_third =>
    intro s r t b w ended refusesWrite
    simp [exec, execArbRequest, refusesWrite]
  case bankHogCutoff =>
    intro s t n g arbHolder requester requester2
    simp only [exec, execBankHogCutoff, arbHolder]
    rw [if_neg (by rw [requester, decide_eq_false (Nat.not_le.2 requester2)]; decide)]
  case grantWithdraw =>
    intro s t g arbHolder
    simp [exec, execGrantWithdraw, arbHolder]
  case arbClaimCheck =>
    intro s d ready plain scope len unit
    refine congrArg Host.Outcome.next ((State.acceptSingle_taken ready plain scope len (by decide) (decide_eq_true unit)).trans ?_)
    rfl
  case board =>
    intro s t i g w arbHolder write dram data beats
    have carried : i < (w.data.take (64 * g.beats)).length := by rw [List.length_take]; omega
    have stored : (s.arbFinish t).arb.dram = memWrite s.arb.dram w.addr (w.data.take (64 * g.beats)) := by
      simp only [State.arbFinish, arbHolder, write, State.setArb, Arb.store, dram, if_true]
    rw [stored, memRead_memWrite_inside _ _ _ _ carried, List.getElem_take, List.getElem?_eq_getElem data]
  case bankHogCutoff_second =>
    intro s u t n bankHogCutoff
    obtain cut | withdrawn := bankHogCutoff
    · exact State.board_of_stores (State.bankHogCutoff_stores cut)
    · exact State.board_of_stores (State.grantWithdraw_stores withdrawn)

end Sys2Proof.Machine
end
